-- ==== Sys2Proof/Word.lean ====
section
/-! DEFINITION. The device's smallest words: bytes, and the 32-bit words of the bank engines' scalar registers. -/

namespace Sys2Proof

/-- One byte of memory, of a capsule or of a message (R1). -/
abbrev Byte := BitVec 8

/-- A 32-bit word: a scalar register or an accumulator lane of a bank engine (05_bank_engines, *Engine state*). -/
abbrev Word := BitVec 32

end Sys2Proof
end

