-- ==== Sys2Proof/Syntax.lean ====
section
/-! DEFINITION. The commands the device takes: one constructor for each row of the opcode table, with the fields that the rules give the row. -/

namespace Sys2Proof

/-- The fields of a bank engine's instruction that name registers are three bits wide (R171). -/
abbrev RegNo := Fin 8

/-- An ordinary DRAM access (R191): who makes it (SOURCE and SOURCE_ID of *Violation record*), for which realm and capsule, the device
address, its length, and the bytes written, if it writes. -/
structure OrdAccess where
  source : Nat
  sourceId : Nat
  realm : Nat
  capsule : Option Nat
  addr : Nat
  len : Nat
  data : Option (List Byte)
deriving DecidableEq, Repr

/-- The header of a dictionary request as the rules read it (*Dictionary access header*): the path it came by (0 HDAP, 1 BAR mailbox,
2 fabric), the client that sent it (R731; 0 at a mailbox), SESSION (for a mailbox: 64 × port + function, 0 the PF), SEQ, FLAGS (bit 0 LAST,
bit 1 DRAFT view), and the 16-byte tag that ends it (R102). VERSION is read in OPEN alone (R110), and LENGTH is the length of the payload that a
command carries. -/
structure Req where
  path : Nat
  sender : Nat
  number : Nat
  seq : Nat
  flags : Nat
  tag : Nat
deriving DecidableEq, Repr

/-- Who sends an OPEN, by HDAP client or node identifier, and the SEQ of its header (R102, R110). -/
structure Opener where
  sender : Nat
  seq : Nat
deriving DecidableEq, Repr

/-- A flit that fails its CRC (R139): the element of 0x2021 of the mesh link that carried it, and whether the link resent this flit last. -/
structure BadFlit where
  link : Nat
  again : Bool
deriving DecidableEq, Repr

/-- Whether each of NOR_A and NOR_B took a write and read it back (R88): what the board answers. -/
structure NorAck where
  a : Bool
  b : Bool
deriving DecidableEq, Repr

/-- What a LUN's parameter page reports (R489): planes, data and spare bytes of a page, blocks per plane, pages per block, bits per cell. -/
structure ParameterPage where
  planes : Nat
  dataBytes : Nat
  spareBytes : Nat
  blocks : Nat
  pages : Nat
  bits : Nat
deriving DecidableEq, Repr

/-- What a LUN that is found answers to its enumeration (R489): its number, its parameter page, and whether it trains. -/
structure LunAnswer where
  lun : Nat
  page : ParameterPage
  trains : Bool
deriving DecidableEq, Repr

/-- One sample of the sensors (R679): a reading of 0x8000 is a failed sensor's (R680). -/
structure SensorReadings where
  quarter : List Nat
  stack : List Nat
  belfry : List Nat
  railMv : List Nat
  railMa : List Nat
deriving DecidableEq, Repr

/-- The fields of an AFP header that the rules use (*AFP header*), with the link it came by and whether its reserved fields are 0. -/
structure Afp where
  link : Nat
  version : Nat
  response : Bool
  retransmit : Bool
  cls : Nat
  colour : Nat
  realm : Nat
  status : Nat
  length : Nat
  src : Nat
  dst : Nat
  composition : Nat
  epoch : Nat
  dstRank : Nat
  requestId : Nat
  reservedZero : Bool
deriving DecidableEq, Repr

/-- Where a capsule comes from: a memory write to an aperture page of a host function (its size, and whether it is one aligned request:
R573), or an AFP message with its data segments as bytes (R606). -/
inductive CapsuleSource where
  | host (port function aperture size : Nat) (aligned : Bool)
  | fabric (header : Afp) (len data : Nat)
deriving DecidableEq, Repr

/-- What the second HELLO of an encrypted link carries (R658): the peer's X448 key and nonce, the CA digest its chain ends in, its
life-cycle code, and its signature over the transcript. -/
structure LinkAuth where
  key : Nat
  nonce : Nat
  caDigest : Nat
  lifeCycle : Nat
  signer : Nat
  signature : Nat
deriving DecidableEq, Repr

/-- A KV service entry as OWN_STATE carries it (R620): key, position, page size, geometry and data. -/
structure OwnEntry where
  key : Nat
  pos : Nat
  sizeLog2 : Nat
  geometry : Nat
  bytes : List Byte
deriving DecidableEq, Repr

/-- A list of candidates as SHADOW_RESULT carries it (R626): identifiers and FP32 scores. -/
abbrev Candidates := List (Nat × Nat)

/-- The commands: one constructor per row of spec/opcode_table.json, in the table's families. The table gives no row any bits; the operands
are the fields that the row's rules name, and what the world outside the package answers (readings, acknowledgements, test results). -/
inductive Instr where
  /-- PWRGOOD_RISE (R667): PWRGOOD rises; the straps' levels at the edge (R711). -/
  | pwrgoodRise (lcStrap : Nat) (testStrap : Bool)
  /-- PWRGOOD_FALL (R707). -/
  | pwrgoodFall
  /-- SYS_RST_N_ASSERT (R712): SYS_RST_N low for so many nanoseconds (R710). -/
  | sysRstNAssert (lowNs : Nat)
  /-- SYS_RST_N_RELEASE (R712): the straps' levels at the release (R711). -/
  | sysRstNRelease (lcStrap : Nat) (testStrap : Bool)
  /-- PERST_N_ASSERT (R563): PERSTp_N low for so many nanoseconds (R710). -/
  | perstNAssert (port lowNs : Nat)
  /-- PERST_N_RELEASE (R713). -/
  | perstNRelease (port : Nat)
  /-- PCIE_LINK_UP (R589): a host link ends training at a width and speed, with a common reference clock or not (R715). -/
  | pcieLinkUp (port width speed : Nat) (commonClock : Bool)
  /-- SURPRISE_REMOVAL (R592). -/
  | surpriseRemoval (port : Nat)
  /-- FUNCTION_LEVEL_RESET (R591): function 0 is the PF. -/
  | functionLevelReset (port function : Nat)
  /-- BOOT_SELF_TEST (R693): what failed: Oculus blocks, marginal blocks, the band-gap reference, mesh links, tiles' self-checks. -/
  | bootSelfTest (failed marginal : List Nat) (bandGapFails : Bool) (meshFailed tilesFailed : List Nat)
  /-- STACK_TRAINING_WAVE (R668): wave w ends; the stacks of it that failed training. -/
  | stackTrainingWave (wave : Nat) (failed : List Nat)
  /-- FLASH_ENUMERATION (R489): what the LUNs that are found answer. -/
  | flashEnumeration (luns : List LunAnswer)
  /-- MAP_LOAD (R520). -/
  | mapLoad (checkpointReads : Bool)
  /-- MAP_REBUILD_COMPLETE (R521). -/
  | mapRebuildComplete
  /-- OPERATIONAL (R667). -/
  | operational
  /-- START_SUCCESS (R674). -/
  | startSuccess
  /-- START_FAILED (R672): the case, 1–6 in the order of R672. -/
  | startFailed (case : Nat)
  /-- WATCHDOG_EXPIRY (R666). -/
  | watchdogExpiry
  /-- CUPOLA_RELOAD_COMPLETE (R666). -/
  | cupolaReloadComplete
  /-- SENSOR_SAMPLE (R679). -/
  | sensorSample (readings : SensorReadings)
  /-- THERMTRIP (R682): the quarter-die sensor element that reached 115 °C. -/
  | thermtrip (sensor : Nat)
  /-- PMBUS_POLL (R679): regulator slot 0–15 and the STATUS_WORD it returned. -/
  | pmbusPoll (slot statusWord : Nat)
  /-- FREQUENCY_CHANGE (R150): the supervisor moves a clock group; whether the regulator acknowledged the VOUT_COMMAND (R704). -/
  | frequencyChange (group mhz : Nat) (acked : Bool)
  /-- EVENT_LOG_FLUSH (R686). -/
  | eventLogFlush
  /-- OPEN (R110): path (0 HDAP, 2 fabric), who sends it with which SEQ, the composition slot it speaks for or none
  (fabric manager), highest and lowest version, MODE, operator key slot, the client's key and nonce. -/
  | sessionOpen (path : Nat) (opener : Opener) (composition : Option Nat) (highest lowest mode keySlot clientKey clientNonce : Nat)
  /-- CLOSE (R103). -/
  | close (q : Req)
  /-- READ (R78). -/
  | read (q : Req) (idx sub : Nat)
  /-- READ_SEG (R79): a segment number. -/
  | readSeg (q : Req) (idx sub seg : Nat)
  /-- WRITE (R78): the payload's length in bytes and its value. -/
  | write (q : Req) (idx sub len value : Nat)
  /-- WRITE_SEG (R102): a segment's number, length and bytes. -/
  | writeSeg (q : Req) (idx sub seg len value : Nat)
  /-- HDAP_SESSION_IDLE (R103). -/
  | hdapSessionIdle (path number : Nat)
  /-- CONFIGURATION_COMMIT (R85): the value written to 0x1810.00, whether both NOR configuration areas have room (V03), and
  what the NOR devices answered to the write (R88). -/
  | configurationCommit (q : Req) (value : Nat) (room ack : NorAck)
  /-- GENERATION_HOLD_RELEASE (R90): the block held (kind, number). -/
  | generationHoldRelease (kind number : Nat)
  /-- VALIDATE (R86): the value written to 0x1806.00 and whether the NOR areas have room (V03). -/
  | validate (q : Req) (value : Nat) (room : NorAck)
  /-- DRAFT_DISCARD (R93): the value written to 0x1804.00. -/
  | draftDiscard (q : Req) (value : Nat)
  /-- COUNTER_CLEAR (R73): the value written to 0x23F0.05. -/
  | counterClear (q : Req) (value : Nat)
  /-- TILE_UNFENCE (R160): the tile number written to 0x2002.00 and whether its self-check passes. -/
  | tileUnfence (q : Req) (tile : Nat) (passes : Bool)
  /-- INDEX_OPEN (R271): the index slot and the value written to 0x3020 + x.03. -/
  | indexOpen (q : Req) (slot value : Nat)
  /-- CONSOLIDATION_START (R381): the index slot and the value written to 0x3060 + x.06. -/
  | consolidationStart (q : Req) (slot value : Nat)
  /-- PLAN_IMAGE (R231): the segment marked LAST of a write to 0x3306.00 (its number, length and bytes). -/
  | planImage (q : Req) (seg len value : Nat)
  /-- SEQUENCE_RESET (R423): the pool and the value written to 0x3200 + k.05. -/
  | sequenceReset (q : Req) (pool value : Nat)
  /-- PENDING_TOKEN_SET (R423): the pool and the value written to 0x3200 + k.06. -/
  | pendingTokenSet (q : Req) (pool value : Nat)
  /-- POOL_FLUSH (R473): the value written to 0x2462.08. -/
  | poolFlush (q : Req) (value : Nat)
  /-- RECLAIM (R475): the value written to 0x2B80.05. -/
  | reclaim (q : Req) (value : Nat)
  /-- CLEAN_SHUTDOWN (R519): the value written to 0x2840.06. -/
  | cleanShutdown (q : Req) (value : Nat)
  /-- TRANSITION_REQUEST (R650): the target code written to 0x5C00.02. -/
  | transitionRequest (q : Req) (target : Nat)
  /-- COMMIT_SECURITY_VERSION (R660): the value written to 0x5C01.03. -/
  | commitSecurityVersion (q : Req) (value : Nat)
  /-- REVOKE_ROOT_KEY (R661): the slot written to 0x5C01.04. -/
  | revokeRootKey (q : Req) (slot : Nat)
  /-- ATTESTATION_NONCE (R654): the 32 bytes written to 0x5C10.01. -/
  | attestationNonce (q : Req) (nonce : Nat)
  /-- SESSION_PROOF (R656): the 114 bytes written to 0x5C20.01. -/
  | sessionProof (q : Req) (signature : Nat)
  /-- IMAGE_PACKAGE (R687): the segment marked LAST of a write to 0x5F01.00 (its number, length and bytes). -/
  | imagePackage (q : Req) (seg len value : Nat)
  /-- ACTIVATE (R689): the value written to 0x5F02.00. -/
  | activate (q : Req) (value : Nat)
  /-- RESTART_REQUEST (R692): the value written to 0x5F03.00. -/
  | restartRequest (q : Req) (value : Nat)
  /-- CONFIRM (R691): the value written to 0x5F04.00. -/
  | confirm (q : Req) (value : Nat)
  /-- ALERT_ACKNOWLEDGE (R681): the value written to 0x5004.02. -/
  | alertAcknowledge (q : Req) (value : Nat)
  /-- PROGRAM_REQUEST (R699): the value written to 0x5820.00. -/
  | programRequest (q : Req) (value : Nat)
  /-- PROGRAM_COMPLETE (R699): whether the full program passed. -/
  | programComplete (passed : Bool)
  /-- QUIESCE (R593): a write of FUNCTION_CONTROL of a function. -/
  | quiesce (port function value : Nat)
  /-- RING_CONFIGURATION (R572): a 64-bit write of a ring's register (0 base, 1 configuration). -/
  | ringConfiguration (port function ring register value : Nat)
  /-- APERTURE_CONFIGURATION (R572): a write of an aperture's configuration register. -/
  | apertureConfiguration (port function aperture value : Nat)
  /-- RUN (R248): the 64 bytes of a capsule. -/
  | run (src : CapsuleSource) (raw : BitVec 512)
  /-- PLAN_LOAD (R231). -/
  | planLoad (src : CapsuleSource) (raw : BitVec 512)
  /-- PLAN_UNLOAD (R236). -/
  | planUnload (src : CapsuleSource) (raw : BitVec 512)
  /-- PLAN_UNLOAD_COMPLETE (R236): the plan's handle. -/
  | planUnloadComplete (plan : Nat)
  /-- UPDATE (R363). -/
  | update (src : CapsuleSource) (raw : BitVec 512)
  /-- VOLUME (R503). -/
  | volume (src : CapsuleSource) (raw : BitVec 512)
  /-- KV_SERVICE (R445). -/
  | kvService (src : CapsuleSource) (raw : BitVec 512)
  /-- ADMISSION (R553): the admission point of a realm. -/
  | admission (realm : Nat)
  /-- CARILLON_SLOT (R556). -/
  | carillonSlot
  /-- INSTANCE_START (R251): the plan whose waiting capsule starts. -/
  | instanceStart (plan : Nat)
  /-- DEADLINE_EXPIRY (R580): a capsule, by the number of its acceptance. -/
  | deadlineExpiry (capsule : Nat)
  /-- TILE_DISPATCH (R146): a tile's free unit (0 matrix, 1 vector, 2 select, 3 panel mover, 4 management), and what the scratchpad's
  codes found (R130): 0 nothing, 1 a corrected error, 2 a double-bit error, 3 a parity error of the slot or its scoreboard entry
  (*Tile error handling*). -/
  | tileDispatch (tile unit ecc : Nat)
  /-- TILE_OPERATION_COMPLETE (R154): a tile's slot. -/
  | tileOperationComplete (tile slot : Nat)
  /-- COALESCING_TIMER (R587): a function's ring. -/
  | coalescingTimer (port function ring : Nat)
  /-- PANEL_MOVE_COMPLETE (R133): a tile's panel move, and what the codes found (R130). -/
  | panelMoveComplete (tile move ecc : Nat)
  /-- FLIT_CRC_ERROR (R139): the flit. -/
  | flitCrcError (flit : BadFlit)
  /-- MATMUL (R115): of a capsule's instance, the descriptor whose tile operation runs; so for every operator below. -/
  | matmul (capsule desc : Nat)
  /-- MATMUL_SP (R117). -/
  | matmulSp (capsule desc : Nat)
  /-- ADD (R733). -/
  | add (capsule desc : Nat)
  /-- MUL (R733). -/
  | mul (capsule desc : Nat)
  /-- ACT (R121). -/
  | act (capsule desc : Nat)
  /-- NORM (R219). -/
  | norm (capsule desc : Nat)
  /-- SOFTMAX (R61). -/
  | softmax (capsule desc : Nat)
  /-- ROPE (R219). -/
  | rope (capsule desc : Nat)
  /-- ATTEND (R429). -/
  | attend (capsule desc : Nat)
  /-- QUANT (R44). -/
  | quant (capsule desc : Nat)
  /-- DEQUANT (R734). -/
  | dequant (capsule desc : Nat)
  /-- ROUTE (R227). -/
  | route (capsule desc : Nat)
  /-- COMBINE (R228). -/
  | combine (capsule desc : Nat)
  /-- GATHER (R396). -/
  | gather (capsule desc : Nat)
  /-- SCATTER (R400). -/
  | scatter (capsule desc : Nat)
  /-- COPY (R733). -/
  | copy (capsule desc : Nat)
  /-- PANEL_LOAD (R463). -/
  | panelLoad (capsule desc : Nat)
  /-- PANEL_STORE (R463). -/
  | panelStore (capsule desc : Nat)
  /-- FETCH_FLASH (R510). -/
  | fetchFlash (capsule desc : Nat)
  /-- PROBE (R290). -/
  | probe (capsule desc : Nat)
  /-- SCAN (R295). -/
  | scan (capsule desc : Nat)
  /-- CHANNEL_RESULT_RECORD (R297): the channel of a stack whose result buffer's oldest record arrives. -/
  | channelResultRecord (stack channel : Nat)
  /-- GRAPH_STEP (R310). -/
  | graphStep (capsule desc : Nat)
  /-- FILTER (R301). -/
  | filter (capsule desc : Nat)
  /-- RERANK_EXACT (R302). -/
  | rerankExact (capsule desc : Nat)
  /-- SELECT (R324). -/
  | select (capsule desc : Nat)
  /-- THRESHOLD_PUBLISH (R126): the SELECT of a capsule's instance that a SCAN feeds. -/
  | thresholdPublish (capsule desc : Nat)
  /-- THRESHOLD_RECEIVE (R183): a stack's controller takes the threshold last sent by a capsule's SCAN. -/
  | thresholdReceive (stack capsule desc : Nat)
  /-- MERGE (R339). -/
  | merge (capsule desc : Nat)
  /-- DEDUP (R344). -/
  | dedup (capsule desc : Nat)
  /-- BRANCH_IF (R223). -/
  | branchIf (capsule desc : Nat)
  /-- BUDGET (R256). -/
  | budget (capsule desc : Nat)
  /-- BARRIER (R219). -/
  | barrier (capsule desc : Nat)
  /-- EMIT (R258). -/
  | emit (capsule desc : Nat)
  /-- COLLECT (R260). -/
  | collect (capsule desc : Nat)
  /-- VERIFY_TREE_BUILD (R441). -/
  | verifyTreeBuild (capsule desc : Nat)
  /-- VERIFY_TREE_ACCEPT (R443). -/
  | verifyTreeAccept (capsule desc : Nat)
  /-- KV_APPEND (R434). -/
  | kvAppend (capsule desc : Nat)
  /-- TRIGGER (R180): a capsule's SCAN or GRAPH_STEP hands over the trigger record that carries TAG. -/
  | trigger (capsule desc tag : Nat)
  /-- QUERY_SLOT_GRANT (R182): a stack's released query slots go to waiting triggers. -/
  | querySlotGrant (stack : Nat)
  /-- QUERY_SLOT_HOLD (R182): a waiting trigger, by the number of its acceptance. -/
  | querySlotHold (trigger : Nat)
  /-- SEQUENCE_START (R181): a global bank number. -/
  | sequenceStart (bank : Nat)
  /-- STEP_BOUNDARY (R189). -/
  | stepBoundary (bank : Nat)
  /-- GOVERNOR_WINDOW (R204): the temperatures of the stack's 12 core dies, in 0.1 °C (R202). -/
  | governorWindow (stack : Nat) (temps : List Nat)
  /-- REFRESH_DUE (R194). -/
  | refreshDue (bank : Nat)
  /-- ORDINARY_ACCESS (R191): an access, and the numbers of the columns of a read in which the on-die code corrected a bit (R208). -/
  | ordinaryAccess (a : OrdAccess) (corrected : List Nat)
  /-- PREEMPTION_TIMEOUT (R193). -/
  | preemptionTimeout (bank : Nat)
  /-- C0_YIELD (R196). -/
  | c0Yield (bank : Nat)
  /-- NOP (R172): each engine instruction names the global bank whose engine issues it, and carries the fields of its word. -/
  | bankNop (bank : Nat)
  /-- END (R172). -/
  | bankEnd (bank : Nat)
  /-- LOOP (R172): A, TGT. -/
  | loop (bank : Nat) (a : RegNo) (tgt : BitVec 11)
  /-- BR (R172): M[1:0], TGT. -/
  | br (bank : Nat) (m : BitVec 2) (tgt : BitVec 11)
  /-- BAR (R201). -/
  | bar (bank : Nat)
  /-- SETX (R172): D, IMM23. -/
  | setx (bank : Nat) (d : RegNo) (imm : BitVec 23)
  /-- ADDX (R172): D, A, B, M[0], IMM. -/
  | addx (bank : Nat) (d a b : RegNo) (immForm : Bool) (imm : BitVec 12)
  /-- CMPX (R172): A, B, M[1:0]. -/
  | cmpx (bank : Nat) (a b : RegNo) (m : BitVec 2)
  /-- EXTB (R172): D, A, IMM[1:0]. -/
  | extb (bank : Nat) (d a : RegNo) (imm : BitVec 2)
  /-- SHX (R172): D, A, IMM[5:0]. -/
  | shx (bank : Nat) (d a : RegNo) (imm : BitVec 6)
  /-- SETCP (R174): A. -/
  | setcp (bank : Nat) (a : RegNo)
  /-- FETCH (R175): D, M[0] half, M[1] INC; and what the on-die code found (R208): 0 nothing, 1 corrected, 2 uncorrectable. -/
  | fetch (bank : Nat) (d : RegNo) (half inc : Bool) (ecc : Nat)
  /-- FETCHX (R175): D, A, IMM[2:0]. -/
  | fetchx (bank : Nat) (d a : RegNo) (imm : BitVec 3) (ecc : Nat)
  /-- STRM (R732): A. -/
  | strm (bank : Nat) (a : RegNo) (ecc : Nat)
  /-- SSKIP (R732): A. -/
  | sskip (bank : Nat) (a : RegNo)
  /-- QLD (R176): D. -/
  | qld (bank : Nat) (d : RegNo)
  /-- SETQP (R172): A. -/
  | setqp (bank : Nat) (a : RegNo)
  /-- DQ (R176): D, A, B, M[0] half, M[1] part, M[2] Q8, M[3] BF16. -/
  | dq (bank : Nat) (d a b : RegNo) (half part q8 bf16 : Bool)
  /-- MAC (R740): A, B, M[3]. -/
  | mac (bank : Nat) (a b : RegNo) (bf16 : Bool)
  /-- SSA (R740): A, B, M[3]. -/
  | ssa (bank : Nat) (a b : RegNo) (bf16 : Bool)
  /-- DOT (R740): A, B, M[0] half, M[1] stream, M[2] Q8, M[3] BF16, M[4] squared difference. -/
  | dot (bank : Nat) (a b : RegNo) (half stream q8 bf16 square : Bool) (ecc : Nat)
  /-- RED (R172): D, M[0]. -/
  | red (bank : Nat) (d : RegNo) (clear : Bool)
  /-- CLRA (R172). -/
  | clra (bank : Nat)
  /-- CHK (R184): M[0] count, M[1] tb. -/
  | chk (bank : Nat) (count tb : Bool)
  /-- CMPTH (R184): A, M[0] count, M[1] tb. -/
  | cmpth (bank : Nat) (a : RegNo) (count tb : Bool)
  /-- TSKIP (R172): A, B, TGT. -/
  | tskip (bank : Nat) (a b : RegNo) (tgt : BitVec 11)
  /-- TOPINS (R185): A, B. -/
  | topins (bank : Nat) (a b : RegNo)
  /-- TOPRD (R172): D, IMM[1:0], M[0] move. -/
  | toprd (bank : Nat) (d : RegNo) (imm : BitVec 2) (move : Bool)
  /-- TOPINSV (R172): A. -/
  | topinsv (bank : Nat) (a : RegNo)
  /-- ENGINE_EMIT (R186). -/
  | engineEmit (bank : Nat)
  /-- SEND (R199): A, M[0] dir. -/
  | send (bank : Nat) (a : RegNo) (dir : Bool)
  /-- RECV (R199): D, M[0] dir. -/
  | recv (bank : Nat) (d : RegNo) (dir : Bool)
  /-- BUSX (R199): A, IMM[5:0]. -/
  | busx (bank : Nat) (a : RegNo) (imm : BitVec 6)
  /-- BUSR (R199): D. -/
  | busr (bank : Nat) (d : RegNo)
  /-- TOMBSTONE_SET (R377): an index slot and the identifier whose old version's tombstone is pending. -/
  | tombstoneSet (index id : Nat)
  /-- RETIREMENT (R378): an index slot and an identifier. -/
  | retirement (index id : Nat)
  /-- RETIREMENT_WAIT_LIMIT (R378). -/
  | retirementWaitLimit (index id : Nat)
  /-- CONSOLIDATION_MOVE (R382): the index slot, and the global bank and directory slot of the segment. -/
  | consolidationMove (index bank slot : Nat)
  /-- SEGMENT_UNLINK (R382): of an index's segment that was moved. -/
  | segmentUnlink (index : Nat)
  /-- SEGMENT_FREE (R382). -/
  | segmentFree (index : Nat)
  /-- ROW_COPY_COMPLETE (R410): a table slot and a row. -/
  | rowCopyComplete (table row : Nat)
  /-- FORMER_COPY_RELEASE (R411). -/
  | formerCopyRelease (table row : Nat)
  /-- FORMATTING_COMPLETE (R269, R391, R417): the object's handle. -/
  | formattingComplete (handle : Nat)
  /-- ZERO_FILL_COMPLETE (R460, R637): the kind (0 bank, 1 GiB, 2 clock group) and number of what was cleared. -/
  | zeroFillComplete (kind number : Nat)
  /-- WRITE_BACK_AGE (R471): a realm and a 4 KiB sector of T2, by address / 4,096. -/
  | writeBackAge (realm sector : Nat)
  /-- WRITE_BACK_ACK (R471): the home acknowledges a sector's write-back. -/
  | writeBackAck (h : Afp) (sector : Nat)
  /-- LEND_OFFER (R474). -/
  | lendOffer
  /-- GRANT (R466): a segment, its new GRANT_GEN, the borrower and its realm, the lender and its GiB. -/
  | grant (h : Afp) (segment grantGen borrower realm homeNode homeGib : Nat)
  /-- ACCESS (R467): a read of `len` bytes at an offset of a segment. -/
  | access (h : Afp) (segment grantGen offset len : Nat)
  /-- POOL_WRITE (R467): bytes written at an offset of a segment. -/
  | poolWrite (h : Afp) (segment grantGen offset : Nat) (bytes : List Byte)
  /-- POOL_RECLAIM (R477). -/
  | poolReclaim (h : Afp) (segment grantGen graceMs : Nat)
  /-- SUCCESSOR (R478): the node and GiB that take the segment over. -/
  | successor (h : Afp) (segment grantGen node gib : Nat)
  /-- MIGRATION_COPY_COMPLETE (R478): a lent GiB whose copy or recopy ends. -/
  | migrationCopyComplete (gib : Nat)
  /-- SWITCH (R478): the raised GRANT_GEN and the new home. -/
  | switch (h : Afp) (segment grantGen node gib : Nat)
  /-- UNMAP (R482). -/
  | unmap (h : Afp) (segment grantGen : Nat)
  /-- GRACE_TIME_EXPIRY (R480): of a segment. -/
  | graceTimeExpiry (segment : Nat)
  /-- COALESCING_WINDOW (R513): the page buffer of a volume slot's open block on a channel. -/
  | coalescingWindow (volume channel : Nat)
  /-- FLASH_READ_COMPLETE (R530): an outstanding read, whether its codeword decoded, and the bits corrected. -/
  | flashReadComplete (operation : Nat) (decoded : Bool) (corrected : Nat)
  /-- PROGRAM_STATUS (R532): an outstanding program, and its status. -/
  | programStatus (operation : Nat) (passed : Bool)
  /-- ERASE_COMPLETE (R533). -/
  | eraseComplete (operation : Nat) (passed : Bool)
  /-- COPY_VERIFY (R526): a copy under way, and whether every destination slot reads back. -/
  | copyVerify (copy : Nat) (readsBack : Bool)
  /-- SOURCE_ERASE (R527): a copy that has verified. -/
  | sourceErase (copy : Nat)
  /-- VOLUME_KEY_DESTROY (R499): a volume slot whose removal is held. -/
  | volumeKeyDestroy (volume : Nat)
  /-- HELLO (R603): the peer's version span, its encryption needs, and its second HELLO where there is one (R658). -/
  | hello (link highest lowest : Nat) (required offered : Bool) (auth : Option LinkAuth)
  /-- LINK_CLOSE (R603). -/
  | linkClose (link cause : Nat)
  /-- KEEPALIVE (R600). -/
  | keepalive (link : Nat)
  /-- LINK_LOSS (R600): the link loss time ran out, or the FEC lost alignment. -/
  | linkLoss (link : Nat) (fecAlignment : Bool)
  /-- FEC_UNCORRECTABLE (R596): codewords corrected since the last report, and one that could not be. -/
  | fecUncorrectable (link corrected : Nat)
  /-- TIME_EXCHANGE (R608). -/
  | timeExchange
  /-- TIME_RESP (R609): `sent` is this node's send time; the reference's receive and send times; the corrections, in 1/16 ns, that the request
  and the response gathered on their ways. -/
  | timeResp (h : Afp) (sent refReceived refSent requestCorrection correction : Nat)
  /-- ANNOUNCE (R628). -/
  | announce
  /-- TOPOLOGY (R605): rack, slot, failure domain, neighbours of the links. -/
  | topology (h : Afp) (rack slot failureDomain : Nat) (neighbours : List Nat)
  /-- IDENTITY (R629). -/
  | identity (h : Afp) (node place timeReference : Nat)
  /-- COMPOSE (R611): identifier, realm, epoch, member nodes by rank, owner rank of each unit; no members: the record is removed. -/
  | compose (h : Afp) (id realm epoch : Nat) (members owners : List Nat)
  /-- MEMBER_LOST (R617). -/
  | memberLost (h : Afp) (id epoch rank node : Nat)
  /-- ACK (R618). -/
  | ack (h : Afp) (requestId status : Nat)
  /-- AFP_COMPLETION (R606): a completion record and result data. -/
  | afpCompletion (h : Afp) (record len data : Nat)
  /-- AFP_EMIT (R614): destination plan, TAG and slot, remaining deadline in µs, the tensor's dimensions and elements. -/
  | afpEmit (h : Afp) (plan tag slot deadlineUs : Nat) (dims elements : List Nat)
  /-- CONTRIB (R351): collective number, TAG, rank bitmap, status, format code, dimensions and elements. -/
  | contrib (h : Afp) (collective tag ranks status format : Nat) (dims elements : List Nat)
  /-- CONTRIB_ACK (R354). -/
  | contribAck (h : Afp) (collective tag ranks status : Nat)
  /-- RESPONSE_TIMEOUT (R607): an own request. -/
  | responseTimeout (requestId : Nat)
  /-- EPOCH_GRACE_EXPIRY (R612): a held request, by source node and REQUEST_ID. -/
  | epochGraceExpiry (src requestId : Nat)
  /-- OWN_PREPARE (R620): unit, generation, peer node, role (0 owner, 1 receiver). -/
  | ownPrepare (h : Afp) (unit generation peer role : Nat)
  /-- OWN_STATE (R620). -/
  | ownState (h : Afp) (unit : Nat) (entries : List OwnEntry)
  /-- OWN_READY (R620). -/
  | ownReady (h : Afp) (unit generation : Nat)
  /-- OWN_COMMIT (R620). -/
  | ownCommit (h : Afp) (unit generation : Nat)
  /-- OWN_ABORT (R621). -/
  | ownAbort (h : Afp) (unit generation : Nat)
  /-- OWN_QUERY (R623): the peer's state and complete generation. -/
  | ownQuery (h : Afp) (unit state complete : Nat)
  /-- OWN_REPORT (R623). -/
  | ownReport (h : Afp) (unit state complete : Nat)
  /-- OWNERSHIP_AUDIT (R623): a unit of a composition. -/
  | ownershipAudit (composition unit : Nat)
  /-- SHADOW_START (R625): composition, rank, working node, shadow node. -/
  | shadowStart (h : Afp) (composition rank working shadow : Nat)
  /-- MIRROR (R625): a mirrored capsule and its data. -/
  | mirror (h : Afp) (raw : BitVec 512) (len data : Nat)
  /-- SHADOW_RESULT (R626): the shadow's completion record and candidate lists. -/
  | shadowResult (h : Afp) (record : Nat) (lists : List Candidates)
  /-- SPDM_REQUEST (R653): port, request code, parameters, and whether the requester offers Ed448 and SHA3-512. -/
  | spdmRequest (port code param : Nat) (version : Nat) (ed448 sha3 : Bool) (nonce : Nat)
  /-- OCULUS_SLICE (R694): whether the block's clock and rail lie inside ±3 % (R696). -/
  | oculusSlice (inLimits : Bool)
  /-- OCULUS_SLICE_END (R698): 0 passed, 1 marginal, 2 failed. -/
  | oculusSliceEnd (result : Nat)
  /-- LINK_TRAINING_COMPLETE (R603): lanes trained, 0 where training failed. -/
  | linkTrainingComplete (link lanes : Nat)
  /-- TIME_REQ (R608). -/
  | timeReq (h : Afp) (sent correction : Nat)
  /-- TRIGGER_RULES_RELEASE (R205): a pseudo-channel. -/
  | triggerRulesRelease (stack pc : Nat)
  /-- GENERATOR_HEALTH_FAILURE (R648). -/
  | generatorHealthFailure
  /-- LINK_KEY_RENEWAL (R602). -/
  | linkKeyRenewal (link : Nat)
  /-- SESSION_COUNTER_LIMIT (R655). -/
  | sessionCounterLimit (path number : Nat)
  /-- FLASH_OPERATION_TIMEOUT (R534): an outstanding flash operation. -/
  | flashOperationTimeout (operation : Nat)
  /-- VF_DISABLE (R568): a port's VFs. -/
  | vfDisable (port : Nat)
  /-- PORT_EGRESS (R553): an egress point (0–1 host ports, 2–5 hub links, 6–37 fabric links). -/
  | portEgress (point : Nat)
  /-- MANAGEMENT_LINK_UP (R594). -/
  | managementLinkUp
  /-- MANAGEMENT_LINK_DOWN (R594). -/
  | managementLinkDown
deriving DecidableEq, Repr

end Sys2Proof
end

