-- ==== Sys2Proof/Config.lean ====
section
/-! DEFINITION. The values the manual leaves open: free constants with no body, so that no proof can see a value of them. -/

namespace Sys2Proof

/-- The n-th free choice of a run: an undefined datum (00_scope), the alternative taken where the manual calls a choice
unspecified (R5, 00_scope *Notation*), an order that no handshake fixes (R25). `Machine.Dev.freeCtr` counts the draws. Log entry 1. -/
opaque Config.free : Nat → Nat

/-- The bits of a built-in function of the vector unit on an argument, where the manual states an error bound and no bits (R121).
Log entry 2. -/
opaque Config.fnBits : (function : Nat) → (argument : Nat) → Nat

/-- The device secret (0), and what the random generator gives, numbered (R647, R648). Log entry 3. -/
opaque Config.keepKey : Nat → Nat

/-- The values burned in MANUFACTURE: serial number (0), MAC address (1), ordering number (3), production
CA digest (4); public keys of root slots 0–7 (16–23). Log entry 4. -/
opaque Config.burned : Nat → Nat

/-- The certificate chain of R652 (name 0) and the Belfry ROM (2): byte strings, given as length
(part 0) and contents (part 1). Log entry 4. -/
opaque Config.document : (name part : Nat) → Nat

/-- The schema description's bytes, as length (part 0) and contents (part 1), from the entries that it lists, each with its numbers and its
texts: R109 gives what it says of each and not how. Log entry 4. -/
opaque Config.schemaForm : (entries : List (List Nat × List String)) → (part : Nat) → Nat

/-- Does a read of the submitting function's memory by a capsule, at an address, complete with an error or with poisoned data (R581)? That is
the host's doing. Log entry 94. -/
opaque Config.hostReadFails : (capsule address : Nat) → Bool

/-- How many bits per codeword the strongest LDPC code corrects that fits SPARE spare bytes, which the manual does not state (R491, R538).
Log entry 1. -/
opaque Config.correctionCapacity : (spare : Nat) → Nat

/-- Matrix-unit passes of a VERIFY_TREE in a mode over a number of input elements: *Work units* has it charge matrix tiles, and no rule says
how many passes it makes. Log entry 13. -/
opaque Config.treePasses : (mode elements : Nat) → Nat

/-- The 4,096 bytes of a piece of the translation map as a clean shutdown writes it (R519), whose layout the manual does not give: the entries are
keys with the block and slot they name. Log entry 132. -/
opaque Config.mapForm : (entries : List (Nat × Nat × Nat)) → (piece : Nat) → Nat

/-- Does a block's summary (no index), or a slot of it, decode with a good CRC in the scan of a start (R521, R522)? That is the media's doing. Log
entry 132. -/
opaque Config.scanDecodes : (start block : Nat) → (index : Option Nat) → Bool

/-- F_P: centroids per second that the tiles of the plan groups with PROBE or GRAPH_STEP score at 600 MHz, for an index's dimension and code
format (R561), for which the manual gives no formula. Log entry 27. -/
opaque Config.probeFloor : (tiles dim code : Nat) → Nat

/-- The cause code of a LINK_CLOSE, by reason: 0 no common version, 1 encryption that one end cannot give, 2 a chain outside the trust
anchors or a signature that fails, 3 another life-cycle state, 4 no fresh randomness. The manual gives no codes (R603, R658). Log entry 1. -/
opaque Config.linkCause : (reason : Nat) → Nat

/-- The AES-256-GCM tag of a message under a key and a nonce (R102, R655): the manual does not say which bytes are encrypted and which only
authenticated. Log entry 108. -/
opaque Config.gcmTag : (key nonce message : Nat) → Nat

/-- The check number in 0x1812.01 for a relation between entries that an entry table states and *Cross-field checks* does not number. Log
entry 107. -/
opaque Config.relationCheck : (relation : Nat) → Nat

end Sys2Proof
end

