-- ==== Sys2Proof/Machine/Bits.lean ====
section
/-! DEFINITION. Bit fields, signs, byte order (R1), saturation, and the sorted tables that hold sparse state. -/

namespace Sys2Proof.Machine

/-- Bits [hi:lo] of a word, counted as the notation of 00_scope counts them. -/
def bits (w hi lo : Nat) : Nat := (w >>> lo) % 2 ^ (hi + 1 - lo)

/-- Bit `i` of a word. -/
def bit (w i : Nat) : Bool := w.testBit i

/-- The word with its bits [hi:lo] replaced by `v`. -/
def setBits (w hi lo v : Nat) : Nat :=
  w - (bits w hi lo) <<< lo + (v % 2 ^ (hi + 1 - lo)) <<< lo

/-- Two's complement reading of the low `n` bits (R75). -/
def signed (n w : Nat) : Int :=
  let u := w % 2 ^ n
  if 2 * u < 2 ^ n then (u : Int) else (u : Int) - (2 ^ n : Nat)

/-- Two's complement encoding of an integer in `n` bits, modulo 2^n. -/
def unsigned (n : Nat) (x : Int) : Nat := (x % ((2 ^ n : Nat) : Int)).toNat

/-- A count that stops at the largest value of `n` bits and never wraps (R67). -/
def satAdd (n a b : Nat) : Nat := min (a + b) (2 ^ n - 1)

/-- An integer held inside [lo, hi], and whether it had to be. -/
def clampInt (lo hi x : Int) : Int × Bool :=
  if x < lo then (lo, true) else if hi < x then (hi, true) else (x, false)

/-- The `n` bytes of a number, least significant first (R1). -/
def leBytes : Nat → Nat → List Byte
  | 0, _ => []
  | n + 1, v => BitVec.ofNat 8 v :: leBytes n (v >>> 8)

/-- The number that bytes spell, least significant first (R1). -/
def ofLE : List Byte → Nat
  | [] => 0
  | b :: bs => b.toNat + 256 * ofLE bs

/-- Bytes `off` to `off + len − 1` of a number read as a little-endian byte string. -/
def byteField (v off len : Nat) : Nat := (v >>> (8 * off)) % 2 ^ (8 * len)

/-- Element `i` of an array of `w`-byte elements held as one little-endian number (R75, ARR). -/
def elem (v w i : Nat) : Nat := byteField v (w * i) w

/-- The array with element `i` replaced. -/
def setElem (v w i x : Nat) : Nat :=
  v - (elem v w i) <<< (8 * (w * i)) + (x % 2 ^ (8 * w)) <<< (8 * (w * i))

/-- The array of the listed elements, element 0 first. -/
def ofElems (w : Nat) : List Nat → Nat
  | [] => 0
  | x :: xs => x % 2 ^ (8 * w) + (ofElems w xs) <<< (8 * w)

/-- The first `n` elements of an array held as one number. -/
def toElems (w : Nat) (n v : Nat) : List Nat := (List.range n).map (elem v w)

/-- ⌈a / b⌉. -/
def ceilDiv (a b : Nat) : Nat := (a + b - 1) / b

/-- `v` is 2^n for some n with lo ≤ n ≤ hi. -/
def powerOfTwoIn (lo hi v : Nat) : Bool := (List.range (hi + 1)).any fun n => decide (lo ≤ n) && v == 2 ^ n

/-- Is `x` in [lo, hi]? -/
def inRange (lo hi x : Nat) : Bool := decide (lo ≤ x) && decide (x ≤ hi)

/-- The numbers of the bits set among the first `n`. -/
def bitsSet (n w : Nat) : List Nat := (List.range n).filter fun i => w.testBit i

/-! ### Sorted tables -/

/-- Sparse state by key: pairs of key and value, keys strictly rising. -/
abbrev Tab (α : Type) := List (Nat × α)

/-- The value a table holds under a key. -/
def tabGet {α : Type} (k : Nat) : Tab α → Option α
  | [] => none
  | (j, v) :: t => if j = k then some v else tabGet k t

/-- The value under a key, or a default. -/
def tabGetD {α : Type} (k : Nat) (dflt : α) (t : Tab α) : α := (tabGet k t).getD dflt

/-- The table with a value put under a key, in its place. -/
def tabSet {α : Type} (k : Nat) (v : α) : Tab α → Tab α
  | [] => [(k, v)]
  | (j, u) :: t => if k < j then (k, v) :: (j, u) :: t else if j = k then (k, v) :: t else (j, u) :: tabSet k v t

/-- The table without a key. -/
def tabDel {α : Type} (k : Nat) : Tab α → Tab α
  | [] => []
  | (j, u) :: t => if j = k then t else (j, u) :: tabDel k t

/-- The value under a key changed by a function; no entry, no change. -/
def tabUpdate {α : Type} (k : Nat) (f : α → α) : Tab α → Tab α
  | [] => []
  | (j, u) :: t => if j = k then (j, f u) :: t else (j, u) :: tabUpdate k f t

/-- The value under a key, or a default, changed by a function. -/
def tabMod {α : Type} (k : Nat) (dflt : α) (f : α → α) (t : Tab α) : Tab α :=
  tabSet k (f (tabGetD k dflt t)) t

/-- The smallest key from `n` on that the table does not hold, among the next `fuel` keys. -/
def tabFresh {α : Type} (t : Tab α) (n : Nat) : Nat → Nat
  | 0 => n
  | fuel + 1 => if (tabGet n t).isSome then tabFresh t (n + 1) fuel else n

/-- Element `i` of a list of numbers, 0 past its end. -/
def nth (l : List Nat) (i : Nat) : Nat := l.getD i 0

/-- The list with element `i` changed. -/
def listMod {α : Type} (i : Nat) (f : α → α) (l : List α) : List α := l.modify i f

/-- The place of the first element that meets a test. -/
def firstIdx {α : Type} (p : α → Bool) : List α → Option Nat
  | [] => none
  | a :: l => if p a then some 0 else (firstIdx p l).map (· + 1)

/-- The list without the first element that meets a test. -/
def eraseFirst {α : Type} (p : α → Bool) : List α → List α
  | [] => []
  | a :: l => if p a then l else a :: eraseFirst p l

/-- The elements with no repeats, the first of each kept. -/
def distinct {α : Type} [DecidableEq α] : List α → List α
  | [] => []
  | a :: l => a :: (distinct l).filter (fun b => decide (b ≠ a))

/-- Insertion of an element into a list ordered by `before`, after its equals. -/
def insertBy {α : Type} (before : α → α → Bool) (a : α) : List α → List α
  | [] => [a]
  | b :: l => if before a b then a :: b :: l else b :: insertBy before a l

/-- The list ordered by `before`; equals keep their order. -/
def sortBy {α : Type} (before : α → α → Bool) : List α → List α
  | [] => []
  | a :: l => insertFront before a (sortBy before l)
where
  /-- `a` put before every element that does not come strictly before it. -/
  insertFront {α : Type} (before : α → α → Bool) (a : α) : List α → List α
    | [] => [a]
    | b :: l => if before b a then b :: insertFront before a l else a :: b :: l

/-- The sum of a list. -/
def sumOf (l : List Nat) : Nat := l.foldl (· + ·) 0

/-- A list cut into pieces of `n`, with as many pieces as `fuel` allows. -/
def chunks {α : Type} (n : Nat) : Nat → List α → List (List α)
  | 0, _ => []
  | fuel + 1, l => if l.isEmpty then [] else l.take n :: chunks n fuel (l.drop n)

/-- One bit as a number. -/
def b2n (b : Bool) : Nat := if b then 1 else 0

/-- Do two byte ranges overlap? One of no bytes overlaps none. -/
def rangesMeet (a m b n : Nat) : Bool := decide (0 < m) && decide (0 < n) && decide (a < b + n) && decide (b < a + m)

/-- One bit of a CRC-32C register, least significant bit first. -/
def crcBit (r : Nat) : Nat := if r % 2 = 1 then (r / 2) ^^^ 0x82F63B78 else r / 2

/-- CRC-32C over `n` bytes of a number, lowest byte first (R514, R516). -/
def crc32c (n x : Nat) : Nat :=
  (List.range (8 * n)).foldl (fun r i => crcBit (r ^^^ b2n (x.testBit i))) 0xFFFFFFFF ^^^ 0xFFFFFFFF

end Sys2Proof.Machine
end

