-- ==== Sys2Proof/Machine/Numbers.lean ====
section
/-! DEFINITION. Number formats, rounding, quantisation and conversion (02_numbers), by exact arithmetic on binary fractions narrowed once. -/

namespace Sys2Proof.Machine

/-- The formats of *Data formats* (R30). -/
inductive Fmt where
  | int4 | int8 | int16 | int32 | e4m3 | e5m2 | fp16 | bf16 | fp32 | q4 | q8
deriving DecidableEq, Repr

/-- The format of a format code; 0x0 and 0xC–0xF are reserved (R30). -/
def Fmt.ofCode : Nat → Option Fmt
  | 1 => some .int4 | 2 => some .int8 | 3 => some .int16 | 4 => some .int32 | 5 => some .e4m3 | 6 => some .e5m2
  | 7 => some .fp16 | 8 => some .bf16 | 9 => some .fp32 | 10 => some .q4 | 11 => some .q8 | _ => none

/-- Width of an element in bits (R30). -/
def Fmt.width : Fmt → Nat
  | .int4 | .q4 => 4 | .int8 | .e4m3 | .e5m2 | .q8 => 8 | .int16 | .fp16 | .bf16 => 16 | .int32 | .fp32 => 32

/-- Plain integer formats. -/
def Fmt.isInt : Fmt → Bool
  | .int4 | .int8 | .int16 | .int32 => true | _ => false

/-- Code formats, which bind a scale exponent. -/
def Fmt.isCode : Fmt → Bool
  | .q4 | .q8 => true | _ => false

/-- Floating-point formats. -/
def Fmt.isFloat : Fmt → Bool
  | .e4m3 | .e5m2 | .fp16 | .bf16 | .fp32 => true | _ => false

/-- The largest code magnitude that quantisation writes (R38). -/
def Fmt.qmax : Fmt → Nat
  | .q4 => 7 | _ => 127

/-! ### Exact values -/

/-- An exact value: a NaN, an infinity, or (−1)^neg × mant × 2^exp. -/
inductive Num where
  | nan
  | inf (neg : Bool)
  | fin (neg : Bool) (mant : Nat) (exp : Int)
deriving DecidableEq, Repr

namespace Num

/-- Zero with a sign. -/
def zero (neg : Bool) : Num := .fin neg 0 0

/-- An integer, exactly. -/
def ofInt (x : Int) : Num := .fin (decide (x < 0)) x.natAbs 0

/-- An integer times a power of two: the value of a code under a scale exponent (R40). -/
def ofCode (c se : Int) : Num := .fin (decide (c < 0)) c.natAbs se

/-- Is the value a NaN? -/
def isNaN : Num → Bool
  | .nan => true | _ => false

/-- Sign change. -/
def neg : Num → Num
  | .nan => .nan | .inf s => .inf (!s) | .fin s m e => .fin (!s) m e

/-- Magnitude. -/
def abs : Num → Num
  | .nan => .nan | .inf _ => .inf false | .fin _ m e => .fin false m e

/-- The signed integer `mant × 2^(exp − base)` of a finite value, for a base not above its exponent. -/
def scaled (neg : Bool) (m : Nat) (e base : Int) : Int :=
  let v : Int := m * 2 ^ (e - base).toNat
  if neg then -v else v

/-- The exact sum, with the zero signs of IEEE 754 under round to nearest (R34). -/
def add : Num → Num → Num
  | .nan, _ => .nan
  | _, .nan => .nan
  | .inf a, .inf b => if a = b then .inf a else .nan
  | .inf a, .fin .. => .inf a
  | .fin .., .inf b => .inf b
  | .fin a m e, .fin b n f =>
    let base := min e f
    let v := scaled a m e base + scaled b n f base
    if v = 0 then .zero (a && b) else .fin (decide (v < 0)) v.natAbs base

/-- The exact product. -/
def mul : Num → Num → Num
  | .nan, _ => .nan
  | _, .nan => .nan
  | .inf a, .inf b => .inf (a != b)
  | .inf a, .fin b n _ => if n = 0 then .nan else .inf (a != b)
  | .fin a m _, .inf b => if m = 0 then .nan else .inf (a != b)
  | .fin a m e, .fin b n f => .fin (a != b) (m * n) (e + f)

/-- The exact difference. -/
def sub (x y : Num) : Num := add x y.neg

/-- The value times 2^k. -/
def scale (x : Num) (k : Int) : Num :=
  match x with
  | .fin s m e => .fin s m (e + k)
  | y => y

/-- Order of two values, zeros equal and infinities at the ends (R56, R57); `none` where either is a NaN. -/
def cmp : Num → Num → Option Ordering
  | .nan, _ => none
  | _, .nan => none
  | .inf a, .inf b => some (if a = b then .eq else if a then .lt else .gt)
  | .inf a, .fin .. => some (if a then .lt else .gt)
  | .fin .., .inf b => some (if b then .gt else .lt)
  | .fin a m e, .fin b n f =>
    let base := min e f
    some (compare (scaled a m e base) (scaled b n f base))

/-- Strictly below; false where either is a NaN. -/
def lt (x y : Num) : Bool := cmp x y == some .lt

/-- Equal as values; false where either is a NaN. -/
def eqv (x y : Num) : Bool := cmp x y == some .eq

end Num

/-! ### Rounding -/

/-- m / 2^k rounded to nearest, ties to even. -/
def rneShift (m k : Nat) : Nat :=
  let q := m >>> k
  let r := m % 2 ^ k
  if 2 * r < 2 ^ k then q else if 2 ^ k < 2 * r then q + 1 else q + q % 2

/-- The integer nearest to mant × 2^e, ties to even (R44). -/
def rneScaled (m : Nat) (e : Int) : Nat :=
  if 0 ≤ e then m <<< e.toNat else rneShift m (-e).toNat

/-- n / d rounded to nearest, ties to even, for d > 0. -/
def rneDiv (n d : Nat) : Nat :=
  let q := n / d
  let r := n % d
  if 2 * r < d then q else if d < 2 * r then q + 1 else q + q % 2

/-! ### Floating-point encodings -/

/-- A floating-point format's parameters (*Floating-point parameters*). -/
structure FloatParams where
  ebits : Nat
  fbits : Nat
  bias : Nat
  hasInf : Bool
deriving DecidableEq, Repr

/-- The parameters of a floating-point format; FP32's for any other. -/
def Fmt.params : Fmt → FloatParams
  | .e4m3 => ⟨4, 3, 7, false⟩ | .e5m2 => ⟨5, 2, 15, true⟩ | .fp16 => ⟨5, 10, 15, true⟩ | .bf16 => ⟨8, 7, 127, true⟩
  | _ => ⟨8, 23, 127, true⟩

/-- The canonical NaN of a format, sign 0 (R33). -/
def Fmt.nanBits : Fmt → Nat
  | .e4m3 => 0x7F | .e5m2 => 0x7E | .fp16 => 0x7E00 | .bf16 => 0x7FC0 | _ => 0x7FC00000

/-- The largest finite encoding of a format, without its sign. -/
def Fmt.maxFinite : Fmt → Nat
  | .e4m3 => 0x7E | .e5m2 => 0x7B | .fp16 => 0x7BFF | .bf16 => 0x7F7F | _ => 0x7F7FFFFF

/-- +∞ of a format that has one. -/
def Fmt.infBits (f : Fmt) : Nat := f.maxFinite + 1

/-- The sign bit of a floating-point format. -/
def Fmt.signBit (f : Fmt) : Nat := 2 ^ (f.width - 1)

/-- The value of floating-point bits; subnormals are honoured (R32). -/
def decodeFloat (f : Fmt) (w : Nat) : Num :=
  let p := f.params
  let neg := w.testBit (f.width - 1)
  let mag := w % f.signBit
  let ex := mag >>> p.fbits
  let fr := mag % 2 ^ p.fbits
  if (if p.hasInf then decide (f.infBits < mag) else mag == f.nanBits) then .nan
  else if p.hasInf && mag == f.infBits then .inf neg
  else if ex = 0 then .fin neg fr (1 - (p.bias + p.fbits : Nat))
  else .fin neg (fr + 2 ^ p.fbits) ((ex : Int) - (p.bias + p.fbits : Nat))

/-- The magnitude bits of mant × 2^e rounded to nearest even, before any overflow is judged. -/
def roundMag (p : FloatParams) (m : Nat) (e : Int) : Nat :=
  let top : Int := (Nat.log2 m : Int) + e
  let q : Int := max top (1 - (p.bias : Int)) - p.fbits
  ((q + p.fbits + p.bias - 1).toNat) * 2 ^ p.fbits + rneScaled m (e - q)

/-- The bits of a value in a floating-point format, rounded to nearest even, and whether a finite value above the largest one was
clamped to it. `saturate` is R48's rule for conversions; without it overflow gives an infinity (R34). E4M3 has no infinity, so
there an infinity becomes ±448, counted (R48), and an arithmetic overflow does the same (DEDUCED: log entry 5). -/
def encodeFloat (f : Fmt) (saturate : Bool) : Num → Nat × Bool
  | .nan => (f.nanBits, false)
  | .inf s => ((if s then f.signBit else 0) + (if f.params.hasInf then f.infBits else f.maxFinite), !f.params.hasInf)
  | .fin s m e =>
    let sg := if s then f.signBit else 0
    if m = 0 then (sg, false)
    else
      let r := roundMag f.params m e
      if r ≤ f.maxFinite then (sg + r, false)
      else if saturate || !f.params.hasInf then (sg + f.maxFinite, true) else (sg + f.infBits, false)

/-- FP32 bits of a value under R34. -/
def toF32 (x : Num) : Nat := (encodeFloat .fp32 false x).1

/-- The value of FP32 bits. -/
def ofF32 (w : Nat) : Num := decodeFloat .fp32 w

/-- FP32 addition (R34). -/
def f32Add (a b : Nat) : Nat := toF32 (.add (ofF32 a) (ofF32 b))

/-- FP32 subtraction (R34). -/
def f32Sub (a b : Nat) : Nat := toF32 (.sub (ofF32 a) (ofF32 b))

/-- FP32 multiplication (R34). -/
def f32Mul (a b : Nat) : Nat := toF32 (.mul (ofF32 a) (ofF32 b))

/-- FP32 fused multiply and add: a × b + c rounded once (R34). -/
def f32Fma (a b c : Nat) : Nat := toF32 (.add (.mul (ofF32 a) (ofF32 b)) (ofF32 c))

/-- Is an FP32 score a NaN? -/
def f32IsNaN (a : Nat) : Bool := (ofF32 a).isNaN

/-- FP32 order, zeros equal, false on a NaN (R56, R57). -/
def f32Lt (a b : Nat) : Bool := Num.lt (ofF32 a) (ofF32 b)

/-- FP32 equality as values (R56). -/
def f32Eq (a b : Nat) : Bool := Num.eqv (ofF32 a) (ofF32 b)

/-- FP32 −∞. -/
def f32NegInf : Nat := 0xFF800000

/-- FP32 +∞. -/
def f32PosInf : Nat := 0x7F800000

/-- FP32 canonical NaN. -/
def f32NaN : Nat := 0x7FC00000

/-- The correctly rounded quotient of two exact values in FP32. -/
def f32Quot (x y : Num) : Nat :=
  match x, y with
  | .nan, _ => f32NaN
  | _, .nan => f32NaN
  | .inf _, .inf _ => f32NaN
  | .inf a, .fin b _ _ => toF32 (.inf (a != b))
  | .fin a _ _, .inf b => toF32 (.zero (a != b))
  | .fin a m e, .fin b n f =>
    if n = 0 then (if m = 0 then f32NaN else toF32 (.inf (a != b)))
    else
      -- 64 guard bits and a sticky bit decide every rounding
      let k := 64 + Nat.log2 n
      let q := (m <<< k) / n
      let sticky := if (m <<< k) % n = 0 then 0 else 1
      if m = 0 then toF32 (.zero (a != b)) else toF32 (.fin (a != b) (2 * q + sticky) (e - f - k - 1))

/-! ### Integers and codes -/

/-- The range of an integer format (*Data formats*), and of stored codes (R39). -/
def Fmt.range (f : Fmt) : Int × Int :=
  (-((2 ^ (f.width - 1) : Nat) : Int), ((2 ^ (f.width - 1) : Nat) : Int) - 1)

/-- What the numeric counters of a descriptor gain (R67). -/
structure Counts where
  sat : Nat
  nan : Nat
deriving DecidableEq, Repr

/-- No events. -/
def Counts.none : Counts := ⟨0, 0⟩

/-- Two gains together. -/
def Counts.plus (a b : Counts) : Counts := ⟨a.sat + b.sat, a.nan + b.nan⟩

/-- One saturation, if it occurred. -/
def Counts.ofSat (b : Bool) : Counts := ⟨if b then 1 else 0, 0⟩

/-- A real value rounded to an integer and clamped: R44–R47 for codes and R728 for integer formats. A NaN gives 0 and counts as a
NaN input; an infinity clamps and counts as a saturation. -/
def toClamped (lo hi : Int) : Num → Int × Counts
  | .nan => (0, ⟨0, 1⟩)
  | .inf s => (if s then lo else hi, ⟨1, 0⟩)
  | .fin s m e =>
    let r : Int := rneScaled m e
    let (v, sat) := clampInt lo hi (if s then -r else r)
    (v, .ofSat sat)

/-- Conversion into an integer format (R728). -/
def toIntFmt (f : Fmt) (x : Num) : Int × Counts := toClamped f.range.1 f.range.2 x

/-- Quantisation into a code format under a scale exponent (R38, R44–R47). -/
def quantise (f : Fmt) (se : Int) (x : Num) : Int × Counts :=
  toClamped (-(f.qmax : Int)) f.qmax (x.scale (-se))

/-- An integer accumulation that saturates in 32 bits (R36). -/
def sat32 (x : Int) : Int × Bool := clampInt (-2147483648) 2147483647 x

/-- Dequantisation into INT16 by a shift of d = SE − SE_ref (R43, R37). -/
def dequantInt (lo hi : Int) (c d : Int) : Int × Bool :=
  if 0 ≤ d then clampInt lo hi (c * 2 ^ d.toNat)
  else
    let r : Int := rneShift c.natAbs (-d).toNat
    clampInt lo hi (if c < 0 then -r else r)

/-- Dequantisation of a code into a floating-point format: exact where it can be, saturating above, rounding below (R41, R42). -/
def dequantFloat (f : Fmt) (c se : Int) : Nat × Bool := encodeFloat f true (.ofCode c se)

/-- The value of an element's raw bits; codes are taken as c × 2^SE (R39, R40). -/
def valueOf (f : Fmt) (se : Int) (raw : Nat) : Num :=
  if f.isFloat then decodeFloat f raw
  else if f.isCode then .ofCode (signed f.width raw) se
  else .ofInt (signed f.width raw)

/-- A value written into a format: conversion (R48, R728) or quantisation under a scale exponent (R44). -/
def writeAs (f : Fmt) (se : Int) (x : Num) : Nat × Counts :=
  if f.isFloat then let (b, s) := encodeFloat f true x; (b, .ofSat s)
  else if f.isCode then let (v, c) := quantise f se x; (unsigned f.width v, c)
  else let (v, c) := toIntFmt f x; (unsigned f.width v, c)

/-- The MIN or MAX of two values: the operand that is no NaN, else the NaN (R59); equal zeros of two signs take the side `pick`
chooses (R60). -/
def numMinMax (isMax pick : Bool) (x y : Num) : Num :=
  match Num.cmp x y with
  | none => if x.isNaN then y else x
  | some .lt => if isMax then y else x
  | some .gt => if isMax then x else y
  | some .eq => if pick then x else y

/-! ### Scale binding words (R49–R54) -/

/-- SRC of a scale binding word: 0 tensor, 1 channel, 2 streamed, 3 reserved. -/
def bindSrc (w : Nat) : Nat := bits w 1 0
/-- AXIS of a scale binding word. -/
def bindAxis (w : Nat) : Nat := bits w 3 2
/-- BLOCK_LOG2 of a scale binding word. -/
def bindBlock (w : Nat) : Nat := bits w 7 4
/-- SE of a scale binding word, signed. -/
def bindSE (w : Nat) : Int := signed 8 (bits w 15 8)
/-- SET of a scale binding word. -/
def bindSet (w : Nat) : Nat := bits w 23 16

/-- R50's cases and the reserved bits: does the word stand? -/
def bindOk (w : Nat) : Bool :=
  bindSrc w != 3 && bindAxis w != 3 &&
  (if bindSrc w = 2 then inRange 4 8 (bindBlock w) else bindBlock w == 0) &&
  (bindSrc w == 0 || bindSE w == 0) && (bindSrc w != 0 || bindSet w == 0) && bits w 31 24 == 0

/-- R51 and R52 for data of `len` elements along AXIS, with a register set of `setLen` entries. -/
def bindFits (w len setLen : Nat) : Bool :=
  match bindSrc w with
  | 1 => len == setLen && inRange 1 4096 setLen
  | 2 => len % 2 ^ bindBlock w == 0
  | _ => true

/-! ### Sums in an order the device chooses (R63–R66) -/

/-- Terms folded in the order that removing element `pick k` at each turn gives: any order can arise. -/
def orderedBy {α : Type} (pick : Nat → Nat) : Nat → List α → List α
  | 0, l => l
  | _, [] => []
  | n + 1, a :: l =>
    let xs := a :: l
    let i := pick n % xs.length
    match xs[i]? with
    | some x => x :: orderedBy pick n (xs.eraseIdx i)
    | none => xs

/-- One association of a list of FP32 terms: neighbours chosen by `pick` are added until one is left. -/
def sumTree (pick : Nat → Nat) : Nat → List Nat → Nat
  | 0, l => l.headD 0
  | _, [] => 0
  | _, [x] => x
  | n + 1, a :: b :: l =>
    let xs := a :: b :: l
    let i := pick n % (xs.length - 1)
    sumTree pick n (xs.take i ++ f32Add (xs.getD i 0) (xs.getD (i + 1) 0) :: xs.drop (i + 2))

/-- The FP32 sum of terms in an order and an association that `pick` chooses (R64): every one of them can arise. -/
def f32SumBy (pick : Nat → Nat) (l : List Nat) : Nat :=
  sumTree (fun i => pick (2 * i + 1)) l.length (orderedBy (fun i => pick (2 * i)) l.length l)

end Sys2Proof.Machine
end

