-- ==== Sys2Proof/Machine/Functions.lean ====
section
/-! DEFINITION. The built-in functions of the vector unit (R121): the special results as stated, and any FP32 result within the stated bound
of the exact value otherwise (log entry 2). Exact values are formed on integers scaled by 2^400. -/

namespace Sys2Proof.Machine

/-! ### Exact values, scaled by 2^400 -/

/-- One. -/
def fxOne : Int := 2 ^ 400

/-- The product of two scaled values. -/
def fxMul (a b : Int) : Int := a * b / fxOne

/-- The quotient of two scaled values. -/
def fxDiv (a b : Int) : Int := a * fxOne / b

/-- The scaled value of finite FP32 bits, exactly. -/
def fxOf (x : Nat) : Int :=
  match ofF32 x with
  | .fin s m e => Num.scaled s m e (-400)
  | _ => 0

/-- The exact value that a scaled integer stands for. -/
def fxNum (y : Int) : Num := .fin (decide (y < 0)) y.natAbs (-400)

/-- ∑ over `fuel` odd indices n of pow × sq^((n − 1)/2) / n: the series of the area tangent, or of the arc tangent for a negative square. -/
def fxOdd : (fuel n : Nat) → (pow sq sum : Int) → Int
  | 0, _, _, _, sum => sum
  | k + 1, n, pow, sq, sum => fxOdd k (n + 2) (fxMul pow sq) sq (sum + pow / n)

/-- ∑ over `fuel` terms of term × r^i / (n (n + 1) …). -/
def fxExpTerms : (fuel n : Nat) → (r term sum : Int) → Int
  | 0, _, _, _, sum => sum
  | k + 1, n, r, term, sum => let t : Int := fxMul term r / n; fxExpTerms k (n + 1) r t (sum + t)

/-- The integer square root by bits, from bit `fuel` down. -/
def natSqrtFrom : (fuel r n : Nat) → Nat
  | 0, r, _ => r
  | k + 1, r, n => let t : Nat := r + 2 ^ k; natSqrtFrom k (if t * t ≤ n then t else r) n

/-- The integer square root. -/
def natSqrt (n : Nat) : Nat := natSqrtFrom (Nat.log2 n / 2 + 1) 0 n

/-- ln 2 = 2 artanh(1/3). -/
def fxLn2 : Int := 2 * fxOdd 130 1 (fxOne / 3) (fxOne / 9) 0

/-- π = 16 arctan(1/5) − 4 arctan(1/239). -/
def fxPi : Int :=
  16 * fxOdd 90 1 (fxOne / 5) (-(fxOne / 25)) 0 - 4 * fxOdd 30 1 (fxOne / 239) (-(fxOne / 57121)) 0

/-- √(2/π). -/
def fxRoot2OverPi : Int := (natSqrt (2 * fxOne * fxOne * fxOne / fxPi).toNat : Nat)

/-- e^x of a scaled value, held to −200 … 200, beyond which FP32 has only 0 and +∞. -/
def fxExp (x : Int) : Int :=
  let x : Int := max (-200 * fxOne) (min (200 * fxOne) x)
  let k : Int := x / fxLn2
  let y : Int := fxExpTerms 90 1 (x - k * fxLn2) fxOne fxOne
  if 0 ≤ k then y * 2 ^ k.toNat else y / 2 ^ (-k).toNat

/-- ln of a positive scaled value. -/
def fxLog (x : Int) : Int :=
  let l : Nat := Nat.log2 x.natAbs
  let m : Int := x * fxOne / 2 ^ l
  let z : Int := fxDiv (m - fxOne) (m + fxOne)
  2 * fxOdd 130 1 z (fxMul z z) 0 + ((l : Int) - 400) * fxLn2

/-- tanh of a scaled value. -/
def fxTanh (x : Int) : Int :=
  let t : Int := fxExp (-2 * (x.natAbs : Int))
  let y : Int := fxDiv (fxOne - t) (fxOne + t)
  if x < 0 then -y else y

/-- The logistic function of a scaled value. -/
def fxSigmoid (x : Int) : Int :=
  let t : Int := fxExp (-(x.natAbs : Int))
  if x < 0 then fxDiv t (fxOne + t) else fxDiv fxOne (fxOne + t)

/-- The terms (−x²/2)^n / n!, each divided by 2n + 1, from term n on. -/
def fxErfTerms : (fuel n : Nat) → (h term sum : Int) → Int
  | 0, _, _, _, sum => sum
  | k + 1, n, h, term, sum =>
    let t : Int := fxMul term h / n
    fxErfTerms k (n + 1) h t (sum + t / (2 * n + 1))

/-- erf(x / √2), ±1 from 14 on, where the difference is below 2^−140. -/
def fxErf (x : Int) : Int :=
  if 14 * fxOne ≤ x then fxOne else if x ≤ -14 * fxOne then -fxOne
  else fxMul (fxMul fxRoot2OverPi x) (fxErfTerms 400 1 (-(fxMul x x) / 2) fxOne fxOne)

/-! ### A result within a bound -/

/-- The scaled spacing of FP32 values at a scaled value. -/
def fxUlp (y : Int) : Int := 2 ^ (max 251 (Nat.log2 y.natAbs - 23))

/-- The FP32 result of a function whose bound is `k` ulp, or `least` (scaled) where that is larger: any value within the bound of the
exact value y (log entry 2), and the nearest one where the device's own lies outside it. +∞ is judged as 2^128. -/
def fnWithin (function arg k : Nat) (least y : Int) : Nat :=
  let w : Nat := Config.fnBits function arg % 2 ^ 32
  let v : Int := if w = f32PosInf then 2 ^ 528 else if w = f32NegInf then -(2 ^ 528) else fxOf w
  if !f32IsNaN w && decide (((v - y).natAbs : Int) ≤ max (k * fxUlp y) least) then w else toF32 (fxNum y)

/-- exp, on FP32 bits: 2 ulp. -/
def fnExp (x : Nat) : Nat :=
  if f32IsNaN x then f32NaN else if x = f32NegInf then 0 else if x = f32PosInf then f32PosInf
  else fnWithin 6 x 2 0 (fxExp (fxOf x))

/-- log: 2 ulp. -/
def fnLog (x : Nat) : Nat :=
  if f32IsNaN x then f32NaN else if f32Eq x 0 then f32NegInf else if f32Lt x 0 then f32NaN else if x = f32PosInf then f32PosInf
  else fnWithin 8 x 2 0 (fxLog (fxOf x))

/-- The reciprocal: 1 ulp. -/
def fnRecip (x : Nat) : Nat :=
  if f32IsNaN x then f32NaN else if x = 0 then f32PosInf else if x = 0x80000000 then f32NegInf
  else if x = f32PosInf || x == f32NegInf then Config.fnBits 10 x
  else fnWithin 10 x 1 0 (fxDiv fxOne (fxOf x))

/-- Reciprocal square root: 1 ulp. -/
def fnRsqrt (x : Nat) : Nat :=
  if f32IsNaN x then f32NaN else if x = 0 then f32PosInf else if f32Lt x 0 then f32NaN
  else if x = f32PosInf || x == 0x80000000 then Config.fnBits 12 x
  else fnWithin 12 x 1 0 (natSqrt (fxOne * fxOne * fxOne / fxOf x).toNat : Nat)

/-- Square root, for which the manual states no bound: zeros and +∞ are themselves, a negative value has none, an exact root is given
exactly, and any other within 1 ulp, as its reciprocal is (DEDUCED: log entry 2). -/
def fnSqrt (x : Nat) : Nat :=
  if f32IsNaN x then f32NaN else if f32Eq x 0 then x else if f32Lt x 0 then f32NaN else if x = f32PosInf then f32PosInf
  else
    let y : Nat := natSqrt (fxOf x * fxOne).toNat
    let r : Int := fxOf (toF32 (fxNum y))
    if r * r = fxOf x * fxOne then toF32 (fxNum y) else fnWithin 16 x 1 0 y

/-- tanh: 3 ulp. -/
def fnTanh (x : Nat) : Nat :=
  if f32IsNaN x then f32NaN else if x = f32PosInf then 0x3F800000 else if x = f32NegInf then 0xBF800000
  else fnWithin 4 x 3 0 (fxTanh (fxOf x))

/-- sigmoid: 3 ulp. -/
def fnSigmoid (x : Nat) : Nat :=
  if f32IsNaN x then f32NaN else if x = f32PosInf then 0x3F800000 else if x = f32NegInf then 0
  else fnWithin 5 x 3 0 (fxSigmoid (fxOf x))

/-- The argument of the tanh form of GELU: √(2/π) (x + 0.044715 x³), with x held to ±2^20, where the form is x or 0 already. -/
def fxGeluArg (x : Int) : Int :=
  let x : Int := max (-(2 ^ 420)) (min (2 ^ 420) x)
  fxMul fxRoot2OverPi (x + 44715 * fxMul x (fxMul x x) / 1000000)

/-- GELU in its two forms and SiLU (functions 1, 2 and 3): 4 ulp or 2^−22. Special results are stated for GELU only. -/
def fnGelu (k x : Nat) : Nat :=
  let v : Int := fxOf x
  if f32IsNaN x then f32NaN
  else if x == f32NegInf || x == f32PosInf then
    if k = 3 then Config.fnBits k x else if x = f32NegInf then 0x80000000 else f32PosInf
  else
    let y : Int :=
      if k = 1 then fxMul v (fxOne + fxErf v) / 2
      else if k = 2 then fxMul v (fxOne + fxTanh (fxGeluArg v)) / 2
      else fxMul v (fxSigmoid v)
    fnWithin k x 4 (2 ^ 378) y

/-- ReLU: the value, or +0 where it is not above 0; a NaN stays one (R33). -/
def fnRelu (x : Nat) : Nat := if f32IsNaN x then f32NaN else if f32Lt 0 x then x else 0

/-- The closed-range table function of a plan: 256 segments of four FP32 coefficients, lowest power first, by Horner's rule (R121),
each step a multiplication and an addition that round by themselves (DESIGN CHOICE, log entry 110).
The segment number is the place of the input in the range, held to 0–255. -/
def fnTable (table x : Nat) : Nat :=
  if f32IsNaN x then f32NaN else
    let lo := byteField table 0 4
    let hi := byteField table 4 4
    let seg :=
      if f32Lt x lo then 0 else if f32Lt hi x then 255
      else match Num.sub (ofF32 x) (ofF32 lo), Num.sub (ofF32 hi) (ofF32 lo) with
        | .fin _ m e, .fin _ n f =>
          let base := min e f
          let a := (Num.scaled false m e base).toNat
          let b := (Num.scaled false n f base).toNat
          if b = 0 then 0 else min (256 * a / b) 255
        | _, _ => 0
    let k (i : Nat) : Nat := byteField table (8 + 16 * seg + 4 * i) 4
    f32Add (f32Mul (f32Add (f32Mul (f32Add (f32Mul (k 3) x) (k 2)) x) (k 1)) x) (k 0)

/-- The cosine (0) and sine (1) of the rotary angle position × θ^(−2i/dims) (ROPE). -/
def fnRotary (part pos i dims theta : Nat) : Nat := Config.fnBits (13 + part) (ofElems 4 [pos, i, dims, theta])

/-- The absolute value of FP32 bits. -/
def f32Abs (x : Nat) : Nat := x % 2 ^ 31

/-- The larger of two FP32 values, the other where one is a NaN; equal zeros keep the first. -/
def f32Max (x y : Nat) : Nat := if f32IsNaN x then y else if f32IsNaN y then x else if f32Lt x y then y else x

/-- An integer as FP32. -/
def f32OfInt (x : Int) : Nat := toF32 (.ofInt x)

end Sys2Proof.Machine
end

