-- ==== Sys2Proof/Machine/Panels.lean ====
section
/-! DEFINITION. The blockings of panels: where each element of a tensor stands in a panel, and what pads it (R462, R463). -/

namespace Sys2Proof.Machine

/-- The elements of a panel block by block, by flat number, none where a place is padding (*Panel blockings*): `k` elements are one pass along K, `d0` the
innermost dimension, `rows` all others together. -/
def panelLayout (blocking width k d0 rows : Nat) : List (List (Option Nat)) :=
  let place (r e : Nat) : Option Nat := if e < d0 ∧ r < rows then some (r * d0 + e) else none
  let line (r n : Nat) : List (Option Nat) := (List.range n).map (place r)
  let blocks (k : Nat) : List (List (Option Nat)) :=
    ((List.range (ceilDiv rows 32)).map fun g => (List.range (ceilDiv d0 k)).map fun b =>
      ((List.range 32).map fun r => (List.range k).map fun e => place (32 * g + r) (k * b + e)).flatten).flatten
  match blocking with
  | 1 => (List.range rows).map fun r => line r (ceilDiv (d0 * width) 512 * 512 / max width 1)
  | 2 | 3 => blocks k
  | 4 => blocks 32
  | 5 => (List.range rows).map fun r => line r 4
  | _ => [(List.range (d0 * rows)).map some]

/-- The metadata nibbles that stand behind the kept values of each block of MAT_SP: 16 for each of 32 outputs; none in other blockings. -/
def metaLayout (blocking d0 rows : Nat) : List (List (Option Nat)) :=
  if blocking != 4 then []
  else ((List.range (ceilDiv rows 32)).map fun g => (List.range (ceilDiv d0 32)).map fun b =>
    ((List.range 32).map fun r => (List.range 16).map fun j =>
      if 32 * g + r < rows ∧ 16 * b + j < d0 / 2 then some ((32 * g + r) * (d0 / 2) + 16 * b + j) else none).flatten).flatten

/-- A panel filled from a tensor's elements: an edge that does not fill a block is padded with +0 (R463). -/
def fillPanel (layout : List (List (Option Nat))) (elems : List Nat) : List (List Nat) :=
  layout.map fun b => b.map fun p => match p with
    | some i => nth elems i
    | none => 0

/-- The `n` elements of a tensor that a panel holds: those that lie inside the tensor (R463). -/
def takePanel (layout : List (List (Option Nat))) (blocks : List (List Nat)) (n : Nat) : List Nat :=
  let l := layout.flatten.zip blocks.flatten
  (List.range n).map fun i => ((l.find? fun p => p.1 == some i).map (·.2)).getD 0

/-- Bits that a panel of a layout takes. -/
def layoutBits (layout : List (List (Option Nat))) (width : Nat) : Nat := (layout.map List.length).foldl (· + ·) 0 * width

end Sys2Proof.Machine
end

