-- ==== Sys2Proof/Machine/Entries.lean ====
section
/-! DEFINITION. The object dictionary's entries: type, access right, default and range of each (R74, R75, R77), from the dictionary tables of every chapter. -/

namespace Sys2Proof.Machine

/-- How an entry's bytes are laid out (R75). -/
inductive EntryKind where
  | bool | num | oct | arr (element : Nat) | str | domain
deriving DecidableEq, Repr

/-- The access rights of *Access rights* (R77); `rwKept` is RW marked as kept (R80, R700). -/
inductive Access where
  | const | ro | rw | rwKept | rwc | wo
deriving DecidableEq, Repr

/-- The range of a single written value: any, a span, or the check of its field map (R730), which `fieldOk` makes. -/
inductive Range where
  | any | span (lo hi : Nat) | field
deriving DecidableEq, Repr

/-- One row of a dictionary table, for a span of indices and of subindices. `size` is the entry's length in bytes, 0 for a DOMAIN, and of a STR the length of its default. -/
structure EntryRow where
  lo : Nat
  hi : Nat
  subLo : Nat
  subHi : Nat
  kind : EntryKind
  size : Nat
  access : Access
  dflt : Nat
  range : Range
deriving DecidableEq, Repr

/-- Entries 0x1000–0x10FF of the dictionary tables (R81). -/
def entriesIdentity : List EntryRow := [
  ⟨0x1000, 0x1000, 0x00, 0x00, .num, 1, .const, 5, .any⟩,
  ⟨0x1000, 0x1000, 0x01, 0x01, .num, 2, .const, 8044, .any⟩,
  ⟨0x1000, 0x1000, 0x02, 0x02, .num, 2, .const, 29312, .any⟩,
  ⟨0x1000, 0x1000, 0x03, 0x03, .str, 2, .const, 0x3142, .any⟩,
  ⟨0x1000, 0x1000, 0x04, 0x04, .oct, 16, .const, 0, .any⟩,
  ⟨0x1000, 0x1000, 0x05, 0x05, .str, 0, .const, 0, .any⟩,
  ⟨0x1003, 0x1003, 0x00, 0x00, .arr 2, 12, .ro, 0, .any⟩,
  ⟨0x1008, 0x1008, 0x00, 0x00, .num, 1, .const, 5, .any⟩,
  ⟨0x1008, 0x1008, 0x01, 0x01, .num, 1, .ro, 0, .any⟩,
  ⟨0x1008, 0x1008, 0x02, 0x02, .num, 1, .ro, 0, .any⟩,
  ⟨0x1008, 0x1008, 0x03, 0x03, .num, 1, .ro, 0, .any⟩,
  ⟨0x1008, 0x1008, 0x04, 0x04, .num, 2, .ro, 0, .any⟩,
  ⟨0x1008, 0x1008, 0x05, 0x05, .num, 2, .const, 600, .any⟩,
  ⟨0x1010, 0x1010, 0x00, 0x00, .num, 1, .ro, 0, .any⟩,
  ⟨0x1011, 0x1011, 0x00, 0x00, .arr 4, 28, .ro, 0, .any⟩,
  ⟨0x1001, 0x1001, 0x00, 0x00, .num, 2, .const, 768, .any⟩,
  ⟨0x1002, 0x1002, 0x00, 0x00, .domain, 0, .ro, 0, .any⟩]

/-- Entries 0x1100–0x11FF of the dictionary tables (R81). -/
def entriesPorts : List EntryRow := [
  ⟨0x1100, 0x1100, 0x00, 0x00, .num, 1, .const, 2, .any⟩,
  ⟨0x1101, 0x1105, 0x00, 0x00, .num, 1, .const, 2, .any⟩,
  ⟨0x1101, 0x1101, 0x01, 0x02, .num, 1, .ro, 0, .any⟩,
  ⟨0x1102, 0x1102, 0x01, 0x02, .num, 1, .ro, 0, .any⟩,
  ⟨0x1103, 0x1103, 0x01, 0x02, .num, 1, .ro, 0, .any⟩,
  ⟨0x1104, 0x1104, 0x01, 0x02, .num, 1, .rwc, 0, .span 0 1⟩,
  ⟨0x1105, 0x1105, 0x01, 0x02, .num, 1, .ro, 0, .any⟩,
  ⟨0x1110, 0x1110, 0x00, 0x00, .num, 1, .const, 1, .any⟩,
  ⟨0x1110, 0x1110, 0x01, 0x01, .oct, 6, .const, 0, .any⟩,
  ⟨0x1111, 0x1111, 0x00, 0x00, .num, 1, .const, 2, .any⟩,
  ⟨0x1111, 0x1111, 0x01, 0x01, .num, 1, .rwc, 255, .any⟩,
  ⟨0x1111, 0x1111, 0x02, 0x02, .num, 1, .rwc, 8, .span 1 255⟩,
  ⟨0x1112, 0x1112, 0x00, 0x00, .num, 2, .rwc, 49320, .span 1024 65535⟩,
  ⟨0x1113, 0x1113, 0x00, 0x00, .num, 1, .ro, 0, .any⟩,
  ⟨0x1120, 0x1123, 0x00, 0x00, .num, 1, .const, 63, .any⟩,
  ⟨0x1120, 0x1121, 0x01, 0x3F, .num, 1, .rwc, 0, .any⟩,
  ⟨0x1122, 0x1123, 0x01, 0x3F, .num, 1, .ro, 0, .any⟩,
  ⟨0x1130, 0x1130, 0x00, 0x00, .num, 1, .const, 7, .any⟩,
  ⟨0x1130, 0x1130, 0x01, 0x01, .arr 8, 16, .ro, 0, .any⟩,
  ⟨0x1130, 0x1130, 0x02, 0x02, .arr 8, 16, .ro, 0, .any⟩,
  ⟨0x1130, 0x1130, 0x03, 0x03, .arr 8, 16, .ro, 0, .any⟩,
  ⟨0x1130, 0x1130, 0x04, 0x04, .arr 8, 16, .ro, 0, .any⟩,
  ⟨0x1130, 0x1130, 0x05, 0x05, .arr 8, 16, .ro, 0, .any⟩,
  ⟨0x1130, 0x1130, 0x06, 0x06, .arr 8, 16, .ro, 0, .any⟩,
  ⟨0x1130, 0x1130, 0x07, 0x07, .arr 8, 16, .ro, 0, .any⟩,
  ⟨0x1140, 0x1140, 0x00, 0x00, .num, 1, .const, 2, .any⟩,
  ⟨0x1140, 0x1140, 0x01, 0x01, .num, 1, .rwc, 1, .span 0 2⟩,
  ⟨0x1140, 0x1140, 0x02, 0x02, .num, 1, .rwc, 0, .span 0 2⟩]

/-- Entries 0x1800–0x18FF of the dictionary tables (R81). -/
def entriesGenerations : List EntryRow := [
  ⟨0x1800, 0x1800, 0x00, 0x00, .num, 1, .rw, 0, .any⟩,
  ⟨0x1801, 0x1801, 0x00, 0x00, .num, 4, .ro, 1, .any⟩,
  ⟨0x1802, 0x1802, 0x00, 0x00, .num, 2, .ro, 0, .any⟩,
  ⟨0x1803, 0x1803, 0x00, 0x00, .num, 8, .ro, 0, .any⟩,
  ⟨0x1804, 0x1804, 0x00, 0x00, .bool, 1, .wo, 0, .any⟩,
  ⟨0x1805, 0x1805, 0x00, 0x00, .bool, 1, .rw, 0, .any⟩,
  ⟨0x1806, 0x1806, 0x00, 0x00, .num, 4, .wo, 0, .any⟩,
  ⟨0x1810, 0x1810, 0x00, 0x00, .num, 4, .wo, 0, .any⟩,
  ⟨0x1811, 0x1811, 0x00, 0x00, .num, 1, .ro, 0, .any⟩,
  ⟨0x1812, 0x1812, 0x00, 0x00, .num, 1, .const, 4, .any⟩,
  ⟨0x1812, 0x1812, 0x01, 0x01, .num, 2, .ro, 0, .any⟩,
  ⟨0x1812, 0x1812, 0x02, 0x02, .num, 4, .ro, 0, .any⟩,
  ⟨0x1812, 0x1812, 0x03, 0x03, .num, 4, .ro, 0, .any⟩,
  ⟨0x1812, 0x1812, 0x04, 0x04, .num, 4, .ro, 0, .any⟩,
  ⟨0x1820, 0x1820, 0x00, 0x00, .num, 1, .const, 255, .any⟩,
  ⟨0x1820, 0x1820, 0x01, 0xFF, .num, 4, .ro, 1, .any⟩]

/-- Entries 0x2000–0x23FF of the dictionary tables (R81). -/
def entriesTiles : List EntryRow := [
  ⟨0x2000, 0x2000, 0x00, 0x00, .num, 2, .const, 576, .any⟩,
  ⟨0x2001, 0x2001, 0x00, 0x00, .arr 1, 576, .ro, 0, .any⟩,
  ⟨0x2002, 0x2002, 0x00, 0x00, .num, 2, .wo, 0, .span 0 575⟩,
  ⟨0x2003, 0x2003, 0x00, 0x00, .num, 1, .const, 2, .any⟩,
  ⟨0x2003, 0x2003, 0x01, 0x01, .num, 1, .rwc, 1, .span 1 255⟩,
  ⟨0x2003, 0x2003, 0x02, 0x02, .num, 2, .rwc, 1000, .any⟩,
  ⟨0x2010, 0x2010, 0x00, 0x00, .num, 1, .const, 36, .any⟩,
  ⟨0x2010, 0x2010, 0x01, 0x24, .num, 2, .rwc, 1050, .field⟩,
  ⟨0x2011, 0x2011, 0x00, 0x00, .num, 1, .const, 36, .any⟩,
  ⟨0x2011, 0x2011, 0x01, 0x24, .num, 2, .ro, 0, .any⟩,
  ⟨0x2012, 0x2012, 0x00, 0x00, .num, 1, .const, 2, .any⟩,
  ⟨0x2012, 0x2012, 0x01, 0x01, .num, 2, .rwc, 1200, .span 260 1400⟩,
  ⟨0x2012, 0x2012, 0x02, 0x02, .num, 1, .rwc, 95, .span 70 100⟩,
  ⟨0x2013, 0x2013, 0x00, 0x00, .num, 8, .ro, 0, .any⟩,
  ⟨0x2020, 0x2020, 0x00, 0x00, .num, 1, .const, 8, .any⟩,
  ⟨0x2020, 0x2020, 0x01, 0x01, .num, 2, .rw, 0, .span 0 575⟩,
  ⟨0x2020, 0x2020, 0x02, 0x02, .num, 1, .ro, 0, .any⟩,
  ⟨0x2020, 0x2020, 0x03, 0x03, .num, 1, .ro, 0, .any⟩,
  ⟨0x2020, 0x2020, 0x04, 0x04, .num, 8, .ro, 0, .any⟩,
  ⟨0x2020, 0x2020, 0x05, 0x05, .num, 4, .ro, 0, .any⟩,
  ⟨0x2020, 0x2020, 0x06, 0x06, .num, 4, .ro, 0, .any⟩,
  ⟨0x2020, 0x2020, 0x07, 0x07, .num, 4, .ro, 0, .any⟩,
  ⟨0x2020, 0x2020, 0x08, 0x08, .arr 8, 512, .ro, 0, .any⟩,
  ⟨0x2021, 0x2021, 0x00, 0x00, .arr 1, 1104, .ro, 0, .any⟩,
  ⟨0x2014, 0x2014, 0x00, 0x00, .num, 1, .const, 2, .any⟩,
  ⟨0x2014, 0x2014, 0x01, 0x01, .num, 1, .rwc, 0, .span 0 50⟩,
  ⟨0x2014, 0x2014, 0x02, 0x02, .num, 1, .rwc, 32, .span 30 33⟩,
  ⟨0x23F0, 0x23F0, 0x00, 0x00, .num, 1, .const, 6, .any⟩,
  ⟨0x23F0, 0x23F0, 0x01, 0x01, .num, 2, .rw, 0, .any⟩,
  ⟨0x23F0, 0x23F0, 0x02, 0x02, .num, 2, .rw, 0, .span 0 4095⟩,
  ⟨0x23F0, 0x23F0, 0x03, 0x03, .num, 8, .ro, 0, .any⟩,
  ⟨0x23F0, 0x23F0, 0x04, 0x04, .num, 8, .ro, 0, .any⟩,
  ⟨0x23F0, 0x23F0, 0x05, 0x05, .bool, 1, .wo, 0, .any⟩,
  ⟨0x23F0, 0x23F0, 0x06, 0x06, .num, 8, .ro, 0, .any⟩]

/-- Entries 0x2400–0x27FF of the dictionary tables (R81), part 1. -/
def entriesStacks1 : List EntryRow := [
  ⟨0x2400, 0x2400, 0x00, 0x00, .num, 1, .const, 32, .any⟩,
  ⟨0x2401, 0x2401, 0x00, 0x00, .arr 1, 32, .ro, 0, .any⟩,
  ⟨0x2402, 0x2402, 0x00, 0x00, .num, 2, .const, 24576, .any⟩,
  ⟨0x2405, 0x2409, 0x00, 0x00, .num, 1, .const, 32, .any⟩,
  ⟨0x2410, 0x2410, 0x00, 0x00, .num, 1, .const, 32, .any⟩,
  ⟨0x2411, 0x2411, 0x00, 0x00, .num, 1, .const, 32, .any⟩,
  ⟨0x2405, 0x2405, 0x01, 0x20, .num, 1, .rwc, 0, .span 0 1⟩,
  ⟨0x2406, 0x2406, 0x01, 0x20, .num, 1, .rwc, 9, .span 6 14⟩,
  ⟨0x2407, 0x2407, 0x01, 0x20, .num, 2, .rwc, 1000, .span 250 16000⟩,
  ⟨0x2408, 0x2408, 0x01, 0x20, .num, 1, .rwc, 16, .span 1 32⟩,
  ⟨0x2409, 0x2409, 0x01, 0x20, .num, 2, .rwc, 40, .span 20 1000⟩,
  ⟨0x240A, 0x240A, 0x00, 0x00, .num, 4, .rwc, 2000, .span 0 100000⟩,
  ⟨0x240B, 0x240B, 0x00, 0x00, .num, 4, .rwc, 4000, .span 0 100000⟩,
  ⟨0x2410, 0x2410, 0x01, 0x20, .num, 4, .ro, 0, .any⟩,
  ⟨0x2411, 0x2411, 0x01, 0x20, .num, 8, .ro, 0, .any⟩,
  ⟨0x2420, 0x243F, 0x00, 0x00, .num, 1, .const, 16, .any⟩,
  ⟨0x2420, 0x243F, 0x01, 0x01, .num, 8, .rwc, 0x30001, .field⟩,
  ⟨0x2420, 0x243F, 0x02, 0x10, .num, 8, .rwc, 0, .field⟩,
  ⟨0x2440, 0x2440, 0x00, 0x00, .num, 2, .rw, 0, .span 0 24575⟩,
  ⟨0x2441, 0x2441, 0x00, 0x00, .num, 1, .const, 7, .any⟩,
  ⟨0x2441, 0x2441, 0x01, 0x01, .num, 1, .ro, 0, .any⟩,
  ⟨0x2441, 0x2441, 0x02, 0x02, .num, 8, .ro, 0, .any⟩,
  ⟨0x2441, 0x2441, 0x03, 0x03, .num, 8, .ro, 0, .any⟩,
  ⟨0x2441, 0x2441, 0x04, 0x04, .num, 8, .ro, 0, .any⟩,
  ⟨0x2441, 0x2441, 0x05, 0x05, .num, 8, .ro, 0, .any⟩,
  ⟨0x2441, 0x2441, 0x06, 0x06, .num, 4, .ro, 0, .any⟩,
  ⟨0x2441, 0x2441, 0x07, 0x07, .num, 4, .ro, 0, .any⟩,
  ⟨0x2460, 0x2460, 0x00, 0x00, .num, 1, .const, 32, .any⟩,
  ⟨0x2460, 0x2460, 0x01, 0x20, .arr 2, 192, .rwc, 0, .field⟩,
  ⟨0x2461, 0x2461, 0x00, 0x00, .num, 1, .const, 2, .any⟩,
  ⟨0x2461, 0x2461, 0x01, 0x01, .num, 1, .rwc, 25, .span 10 90⟩,
  ⟨0x2461, 0x2461, 0x02, 0x02, .num, 2, .rwc, 100, .span 0 10000⟩,
  ⟨0x2462, 0x2462, 0x00, 0x00, .num, 1, .const, 8, .any⟩,
  ⟨0x2462, 0x2462, 0x01, 0x01, .num, 2, .ro, 0, .any⟩,
  ⟨0x2462, 0x2462, 0x02, 0x02, .num, 8, .ro, 0, .any⟩,
  ⟨0x2462, 0x2462, 0x03, 0x03, .num, 8, .ro, 0, .any⟩,
  ⟨0x2462, 0x2462, 0x04, 0x04, .num, 8, .ro, 0, .any⟩,
  ⟨0x2462, 0x2462, 0x05, 0x05, .num, 8, .ro, 0, .any⟩,
  ⟨0x2462, 0x2462, 0x06, 0x06, .num, 8, .ro, 0, .any⟩,
  ⟨0x2462, 0x2462, 0x07, 0x07, .num, 8, .ro, 0, .any⟩]

/-- Entries 0x2400–0x27FF of the dictionary tables (R81), part 2. -/
def entriesStacks2 : List EntryRow := [
  ⟨0x2462, 0x2462, 0x08, 0x08, .bool, 1, .wo, 0, .any⟩]

/-- All entries 0x2400–0x27FF. -/
def entriesStacks : List EntryRow := entriesStacks1 ++ entriesStacks2

/-- Entries 0x2800–0x29FF of the dictionary tables (R81), part 1. -/
def entriesFlash1 : List EntryRow := [
  ⟨0x2800, 0x2800, 0x00, 0x00, .num, 1, .const, 64, .any⟩,
  ⟨0x2801, 0x2801, 0x00, 0x00, .arr 1, 64, .ro, 0, .any⟩,
  ⟨0x2802, 0x2802, 0x00, 0x00, .arr 1, 2048, .ro, 0, .any⟩,
  ⟨0x2810, 0x2810, 0x00, 0x00, .num, 1, .const, 16, .any⟩,
  ⟨0x2810, 0x2810, 0x01, 0x10, .num, 1, .rwc, 0, .span 0 15⟩,
  ⟨0x2820, 0x282F, 0x00, 0x00, .oct, 64, .rwc, 0, .field⟩,
  ⟨0x2830, 0x2830, 0x00, 0x00, .num, 1, .const, 16, .any⟩,
  ⟨0x2830, 0x2830, 0x01, 0x10, .num, 4, .ro, 0, .any⟩,
  ⟨0x2832, 0x2832, 0x00, 0x00, .num, 1, .rw, 0, .span 0 15⟩,
  ⟨0x2833, 0x2833, 0x00, 0x00, .num, 1, .const, 7, .any⟩,
  ⟨0x2833, 0x2833, 0x01, 0x01, .num, 4, .ro, 0, .any⟩,
  ⟨0x2833, 0x2833, 0x02, 0x02, .num, 4, .ro, 0, .any⟩,
  ⟨0x2833, 0x2833, 0x03, 0x03, .num, 4, .ro, 0, .any⟩,
  ⟨0x2833, 0x2833, 0x04, 0x04, .num, 4, .ro, 0, .any⟩,
  ⟨0x2833, 0x2833, 0x05, 0x05, .num, 4, .ro, 0, .any⟩,
  ⟨0x2833, 0x2833, 0x06, 0x06, .num, 4, .ro, 0, .any⟩,
  ⟨0x2833, 0x2833, 0x07, 0x07, .num, 4, .ro, 0, .any⟩,
  ⟨0x2840, 0x2840, 0x00, 0x00, .num, 1, .const, 7, .any⟩,
  ⟨0x2840, 0x2840, 0x01, 0x01, .num, 1, .ro, 0, .any⟩,
  ⟨0x2840, 0x2840, 0x02, 0x02, .num, 1, .ro, 0, .any⟩,
  ⟨0x2840, 0x2840, 0x03, 0x03, .num, 1, .ro, 0, .any⟩,
  ⟨0x2840, 0x2840, 0x04, 0x04, .num, 4, .ro, 0, .any⟩,
  ⟨0x2840, 0x2840, 0x05, 0x05, .num, 4, .ro, 0, .any⟩,
  ⟨0x2840, 0x2840, 0x06, 0x06, .bool, 1, .wo, 0, .any⟩,
  ⟨0x2840, 0x2840, 0x07, 0x07, .num, 2, .rwc, 200, .span 20 5000⟩,
  ⟨0x2850, 0x2850, 0x00, 0x00, .num, 1, .const, 7, .any⟩,
  ⟨0x2850, 0x2850, 0x01, 0x01, .num, 1, .rwc, 3, .span 2 20⟩,
  ⟨0x2850, 0x2850, 0x02, 0x02, .num, 1, .rwc, 1, .field⟩,
  ⟨0x2850, 0x2850, 0x03, 0x03, .num, 2, .rwc, 400, .span 50 5000⟩,
  ⟨0x2850, 0x2850, 0x04, 0x04, .num, 8, .ro, 0, .any⟩,
  ⟨0x2850, 0x2850, 0x05, 0x05, .num, 8, .ro, 0, .any⟩,
  ⟨0x2850, 0x2850, 0x06, 0x06, .num, 8, .ro, 0, .any⟩,
  ⟨0x2850, 0x2850, 0x07, 0x07, .num, 8, .ro, 0, .any⟩,
  ⟨0x2860, 0x2860, 0x00, 0x00, .num, 1, .const, 8, .any⟩,
  ⟨0x2860, 0x2860, 0x01, 0x01, .num, 1, .rwc, 50, .span 1 100⟩,
  ⟨0x2860, 0x2860, 0x02, 0x02, .num, 1, .rwc, 25, .span 1 100⟩,
  ⟨0x2860, 0x2860, 0x03, 0x03, .num, 1, .rwc, 80, .span 1 100⟩,
  ⟨0x2860, 0x2860, 0x04, 0x04, .num, 1, .rwc, 100, .span 1 100⟩,
  ⟨0x2860, 0x2860, 0x05, 0x05, .num, 1, .rwc, 50, .span 1 100⟩,
  ⟨0x2860, 0x2860, 0x06, 0x06, .num, 1, .rwc, 75, .span 1 100⟩]

/-- Entries 0x2800–0x29FF of the dictionary tables (R81), part 2. -/
def entriesFlash2 : List EntryRow := [
  ⟨0x2860, 0x2860, 0x07, 0x07, .num, 2, .rwc, 10, .span 1 10000⟩,
  ⟨0x2860, 0x2860, 0x08, 0x08, .num, 2, .rwc, 100, .span 1 10000⟩,
  ⟨0x2880, 0x28BF, 0x00, 0x00, .num, 1, .const, 8, .any⟩,
  ⟨0x2880, 0x28BF, 0x01, 0x01, .oct, 32, .rwc, 0, .field⟩,
  ⟨0x2880, 0x28BF, 0x02, 0x02, .num, 1, .ro, 0, .any⟩,
  ⟨0x2880, 0x28BF, 0x03, 0x03, .num, 8, .ro, 0, .any⟩,
  ⟨0x2880, 0x28BF, 0x04, 0x04, .num, 8, .ro, 0, .any⟩,
  ⟨0x2880, 0x28BF, 0x05, 0x05, .num, 8, .ro, 0, .any⟩,
  ⟨0x2880, 0x28BF, 0x06, 0x06, .num, 8, .ro, 0, .any⟩,
  ⟨0x2880, 0x28BF, 0x07, 0x07, .num, 8, .ro, 0, .any⟩,
  ⟨0x2880, 0x28BF, 0x08, 0x08, .num, 8, .ro, 0, .any⟩]

/-- All entries 0x2800–0x29FF. -/
def entriesFlash : List EntryRow := entriesFlash1 ++ entriesFlash2

/-- Entries 0x2A00–0x2BFF of the dictionary tables (R81), part 1. -/
def entriesFabric1 : List EntryRow := [
  ⟨0x2B80, 0x2B80, 0x00, 0x00, .num, 1, .const, 8, .any⟩,
  ⟨0x2B80, 0x2B80, 0x01, 0x01, .num, 1, .rwc, 0, .span 0 50⟩,
  ⟨0x2B80, 0x2B80, 0x02, 0x02, .num, 2, .rwc, 64, .span 0 3072⟩,
  ⟨0x2B80, 0x2B80, 0x03, 0x03, .num, 2, .rwc, 500, .span 50 10000⟩,
  ⟨0x2B80, 0x2B80, 0x04, 0x04, .num, 2, .ro, 0, .any⟩,
  ⟨0x2B80, 0x2B80, 0x05, 0x05, .num, 2, .wo, 0, .span 1 3072⟩,
  ⟨0x2B80, 0x2B80, 0x06, 0x06, .num, 8, .ro, 0, .any⟩,
  ⟨0x2B80, 0x2B80, 0x07, 0x07, .num, 8, .ro, 0, .any⟩,
  ⟨0x2B80, 0x2B80, 0x08, 0x08, .num, 2, .ro, 1, .any⟩,
  ⟨0x2B81, 0x2B81, 0x00, 0x00, .domain, 0, .ro, 0, .any⟩,
  ⟨0x2B82, 0x2B82, 0x00, 0x00, .arr 4, 12288, .ro, (2 ^ 98304 - 1), .any⟩,
  ⟨0x2A00, 0x2A00, 0x00, 0x00, .num, 1, .const, 8, .any⟩,
  ⟨0x2A01, 0x2A01, 0x00, 0x00, .arr 1, 32, .ro, 0, .any⟩,
  ⟨0x2A02, 0x2A02, 0x00, 0x00, .arr 1, 32, .ro, 0, .any⟩,
  ⟨0x2A10, 0x2A17, 0x00, 0x00, .num, 1, .const, 8, .any⟩,
  ⟨0x2A10, 0x2A17, 0x01, 0x01, .num, 1, .rwc, 0, .span 0 2⟩,
  ⟨0x2A10, 0x2A17, 0x02, 0x02, .bool, 1, .rwc, 0, .any⟩,
  ⟨0x2A10, 0x2A17, 0x03, 0x03, .num, 1, .rwc, 35, .field⟩,
  ⟨0x2A10, 0x2A17, 0x04, 0x04, .bool, 1, .rwc, 0, .any⟩,
  ⟨0x2A10, 0x2A17, 0x05, 0x05, .arr 8, 32, .ro, 0, .any⟩,
  ⟨0x2A10, 0x2A17, 0x06, 0x06, .arr 8, 32, .ro, 0, .any⟩,
  ⟨0x2A10, 0x2A17, 0x07, 0x07, .arr 8, 32, .ro, 0, .any⟩,
  ⟨0x2A10, 0x2A17, 0x08, 0x08, .arr 8, 32, .ro, 0, .any⟩,
  ⟨0x2A20, 0x2A20, 0x00, 0x00, .num, 1, .const, 18, .any⟩,
  ⟨0x2A20, 0x2A20, 0x01, 0x01, .num, 2, .rwc, 49321, .span 1024 65535⟩,
  ⟨0x2A20, 0x2A20, 0x02, 0x02, .arr 1, 8, .rwc, 46, .field⟩,
  ⟨0x2A20, 0x2A20, 0x03, 0x12, .oct, 16, .rwc, 0, .any⟩,
  ⟨0x2A30, 0x2A30, 0x00, 0x00, .num, 1, .const, 5, .any⟩,
  ⟨0x2A30, 0x2A30, 0x01, 0x01, .num, 2, .ro, 0, .any⟩,
  ⟨0x2A30, 0x2A30, 0x02, 0x02, .num, 1, .ro, 0, .any⟩,
  ⟨0x2A30, 0x2A30, 0x03, 0x03, .num, 4, .ro, 0, .any⟩,
  ⟨0x2A30, 0x2A30, 0x04, 0x04, .num, 1, .ro, 0, .any⟩,
  ⟨0x2A30, 0x2A30, 0x05, 0x05, .num, 4, .ro, 0, .any⟩,
  ⟨0x2A40, 0x2A40, 0x00, 0x00, .num, 1, .const, 4, .any⟩,
  ⟨0x2A40, 0x2A40, 0x01, 0x01, .num, 2, .ro, 0, .any⟩,
  ⟨0x2A40, 0x2A40, 0x02, 0x02, .bool, 1, .ro, 0, .any⟩,
  ⟨0x2A40, 0x2A40, 0x03, 0x03, .num, 4, .ro, 0, .any⟩,
  ⟨0x2A40, 0x2A40, 0x04, 0x04, .num, 8, .ro, 0, .any⟩,
  ⟨0x2A50, 0x2A50, 0x00, 0x00, .num, 1, .const, 6, .any⟩,
  ⟨0x2A50, 0x2A50, 0x01, 0x01, .num, 2, .rwc, 50, .span 0 10000⟩]

/-- Entries 0x2A00–0x2BFF of the dictionary tables (R81), part 2. -/
def entriesFabric2 : List EntryRow := [
  ⟨0x2A50, 0x2A50, 0x02, 0x02, .num, 4, .rwc, 5000, .span 100 1000000⟩,
  ⟨0x2A50, 0x2A50, 0x03, 0x03, .num, 2, .rwc, 100, .span 10 10000⟩,
  ⟨0x2A50, 0x2A50, 0x04, 0x04, .num, 2, .rwc, 20, .span 1 10000⟩,
  ⟨0x2A50, 0x2A50, 0x05, 0x05, .num, 2, .rwc, 2000, .span 100 60000⟩,
  ⟨0x2A50, 0x2A50, 0x06, 0x06, .num, 2, .rwc, 100, .span 20 10000⟩,
  ⟨0x2A60, 0x2A9F, 0x00, 0x00, .num, 1, .const, 9, .any⟩,
  ⟨0x2A60, 0x2A9F, 0x01, 0x01, .num, 2, .ro, 0, .any⟩,
  ⟨0x2A60, 0x2A9F, 0x02, 0x02, .num, 1, .ro, 0, .any⟩,
  ⟨0x2A60, 0x2A9F, 0x03, 0x03, .num, 4, .ro, 0, .any⟩,
  ⟨0x2A60, 0x2A9F, 0x04, 0x04, .num, 2, .ro, 65535, .any⟩,
  ⟨0x2A60, 0x2A9F, 0x05, 0x05, .num, 2, .ro, 0, .any⟩,
  ⟨0x2A60, 0x2A9F, 0x06, 0x06, .arr 2, 1024, .ro, 0, .any⟩,
  ⟨0x2A60, 0x2A9F, 0x07, 0x07, .arr 2, 8192, .ro, 0, .any⟩,
  ⟨0x2A60, 0x2A9F, 0x08, 0x08, .num, 1, .ro, 0, .any⟩,
  ⟨0x2A60, 0x2A9F, 0x09, 0x09, .num, 8, .ro, 0, .any⟩,
  ⟨0x2AA0, 0x2AA0, 0x00, 0x00, .num, 1, .const, 5, .any⟩,
  ⟨0x2AA0, 0x2AA0, 0x01, 0x01, .num, 4, .ro, 0, .any⟩,
  ⟨0x2AA0, 0x2AA0, 0x02, 0x02, .num, 4, .ro, 0, .any⟩,
  ⟨0x2AA0, 0x2AA0, 0x03, 0x03, .num, 8, .ro, 0, .any⟩,
  ⟨0x2AA0, 0x2AA0, 0x04, 0x04, .num, 8, .ro, 0, .any⟩,
  ⟨0x2AA0, 0x2AA0, 0x05, 0x05, .num, 8, .ro, 0, .any⟩,
  ⟨0x2AB0, 0x2AB0, 0x00, 0x00, .num, 1, .const, 11, .any⟩,
  ⟨0x2AB0, 0x2AB0, 0x01, 0x01, .num, 1, .ro, 0, .any⟩,
  ⟨0x2AB0, 0x2AB0, 0x02, 0x02, .num, 2, .ro, 0, .any⟩,
  ⟨0x2AB0, 0x2AB0, 0x03, 0x03, .num, 4, .rwc, 0x3F733333, .field⟩,
  ⟨0x2AB0, 0x2AB0, 0x04, 0x04, .num, 4, .rwc, 0x38D1B717, .field⟩,
  ⟨0x2AB0, 0x2AB0, 0x05, 0x05, .num, 4, .rwc, 0x3A800000, .field⟩,
  ⟨0x2AB0, 0x2AB0, 0x06, 0x06, .num, 4, .rwc, 10000, .span 100 1000000⟩,
  ⟨0x2AB0, 0x2AB0, 0x07, 0x07, .num, 2, .rwc, 990, .span 0 1000⟩,
  ⟨0x2AB0, 0x2AB0, 0x08, 0x08, .num, 1, .rwc, 100, .span 0 100⟩,
  ⟨0x2AB0, 0x2AB0, 0x09, 0x09, .num, 8, .ro, 0, .any⟩,
  ⟨0x2AB0, 0x2AB0, 0x0A, 0x0A, .num, 8, .ro, 0, .any⟩,
  ⟨0x2AB0, 0x2AB0, 0x0B, 0x0B, .bool, 1, .ro, 0, .any⟩,
  ⟨0x2AC0, 0x2AC0, 0x00, 0x00, .num, 1, .const, 6, .any⟩,
  ⟨0x2AC0, 0x2AC0, 0x01, 0x01, .num, 8, .ro, 0, .any⟩,
  ⟨0x2AC0, 0x2AC0, 0x02, 0x02, .num, 8, .ro, 0, .any⟩,
  ⟨0x2AC0, 0x2AC0, 0x03, 0x03, .num, 8, .ro, 0, .any⟩,
  ⟨0x2AC0, 0x2AC0, 0x04, 0x04, .num, 8, .ro, 0, .any⟩,
  ⟨0x2AC0, 0x2AC0, 0x05, 0x05, .num, 8, .ro, 0, .any⟩,
  ⟨0x2AC0, 0x2AC0, 0x06, 0x06, .num, 8, .ro, 0, .any⟩]

/-- All entries 0x2A00–0x2BFF. -/
def entriesFabric : List EntryRow := entriesFabric1 ++ entriesFabric2

/-- Entries 0x2C00–0x2DFF of the dictionary tables (R81). -/
def entriesTraffic : List EntryRow := [
  ⟨0x2C00, 0x2C00, 0x00, 0x00, .num, 1, .const, 10, .any⟩,
  ⟨0x2C00, 0x2C00, 0x01, 0x01, .num, 4, .ro, 0, .any⟩,
  ⟨0x2C00, 0x2C00, 0x02, 0x02, .num, 8, .ro, 0, .any⟩,
  ⟨0x2C00, 0x2C00, 0x03, 0x03, .num, 8, .ro, 0, .any⟩,
  ⟨0x2C00, 0x2C00, 0x04, 0x04, .num, 8, .ro, 0, .any⟩,
  ⟨0x2C00, 0x2C00, 0x05, 0x05, .num, 2, .rw, 0, .any⟩,
  ⟨0x2C00, 0x2C00, 0x06, 0x06, .arr 8, 24, .ro, 0, .any⟩,
  ⟨0x2C00, 0x2C00, 0x07, 0x07, .num, 4, .ro, 0, .any⟩,
  ⟨0x2C00, 0x2C00, 0x08, 0x08, .num, 4, .ro, 0, .any⟩,
  ⟨0x2C00, 0x2C00, 0x09, 0x09, .num, 2, .ro, 0, .any⟩,
  ⟨0x2C00, 0x2C00, 0x0A, 0x0A, .num, 4, .ro, 0, .any⟩,
  ⟨0x2C01, 0x2CFF, 0x00, 0x00, .num, 1, .const, 13, .any⟩,
  ⟨0x2C01, 0x2CFF, 0x01, 0x01, .num, 2, .rwc, 0, .span 0 1000⟩,
  ⟨0x2C01, 0x2CFF, 0x02, 0x02, .num, 2, .rwc, 4096, .any⟩,
  ⟨0x2C01, 0x2CFF, 0x03, 0x03, .num, 2, .rwc, 2048, .any⟩,
  ⟨0x2C01, 0x2CFF, 0x04, 0x04, .num, 2, .rwc, 1024, .any⟩,
  ⟨0x2C01, 0x2CFF, 0x05, 0x05, .num, 2, .rwc, 512, .any⟩,
  ⟨0x2C01, 0x2CFF, 0x06, 0x06, .num, 2, .rwc, 256, .any⟩,
  ⟨0x2C01, 0x2CFF, 0x07, 0x07, .num, 2, .rwc, 128, .any⟩,
  ⟨0x2C01, 0x2CFF, 0x08, 0x08, .num, 2, .rwc, 0, .any⟩,
  ⟨0x2C01, 0x2CFF, 0x09, 0x09, .arr 4, 28, .rwc, (2 ^ 224 - 1), .any⟩,
  ⟨0x2C01, 0x2CFF, 0x0A, 0x0A, .arr 8, 64, .ro, 0, .any⟩,
  ⟨0x2C01, 0x2CFF, 0x0B, 0x0B, .arr 8, 64, .ro, 0, .any⟩,
  ⟨0x2C01, 0x2CFF, 0x0C, 0x0C, .arr 8, 64, .ro, 0, .any⟩,
  ⟨0x2C01, 0x2CFF, 0x0D, 0x0D, .arr 8, 64, .ro, 0, .any⟩,
  ⟨0x2D01, 0x2DFF, 0x00, 0x00, .num, 1, .const, 8, .any⟩,
  ⟨0x2D01, 0x2DFF, 0x01, 0x08, .oct, 32, .rwc, 0, .field⟩]

/-- Entries 0x2E00–0x2EFF of the dictionary tables (R81). -/
def entriesRealms : List EntryRow := [
  ⟨0x2E00, 0x2E00, 0x00, 0x00, .num, 1, .const, 4, .any⟩,
  ⟨0x2E00, 0x2E00, 0x01, 0x01, .num, 1, .ro, 0, .any⟩,
  ⟨0x2E00, 0x2E00, 0x02, 0x02, .num, 4, .ro, 0, .any⟩,
  ⟨0x2E00, 0x2E00, 0x03, 0x03, .bool, 1, .ro, 1, .any⟩,
  ⟨0x2E00, 0x2E00, 0x04, 0x04, .num, 8, .ro, 0, .any⟩,
  ⟨0x2E01, 0x2EFF, 0x00, 0x00, .num, 1, .const, 13, .any⟩,
  ⟨0x2E01, 0x2EFF, 0x01, 0x01, .bool, 1, .rwc, 0, .any⟩,
  ⟨0x2E01, 0x2EFF, 0x02, 0x02, .num, 8, .rwc, 0, .span 0 0xFFFFFFFFF⟩,
  ⟨0x2E01, 0x2EFF, 0x03, 0x03, .arr 2, 8, .rwc, 0, .field⟩,
  ⟨0x2E01, 0x2EFF, 0x04, 0x04, .arr 2, 32, .rwc, 0, .field⟩,
  ⟨0x2E01, 0x2EFF, 0x05, 0x05, .num, 8, .rwc, 0, .any⟩,
  ⟨0x2E01, 0x2EFF, 0x06, 0x06, .num, 2, .rwc, 0, .any⟩,
  ⟨0x2E01, 0x2EFF, 0x07, 0x07, .arr 2, 12, .rwc, 0, .field⟩,
  ⟨0x2E01, 0x2EFF, 0x08, 0x08, .num, 2, .rwc, 0, .any⟩,
  ⟨0x2E01, 0x2EFF, 0x09, 0x09, .str, 0, .rwc, 0, .field⟩,
  ⟨0x2E01, 0x2EFF, 0x0A, 0x0A, .bool, 1, .rwc, 0, .any⟩,
  ⟨0x2E01, 0x2EFF, 0x0B, 0x0B, .bool, 1, .rwc, 0, .any⟩,
  ⟨0x2E01, 0x2EFF, 0x0C, 0x0C, .num, 1, .ro, 0, .any⟩,
  ⟨0x2E01, 0x2EFF, 0x0D, 0x0D, .num, 8, .ro, 0, .any⟩]

/-- Entries 0x3000–0x33FF of the dictionary tables (R81), part 1. -/
def entriesObjects1 : List EntryRow := [
  ⟨0x3300, 0x3300, 0x00, 0x00, .num, 2, .ro, 0, .any⟩,
  ⟨0x3301, 0x3301, 0x00, 0x00, .num, 2, .const, 1024, .any⟩,
  ⟨0x3302, 0x3302, 0x00, 0x00, .num, 2, .rw, 0, .any⟩,
  ⟨0x3303, 0x3303, 0x00, 0x00, .num, 1, .const, 11, .any⟩,
  ⟨0x3303, 0x3303, 0x01, 0x01, .num, 1, .ro, 0, .any⟩,
  ⟨0x3303, 0x3303, 0x02, 0x02, .num, 1, .ro, 0, .any⟩,
  ⟨0x3303, 0x3303, 0x03, 0x03, .num, 1, .ro, 0, .any⟩,
  ⟨0x3303, 0x3303, 0x04, 0x04, .num, 2, .ro, 0, .any⟩,
  ⟨0x3303, 0x3303, 0x05, 0x05, .num, 2, .ro, 0, .any⟩,
  ⟨0x3303, 0x3303, 0x06, 0x06, .num, 2, .ro, 0, .any⟩,
  ⟨0x3303, 0x3303, 0x07, 0x07, .num, 8, .ro, 0, .any⟩,
  ⟨0x3303, 0x3303, 0x08, 0x08, .num, 8, .ro, 0, .any⟩,
  ⟨0x3303, 0x3303, 0x09, 0x09, .num, 8, .ro, 0, .any⟩,
  ⟨0x3303, 0x3303, 0x0A, 0x0A, .arr 8, 128, .ro, 0, .any⟩,
  ⟨0x3303, 0x3303, 0x0B, 0x0B, .arr 8, 32, .ro, 0, .any⟩,
  ⟨0x3304, 0x3304, 0x00, 0x00, .num, 2, .wo, 0, .any⟩,
  ⟨0x3305, 0x3305, 0x00, 0x00, .num, 1, .const, 4, .any⟩,
  ⟨0x3305, 0x3305, 0x01, 0x01, .num, 1, .ro, 0, .any⟩,
  ⟨0x3305, 0x3305, 0x02, 0x02, .num, 1, .ro, 0, .any⟩,
  ⟨0x3305, 0x3305, 0x03, 0x03, .num, 2, .ro, 0, .any⟩,
  ⟨0x3305, 0x3305, 0x04, 0x04, .num, 2, .ro, 0, .any⟩,
  ⟨0x3306, 0x3306, 0x00, 0x00, .domain, 0, .wo, 0, .any⟩,
  ⟨0x3000, 0x3000, 0x00, 0x00, .num, 1, .ro, 0, .any⟩,
  ⟨0x3001, 0x3001, 0x00, 0x00, .num, 1, .const, 64, .any⟩,
  ⟨0x3020, 0x305F, 0x00, 0x00, .num, 1, .const, 16, .any⟩,
  ⟨0x3020, 0x305F, 0x01, 0x01, .oct, 1024, .rwc, 0, .field⟩,
  ⟨0x3020, 0x305F, 0x02, 0x02, .num, 1, .ro, 0, .any⟩,
  ⟨0x3020, 0x305F, 0x03, 0x03, .bool, 1, .wo, 0, .any⟩,
  ⟨0x3020, 0x305F, 0x04, 0x04, .num, 8, .ro, 0, .any⟩,
  ⟨0x3020, 0x305F, 0x05, 0x05, .num, 8, .ro, 0, .any⟩,
  ⟨0x3020, 0x305F, 0x06, 0x06, .num, 4, .ro, 0, .any⟩,
  ⟨0x3020, 0x305F, 0x07, 0x07, .num, 8, .ro, 0, .any⟩,
  ⟨0x3020, 0x305F, 0x08, 0x08, .num, 8, .ro, 0, .any⟩,
  ⟨0x3020, 0x305F, 0x09, 0x09, .num, 8, .ro, 0, .any⟩,
  ⟨0x3020, 0x305F, 0x0A, 0x0A, .num, 8, .ro, 0, .any⟩,
  ⟨0x3020, 0x305F, 0x0B, 0x0B, .num, 8, .ro, 0, .any⟩,
  ⟨0x3020, 0x305F, 0x0C, 0x0C, .num, 8, .ro, 0, .any⟩,
  ⟨0x3020, 0x305F, 0x0D, 0x0D, .num, 8, .ro, 0, .any⟩,
  ⟨0x3020, 0x305F, 0x0E, 0x0E, .num, 8, .ro, 0, .any⟩,
  ⟨0x3020, 0x305F, 0x0F, 0x0F, .num, 8, .ro, 0, .any⟩]

/-- Entries 0x3000–0x33FF of the dictionary tables (R81), part 2. -/
def entriesObjects2 : List EntryRow := [
  ⟨0x3020, 0x305F, 0x10, 0x10, .domain, 0, .rwc, 0, .field⟩,
  ⟨0x3310, 0x3310, 0x00, 0x00, .num, 1, .const, 8, .any⟩,
  ⟨0x3310, 0x3310, 0x01, 0x01, .num, 8, .ro, 0, .any⟩,
  ⟨0x3310, 0x3310, 0x02, 0x02, .num, 8, .ro, 0, .any⟩,
  ⟨0x3310, 0x3310, 0x03, 0x03, .num, 8, .ro, 0, .any⟩,
  ⟨0x3310, 0x3310, 0x04, 0x04, .num, 8, .ro, 0, .any⟩,
  ⟨0x3310, 0x3310, 0x05, 0x05, .num, 8, .ro, 0, .any⟩,
  ⟨0x3310, 0x3310, 0x06, 0x06, .num, 2, .ro, 65535, .any⟩,
  ⟨0x3310, 0x3310, 0x07, 0x07, .num, 8, .ro, 0, .any⟩,
  ⟨0x3310, 0x3310, 0x08, 0x08, .num, 8, .ro, 0, .any⟩,
  ⟨0x3060, 0x309F, 0x00, 0x00, .num, 1, .const, 16, .any⟩,
  ⟨0x3060, 0x309F, 0x01, 0x01, .num, 8, .rwc, 0, .field⟩,
  ⟨0x3060, 0x309F, 0x02, 0x02, .num, 1, .rwc, 255, .field⟩,
  ⟨0x3060, 0x309F, 0x03, 0x03, .num, 4, .rwc, 1000, .span 0 60000⟩,
  ⟨0x3060, 0x309F, 0x04, 0x04, .num, 1, .rwc, 25, .span 0 100⟩,
  ⟨0x3060, 0x309F, 0x05, 0x05, .num, 1, .rwc, 200, .field⟩,
  ⟨0x3060, 0x309F, 0x06, 0x06, .num, 4, .wo, 0, .any⟩,
  ⟨0x3060, 0x309F, 0x07, 0x07, .num, 8, .ro, 0, .any⟩,
  ⟨0x3060, 0x309F, 0x08, 0x08, .num, 8, .ro, 0, .any⟩,
  ⟨0x3060, 0x309F, 0x09, 0x09, .num, 8, .ro, 0, .any⟩,
  ⟨0x3060, 0x309F, 0x0A, 0x0A, .num, 4, .ro, 0, .any⟩,
  ⟨0x3060, 0x309F, 0x0B, 0x0B, .num, 4, .ro, 0, .any⟩,
  ⟨0x3060, 0x309F, 0x0C, 0x0C, .num, 8, .ro, 0, .any⟩,
  ⟨0x3060, 0x309F, 0x0D, 0x0D, .num, 8, .ro, 0, .any⟩,
  ⟨0x3060, 0x309F, 0x0E, 0x0E, .num, 8, .ro, 0, .any⟩,
  ⟨0x3060, 0x309F, 0x0F, 0x0F, .num, 8, .ro, 0, .any⟩,
  ⟨0x3060, 0x309F, 0x10, 0x10, .num, 8, .ro, 0, .any⟩,
  ⟨0x3100, 0x3100, 0x00, 0x00, .num, 1, .ro, 0, .any⟩,
  ⟨0x3101, 0x3101, 0x00, 0x00, .num, 1, .const, 64, .any⟩,
  ⟨0x3120, 0x315F, 0x00, 0x00, .num, 1, .const, 17, .any⟩,
  ⟨0x3120, 0x315F, 0x01, 0x01, .oct, 64, .rwc, 0, .field⟩,
  ⟨0x3120, 0x315F, 0x02, 0x02, .num, 1, .ro, 0, .any⟩,
  ⟨0x3120, 0x315F, 0x03, 0x03, .domain, 0, .rwc, 0, .field⟩,
  ⟨0x3120, 0x315F, 0x04, 0x04, .num, 8, .ro, 1, .any⟩,
  ⟨0x3120, 0x315F, 0x05, 0x05, .num, 8, .ro, 0, .any⟩,
  ⟨0x3120, 0x315F, 0x06, 0x06, .num, 8, .ro, 0, .any⟩,
  ⟨0x3120, 0x315F, 0x07, 0x07, .num, 8, .ro, 0, .any⟩,
  ⟨0x3120, 0x315F, 0x08, 0x08, .num, 8, .ro, 0, .any⟩,
  ⟨0x3120, 0x315F, 0x09, 0x09, .num, 8, .ro, 0, .any⟩,
  ⟨0x3120, 0x315F, 0x0A, 0x0A, .num, 8, .ro, 0, .any⟩]

/-- Entries 0x3000–0x33FF of the dictionary tables (R81), part 3. -/
def entriesObjects3 : List EntryRow := [
  ⟨0x3120, 0x315F, 0x0B, 0x0B, .num, 8, .ro, 0, .any⟩,
  ⟨0x3120, 0x315F, 0x0C, 0x0C, .num, 8, .ro, 0, .any⟩,
  ⟨0x3120, 0x315F, 0x0D, 0x0D, .num, 8, .ro, 0, .any⟩,
  ⟨0x3120, 0x315F, 0x0E, 0x0E, .num, 8, .ro, 0, .any⟩,
  ⟨0x3120, 0x315F, 0x0F, 0x0F, .num, 8, .ro, 0, .any⟩,
  ⟨0x3120, 0x315F, 0x10, 0x10, .num, 4, .ro, 0, .any⟩,
  ⟨0x3120, 0x315F, 0x11, 0x11, .domain, 0, .rwc, 0, .field⟩,
  ⟨0x3180, 0x3180, 0x00, 0x00, .num, 1, .ro, 0, .any⟩,
  ⟨0x3181, 0x3181, 0x00, 0x00, .num, 1, .const, 16, .any⟩,
  ⟨0x3200, 0x320F, 0x00, 0x00, .num, 1, .const, 16, .any⟩,
  ⟨0x3200, 0x320F, 0x01, 0x01, .oct, 64, .rwc, 0, .field⟩,
  ⟨0x3200, 0x320F, 0x02, 0x02, .num, 1, .ro, 0, .any⟩,
  ⟨0x3200, 0x320F, 0x03, 0x03, .num, 2, .rw, 0, .any⟩,
  ⟨0x3200, 0x320F, 0x04, 0x04, .num, 2, .rwc, 8176, .any⟩,
  ⟨0x3200, 0x320F, 0x05, 0x05, .num, 2, .wo, 0, .any⟩,
  ⟨0x3200, 0x320F, 0x06, 0x06, .num, 8, .wo, 0, .any⟩,
  ⟨0x3200, 0x320F, 0x07, 0x07, .oct, 2048, .ro, 0, .any⟩,
  ⟨0x3200, 0x320F, 0x08, 0x08, .num, 4, .ro, 0, .any⟩,
  ⟨0x3200, 0x320F, 0x09, 0x09, .num, 8, .ro, 0, .any⟩,
  ⟨0x3200, 0x320F, 0x0A, 0x0A, .num, 4, .ro, 0, .any⟩,
  ⟨0x3200, 0x320F, 0x0B, 0x0B, .num, 4, .ro, 0, .any⟩,
  ⟨0x3200, 0x320F, 0x0C, 0x0C, .num, 8, .ro, 0, .any⟩,
  ⟨0x3200, 0x320F, 0x0D, 0x0D, .num, 8, .ro, 0, .any⟩,
  ⟨0x3200, 0x320F, 0x0E, 0x0E, .num, 8, .ro, 0, .any⟩,
  ⟨0x3200, 0x320F, 0x0F, 0x0F, .num, 8, .ro, 0, .any⟩,
  ⟨0x3200, 0x320F, 0x10, 0x10, .num, 8, .ro, 0, .any⟩]

/-- All entries 0x3000–0x33FF. -/
def entriesObjects : List EntryRow := entriesObjects1 ++ entriesObjects2 ++ entriesObjects3

/-- Entries 0x5000–0x50FF of the dictionary tables (R81). -/
def entriesSensors : List EntryRow := [
  ⟨0x5000, 0x5000, 0x00, 0x00, .num, 1, .const, 5, .any⟩,
  ⟨0x5000, 0x5000, 0x01, 0x01, .arr 2, 64, .ro, 0, .any⟩,
  ⟨0x5000, 0x5000, 0x02, 0x02, .arr 2, 64, .ro, 0, .any⟩,
  ⟨0x5000, 0x5000, 0x03, 0x03, .arr 2, 4, .ro, 0, .any⟩,
  ⟨0x5000, 0x5000, 0x04, 0x04, .num, 2, .ro, 0, .any⟩,
  ⟨0x5000, 0x5000, 0x05, 0x05, .num, 2, .ro, 0, .any⟩,
  ⟨0x5001, 0x5001, 0x00, 0x00, .num, 1, .const, 2, .any⟩,
  ⟨0x5001, 0x5001, 0x01, 0x01, .arr 2, 24, .ro, 0, .any⟩,
  ⟨0x5001, 0x5001, 0x02, 0x02, .arr 4, 48, .ro, 0, .any⟩,
  ⟨0x5002, 0x5002, 0x00, 0x00, .num, 1, .const, 8, .any⟩,
  ⟨0x5002, 0x5002, 0x01, 0x01, .num, 2, .rwKept, 950, .span 500 1100⟩,
  ⟨0x5002, 0x5002, 0x02, 0x02, .num, 2, .rwKept, 1050, .span 500 1100⟩,
  ⟨0x5002, 0x5002, 0x03, 0x03, .num, 2, .rwKept, 850, .span 500 1100⟩,
  ⟨0x5002, 0x5002, 0x04, 0x04, .num, 2, .rwKept, 950, .span 500 1100⟩,
  ⟨0x5002, 0x5002, 0x05, 0x05, .num, 2, .rwKept, 950, .span 500 1100⟩,
  ⟨0x5002, 0x5002, 0x06, 0x06, .num, 2, .rwKept, 1050, .span 500 1100⟩,
  ⟨0x5002, 0x5002, 0x07, 0x07, .num, 1, .rwKept, 5, .span 1 20⟩,
  ⟨0x5002, 0x5002, 0x08, 0x08, .num, 1, .rwKept, 8, .field⟩,
  ⟨0x5003, 0x5003, 0x00, 0x00, .num, 1, .const, 2, .any⟩,
  ⟨0x5003, 0x5003, 0x01, 0x01, .arr 1, 16, .rwKept, 0, .field⟩,
  ⟨0x5003, 0x5003, 0x02, 0x02, .arr 2, 32, .ro, 0, .any⟩,
  ⟨0x5004, 0x5004, 0x00, 0x00, .num, 1, .const, 2, .any⟩,
  ⟨0x5004, 0x5004, 0x01, 0x01, .bool, 1, .ro, 0, .any⟩,
  ⟨0x5004, 0x5004, 0x02, 0x02, .bool, 1, .wo, 0, .any⟩]

/-- Entries 0x5100–0x51FF of the dictionary tables (R81). -/
def entriesLogs : List EntryRow := [
  ⟨0x5140, 0x5140, 0x00, 0x00, .num, 1, .const, 3, .any⟩,
  ⟨0x5140, 0x5140, 0x01, 0x01, .arr 32, 8192, .ro, 0, .any⟩,
  ⟨0x5140, 0x5140, 0x02, 0x02, .num, 8, .ro, 0, .any⟩,
  ⟨0x5140, 0x5140, 0x03, 0x03, .num, 1, .rw, 0, .any⟩,
  ⟨0x5100, 0x5100, 0x00, 0x00, .num, 1, .const, 7, .any⟩,
  ⟨0x5100, 0x5100, 0x01, 0x01, .num, 8, .ro, 0, .any⟩,
  ⟨0x5100, 0x5100, 0x02, 0x02, .num, 8, .ro, 0, .any⟩,
  ⟨0x5100, 0x5100, 0x03, 0x03, .num, 8, .rw, 0, .any⟩,
  ⟨0x5100, 0x5100, 0x04, 0x04, .arr 32, 1024, .ro, 0, .any⟩,
  ⟨0x5100, 0x5100, 0x05, 0x05, .num, 8, .ro, 0, .any⟩,
  ⟨0x5100, 0x5100, 0x06, 0x06, .num, 2, .rwKept, 10, .span 1 3600⟩,
  ⟨0x5100, 0x5100, 0x07, 0x07, .num, 4, .ro, 0, .any⟩]

/-- Entries 0x5800–0x58FF of the dictionary tables (R81). -/
def entriesOculus : List EntryRow := [
  ⟨0x5800, 0x5800, 0x00, 0x00, .num, 1, .const, 7, .any⟩,
  ⟨0x5800, 0x5800, 0x01, 0x01, .num, 2, .rwc, 10, .span 1 3600⟩,
  ⟨0x5800, 0x5800, 0x02, 0x02, .bool, 1, .rwc, 1, .any⟩,
  ⟨0x5800, 0x5800, 0x03, 0x03, .num, 8, .ro, 0, .any⟩,
  ⟨0x5800, 0x5800, 0x04, 0x04, .num, 8, .ro, 0, .any⟩,
  ⟨0x5800, 0x5800, 0x05, 0x05, .num, 8, .ro, 0, .any⟩,
  ⟨0x5800, 0x5800, 0x06, 0x06, .num, 8, .ro, 0, .any⟩,
  ⟨0x5800, 0x5800, 0x07, 0x07, .num, 8, .ro, 0, .any⟩,
  ⟨0x5801, 0x5801, 0x00, 0x00, .arr 1, 806, .ro, 0, .any⟩,
  ⟨0x5811, 0x5811, 0x00, 0x00, .num, 1, .const, 8, .any⟩,
  ⟨0x5811, 0x5811, 0x01, 0x08, .bool, 1, .rwc, 0, .any⟩,
  ⟨0x5820, 0x5820, 0x00, 0x00, .num, 2, .wo, 0, .any⟩,
  ⟨0x5821, 0x5821, 0x00, 0x00, .num, 4, .ro, 0, .any⟩]

/-- Entries 0x5C00–0x5CFF of the dictionary tables (R81). -/
def entriesSecurity : List EntryRow := [
  ⟨0x5C00, 0x5C00, 0x00, 0x00, .num, 1, .const, 4, .any⟩,
  ⟨0x5C00, 0x5C00, 0x01, 0x01, .num, 1, .ro, 0, .any⟩,
  ⟨0x5C00, 0x5C00, 0x02, 0x02, .num, 1, .wo, 0, .any⟩,
  ⟨0x5C00, 0x5C00, 0x03, 0x03, .oct, 114, .wo, 0, .any⟩,
  ⟨0x5C00, 0x5C00, 0x04, 0x04, .bool, 1, .ro, 0, .any⟩,
  ⟨0x5C01, 0x5C01, 0x00, 0x00, .num, 1, .const, 4, .any⟩,
  ⟨0x5C01, 0x5C01, 0x01, 0x01, .arr 1, 8, .ro, 0, .any⟩,
  ⟨0x5C01, 0x5C01, 0x02, 0x02, .arr 1, 8, .ro, 0, .any⟩,
  ⟨0x5C01, 0x5C01, 0x03, 0x03, .num, 2, .wo, 0, .any⟩,
  ⟨0x5C01, 0x5C01, 0x04, 0x04, .num, 1, .wo, 0, .any⟩,
  ⟨0x5C02, 0x5C02, 0x00, 0x00, .num, 1, .const, 2, .any⟩,
  ⟨0x5C02, 0x5C02, 0x01, 0x01, .oct, 57, .ro, 0, .any⟩,
  ⟨0x5C02, 0x5C02, 0x02, 0x02, .domain, 0, .ro, 0, .any⟩,
  ⟨0x5C03, 0x5C03, 0x00, 0x00, .arr 64, 576, .ro, 0, .any⟩,
  ⟨0x5C10, 0x5C10, 0x00, 0x00, .num, 1, .const, 2, .any⟩,
  ⟨0x5C10, 0x5C10, 0x01, 0x01, .oct, 32, .wo, 0, .any⟩,
  ⟨0x5C10, 0x5C10, 0x02, 0x02, .oct, 832, .ro, 0, .any⟩,
  ⟨0x5C20, 0x5C20, 0x00, 0x00, .num, 1, .const, 2, .any⟩,
  ⟨0x5C20, 0x5C20, 0x01, 0x01, .oct, 114, .wo, 0, .any⟩,
  ⟨0x5C20, 0x5C20, 0x02, 0x02, .bool, 1, .ro, 0, .any⟩,
  ⟨0x5C30, 0x5C30, 0x00, 0x00, .num, 1, .const, 8, .any⟩,
  ⟨0x5C30, 0x5C30, 0x01, 0x08, .oct, 64, .rwc, 0, .any⟩,
  ⟨0x5C31, 0x5C31, 0x00, 0x00, .num, 1, .const, 4, .any⟩,
  ⟨0x5C31, 0x5C31, 0x01, 0x01, .oct, 64, .rwc, 0, .any⟩,
  ⟨0x5C31, 0x5C31, 0x02, 0x04, .oct, 64, .rwc, 0, .any⟩,
  ⟨0x5C50, 0x5C50, 0x00, 0x00, .num, 1, .const, 2, .any⟩,
  ⟨0x5C50, 0x5C50, 0x01, 0x01, .num, 1, .ro, 0, .any⟩,
  ⟨0x5C50, 0x5C50, 0x02, 0x02, .num, 8, .ro, 0, .any⟩]

/-- Entries 0x5F00–0x5FFF of the dictionary tables (R81). -/
def entriesFirmware : List EntryRow := [
  ⟨0x5F00, 0x5F00, 0x00, 0x00, .num, 1, .const, 5, .any⟩,
  ⟨0x5F00, 0x5F00, 0x01, 0x01, .num, 1, .ro, 0, .any⟩,
  ⟨0x5F00, 0x5F00, 0x02, 0x02, .arr 1, 2, .ro, 0, .any⟩,
  ⟨0x5F00, 0x5F00, 0x03, 0x03, .arr 2, 24, .ro, 0, .any⟩,
  ⟨0x5F00, 0x5F00, 0x04, 0x04, .num, 1, .ro, 0, .any⟩,
  ⟨0x5F00, 0x5F00, 0x05, 0x05, .num, 1, .ro, 255, .any⟩,
  ⟨0x5F01, 0x5F01, 0x00, 0x00, .domain, 0, .wo, 0, .any⟩,
  ⟨0x5F02, 0x5F02, 0x00, 0x00, .bool, 1, .wo, 0, .any⟩,
  ⟨0x5F03, 0x5F03, 0x00, 0x00, .num, 1, .wo, 0, .any⟩,
  ⟨0x5F04, 0x5F04, 0x00, 0x00, .bool, 1, .wo, 0, .any⟩,
  ⟨0x5F05, 0x5F05, 0x00, 0x00, .bool, 1, .rwKept, 1, .any⟩]
/-- The row that holds an index and subindex, in a list of rows. -/
def findEntry (idx sub : Nat) (l : List EntryRow) : Option EntryRow :=
  l.find? fun r => inRange r.lo r.hi idx && inRange r.subLo r.subHi sub

/-- The row of an entry; none where the index is reserved or the subindex lies above the highest one (R81). -/
def entryAt (idx sub : Nat) : Option EntryRow :=
  if idx < 0x1100 then findEntry idx sub entriesIdentity
  else if idx < 0x1800 then findEntry idx sub entriesPorts
  else if idx < 0x2000 then findEntry idx sub entriesGenerations
  else if idx < 0x2400 then findEntry idx sub entriesTiles
  else if idx < 0x2800 then findEntry idx sub entriesStacks
  else if idx < 0x2A00 then findEntry idx sub entriesFlash
  else if idx < 0x2C00 then findEntry idx sub entriesFabric
  else if idx < 0x2E00 then findEntry idx sub entriesTraffic
  else if idx < 0x3000 then findEntry idx sub entriesRealms
  else if idx < 0x5000 then findEntry idx sub entriesObjects
  else if idx < 0x5100 then findEntry idx sub entriesSensors
  else if idx < 0x5800 then findEntry idx sub entriesLogs
  else if idx < 0x5C00 then findEntry idx sub entriesOculus
  else if idx < 0x5F00 then findEntry idx sub entriesSecurity
  else findEntry idx sub entriesFirmware

/-- The default of an entry, 0 where there is none. -/
def entryDefault (idx sub : Nat) : Nat := ((entryAt idx sub).map (·.dflt)).getD 0

/-- The key of an entry in a table of entries: index in [23:8], subindex in [7:0] (0x1812.02). -/
def entryKey (idx sub : Nat) : Nat := idx * 256 + sub

/-- Does an RWC entry belong to a realm's domain: an object of a realm, or a volume's descriptor (R81, R498)? -/
def realmEntry (idx : Nat) : Bool := inRange 0x3000 0x33FF idx || inRange 0x2880 0x28BF idx

/-! ### The schema description (R109) -/

/-- A type as the schema numbers it here, with an array's element length. -/
def EntryKind.number : EntryKind → List Nat
  | .bool => [0, 0] | .num => [1, 0] | .oct => [2, 0] | .arr n => [3, n] | .str => [4, 0] | .domain => [5, 0]

/-- An access right as the schema numbers it here. -/
def Access.number : Access → Nat
  | .const => 0 | .ro => 1 | .rw => 2 | .rwKept => 3 | .rwc => 4 | .wo => 5

/-- A range as the schema numbers it here. -/
def Range.numbers : Range → List Nat
  | .any => [0] | .span lo hi => [1, lo, hi] | .field => [2]

/-- What the schema lists of one entry: index, subindex, type, size, access right, whether it commits in a realm's domain, default, range. -/
def EntryRow.schemaOf (r : EntryRow) (idx sub : Nat) : List Nat :=
  [idx, sub] ++ r.kind.number ++ [r.size, r.access.number, if r.access = .rwc ∧ realmEntry idx then 1 else 0, r.dflt] ++ r.range.numbers

end Sys2Proof.Machine
end

