-- ==== Sys2Proof/Machine/State.lean ====
section
/-! DEFINITION. The machine's state: every register, buffer, counter, mode and pin the manual gives the device, and the queue of waiting commands. -/

namespace Sys2Proof.Machine

/-! ### Pins, start, NOR, sensors, log (17_management, 18_electrical) -/

/-- The sideband pins (R709): input levels, and the outputs the device drives (true: asserted). The straps are as last sampled (R711). -/
structure Pins where
  sysRstN : Bool
  perstN : List Bool
  thermtrip : Bool
  alert : Bool
  lcStrap : Nat
  testStrap : Bool
deriving DecidableEq, Repr

/-- The boot record in force (*Boot record*, R664); both NOR devices hold the same. -/
structure BootRecord where
  active : Nat
  trial : Bool
  tried : Bool
  minimalReq : Bool
  running : Bool
  failedStarts : Nat
  seq : Nat
  starts : Nat
deriving DecidableEq, Repr

/-- A firmware region (R663): the image package's bytes, and its state (0x5F00.02: 0 empty, 1 verified, 2 refused, 3 trial, 4 confirmed). -/
structure FwImage where
  len : Nat
  bytes : Nat
  state : Nat
deriving DecidableEq, Repr

/-- An event record (*Event record*, R683). -/
structure EventRec where
  time : Nat
  code : Nat
  severity : Nat
  aligned : Bool
  realm : Nat
  start : Nat
  seq : Nat
  w0 : Nat
  w1 : Nat
  w2 : Nat
deriving DecidableEq, Repr

/-- The value of a dictionary entry: its length in bytes and its bytes as one little-endian number (R75). -/
structure DictVal where
  len : Nat
  num : Nat
deriving DecidableEq, Repr

/-- What the two SPI NOR devices keep (R663): boot record, images A and B, the committed configuration and its generations (R88),
RW entries marked kept (R700), the wrapped volume keys (R649), the event log area and the last event number (R683). -/
structure Nor where
  boot : BootRecord
  images : List FwImage
  cfg : Tab DictVal
  gens : Tab Nat
  kept : Tab DictVal
  volumeKeys : Tab Nat
  events : List EventRec
  eventSeq : Nat
deriving DecidableEq, Repr

/-- The node's start (R667–R676): node state of 0x1010 (0 held in reset or halted), cause and MINIMAL cause, FAILED_STARTS read at
step 1, the last 0x0103, step times, when the start began and became OPERATIONAL, whether it has succeeded, the waves trained,
the Cupola's reload and its watchdog expiries (R666), and the image that runs (R665). -/
structure Boot where
  node : Nat
  cause : Nat
  minimalCause : Nat
  failedAtStart : Nat
  lastFailed : Nat
  stepTimes : List Nat
  began : Nat
  operationalAt : Nat
  succeeded : Bool
  waves : List Nat
  reloading : Bool
  expiries : List Nat
  running : FwImage
deriving DecidableEq, Repr

/-- Sensor readings and what has been logged of them (R679–R681). `crossed` holds the limits that are crossed and not re-armed:
key 2 × sensor + (0 warning, 1 critical). -/
structure Sensors where
  quarter : List Nat
  stack : List Nat
  belfry : List Nat
  railMv : List Nat
  railMa : List Nat
  power : Nat
  peakPower : Nat
  samples : List (Nat × Nat)
  regulator : List Nat
  crossed : List Nat
  junction110 : List Nat
  unacked : Bool
deriving DecidableEq, Repr

/-- The event log's ring, newest first, each record with whether NOR holds it (R685, R686). -/
structure EventLog where
  ring : List (EventRec × Bool)
  inDram : Bool
  overwritten : Nat
deriving DecidableEq, Repr

/-- The power supervisor (R150–R153, R703): clock-group frequencies and when each changed, throttling steps, the setpoint that each
VDD_Qq regulator last acknowledged and when, the quarter dies throttled for heat, whether the package is throttled for power, and the groups held at
600 MHz whose hold has been logged, as 2 × group + reason. -/
structure Power where
  mhz : List Nat
  changedAt : List Nat
  reductions : Nat
  ackedMv : List Nat
  ackedAt : List Nat
  heldTemp : List Nat
  heldPower : Bool
  held600 : List Nat
deriving DecidableEq, Repr

/-- Oculus (R693–R699): the next block, results, the blocks that failed the boot self-test, the running slice, failures and aborts in a row of the block under test, the lanes
kept out, counters, and the full program. -/
structure Oculus where
  next : Nat
  results : List Nat
  failedAtStart : List Nat
  slice : Option Nat
  failedOnce : Option Nat
  aborts : Nat
  run : Nat
  deferred : Nat
  aborted : Nat
  passedOver : Nat
  failures : Nat
  program : Nat
  programBlocks : List Nat
deriving DecidableEq, Repr

/-- The last package write and verification (0x5F00.04, .05) and the images' pending use. -/
structure Firmware where
  packageStatus : Nat
  refusedComponent : Nat
deriving DecidableEq, Repr

/-! ### Sessions and the dictionary (03_dictionary) -/

/-- A response (*Dictionary access header*): status, echoed SEQ, entry, LAST, the payload, and the tag (R102). -/
structure Response where
  status : Nat
  seq : Nat
  idx : Nat
  sub : Nat
  last : Bool
  len : Nat
  num : Nat
  tag : Nat
deriving DecidableEq, Repr

/-- A segmented write under way (R102), or the value of a segmented read (R79): of which entry, and the segment that comes next. -/
structure SegBuffer where
  key : Nat
  next : Nat
  len : Nat
  num : Nat
deriving DecidableEq, Repr

/-- A dictionary session (R101–R106): its path and number, its sender, realm and version, the last request, its per-session selections
(entry key to value; unlisted: the default), its last commit or validation (0x1811, 0x1812), its drafts by commit domain (R84), its
segmented transfers, its last load (0x3305), its attestation (R654) and its protection (R655–R657). -/
structure Session where
  path : Nat
  number : Nat
  sender : Nat
  realm : Nat
  version : Nat
  lastSeq : Option Nat
  lastResponse : Option Response
  lastTime : Nat
  sel : Tab Nat
  lastResult : Nat
  failCheck : Nat
  failEntry : Nat
  failRelated : Nat
  failGeneration : Nat
  drafts : Tab (Tab DictVal)
  writeSeg : List SegBuffer
  readSeg : List SegBuffer
  loadStatus : Nat
  loadReason : Nat
  loadItem : Nat
  loadHandle : Nat
  report : Nat
  isProtected : Bool
  proofPending : Bool
  keySlot : Nat
  transcript : Nat
  sessionKey : Nat
  msgIn : Nat
  lastIn : Nat
  msgOut : Nat
deriving DecidableEq, Repr

/-- Work held at a block for a generation (R90): the block's kind (0 stack, 1 fabric port, 2 clock group) and number, and the number
of the first capsule accepted after the commit. -/
structure Hold where
  kind : Nat
  number : Nat
  since : Nat
deriving DecidableEq, Repr

/-- The object dictionary's values: active values by entry key (unlisted: the default), the active generation and commit instant of
each domain (R83, R89), the sessions, the mailboxes' control words (R106), and the holds of R90. -/
structure Dict where
  cfg : Tab DictVal
  gens : Tab Nat
  instants : Tab Nat
  sessions : List Session
  mailbox : Tab Nat
  holds : List Hold
deriving DecidableEq, Repr

/-! ### Violations, fuses and the Keep (16_realms_and_security) -/

/-- A violation record (*Violation record*, R643). -/
structure Violation where
  time : Nat
  realm : Nat
  source : Nat
  sourceId : Nat
  opcode : Nat
  kind : Nat
  tag : Nat
  address : Nat
  plan : Nat
  desc : Nat
  count : Nat
deriving DecidableEq, Repr

/-- A realm's violation ring, newest first; how many of the newest are unread; records lost; the counter; the second of the last event
(R645, R646). -/
structure ViolationLog where
  ring : List Violation
  unread : Nat
  lost : Nat
  count : Nat
  second : Option Nat
deriving DecidableEq, Repr

/-- The fuses (*Fuse banks*): UDS burned, life-cycle code, root key digests and revocation, anti-rollback counters. -/
structure Fuses where
  udsBurned : Bool
  lifeCycle : Nat
  rootDigests : List Nat
  revoked : Nat
  counters : List Nat
deriving DecidableEq, Repr

/-- The Keep's volatile state: generator health and faults (R648), the transition token (0x5C00.03), whether it has been zeroised (R651),
and the life-cycle code in force, which is the fuses' at the last start (R650). -/
structure Keep where
  health : Nat
  faults : Nat
  token : Nat
  zeroised : Bool
  lifeCycle : Nat
deriving DecidableEq, Repr

/-- The global time base (R26, R28): its count, the millionths of a tick that its slewed rate has gathered, whether it has had its first
alignment since power came on, after which it never steps, its rate correction in ppm, and PWRGOOD. -/
structure TimeBase where
  count : Nat
  phase : Nat
  stepped : Bool
  slewPpm : Int
  powered : Bool
deriving DecidableEq, Repr

/-- What the device issues to a LUN on its flash channel (R488, *ONFI 5.1 support*). Before `setFeatures` the bus is in SDR timing mode 0. -/
inductive Onfi where
  | reset
  | readId
  | readParameterPage
  /-- Set Features: the data interface (MODE) and the rate in MT/s. -/
  | setFeatures (mode rate : Nat)
  | zqCalibration
  | dccTraining
  | dqTraining
  /-- A read of a slot of a block, at a retry level. -/
  | read (block index level : Nat)
  /-- A program of a page across all planes: for each of its slots the 4,096 stored bytes and the out-of-band record. -/
  | program (block page : Nat) (slots : List (Nat × Nat))
  | erase (block : Nat)
  | suspend
  | resume
  | readStatusEnhanced
deriving DecidableEq, Repr

/-- What the device sends (newest first in the outbox). -/
inductive OutMsg where
  /-- A dictionary response on a path to a session number. -/
  | response (path number : Nat) (r : Response)
  /-- An AFP message: TYPE, destination node (0: the fabric manager), and the fields the rules give it. -/
  | afp (type dest : Nat) (fields : List Nat)
  /-- An AFP message sent before, with RETRANSMIT set (R600, R607). -/
  | afpAgain (type dest : Nat) (fields : List Nat)
  /-- A completion record written to a ring: port, function, ring, entry and the record's 32 bytes. -/
  | completion (port function ring entry record : Nat)
  /-- An MSI-X message of a function's vector. -/
  | msix (port function vector : Nat)
  /-- A Device Readiness Status message: port (*PCI Express features*). -/
  | readiness (port : Nat)
  /-- An item has left an egress point (R553): point, realm, class, bytes. -/
  | egress (point realm cls size : Nat)
  /-- A PMBus VOUT_COMMAND of VDD_Qq in mV (R703). -/
  | vout (quarter mv : Nat)
  /-- An SPDM response: code and payload words (R653). -/
  | spdm (code : Nat) (fields : List Nat)
  /-- The bytes of an ordinary read, to the source that asked (R191). -/
  | readData (source sourceId addr : Nat) (bytes : List Byte)
  /-- An OPEN_ACK: path, session number, echoed SEQ, version, payload words (R102, R110, R655). -/
  | openAck (path number seq version : Nat) (fields : List Nat)
  /-- An ONFI command to a LUN (R488). -/
  | onfi (lun : Nat) (command : Onfi)
deriving DecidableEq, Repr

/-! ### Spire tiles (04_spire_tiles) -/

/-- The states of an operator slot (R143). -/
inductive SlotState where
  | free | waiting | ready | running | draining
deriving DecidableEq, Repr

/-- The units of a tile that a tile operation may need (R112); `scheduler` runs the operators that need none of them. -/
inductive TileUnit where
  | matrix | vector | select | mover | scheduler
deriving DecidableEq, Repr

/-- The streams that the dispatcher places in a tile's scratchpad (R464). -/
inductive TileStream where
  | weight | activation | output | panel
deriving DecidableEq, Repr

/-- An operator slot in use (*Slot status word*), with the capsule, the unit it needs, which of its descriptor's tile operations it
holds (R142), and the scratchpad banks at which its streams start (R464). -/
structure Slot where
  state : SlotState
  cls : Nat
  realm : Nat
  plan : Nat
  desc : Nat
  wait : Nat
  tag : Nat
  capsule : Nat
  unit : TileUnit
  part : Nat
  streams : List (TileStream × Nat)
deriving DecidableEq, Repr

/-- A tile's fence, errors and counters (0x2020): `corrected24` and `uncorrected24` hold the instants of the errors of the last 24 h
(R158). -/
structure Tile where
  fenced : Bool
  peak : Nat
  completed : Nat
  corrected : Nat
  uncorrectable : Nat
  retries : Nat
  corrected24 : List Nat
  uncorrected24 : List Nat
deriving DecidableEq, Repr

/-- A panel move outstanding (R132): its number, capsule and descriptor, the cached T2 panels that it keeps pinned, as (realm, TAG) (R468), the
binary logarithm of the panel's size and the panel's place in the tile's scratchpad (R461), the bank at which an incoming panel's stream starts
(R464), and the panel's contents block by block, with the metadata behind its blocks (R462, R463). -/
structure PanelMove where
  number : Nat
  capsule : Nat
  desc : Nat
  pins : List (Nat × Nat)
  size : Nat
  place : Nat
  start : Option Nat
  blocks : List (List Nat)
  metadata : List (List Nat)
deriving DecidableEq, Repr

/-- A mesh link (R139): state of 0x2021, and how often its present flit has been resent in succession. -/
structure MeshLink where
  state : Nat
  inRow : Nat
deriving DecidableEq, Repr

/-- The tiles: slots in use by 64 × tile + slot, operations held for want of a slot in order (capsule, descriptor, tile; R145), tile
records, panel moves outstanding by tile, layer loads that wait for one of a tile's 16 moves (R132), mesh links by element (unlisted:
up). -/
structure Tiles where
  slots : Tab Slot
  held : List (Nat × Nat × Nat)
  tiles : Tab Tile
  moves : Tab (List PanelMove)
  queued : List (Nat × PanelMove)
  nextMove : Nat
  links : Tab MeshLink
deriving DecidableEq, Repr

/-! ### Bank engines (05_bank_engines) -/

/-- A bank engine's registers and buffers (*Engine state*, R170). `streamLeft` columns of the stream are not yet fetched; `sat` counts
saturations charged to the SCAN descriptor (R36, R37). -/
structure Engine where
  v : Vector (BitVec 512) 8
  x : Vector Word 8
  acc : Vector Word 32
  p : Bool
  cp : Nat
  qp : Nat
  th : Word
  tb : List (Word × Nat)
  offered : Nat
  abandoned : Nat
  tombstoned : Nat
  evicted : Nat
  nan : Nat
  movedIn : Nat
  movedOut : Nat
  stream : List (BitVec 256)
  streamLeft : Nat
  sat : Nat
deriving DecidableEq, Repr

/-- A trigger the controller has accepted (*Trigger record*, R179): the capsule and descriptor that offered it, its fields, the plan
and sequence it runs, its query elements, when it began to wait for query slots, whether slots are held for it (R182), whether it has
them, the stack bank numbers whose sequences have not ended, and the status with which a fault of one of them ends the SCAN (R209). -/
structure Trigger where
  order : Nat
  capsule : Nat
  desc : Nat
  stack : Nat
  entry : Nat
  tag : Nat
  pcMask : Nat
  bankMask : Nat
  excl : Bool
  lowerBetter : Bool
  accFp : Bool
  cls : Nat
  realm : Nat
  thSE : Int
  qlen : Nat
  arg0 : Nat
  arg1 : Nat
  winLo : Nat
  winHi : Nat
  plan : Nat
  sequence : Nat
  abi : Nat
  query : List Nat
  th : Word
  since : Nat
  holding : Bool
  granted : Bool
  left : List Nat
  status : Nat
deriving DecidableEq, Repr

/-- A sequence on a bank: its trigger, engine and program counter, whether a step is open, the step's column accesses and open row with the
bytes that its activation latched (R192), when the sequence began, whether it waits in a BAR, whether it is to stop at the next boundary
(R198), whether its state is still in the save row (R196), when its step was granted, whether its boundary has been counted as a
suspension, and whether it has ended by a fault whose record still waits for room (R209). -/
structure BankRun where
  trigger : Nat
  engine : Engine
  pc : Nat
  inStep : Bool
  columns : Nat
  row : Option (Nat × Nat)
  began : Nat
  inBar : Bool
  cancelled : Bool
  restoring : Bool
  grantedAt : Nat
  counted : Bool
  failed : Bool
deriving DecidableEq, Repr

/-- The three bank states (R190). -/
inductive BankState where
  | mem | pimShared | pimExclusive
deriving DecidableEq, Repr

/-- An access of an operator or of the device to a bank that waits to be acknowledged (R155, R192): its units (R203), the operation whose
slot it keeps (capsule and descriptor), and whether its arrival has been noted. -/
structure QuietAccess where
  units : Nat
  owner : Option (Nat × Nat)
  heard : Bool
deriving DecidableEq, Repr

/-- A bank: its state, running and saved sequences (R196), trigger queue (R181), waiting ordinary accesses, those of operators and of the
device, the rows they have written as a running sequence still reads them (R192), when the first came (R193), preemption expiry, refreshes fallen due and not issued (R194), receive queues (R199), and counters (0x2441). -/
structure Bank where
  state : BankState
  run : Option BankRun
  saved : Option BankRun
  queue : List Nat
  accesses : List OrdAccess
  quiet : List QuietAccess
  shadow : Tab Nat
  firstWait : Nat
  expired : Bool
  refreshes : Nat
  rxLow : List (BitVec 512)
  rxHigh : List (BitVec 512)
  rxBus : List (BitVec 512)
  steps : Nat
  suspensions : Nat
  preemptions : Nat
  yields : Nat
  corrected : Nat
  faults : Nat
deriving DecidableEq, Repr

/-- A stack: state of 0x2401, core-die temperatures, the window's budget and what remains, the last complete window's budget, steps
delayed, banks waiting for a grant in order (by global number), the recent step starts in ns of each pseudo-channel, newest first (R205), and whether
the stack is held for heat (R206). -/
structure Stack where
  state : Nat
  temps : List Nat
  budget : Nat
  remaining : Int
  lastBudget : Nat
  delayed : Nat
  waiting : List Nat
  starts : Tab (List Nat)
  hot : Bool
deriving DecidableEq, Repr

/-- A channel result record (*Channel result record*) with the capsule and descriptor it goes to; `arg0` and `arg1` are its
trigger's, which say which segment the offsets lie in. -/
structure ResultRecord where
  capsule : Nat
  desc : Nat
  stack : Nat
  bank : Nat
  fp : Bool
  fault : Bool
  tag : Nat
  movedIn : Nat
  offered : Nat
  abandoned : Nat
  tombstoned : Nat
  evicted : Nat
  nan : Nat
  movedOut : Nat
  entries : List (Nat × Nat)
deriving DecidableEq, Repr

/-- The banks by global number, stacks, triggers accepted and not ended, query-store slots by 8 × (32 × stack + pc) + slot with the
trigger that holds each, slots held for a trigger that waits too long (R182), result buffers by 16 × stack + channel, oldest first, and trigger records offered by SCANs and not yet taken. -/
structure Banks where
  banks : Tab Bank
  units : List Stack
  triggers : List Trigger
  querySlots : Tab Nat
  results : Tab (List ResultRecord)
  nextTrigger : Nat
  heldSlots : Tab Nat
deriving DecidableEq, Repr

/-! ### Plans and their runs (06_plans) -/

/-- A loaded plan (R213–R238): the image as loaded, realm, state of 0x3303.01, the clock groups bound to each plan group, the
sequence-store segments held and the stacks whose stores they were taken in (R178), its counters (0x3303), per-descriptor saturation and NaN counts (R67), the
saturation total that a clear does not reduce, who waits for its unload (capsules; R236), the constants that its pinned groups hold in
scratchpads, by 16,384 × group + tensor, each as the blocks of its reader's blocking with the tile that holds each (R243), whether a fence has damaged them (R159), and the floors F_P, F_V and F_M computed at the
load and at the commits that change them (R561). -/
structure Plan where
  realm : Nat
  version : Nat
  state : Nat
  image : DictVal
  binding : List Nat
  segments : List (Nat × Nat × Nat)
  stores : List Nat
  completed : Nat
  budgetStops : Nat
  deadlineStops : Nat
  lastSpend : List Nat
  counts : Tab Counts
  satTotal : Nat
  unloadWaiters : List Nat
  pinned : Tab (List (Nat × List Nat))
  damaged : Bool
  floors : List Nat
deriving DecidableEq, Repr

/-- A tensor's value in an instance: its dimensions, innermost first, and its elements' raw bits. -/
structure Tensor where
  dims : List Nat
  elems : List Nat
deriving DecidableEq, Repr

/-- Where a descriptor of an instance stands (R224, R225, R253); one not listed waits for its tokens. -/
inductive DescState where
  | placed | operated | fired | skipped
deriving DecidableEq, Repr

/-- How an instance's descriptor is cut into tile operations (R142): how many in all, how many have been cut, how many have run, the
matrix passes of them all, and the most of one. -/
structure Cutting where
  total : Nat
  cut : Nat
  ran : Nat
  passes : Nat
  per : Nat
deriving DecidableEq, Repr

/-- An argument binding of an instance (*Argument binding*). -/
structure ArgBinding where
  addr : Nat
  varLen : Nat
  loc : Nat
deriving DecidableEq, Repr

/-- A running instance (R253): its capsule and plan, bindings, the state of each descriptor, its cutting, and the tile that its token and
results come from (R134, R154), tensor values, spend of the four units (R254), its first status other than ST_OK with the descriptor that gave it, the layers it holds in the buffers of windowed groups, by
16 × group + buffer (R246), result flags (R355), the counts it has added by descriptor, the descriptors whose counts of it a clear has discarded
(R73), and the N and PAGES of each column's sequence that its ATTENDs took when they fired (R431). -/
structure PlanRun where
  capsule : Nat
  plan : Nat
  realm : Nat
  args : List ArgBinding
  descs : Tab DescState
  cuts : Tab Cutting
  firedOn : Tab Nat
  values : Tab Tensor
  zeroMaps : List Nat
  spend : List Nat
  status : Nat
  statusDesc : Nat
  layer : Tab Nat
  short : Bool
  ties : Bool
  flashPerLun : Tab Nat
  counts : Tab Counts
  cleared : List Nat
  views : Tab (List (Nat × List Nat))
deriving DecidableEq, Repr

/-- Plans by handle, the next handle (R232), instances in order of start, and the layer each buffer of a windowed group holds
(plan × 4,096 + group × 16 + buffer; R246). -/
structure Plans where
  plans : Tab Plan
  nextHandle : Nat
  wrapped : Bool
  runs : List PlanRun
  layers : Tab Nat
deriving DecidableEq, Repr

/-! ### Search (07_vector_search, 08_selection) -/

/-- A SCAN at work (R293): its capsule and descriptor, index slot, cells as (number, bound bits, vectors) in list order, the row next to
trigger, the rows of trigger records offered and not yet taken, rows in the banks, the threshold its SELECT last published and when (R126), those on
their way to a stack in the order sent (R136) and those each stack has taken, the query as the banks take it (R286), the candidates that have arrived, in order, and the sums of its records'
counts (R297, R299). -/
structure ScanRun where
  capsule : Nat
  desc : Nat
  index : Nat
  cells : List (Nat × Nat × Nat)
  next : Nat
  offers : List Nat
  rows : List Nat
  threshold : Option Nat
  sentAt : Option Nat
  inFlight : List (Nat × Nat)
  received : Tab Nat
  query : List Nat
  found : List (Nat × Nat)
  nan : Nat
  abandoned : Nat
  met : Nat
  triggered : Nat
  skipped : Nat
deriving DecidableEq, Repr

/-- What an index slot has besides its descriptor (R269, R283, R314, R387): its state, the cache sweep, the counters of *Index entries*
and of *Update entries*, and handle arrays and segments freed. -/
structure IndexState where
  state : Nat
  sweep : Nat
  scans : Nat
  triggered : Nat
  skipped : Nat
  abandoned : Nat
  cacheHits : Nat
  flashReads : Nat
  stale : Nat
  met : Nat
  inserts : Nat
  deletes : Nat
  upserts : Nat
  moved : Nat
  freed : Nat
  saturations : Nat
  nans : Nat
  early : Nat
  nextArray : Nat
  freeArrays : List Nat
deriving DecidableEq, Repr

/-- A capsule's place in its composition, as its messages to the members need it (R611, R613): slot plus 1, epoch, own rank, member nodes, realm,
class, and whether it is mirrored. -/
structure Member where
  composition : Nat
  epoch : Nat
  ownRank : Nat
  members : List Nat
  realm : Nat
  cls : Nat
  mirrored : Bool
deriving DecidableEq, Repr

/-- A collective of a composition slot, by its number and TAG (R614): this node's capsule and descriptor once its COLLECT has fired; the
contributions accepted, each as the bitmap of the ranks it covers with its dimensions and elements (R350, R351), this node's own among them;
the ranks acknowledged; whether the contribution has been sent towards the root; whether the capsule has ended (R353); a status that came
before the COLLECT, ST_OK where none did; and, once the capsule has ended, its place with the member count and the root, for what still
comes (R353, R354). In a part, the code of the format precedes the dimensions. -/
structure Collective where
  composition : Nat
  number : Nat
  tag : Nat
  capsule : Option Nat
  desc : Nat
  parts : List (Nat × List Nat × List Nat)
  acked : Nat
  sent : Bool
  ended : Bool
  status : Nat
  former : Option (Member × Nat × Nat)
deriving DecidableEq, Repr

/-- Counters of 0x3310 of a realm (R357). -/
structure SelectCounters where
  accepted : Nat
  repeated : Nat
  late : Nat
  missed : Nat
  ended : Nat
  lastMissing : Nat
  displacements : Nat
  selections : Nat
deriving DecidableEq, Repr

/-- Where RERANK_EXACT finds a candidate's original (R303): nowhere; at hand, as its bytes in a number; or in flash at a block and offset,
named by a locator slot. -/
inductive Original where
  | stale
  | atHand (x : Nat)
  | inFlash (lba offset slot : Nat)
deriving DecidableEq, Repr

/-- Reads of flash an operator waits for: capsule, descriptor, the distinct blocks as (volume slot, logical block), those that have
come with their 4,096 bytes as a number (R304, R510), and for RERANK_EXACT where each candidate's original is. -/
structure FlashWait where
  capsule : Nat
  desc : Nat
  blocks : List (Nat × Nat)
  data : List (Nat × Nat × Nat)
  sources : List Original
deriving DecidableEq, Repr

/-- Search and selection. -/
structure Search where
  indexes : Tab IndexState
  scans : List ScanRun
  collectives : List Collective
  counters : Tab SelectCounters
  waits : List FlashWait
  lastMissing : Nat
deriving DecidableEq, Repr

/-! ### Updates and tables (09_updates_and_tables) -/

/-- An update not yet retired (R376–R379): index slot, identifier, the old version and the entries (bank, slot, entry) that hold it, the
cell, the publish instant, and the tombstone or delete instant once it has come. -/
structure PendingUpdate where
  index : Nat
  id : Nat
  version : Nat
  places : List (Nat × Nat × Nat)
  cell : Nat
  publish : Nat
  since : Option Nat
deriving DecidableEq, Repr

/-- An update capsule's batch (R358, R363): the records, the status bytes of those applied or failed, where the bytes go, and the statuses of the
records whose writes are still to be acknowledged (R155). -/
structure UpdateJob where
  capsule : Nat
  records : List Nat
  status : Tab Nat
  statusAddr : Nat
  loc : Nat
  applied : Tab Nat
deriving DecidableEq, Repr

/-- The stages of a segment's move that take time (R382). -/
inductive MoveStage where
  | switched | unlinked
deriving DecidableEq, Repr

/-- A segment being consolidated: the source and destination (bank, slot), its cell, its stage, the instant of the last
stage, and the header that the source had in its chain (R297). -/
structure MoveJob where
  index : Nat
  cell : Nat
  bank : Nat
  slot : Nat
  toBank : Nat
  toSlot : Nat
  stage : MoveStage
  since : Nat
  header : Nat
deriving DecidableEq, Repr

/-- Rows of a bank freed by consolidation, with the slot that names them (R385): bank, slot, first row, rows. -/
structure FreedSegment where
  index : Nat
  bank : Nat
  slot : Nat
  row : Nat
  rows : Nat
deriving DecidableEq, Repr

/-- A pass over a cell (R384): segments still to move, and the largest distance seen in moved and inserted entries. -/
structure CellPass where
  index : Nat
  cell : Nat
  left : List (Nat × Nat)
  radius : Nat
deriving DecidableEq, Repr

/-- A migration of a row between home and local area (R408–R411): whether it goes out, how many copies have run, the slot, and once
switched the epoch of the switch; of a demotion, the row to be promoted into the slot that it frees. -/
structure RowCopy where
  table : Nat
  row : Nat
  out : Bool
  copies : Nat
  slot : Nat
  switched : Option Nat
  follow : Option Nat
deriving DecidableEq, Repr

/-- What a table slot has besides its descriptor (R391, R405): state, epoch, counters, gathers by row in the present 1 ms window and the
last complete one, and the window's number. -/
structure TableState where
  state : Nat
  epoch : Nat
  present : Nat
  reads : Nat
  coalesced : Nat
  overflows : Nat
  retries : Nat
  invalid : Nat
  defaults : Nat
  flips : Nat
  promotions : Nat
  demotions : Nat
  recopies : Nat
  window : Nat
  now : Tab Nat
  last : Tab Nat
deriving DecidableEq, Repr

/-- A GATHER that has fired (R406): capsule, descriptor, table and epoch. -/
structure GatherRun where
  capsule : Nat
  desc : Nat
  table : Nat
  epoch : Nat
deriving DecidableEq, Repr

/-- Updates and tables. -/
structure Updates where
  pending : List PendingUpdate
  jobs : List UpdateJob
  moves : List MoveJob
  passes : List CellPass
  freed : List FreedSegment
  tables : Tab TableState
  copies : List RowCopy
  gathers : List GatherRun
deriving DecidableEq, Repr

/-! ### KV pools (10_attention_and_kv) -/

/-- What a KV pool has besides its descriptor and its area (R417, R454): state, the key table as pairs (key, page), and counters. -/
structure PoolState where
  state : Nat
  keys : List (Nat × Nat)
  evictions : Nat
  conflicts : Nat
  emptyRows : Nat
  draftsLeft : Nat
  accepted : Nat
deriving DecidableEq, Repr

/-- A sequence an instance holds (R433): pool slot, sequence, capsule, its base N and PAGES, tokens appended, pages staged, and the
PENDING that publication writes (R438). -/
structure Claim where
  pool : Nat
  seq : Nat
  capsule : Nat
  base : Nat
  basePages : Nat
  appended : Nat
  pages : List Nat
  pending : Option Nat
deriving DecidableEq, Repr

/-- The KV pools and the claims. -/
structure Kv where
  pools : Tab PoolState
  claims : List Claim
deriving DecidableEq, Repr

/-! ### Memory tiers (11_memory_tiers) -/

/-- A cached T2 panel (*Panel directory entry*): realm, TAG, PRESENT and DIRTY masks, PINS, and when each dirty sector was first written. -/
structure CachePanel where
  realm : Nat
  tag : Nat
  present : Nat
  dirty : Nat
  pins : Nat
  written : Tab Nat
deriving DecidableEq, Repr

/-- A write-back on its way: its sector, its realm, whether the sector was written again since (DIRTY then stays); whether a write to an evacuated
segment waits for it (R477) that no operation is noted for yet; and the operation or update record that waits. -/
structure WriteBack where
  sector : Nat
  realm : Nat
  again : Bool
  through : Bool
  owner : Option (Nat × Nat)
deriving DecidableEq, Repr

/-- A pool segment's record (*Pool segment record*), whether it is granted to this node, whether the lender has been told that no sector
is dirty (R477), and when the grace time of a reclaim ends (R480). -/
structure Segment where
  state : Nat
  realm : Nat
  homeNode : Nat
  homeGib : Nat
  gen : Nat
  mine : Bool
  told : Bool
  until_ : Nat
deriving DecidableEq, Repr

/-- A pool access that a lender holds (R478, R479): who asked, under which request, the offset, the length, and the bytes of a write. -/
structure PoolAccess where
  src : Nat
  requestId : Nat
  offset : Nat
  len : Nat
  data : Option (List Byte)
deriving DecidableEq, Repr

/-- A GiB lent (R474–R481): borrower, segment, GRANT_GEN, order of grant, whether it is being reclaimed and since when, the successor
(node, GiB), the sectors marked, recopies begun, whether no copy is left to run and the switch is awaited, and the accesses held. At a successor
before the switch: the former lender, whose copy it takes in (R478). -/
structure LentGib where
  borrower : Nat
  segment : Nat
  gen : Nat
  order : Nat
  reclaimed : Option Nat
  next : Option (Nat × Nat)
  marked : List Nat
  recopies : Nat
  copied : Bool
  held : List PoolAccess
  incoming : Option Nat
deriving DecidableEq, Repr

/-- A pool flush under way (R473): the request that waits, its realm, and the sectors still to be acknowledged. -/
structure Flush where
  path : Nat
  number : Nat
  seq : Nat
  realm : Nat
  left : List Nat
deriving DecidableEq, Repr

/-- The cache counters of a realm (0x2462). -/
structure CacheCounters where
  hits : Nat
  misses : Nat
  writeBacks : Nat
  lost : Nat
deriving DecidableEq, Repr

/-- Memory tiers: cached panels, most recently used first; replaced ones whose dirty sectors their homes have not acknowledged (R471);
write-backs on their way; accesses that wait for memory to be cleared, for an entry to be unpinned or for a switch, with the columns of them that
are corrected (R460, R472, R479); the borrower of each segment as its grant said; segments by number; GiB lent and offered; flushes;
counters; `home` and `cache` hold the bytes of T2 at the homes and in the caches, by T2 address. -/
structure Tiers where
  panels : List CachePanel
  writeBacks : List WriteBack
  segments : Tab Segment
  lent : Tab LentGib
  offered : List Nat
  grants : Nat
  flushes : List Flush
  counters : Tab CacheCounters
  reclaims : Nat
  recopies : Nat
  waitingAccesses : List (OrdAccess × List Nat)
  home : List Host.Cell
  cache : List Host.Cell
  replaced : List CachePanel
  borrowers : Tab Nat
deriving DecidableEq, Repr

/-! ### Flash (12_flash) -/

/-- A slot of a flash page (*Page out-of-band record*): KIND, volume slot, LBA, SEQ, the number of the key under which it was written, its
4,096 bytes in clear as a number (R500, log entry 67), and REALM. -/
structure FlashSlot where
  kind : Nat
  volume : Nat
  lba : Nat
  seq : Nat
  key : Nat
  data : Nat
  realm : Nat
deriving DecidableEq, Repr

/-- The state of a flash block (R511–R513, R516, R533): `closing` while its last data pages and its summary are being programmed. -/
inductive BlockState where
  | free | opened | closing | closed | retired | erasing
deriving DecidableEq, Repr

/-- The summary on a block's last page (R516): REALM, VOLUME, BASE_SEQ and ERASES of its header, and for each data slot its LBA, its KIND and
its SEQ less BASE_SEQ. -/
structure BlockSummary where
  realm : Nat
  volume : Nat
  baseSeq : Nat
  erases : Nat
  entries : List (Nat × Nat × Nat)
deriving DecidableEq, Repr

/-- A flash block: its state, erase count, volume slot (64 for the system's own slots), its programmed data slots in order, whether it takes the
copies of collection (R512), and the summary on its last page. -/
structure FlashBlock where
  state : BlockState
  erases : Nat
  volume : Nat
  slots : List FlashSlot
  collecting : Bool
  summary : Option BlockSummary
deriving DecidableEq, Repr

/-- A block that has never been used. -/
def FlashBlock.fresh : FlashBlock := ⟨.free, 0, 0, [], false, none⟩

/-- Where the newest version of a logical block lies (R518): slot `index` of a block, in the page buffer or programmed alike; marked
unreadable (R530); or, after a failed program, with a sequence number among the slots that wait for a block (R532). -/
inductive MapEntry where
  | at_ (block index : Nat)
  | unreadable
  | parked (seq : Nat)
deriving DecidableEq, Repr

/-- An open block: its number, the slots in its page buffer with the capsule that waits for each (if any), when the first came, and
whether it takes copies (R512, R513). -/
structure OpenBlock where
  block : Nat
  buffer : List (FlashSlot × Option Nat)
  firstAt : Nat
deriving DecidableEq, Repr

/-- What an outstanding flash operation is for. -/
inductive OpFor where
  /-- A read of a logical block of a volume for a capsule's descriptor; `none` for a volume request. -/
  | read (capsule : Nat) (desc : Option Nat) (volume lba : Nat)
  /-- A read of a source slot by a copy. -/
  | copyRead (copy index : Nat)
  /-- A page program, with the slots and the capsules that wait. -/
  | program (slots : List (FlashSlot × Option Nat))
  /-- A program of a block's last page, with its summary (R516). -/
  | summary (s : BlockSummary)
  /-- An erase. -/
  | erase
deriving DecidableEq, Repr

/-- An outstanding operation on a LUN: block, slot index, retry levels tried, times suspended by reads other than C0's. -/
structure FlashOp where
  number : Nat
  use : OpFor
  block : Nat
  index : Nat
  retries : Nat
  suspends : Nat
  c0 : Bool
deriving DecidableEq, Repr

/-- A copy of a block's valid slots (R525–R529): source block, whether for wear, whether the source is then retired (R532), the source slots not
yet copied, those placed as (source index, destination block, destination index), whether it has verified. -/
structure FlashCopy where
  number : Nat
  source : Nat
  wear : Bool
  retire : Bool
  left : List Nat
  placed : List (Nat × Nat × Nat)
  verified : Bool
deriving DecidableEq, Repr

/-- A volume (0x2880): state of 0x2880 + v.02, its XTS key pair's number and the pair itself, counters, the instant of the commit that removes
it, and (realm, GROUPS, CAPACITY) of a descriptor that has become active since (R499). -/
structure Volume where
  state : Nat
  realm : Nat
  groups : Nat
  capacity : Nat
  key : Nat
  read : Nat
  written : Nat
  programmed : Nat
  mediaErrors : Nat
  removedAt : Nat
  pair : Nat
  next : Option (Nat × Nat × Nat)
deriving DecidableEq, Repr

/-- No volume. -/
def Volume.absent : Volume := ⟨0, 0, 0, 0, 0, 0, 0, 0, 0, 0, 0, none⟩

/-- A channel group's media record over the last 24 h (R538): instants with codewords read, bits corrected, programs and erases, failures. -/
structure MediaSample where
  time : Nat
  words : Nat
  bits : Nat
  work : Nat
  failures : Nat
deriving DecidableEq, Repr

/-- Flash and its media (R486–R538). Blocks not listed are free and never erased; `rootClean`, `rootSeq` and `checkpoint` are what the
root records and the checkpoint hold (R519); `serving` is the read that each LUN serves (R494), `levelling` the groups whose wear spread has
not yet fallen below 90 % of the limit (R537), and `loadFrom` when the present load of the map began (0x2840.04). `waiting` holds the blocks of a WRITE that wait for collection,
as (capsule, volume, first LBA, channel, data), and `parked` the slots of failed programs that wait for a free block (R532). -/
structure Flash where
  luns : Tab Nat
  failures : Tab Nat
  blocks : Tab FlashBlock
  volumes : Tab Volume
  map : Tab MapEntry
  opens : Tab OpenBlock
  collect : Tab OpenBlock
  ops : List FlashOp
  nextOp : Nat
  copies : List FlashCopy
  nextCopy : Nat
  seq : Nat
  nextKey : Nat
  rootClean : Bool
  rootSeq : Nat
  checkpoint : Tab MapEntry
  mapState : Nat
  mapSource : Nat
  progress : Nat
  loadTime : Nat
  shutdown : Bool
  copied : Nat
  wearMoves : Nat
  erases : Nat
  retries : Nat
  samples : Tab (List MediaSample)
  spareAt : Tab Nat
  crossed : List Nat
  waiting : List (Nat × Nat × Nat × Nat × List Nat)
  parked : List (FlashSlot × Option Nat)
  serving : Tab Nat
  levelling : List Nat
  loadFrom : Nat
deriving DecidableEq, Repr

/-! ### Host ports and capsules (14_host_ports) -/

/-- A completion ring (*Ring configuration*, R584, R587), with its next entry and phase, its unsignalled records and when the first was
written, and how often it has been disabled. -/
structure Ring where
  base : Nat
  enable : Bool
  c0Immediate : Bool
  sizeLog2 : Nat
  vector : Nat
  coalCount : Nat
  coalTime : Nat
  next : Nat
  phase : Bool
  unsignalled : Nat
  firstAt : Nat
  disables : Nat
deriving DecidableEq, Repr

/-- A submission aperture (*Aperture configuration*). -/
structure Aperture where
  enable : Bool
  ring : Nat
  depthLog2 : Nat
  outstanding : Nat
  ovf : Bool
deriving DecidableEq, Repr

/-- A PCIe function: 0 the PF, 1–63 the VFs (R564, R571). `realm` is the binding in force (R568). -/
structure Function where
  enabled : Bool
  realm : Nat
  quiesce : Bool
  wasQuiesced : Bool
  overflows : Nat
  malformed : Nat
  lost : Nat
  rings : Tab Ring
  apertures : Tab Aperture
deriving DecidableEq, Repr

/-- A host port (R563): link state of 0x1101, width, speed, its functions, its counters (0x1130), and the functions at which an advisory
non-fatal error stands logged under AER (R581). -/
structure HostPort where
  link : Nat
  width : Nat
  speed : Nat
  functions : Tab Function
  accepted : Nat
  refused : Nat
  overflowed : Nat
  malformed : Nat
  discarded : Nat
  resets : Nat
  removals : Nat
  advisory : List Nat
deriving DecidableEq, Repr

/-- Where a capsule in flight stands. -/
inductive CapStage where
  /-- Queued at its realm's admission point (R542). -/
  | admission
  /-- Admitted, and waiting for an instance of its plan to end (R251), or for an update's locators (R379). -/
  | waiting
  /-- Admitted, and waiting for a resource that is still being cleared (R637). -/
  | clearing
  /-- Its instance runs, or its own opcode's work is under way. -/
  | running
deriving DecidableEq, Repr

/-- A capsule taken by the device (R574, R576): where it came from, its header fields, its class after metering (R542), its body as
the raw 512 bits, and the results and reads it still waits for. `order` numbers acceptances. `composition` is the slot of its composition
and 1 (0: none), with the epoch under which it was accepted and that epoch's own rank and member table (R613); `cfg` the configuration
active then (R89). -/
structure Capsule where
  order : Nat
  src : CapsuleSource
  ringDisables : Nat
  version : Nat
  opcode : Nat
  realm : Nat
  cls : Nat
  cameC0 : Bool
  plan : Nat
  tag : Nat
  deadlineUs : Nat
  acceptedAt : Nat
  raw : Nat
  stage : CapStage
  mirrored : Bool
  outData : List Host.Cell
  blocks : Nat
  pending : Nat
  status : Nat
  composition : Nat
  epoch : Nat
  ownRank : Nat
  members : List Nat
  cfg : Tab DictVal
deriving DecidableEq, Repr

/-- The capsules in flight, oldest acceptance first, and the number of the next. -/
structure Capsules where
  live : List Capsule
  next : Nat
deriving DecidableEq, Repr

/-! ### Traffic (13_traffic) -/

/-- A policer's buckets (R546) in units of 10^−8 byte, and when they were last refilled; an unlisted policer's are full. -/
structure Bucket where
  tc : Nat
  te : Nat
  last : Nat
deriving DecidableEq, Repr

/-- A realm's per-class counters (0x2C00 + r.0A–.0D), classes 0–7. -/
structure Metered where
  green : List Nat
  yellow : List Nat
  dropped : List Nat
  remarked : List Nat
deriving DecidableEq, Repr

/-- An item that waits at a fair-queueing point (R553): its realm and class, its size, its finish tags at the class level and, at an
egress point, at the realm level, its arrival number, the capsule it belongs to, and the bytes of host memory that its posted writes replace, by
memory key, which stay if it never leaves (R592). -/
structure QueueItem where
  realm : Nat
  cls : Nat
  size : Nat
  tag : Nat
  realmTag : Nat
  arrival : Nat
  capsule : Nat
  waited : Bool
  replaced : List (Nat × List Byte)
deriving DecidableEq, Repr

/-- A fair-queueing point (R553): virtual times of the two levels, the flows' last tags, the items, the scavenger flow served last. -/
structure QueuePoint where
  v : Nat
  vRealm : Nat
  tags : Tab Nat
  realmTags : Tab Nat
  items : List QueueItem
  scavenger : Nat
deriving DecidableEq, Repr

/-- A flow waiting in the Carillon (R555): its number, its exact E in ns, its absolute slot on its level, and whether it was clamped. -/
structure CarillonEntry where
  flow : Nat
  e : Rat
  slot : Nat
  clamped : Bool
deriving DecidableEq, Repr

/-- Traffic state: policers by 8 × realm + class, counters by realm, admission points by realm, egress points, shaped flows' E in ns
(R557), the Carillon's two levels in order of entry and the last fine slot, its counters, and n_F by plan (R561). -/
structure Traffic where
  buckets : Tab Bucket
  metered : Tab Metered
  admission : Tab QueuePoint
  egress : Tab QueuePoint
  eligible : Tab Rat
  fine : List CarillonEntry
  coarse : List CarillonEntry
  fineSlot : Nat
  carried : Nat
  clamps : Nat
  c0Waits : Nat
  arrivals : Nat
  flashWaves : Tab Nat
deriving DecidableEq, Repr

/-! ### The fabric (15_fabric) -/

/-- A message kept until its acknowledgement (R599, R600). -/
structure RetryMsg where
  type : Nat
  dest : Nat
  requestId : Nat
  fields : List Nat
deriving DecidableEq, Repr

/-- A fabric link 4p + l (R595–R603): state of 0x2A01, version, encryption, lanes, last receipt, messages under the present keys and
when they were made, unacknowledged messages, counters. -/
structure Link where
  state : Nat
  version : Nat
  encrypted : Bool
  lanes : Nat
  lastRx : Nat
  messages : Nat
  keyedAt : Nat
  key : Nat
  retry : List RetryMsg
  fecCorrected : Nat
  fecUncorrectable : Nat
  resends : Nat
  downs : Nat
deriving DecidableEq, Repr

/-- The previous epoch of a composition, served during the grace (R612). -/
structure PrevEpoch where
  epoch : Nat
  ownRank : Nat
  members : List Nat
deriving DecidableEq, Repr

/-- A composition slot (R611, 0x2A60 + c). -/
structure Composition where
  id : Nat
  realm : Nat
  epoch : Nat
  ownRank : Nat
  members : List Nat
  owners : List Nat
  state : Nat
  installedAt : Nat
  prev : Option PrevEpoch
deriving DecidableEq, Repr

/-- The states of an ownership unit at this node (R620). -/
inductive UnitState where
  | none | owner | sending | surrendered | prepared | complete
deriving DecidableEq, Repr

/-- An ownership unit of a composition (R619–R624): state, generation held, peer, since when, the keys marked during a copy and those
still to be sent, and the entries received. -/
structure OwnUnit where
  state : UnitState
  generation : Nat
  peer : Nat
  since : Nat
  marked : List Nat
  received : List OwnEntry
deriving DecidableEq, Repr

/-- A request this node has sent and that has no response yet (R607). `capsule` and `desc` are the capsule and descriptor it works for. -/
structure OwnRequest where
  requestId : Nat
  type : Nat
  dest : Nat
  composition : Nat
  capsule : Nat
  desc : Nat
  sentAt : Nat
  deadline : Nat
  fields : List Nat
deriving DecidableEq, Repr

/-- A request seen from a node, with the answer given, if any (R607). -/
structure SeenRequest where
  src : Nat
  requestId : Nat
  at_ : Nat
  answer : Option (List Nat)
deriving DecidableEq, Repr

/-- A request held for a newer epoch (R612): the message as it came, and since when. -/
structure HeldRequest where
  header : Afp
  command : Instr
  since : Nat
deriving DecidableEq, Repr

/-- An EMIT held for its capsule (R614). -/
structure HeldEmit where
  composition : Nat
  realm : Nat
  plan : Nat
  tag : Nat
  slot : Nat
  until_ : Nat
  dims : List Nat
  elements : List Nat
deriving DecidableEq, Repr

/-- A mirrored request that awaits its result (R626): the capsule, its status and lists at this node once it has ended, the shadow's result
once it has come, the deadline. -/
structure AwaitedMirror where
  capsule : Nat
  status : Option Nat
  lists : List Candidates
  result : Option (Nat × List Candidates)
  deadline : Nat
deriving DecidableEq, Repr

/-- Shadowing (R625–R627): role, partner, composition slot and rank, the mirrored requests that await a result, and the counts. -/
structure Shadow where
  role : Nat
  partner : Nat
  composition : Nat
  rank : Nat
  awaiting : List AwaitedMirror
  compared : Nat
  agreed : Nat
  windowCompared : Nat
  windowAgreed : Nat
  ready : Bool
deriving DecidableEq, Repr

/-- The fabric (0x2A00–0x2AC0): links, identity, time exchange, compositions by slot, ownership units by 4,096 × composition + unit,
requests, held work, shadowing, and counters. -/
structure Fabric where
  links : List Link
  node : Nat
  fmSession : Nat
  place : Nat
  neighbours : List Nat
  domain : Nat
  announces : Nat
  announceAt : Nat
  timeRef : Nat
  aligned : Bool
  offsetNs : Int
  exchanges : Nat
  exchangeAt : Nat
  everAligned : Bool
  compositions : Tab Composition
  removed : Tab Nat
  units : Tab OwnUnit
  requests : List OwnRequest
  seen : List SeenRequest
  held : List HeldRequest
  emits : List HeldEmit
  nextRequest : Nat
  shadow : Shadow
  retryOwner : Nat
  audits : Nat
  transfers : Nat
  epochMoved : Nat
  prevEpoch : Nat
  heldCount : Nat
  duplicates : Nat
  nodeLost : Nat
  dropped : Nat
  mgmtLink : Nat
deriving DecidableEq, Repr

/-! ### The device and the machine -/

/-- Everything the device holds except the time base, the fuses and the queue of waiting commands. -/
structure Dev where
  /-- The sideband pins. -/
  pins : Pins
  /-- The node's start. -/
  boot : Boot
  /-- The two SPI NOR devices. -/
  nor : Nor
  /-- Sensor readings. -/
  sensors : Sensors
  /-- The event log. -/
  log : EventLog
  /-- The power supervisor. -/
  power : Power
  /-- The self-test engine. -/
  oculus : Oculus
  /-- Firmware update. -/
  firmware : Firmware
  /-- The object dictionary. -/
  dict : Dict
  /-- Violation logs by realm. -/
  violations : Tab ViolationLog
  /-- Resources being cleared (kind, number): 0 bank, 1 GiB, 2 clock group (R637). -/
  scrubs : List (Nat × Nat)
  /-- The Keep. -/
  keep : Keep
  /-- Host ports H0 and H1. -/
  ports : List HostPort
  /-- Capsules in flight. -/
  capsules : Capsules
  /-- Policers, queues and the Carillon. -/
  traffic : Traffic
  /-- The Ahnak fabric. -/
  fabric : Fabric
  /-- The Spire tiles. -/
  tiles : Tiles
  /-- Plans and instances. -/
  plans : Plans
  /-- Stacks, banks and their engines. -/
  banks : Banks
  /-- Indexes, SCANs and collectives. -/
  search : Search
  /-- Updates of indexes, and tables. -/
  updates : Updates
  /-- KV pools. -/
  kv : Kv
  /-- The T2 cache and lending. -/
  tiers : Tiers
  /-- Flash and its media. -/
  flash : Flash
  /-- T1 and T0 bytes, in canonical form. -/
  mem : List Host.Cell
  /-- Host memory of the functions, in canonical form. -/
  hostMem : List Host.Cell
  /-- What the device has sent, newest first. -/
  out : List OutMsg
  /-- The model's own: the device address and the kind of the access last refused with ST_VIOLATION, for its record (R643). -/
  refused : Nat × Nat
  /-- The model's own: an access of the command in progress met a resource that is still being cleared, so what it began waits (R637). -/
  fillWait : Bool
  /-- The model's own: how many free values have been drawn. -/
  freeCtr : Nat
deriving DecidableEq, Repr

/-- The machine: the commands that wait, first in first out; the time base; the fuses; the device. -/
structure State where
  pending : List Instr
  time : TimeBase
  fuses : Fuses
  dev : Dev
deriving DecidableEq, Repr

/-- No command stops the device: every failure is a status, a record or an event, so no fault is ever raised. The constructor exists
because the type may not be empty of meaning: it would say that a run met a state no rule describes; raised by no meaning; safe. -/
inductive Fault where
  /-- Raised by nothing; safe. -/
  | unreachable
deriving DecidableEq, Repr

/-- Reasons for which a command has no meaning in the model. -/
inductive Refusal where
  /-- Raised by exec for a command whose meaning is not written; safe: the run stops. -/
  | notModelled (mnemonic : String)
deriving DecidableEq, Repr

/-- What a step answers. -/
abbrev Out := Host.Outcome State Fault Refusal

/-! ### Reset values -/

/-- The boot record's reset column (*Boot record*). -/
def BootRecord.reset : BootRecord := ⟨0, false, false, false, false, 0, 0, 0⟩

/-- The public key of firmware root slot 0 of the part at hand (DESIGN CHOICE, log entry 6): an Ed448 key of the model's own. -/
def deliveredKey : Nat :=
  0xabf82bb9767414eb18ec3a2bb53afa16620d7205e5628e109ebb93d9d921efce73235757d26e5bdb628e9abf3897fe2b5132c38f4db3d543

/-- The SHAKE256-512 digest of no bytes: DIGEST of a component whose LENGTH is 0. -/
def emptyDigest : Nat :=
  0xbec4b7b3ac2e294086b49a47491c82fcf692b5679d0105cb00f2c0d8ddc45dd72f76d56e64270cb5821bb862ea52cd3f24eb3e74eb3f3b23138da80b2bddb946

/-- The signatures of the delivered components 0–5 under `deliveredKey`. -/
def deliveredSignatures : List Nat :=
  [0x24ad4f91e2c77aa19f39271324e0ae2a3031cc73d021da370dd61b284d91a2474933628a47789117adffc04b3755110857cb00b17aabe943009f84ba74663805e7499834b97ba199273d83d8e2b1716cf3dad296d9cc1615a4175d4b0c2726eae6c5a3aa648bde516f80c64606af964571,
   0x1307bc2c3026fc9ad6ca0de38244aa94adc752650c39ab50bcdf5e1efd6f3e0c1697625b8a2c6337101f5f217d3c297ff71df896083fad9480596a049a3d664abac63bc82f7acd18fb1896155a81db9087539e2340db5f0bd60f974705d2c2103e55299dc562b3dc3fba9a671e48a045f0,
   0x1e5a4e56b0ff78436f1459b15257749f25f09ae05789746eada1e99cda70aabb0a886b9bfc5521e1091ecbe0479d5d238c3c23bfc5fd3bb700ff444e04747754068cf8f8deab6f47d2d12a962a8aa26702286b30733d7cbfecfb4d1f8f8cb6aa11393dbc105bf44d33841f34077df3525e,
   0xfc53aae0a0ba4ce739792a9c759d436d884132b2fc7139d1d4e822da89cbd3266ce08da76bb112f04aef38a1dde14171117d01c2709befc8028da78dd3c14a7f925c165afb2c616c509757178d85cf6a9ad3b2c03bb87fc7da4f7728cc3c9141d4c3f8becf365722e5cad261a6f6d142c,
   0x1ce4a1f5f28c1f49da514495d81cc57795d0e9994fe8f7b9f21ce39994c45e610cc7458e4bb9e41b38a57f617ef2f765d0475a20bacdbb18069f9a2a0439b06ecaf673d10bdd32ed4e3f3250d095534034c98fc0ba26f4c368036b017942b4cb2f405d0d1364e9dbd44e8b4b842f3f746,
   0xd5c2301c0abb22eeff6df7bd66845f7a8cf61d90a8480a3e9d2c6ef85beb525e15d4d03a1de14f76310971fd7894bf9d38ab318da0738bf80335dd8a0928dcd45ef27ef06e9163ffdc54a9e7d15c9ab544cac852cdd076808af12a78f79a977708d842b9a244c445e3d3f619ccff4ca4d]

/-- The *Image signature block* of a delivered component: format 1, slot 0, SVN 0, release 3.4, LENGTH 0. -/
def deliveredBlock (c signature : Nat) : Nat :=
  1 + c * 2 ^ 24 + 0x0304 * 2 ^ 64 + deliveredKey * 2 ^ 256 + emptyDigest * 2 ^ 768 + signature * 2 ^ 1280

/-- Image A of a delivered part (DESIGN CHOICE, log entry 6; release 3.4, confirmed, as the worked example of R692 has it): a package
whose six components follow the header in order, with no code. The firmware's behaviour is what the manual gives the device. -/
def FwImage.delivered : FwImage :=
  let at_ (c : Nat) : Nat := 4096 + 288 * c
  let head (c : Nat) : Nat := (at_ c) * 2 ^ (8 * (8 + 16 * c))
  let blocks := (deliveredSignatures.mapIdx fun c s => deliveredBlock c s * 2 ^ (8 * at_ c)).foldl (· + ·) 0
  ⟨4096 + 288 * 6, 1 + 6 * 2 ^ 16 + ((List.range 6).map head).foldl (· + ·) 0 + blocks, 4⟩

/-- NOR as the model takes it before anything is written (DESIGN CHOICE, log entry 6): image A as delivered, image B empty, no configuration
record, no event. -/
def Nor.reset : Nor := ⟨.reset, [.delivered, ⟨0, 0, 0⟩], [], [], [], [], [], 0⟩

/-- The pins before power (DESIGN CHOICE, log entry 6): SYS_RST_N high by its pull-up, both PERSTp_N low, straps 0. -/
def Pins.reset : Pins := ⟨true, [false, false], false, false, 0, false⟩

/-- No start has begun. -/
def Boot.reset : Boot := ⟨0, 0, 0, 0, 0, List.replicate 7 0, 0, 0, false, [], false, [], ⟨0, 0, 0⟩⟩

/-- Sensors before the first sample (DESIGN CHOICE, log entry 6). -/
def Sensors.reset : Sensors :=
  ⟨List.replicate 32 0, List.replicate 32 0, [0, 0], List.replicate 12 0, List.replicate 12 0, 0, 0, [], List.replicate 16 0, [], [], false⟩

/-- An empty log. -/
def EventLog.reset : EventLog := ⟨[], false, 0⟩

/-- Clock groups at 600 MHz, as groups that no realm owns run, and regulators at 0.75 V (R704; the frequencies are a DESIGN CHOICE, log
entry 6). -/
def Power.reset : Power :=
  ⟨List.replicate 36 600, List.replicate 36 0, 0, List.replicate 4 750, List.replicate 4 0, [], false, []⟩

/-- Oculus before the boot self-test. -/
def Oculus.reset : Oculus := ⟨0, List.replicate 806 0, [], none, none, 0, 0, 0, 0, 0, 0, 0, []⟩

/-- 0x5F00.04 and .05 at their defaults. -/
def Firmware.reset : Firmware := ⟨0, 0xFF⟩

/-- Every entry at its default, every generation 1, no session. -/
def Dict.reset : Dict := ⟨[], [], [], [], [], []⟩

/-- The fuses of a delivered part (DESIGN CHOICE, log entry 6): UDS burned, life cycle DEPLOYED, the digest of `deliveredKey` in root slot
0, nothing revoked, every counter 0. -/
def Fuses.reset : Fuses :=
  let digest : Nat :=
    0xbfdbd2b5b44db5bc043ab9a4a2d9de69d77ba107b50e7de4376daf8b3e132faa8ebbf28d138281af835035f75d905c832d1bd17099956ccbb8ab6b6f0ab3c64d
  ⟨true, 3, digest :: List.replicate 7 0, 0, List.replicate 8 0⟩

/-- The Keep at start: the generator is good (0x5C50); the life-cycle code is the fuses'. -/
def Keep.reset : Keep := ⟨0, 0, 0, false, 3⟩

/-- The time base before power: 0 (R28). -/
def TimeBase.reset : TimeBase := ⟨0, 0, false, 0, false⟩

/-- A realm's log with no record. -/
def ViolationLog.reset : ViolationLog := ⟨[], 0, 0, 0, none⟩

/-- A ring's registers at reset: COAL_COUNT 1, all else 0 (*Ring configuration*). -/
def Ring.reset : Ring := ⟨0, false, false, 0, 0, 1, 0, 0, true, 0, 0, 0⟩

/-- An aperture's register at reset. -/
def Aperture.reset : Aperture := ⟨false, 0, 0, 0, false⟩

/-- A function's registers at reset (R591). -/
def Function.reset : Function := ⟨false, 0, false, false, 0, 0, 0, [], []⟩

/-- A host port with its link down. -/
def HostPort.reset : HostPort := ⟨0, 0, 0, [], 0, 0, 0, 0, 0, 0, 0, []⟩

/-- No capsule in flight. -/
def Capsules.reset : Capsules := ⟨[], 0⟩

/-- A realm's counters at 0. -/
def Metered.reset : Metered := ⟨List.replicate 8 0, List.replicate 8 0, List.replicate 8 0, List.replicate 8 0⟩

/-- A point with no item. -/
def QueuePoint.reset : QueuePoint := ⟨0, 0, [], [], [], 0⟩

/-- Traffic state at start. -/
def Traffic.reset : Traffic := ⟨[], [], [], [], [], [], [], 0, 0, 0, 0, 0, []⟩

/-- A fabric link that is down. -/
def Link.reset : Link := ⟨0, 0, false, 0, 0, 0, 0, 0, [], 0, 0, 0, 0⟩

/-- No shadowing. -/
def Shadow.reset : Shadow := ⟨0, 0, 0, 0xFFFF, [], 0, 0, 0, 0, false⟩

/-- The fabric at start. -/
def Fabric.reset : Fabric :=
  { links := List.replicate 32 .reset, node := 0, fmSession := 0, place := 0, neighbours := [], domain := 0, announces := 0, announceAt := 0, timeRef := 0,
    aligned := false, offsetNs := 0, exchanges := 0, exchangeAt := 0, everAligned := false, compositions := [], removed := [], units := [], requests := [],
    seen := [], held := [], emits := [], nextRequest := 1, shadow := .reset, retryOwner := 0, audits := 0, transfers := 0, epochMoved := 0,
    prevEpoch := 0, heldCount := 0, duplicates := 0, nodeLost := 0, dropped := 0, mgmtLink := 0 }

/-- A tile in service with no count. -/
def Tile.reset : Tile := ⟨false, 0, 0, 0, 0, 0, [], []⟩

/-- The tiles at start: every slot FREE, every link up. -/
def Tiles.reset : Tiles := ⟨[], [], [], [], [], 0, []⟩

/-- No plan is loaded, and handles begin at 1 (R235). -/
def Plans.reset : Plans := ⟨[], 1, false, [], []⟩

/-- An engine with every register 0 and nothing in its buffers. -/
def Engine.reset : Engine :=
  { v := Vector.replicate 8 0, x := Vector.replicate 8 0, acc := Vector.replicate 32 0, p := false, cp := 0, qp := 0, th := 0, tb := [],
    offered := 0, abandoned := 0, tombstoned := 0, evicted := 0, nan := 0, movedIn := 0, movedOut := 0, stream := [], streamLeft := 0, sat := 0 }

/-- A bank in MEM with nothing queued (0x2441). -/
def Bank.reset : Bank := ⟨.mem, none, none, [], [], [], [], 0, false, 0, [], [], [], 0, 0, 0, 0, 0, 0⟩

/-- A stack before it is trained (0x2401: 3). -/
def Stack.reset : Stack := ⟨3, List.replicate 12 0, 0, 0, 0, 0, [], [], false⟩

/-- The banks at start. -/
def Banks.reset : Banks := ⟨[], List.replicate 32 .reset, [], [], [], 0, []⟩

/-- Search after reset. -/
def Search.reset : Search := ⟨[], [], [], [], [], 0xFFFF⟩

/-- An index slot just made active (R269). -/
def IndexState.fresh : IndexState := ⟨1, 0, 0, 0, 0, 0, 0, 0, 0, 0, 0, 0, 0, 0, 0, 0, 0, 0, 0, []⟩

/-- Selection counters at start (R357). -/
def SelectCounters.reset : SelectCounters := ⟨0, 0, 0, 0, 0, 0xFFFF, 0, 0⟩

/-- Updates and tables after reset. -/
def Updates.reset : Updates := ⟨[], [], [], [], [], [], [], []⟩

/-- A table just made active: formatting, epoch 1 (R391, R405). -/
def TableState.fresh : TableState := ⟨1, 1, 0, 0, 0, 0, 0, 0, 0, 0, 0, 0, 0, 0, [], []⟩

/-- KV pools after reset. -/
def Kv.reset : Kv := ⟨[], []⟩

/-- A KV pool just made active: formatting (R417). -/
def PoolState.fresh : PoolState := ⟨1, [], 0, 0, 0, 0, 0⟩

/-- Memory tiers after reset. -/
def Tiers.reset : Tiers := ⟨[], [], [], [], [], 0, [], [], 0, 0, [], [], [], [], []⟩

/-- Flash after reset: nothing enumerated, no map, the media never written (log entry 6). -/
def Flash.reset : Flash :=
  { luns := [], failures := [], blocks := [], volumes := [], map := [], opens := [], collect := [], ops := [], nextOp := 0,
    copies := [], nextCopy := 0, seq := 1, nextKey := 0, rootClean := false, rootSeq := 0, checkpoint := [], mapState := 0,
    mapSource := 0, progress := 0, loadTime := 0, shutdown := false, copied := 0, wearMoves := 0, erases := 0, retries := 0,
    samples := [], spareAt := [], crossed := [], waiting := [], parked := [], serving := [], levelling := [], loadFrom := 0 }

/-- The device before PWRGOOD rises. -/
def Dev.reset : Dev :=
  { pins := .reset,
    boot := .reset,
    nor := .reset,
    sensors := .reset,
    log := .reset,
    power := .reset,
    oculus := .reset,
    firmware := .reset,
    dict := .reset,
    violations := [],
    scrubs := [],
    keep := .reset,
    ports := [.reset, .reset],
    capsules := .reset,
    traffic := .reset,
    fabric := .reset,
    tiles := .reset,
    plans := .reset,
    banks := .reset,
    search := .reset,
    updates := .reset,
    kv := .reset,
    tiers := .reset,
    flash := .reset,
    mem := [],
    hostMem := [],
    out := [],
    refused := (0, 0),
    fillWait := false,
    freeCtr := 0 }

/-- The machine before PWRGOOD rises: nothing waits, the time base is 0 (R28), the fuses are unburned (log entry 6). -/
def State.reset : State := { pending := [], time := .reset, fuses := .reset, dev := .reset }

/-! ### Updates of one block of the device -/

/-- The device with its pins replaced. -/
def Dev.setPins (d : Dev) (x : Pins) : Dev := { d with pins := x }

/-- The device with its boot replaced. -/
def Dev.setBoot (d : Dev) (x : Boot) : Dev := { d with boot := x }

/-- The device with its nor replaced. -/
def Dev.setNor (d : Dev) (x : Nor) : Dev := { d with nor := x }

/-- The device with its sensors replaced. -/
def Dev.setSensors (d : Dev) (x : Sensors) : Dev := { d with sensors := x }

/-- The device with its log replaced. -/
def Dev.setLog (d : Dev) (x : EventLog) : Dev := { d with log := x }

/-- The device with its power replaced. -/
def Dev.setPower (d : Dev) (x : Power) : Dev := { d with power := x }

/-- The device with its oculus replaced. -/
def Dev.setOculus (d : Dev) (x : Oculus) : Dev := { d with oculus := x }

/-- The device with its firmware replaced. -/
def Dev.setFirmware (d : Dev) (x : Firmware) : Dev := { d with firmware := x }

/-- The device with its dict replaced. -/
def Dev.setDict (d : Dev) (x : Dict) : Dev := { d with dict := x }

/-- The device with its violations replaced. -/
def Dev.setViolations (d : Dev) (x : Tab ViolationLog) : Dev := { d with violations := x }

/-- The device with its scrubs replaced. -/
def Dev.setScrubs (d : Dev) (x : List (Nat × Nat)) : Dev := { d with scrubs := x }

/-- The device with its keep replaced. -/
def Dev.setKeep (d : Dev) (x : Keep) : Dev := { d with keep := x }

/-- The device with its ports replaced. -/
def Dev.setPorts (d : Dev) (x : List HostPort) : Dev := { d with ports := x }

/-- The device with its capsules replaced. -/
def Dev.setCapsules (d : Dev) (x : Capsules) : Dev := { d with capsules := x }

/-- The device with its traffic replaced. -/
def Dev.setTraffic (d : Dev) (x : Traffic) : Dev := { d with traffic := x }

/-- The device with its fabric replaced. -/
def Dev.setFabric (d : Dev) (x : Fabric) : Dev := { d with fabric := x }

/-- The device with its tiles replaced. -/
def Dev.setTiles (d : Dev) (x : Tiles) : Dev := { d with tiles := x }

/-- The device with its plans replaced. -/
def Dev.setPlans (d : Dev) (x : Plans) : Dev := { d with plans := x }

/-- The device with its banks replaced. -/
def Dev.setBanks (d : Dev) (x : Banks) : Dev := { d with banks := x }

/-- The device with its search replaced. -/
def Dev.setSearch (d : Dev) (x : Search) : Dev := { d with search := x }

/-- The device with its updates replaced. -/
def Dev.setUpdates (d : Dev) (x : Updates) : Dev := { d with updates := x }

/-- The device with its kv replaced. -/
def Dev.setKv (d : Dev) (x : Kv) : Dev := { d with kv := x }

/-- The device with its tiers replaced. -/
def Dev.setTiers (d : Dev) (x : Tiers) : Dev := { d with tiers := x }

/-- The device with its flash replaced. -/
def Dev.setFlash (d : Dev) (x : Flash) : Dev := { d with flash := x }

/-- The device with its mem replaced. -/
def Dev.setMem (d : Dev) (x : List Host.Cell) : Dev := { d with mem := x }

/-- The device with its hostMem replaced. -/
def Dev.setHostMem (d : Dev) (x : List Host.Cell) : Dev := { d with hostMem := x }

/-- The device with its out replaced. -/
def Dev.setOut (d : Dev) (x : List OutMsg) : Dev := { d with out := x }

/-- The device with its refused replaced. -/
def Dev.setRefused (d : Dev) (x : Nat × Nat) : Dev := { d with refused := x }

/-- The device with its fillWait replaced. -/
def Dev.setFillWait (d : Dev) (x : Bool) : Dev := { d with fillWait := x }

/-- The device with its freeCtr replaced. -/
def Dev.setFreeCtr (d : Dev) (x : Nat) : Dev := { d with freeCtr := x }

end Sys2Proof.Machine
end

