-- ==== Sys2Proof/Machine/Ops.lean ====
section
/-! DEFINITION. The operations the commands share: running, free values, status codes, configuration values, memory, the event log, messages. -/

namespace Sys2Proof.Machine

/-! ### Time and power -/

/-- What a tick's worth of time adds to the phase at the slewed rate (R28), in millionths of a tick. -/
def TimeBase.advance (t : TimeBase) : Nat := t.phase + (1000000 + t.slewPpm).toNat

/-- 10 ns of the global time base (R26): one tick, and at a slewed rate in the course of time more or fewer (R28). It counts while the device
has power and wraps in 64 bits. -/
def TimeBase.tick (t : TimeBase) : TimeBase :=
  if t.powered then { t with count := (t.count + t.advance / 1000000) % 2 ^ 64, phase := t.advance % 1000000 } else t

/-- What a device operation reads beside the device: the instant, and the fuses. -/
structure Ctx where
  now : Nat
  fuses : Fuses
deriving DecidableEq, Repr

/-- The context of a state. Every island reads the same count: the spec lets the counts in two islands differ by a tick at any instant
and says no more (R26; DESIGN CHOICE, log entry 49). -/
def State.ctx (s : State) : Ctx := ⟨s.time.count, s.fuses⟩

/-- Does the device run: PWRGOOD high (R707), SYS_RST_N high (R712), no THERMTRIP (R682), and not halted? -/
def State.running (s : State) : Bool :=
  s.time.powered && s.dev.pins.sysRstN && !s.dev.pins.thermtrip && s.dev.boot.node != 0

/-- A command's effect on the device, while the device runs; a device that does not run takes no command (log entry 8). -/
def devStep (f : Ctx → Dev → Dev) (s : State) : Out :=
  if s.running then .next { s with dev := f s.ctx s.dev } else .next s

/-- Ticks in a microsecond (R26). -/
def usTicks : Nat := 100
/-- Ticks in a millisecond. -/
def msTicks : Nat := 100000

/-! ### Free values -/

/-- The next free value, and the device with one more drawn (log entry 1). -/
def Dev.draw (d : Dev) : Nat × Dev := (Config.free d.freeCtr, d.setFreeCtr (d.freeCtr + 1))

/-- A free choice among `n` alternatives, 0 where there is none or one. -/
def Dev.choose (d : Dev) (n : Nat) : Nat × Dev := (Config.free d.freeCtr % max n 1, d.setFreeCtr (d.freeCtr + 1))

/-- A source of free values, one for each index, reserved at once. -/
def Dev.pick (d : Dev) (span : Nat) : (Nat → Nat) × Dev :=
  (fun i => Config.free (d.freeCtr + i), d.setFreeCtr (d.freeCtr + span))

/-! ### Status codes (*Status codes*, and the codes other chapters add) -/

/-- ST_OK. -/
def stOk : Nat := 0x00
/-- ST_DEADLINE. -/
def stDeadline : Nat := 0x10
/-- ST_BUDGET. -/
def stBudget : Nat := 0x11
/-- ST_POLICED. -/
def stPoliced : Nat := 0x12
/-- ST_EPOCH_MOVED. -/
def stEpochMoved : Nat := 0x20
/-- ST_RETRY_OWNER. -/
def stRetryOwner : Nat := 0x21
/-- ST_NODE_LOST. -/
def stNodeLost : Nat := 0x22
/-- ST_VIOLATION. -/
def stViolation : Nat := 0x30
/-- ST_BAD_PLAN. -/
def stBadPlan : Nat := 0x31
/-- ST_BAD_ARG. -/
def stBadArg : Nat := 0x32
/-- ST_NOT_FOUND (R450). -/
def stNotFound : Nat := 0x33
/-- ST_CONFIG_REJECT. -/
def stConfigReject : Nat := 0x40
/-- ST_MEDIA. -/
def stMedia : Nat := 0x50
/-- ST_READ_ONLY (R504). -/
def stReadOnly : Nat := 0x51
/-- ST_BUSY. -/
def stBusy : Nat := 0x60
/-- ST_FAULT (R157). -/
def stFault : Nat := 0x61
/-- ST_NO_SPACE (R361). -/
def stNoSpace : Nat := 0x62
/-- ST_ABORTED (R586). -/
def stAborted : Nat := 0x63
/-- ST_MINIMAL. -/
def stMinimal : Nat := 0x70

/-- The codes other than ST_OK that the chapters give (R6, R7). -/
def errorStatuses : List Nat :=
  [stDeadline, stBudget, stPoliced, stEpochMoved, stRetryOwner, stNodeLost, stViolation, stBadPlan, stBadArg, stNotFound, stConfigReject, stMedia,
    stReadOnly, stBusy, stFault, stNoSpace, stAborted, stMinimal]

/-! ### Configuration values -/

/-- The value of an entry in a table of written values: what was written, else the default (R75, R83). -/
def tabValue (t : Tab DictVal) (idx sub : Nat) : DictVal :=
  match tabGet (entryKey idx sub) t with
  | some v => v
  | none =>
    match entryAt idx sub with
    | some r => ⟨r.size, r.dflt⟩
    | none => ⟨0, 0⟩

/-- The active value of an entry. -/
def Dev.cfgVal (d : Dev) (idx sub : Nat) : DictVal := tabValue d.dict.cfg idx sub

/-- The active value of an entry, as a number. -/
def Dev.cfg (d : Dev) (idx sub : Nat) : Nat := (d.cfgVal idx sub).num

/-! ### Memory -/

/-- The byte at an address; an unlisted one reads 0. -/
def memGet : List Host.Cell → Nat → Byte
  | [], _ => 0
  | (a, b) :: m, x => if a = x then b else if x < a then 0 else memGet m x

/-- A byte put in front of a memory whose addresses lie above; a zero byte is not listed. -/
def memCons (x : Nat) (b : Byte) (m : List Host.Cell) : List Host.Cell := if b = 0 then m else (x, b) :: m

/-- The memory with one byte written; the canonical form is kept. -/
def memPut : List Host.Cell → Nat → Byte → List Host.Cell
  | [], x, b => memCons x b []
  | (a, c) :: m, x, b =>
    if x < a then memCons x b ((a, c) :: m) else if a = x then memCons x b m else (a, c) :: memPut m x b

/-- The bytes from an address on. -/
def memBytes (m : List Host.Cell) (x : Nat) : Nat → List Byte
  | 0 => []
  | n + 1 => memGet m x :: memBytes m (x + 1) n

/-- The memory with bytes written from an address on. -/
def memPutBytes (m : List Host.Cell) (x : Nat) : List Byte → List Host.Cell
  | [] => m
  | b :: bs => memPutBytes (memPut m x b) (x + 1) bs

/-- The memory with `n` bytes from an address on zeroed. -/
def memZero (m : List Host.Cell) (x n : Nat) : List Host.Cell := m.filter fun c => c.1 < x || x + n ≤ c.1

/-- A little-endian number of `n` bytes (R1). -/
def memNum (m : List Host.Cell) (x n : Nat) : Nat := ofLE (memBytes m x n)

/-- The memory with a little-endian number of `n` bytes written. -/
def memPutNum (m : List Host.Cell) (x n v : Nat) : List Host.Cell := memPutBytes m x (leBytes n v)

/-- Is memory canonical: addresses strictly rise, and no entry is the zero byte that an unlisted address reads? -/
def Memory.wf : List Host.Cell → Bool
  | [] => true
  | [c] => c.2 != 0
  | c :: e :: m => c.2 != 0 && decide (c.1 < e.1) && Memory.wf (e :: m)

/-- The key of a byte of a function's host memory. -/
def hostKey (port function addr : Nat) : Nat := (port * 64 + function) * 2 ^ 64 + addr % 2 ^ 64

/-! ### Bits of a device's lists -/

/-- The list with element `i` replaced. -/
def putAt {α : Type} (l : List α) (i : Nat) (x : α) : List α := l.set i x

/-! ### Messages -/

/-- The device with a message sent. -/
def Dev.send (d : Dev) (m : OutMsg) : Dev := d.setOut (m :: d.out)

/-- A fabric link by number. -/
def Dev.link (d : Dev) (l : Nat) : Link := d.fabric.links.getD l .reset

/-- A fabric link changed. -/
def Dev.modLink (d : Dev) (l : Nat) (f : Link → Link) : Dev := d.setFabric { d.fabric with links := listMod l f d.fabric.links }

/-- Does a link carry messages: up, or one lane narrower? -/
def Link.carries (l : Link) : Bool := l.state == 2 || l.state == 3

/-- Does a message type stay off links at AFP 2.3 (R604)? -/
def newType (type : Nat) : Bool := type == 0x40 || inRange 0x70 0x73 type

/-- The links over which a message of a type can go. -/
def Dev.linksFor (d : Dev) (type : Nat) : List Nat :=
  (List.range 32).filter fun l => (d.link l).carries && (!newType type || decide (0x30 ≤ (d.link l).version))

/-- A link keeps a message until it is acknowledged (R599), and counts it. -/
def Dev.keepSent (d : Dev) (l type dest : Nat) (fields : List Nat) : Dev :=
  d.modLink l fun k => { k with retry := k.retry ++ [⟨type, dest, nth fields 0, fields⟩], messages := k.messages + 1 }

/-- An AFP message sent over a link. -/
def Dev.afpOver (d : Dev) (l type dest : Nat) (fields : List Nat) : Dev := (d.keepSent l type dest fields).send (.afp type dest fields)

/-- An AFP message sent to a node, over one of the links that can carry it: which one is unspecified. Where none can, it waits in the first
link's buffer. -/
def Dev.afp (d : Dev) (type dest : Nat) (fields : List Nat) : Dev :=
  let up := d.linksFor type
  let (i, d) := d.choose up.length
  d.afpOver (up.getD i 0) type dest fields

/-- An AFP message sent before, sent again with RETRANSMIT set (R600, R607). -/
def Dev.afpAgain (d : Dev) (type dest : Nat) (fields : List Nat) : Dev :=
  let up := d.linksFor type
  let (i, d) := d.choose up.length
  (d.keepSent (up.getD i 0) type dest fields).send (.afpAgain type dest fields)

/-- Does a port's split use link l (R595)? -/
def Dev.linkUsed (d : Dev) (l : Nat) : Bool := decide (l % 4 < 2 ^ d.cfg (0x2A10 + l / 4) 1)

/-- The links of some ports begin to train; those that the split does not use read so (0x2A01), and those of a quarter die whose SerDes PLL
failed the boot self-test, 724 + q of P(2q) and P(2q + 1), stay down (R16, R671, R693). -/
def Dev.trainLinks (d : Dev) (ports : List Nat) : Dev :=
  ((List.range 32).filter fun l => ports.contains (l / 4)).foldl (fun d l =>
    d.modLink l fun k => { k with
      state := if !d.linkUsed l then 5 else if d.oculus.failedAtStart.contains (724 + l / 8) then 0 else 1, lanes := 0, version := 0, encrypted := false }) d

/-! ### Step times -/

/-- Milliseconds from PWRGOOD, at least 1: a step time of 0 is of a step not reached (0x1011). -/
def Ctx.ms (c : Ctx) : Nat := max 1 (c.now / msTicks)

/-- The end of a step recorded (0x1011). -/
def Dev.stepEnds (c : Ctx) (d : Dev) (step : Nat) : Dev :=
  d.setBoot { d.boot with stepTimes := d.boot.stepTimes.set (step - 1) (c.ms) }

/-! ### Slices of Oculus that end early (R697) -/

/-- The block after a block, in the round of 806. -/
def nextBlock (b : Nat) : Nat := (b + 1) % 806

/-- A slice aborted: its block is retested at the next period; the third abort in a row passes over the block. -/
def Oculus.abort (o : Oculus) : Oculus :=
  match o.slice with
  | none => o
  | some b =>
    if o.aborts = 2 then { o with slice := none, aborted := satAdd 64 o.aborted 1, aborts := 0, failedOnce := none, next := nextBlock b }
    else { o with slice := none, aborted := satAdd 64 o.aborted 1, aborts := o.aborts + 1, next := b }

/-- The link that holds lane i of port p: block 8p + i (R595). -/
def Dev.laneLink (d : Dev) (b : Nat) : Nat := 4 * (b / 8) + b % 8 * 2 ^ d.cfg (0x2A10 + b / 8) 1 / 8

/-- The link at its width again after the slice. -/
def Dev.widen (d : Dev) (b : Nat) : Dev :=
  if b < 64 then d.modLink (d.laneLink b) fun k => if k.state = 3 then { k with state := 2, lanes := k.lanes + 1 } else k else d

/-- The slice under way is aborted where its block is one of those meant; a lane's link is at its width again. -/
def Dev.abortSlice (d : Dev) (which : Nat → Bool) : Dev :=
  match d.oculus.slice with
  | some b => if which b then (d.setOculus d.oculus.abort).widen b else d
  | none => d

/-- A clock group at a frequency from now on (R150); a slice on one of its PLLs is aborted (R697). -/
def Dev.setFrequency (c : Ctx) (d : Dev) (group mhz : Nat) : Dev :=
  (d.setPower { d.power with mhz := d.power.mhz.set group mhz, changedAt := d.power.changedAt.set group c.now }).abortSlice
    fun b => b == 640 + 2 * group || b == 641 + 2 * group

/-! ### The event log (R683–R686) -/

/-- Records that the ring holds: 4,096 in Cupola SRAM, 1,048,576 once it lies in DRAM (R685). -/
def EventLog.capacity (l : EventLog) : Nat := if l.inDram then 1048576 else 4096

/-- The ring with one record more; a full ring loses its oldest (R685). -/
def EventLog.add (l : EventLog) (r : EventRec) (kept : Bool) : EventLog :=
  if l.ring.length < l.capacity then { l with ring := (r, kept) :: l.ring }
  else { l with ring := (r, kept) :: l.ring.dropLast, overwritten := satAdd 64 l.overwritten 1 }

/-- Records that the event log area of NOR holds (*SPI NOR layout*); the oldest are overwritten (DESIGN CHOICE, log entry 9). -/
def norEvents : Nat := 262144

/-- One event logged (R684): records of severity 1–3 reach NOR as they are logged (R686; log entry 9), others at a flush. The event
number rises across starts. -/
def Dev.event (c : Ctx) (d : Dev) (code severity realm w0 w1 w2 : Nat) : Dev :=
  let r : EventRec := ⟨c.now, code, severity, d.fabric.everAligned, realm, d.nor.boot.starts % 65536, d.nor.eventSeq,
    w0 % 2 ^ 32, w1 % 2 ^ 32, w2 % 2 ^ 32⟩
  let keep := decide (1 ≤ severity)
  let d := d.setLog (d.log.add r keep)
  let d := d.setNor { d.nor with eventSeq := d.nor.eventSeq + 1, events := if keep then (r :: d.nor.events).take norEvents else d.nor.events }
  if severity = 3 then d.setSensors { d.sensors with unacked := true } |>.setPins { d.pins with alert := true } else d

/-- Ticks in a second. -/
def secondTicks : Nat := 100000000

/-- Do two violations fold into one record (R644)? -/
def Violation.folds (h v : Violation) : Bool :=
  h.realm == v.realm && h.source == v.source && h.sourceId == v.sourceId && h.opcode == v.opcode && h.kind == v.kind &&
  h.address / 4096 == v.address / 4096 && decide (v.time ≤ h.time + msTicks)

/-- A record put in front of a realm's ring of 256; it may overwrite one not yet read (R645). -/
def ViolationLog.push (l : ViolationLog) (v : Violation) : ViolationLog :=
  { l with ring := (v :: l.ring).take 256, unread := min (l.unread + 1) 256, lost := if l.unread < 256 then l.lost else satAdd 64 l.lost 1 }

/-- A realm's log with one violation more: folded into the newest record (R644), or a record of its own. -/
def ViolationLog.add (l : ViolationLog) (v : Violation) : ViolationLog :=
  match l.ring with
  | h :: t => if h.folds v then { l with ring := { h with count := satAdd 32 h.count 1 } :: t } else l.push v
  | [] => l.push v

/-- One access refused with ST_VIOLATION: the record (R643), the realm's counter, and the event of the first in each second (R646). -/
def Dev.violate (c : Ctx) (d : Dev) (realm source sourceId opcode kind tag address plan desc : Nat) : Dev :=
  let v : Violation := ⟨c.now, realm, source, sourceId, opcode, kind, tag, address, plan, desc, 1⟩
  let l := (tabGetD realm .reset d.violations).add v
  let second := c.now / secondTicks
  let first := l.second != some second
  let d := d.setViolations (tabSet realm { l with count := satAdd 64 l.count 1, second := some second } d.violations)
  if first then d.event c 0x0801 1 realm realm source 0 else d

/-- The records that NOR does not yet hold are written to it (R686). -/
def Dev.flushEvents (d : Dev) : Dev :=
  let new := (d.log.ring.filter fun e => !e.2).map (·.1)
  (d.setNor { d.nor with events := (new ++ d.nor.events).take norEvents }).setLog { d.log with ring := d.log.ring.map fun e => (e.1, true) }

end Sys2Proof.Machine
end

