-- ==== Sys2Proof/Machine/Places.lean ====
section
/-! DEFINITION. Where an address leads: regions and banks, allotments and windows, stripes, and the T2 cache (05, 07, 11). -/

namespace Sys2Proof.Machine

/-! ### Regions (R164–R168) -/

/-- GiB, as a number of bytes. -/
def gib : Nat := 2 ^ 30
/-- Bytes of a stack (R455). -/
def stackBytes : Nat := 0x1800000000

/-- MODE of a region descriptor. -/
def rgMode (w : Nat) : Nat := bits w 1 0
/-- EXCHANGE of a region descriptor. -/
def rgExchange (w : Nat) : Nat := bits w 3 2
/-- GROUP_LOG2 of a region descriptor. -/
def rgGroup (w : Nat) : Nat := bits w 6 4
/-- EXCL_OK of a region descriptor. -/
def rgExcl (w : Nat) : Bool := bit w 7
/-- FIRST of a region descriptor. -/
def rgFirst (w : Nat) : Nat := bits w 12 8
/-- COUNT of a region descriptor. -/
def rgCount (w : Nat) : Nat := bits w 17 13
/-- REALM of a region descriptor. -/
def rgRealm (w : Nat) : Nat := bits w 31 24
/-- Is the region used, INTERLEAVED or BANK_LINEAR? -/
def rgUsed (w : Nat) : Bool := rgMode w == 1 || rgMode w == 2

/-- The region descriptors of a stack, with `cfg` the value of an entry. -/
def regionsBy (cfg : Nat → Nat → Nat) (s : Nat) : List Nat := (List.range 16).map fun r => cfg (0x2420 + s) (r + 1)

/-- The used region that covers bank index `b` among descriptors. -/
def regionOfIndex (l : List Nat) (b : Nat) : Option Nat :=
  l.find? fun w => rgUsed w && decide (rgFirst w ≤ b) && decide (b < rgFirst w + rgCount w)

/-- The used region that covers a stack offset (R165). -/
def regionOfOffset (l : List Nat) (o : Nat) : Option Nat := regionOfIndex l (o / (4 * gib))

/-- The region of a global bank (R162). -/
def Dev.bankRegion (d : Dev) (bank : Nat) : Option Nat := regionOfIndex (regionsBy d.cfg (bank / 768)) (bank % 24)

/-- The global number of bank index `b` of a pseudo-channel of a stack (R162). -/
def globalBank (s pc b : Nat) : Nat := 768 * s + 24 * pc + b

/-- Bank and bank address of a stack offset in its region: R166 and R167. Pseudo-channel 2·ch + ps is the ps-th of channel ch
(log entry 10). -/
def regionPlace (s w o : Nat) : Nat × Nat :=
  let r := o - rgFirst w * (4 * gib)
  if rgMode w = 2 then
    let j := r / 2 ^ 27
    (globalBank s (j % 32) (rgFirst w + j / 32), o % 2 ^ 27)
  else
    let u := r / 256
    (globalBank s (2 * (u % 16) + u / 16 % 2) (rgFirst w + u / 32 % rgCount w), 256 * (u / (32 * rgCount w)) + o % 256)

/-- The key in memory of a bank's byte. -/
def bankKey (bank a : Nat) : Nat := bank * 2 ^ 27 + a % 2 ^ 27

/-- The key in memory of a T1 address; none where no region covers it (R456). -/
def Dev.t1Key (d : Dev) (a : Nat) : Option Nat :=
  let s := a / stackBytes
  match regionOfOffset (regionsBy d.cfg s) (a % stackBytes) with
  | some w => let (b, x) := regionPlace s w (a % stackBytes); some (bankKey b x)
  | none => none

/-! ### Tiers and windows (R23, R457, R458, R466, R127) -/

/-- First address of T0. -/
def t0Base : Nat := 0x100000000000
/-- First address of T2. -/
def t2Base : Nat := 0x400000000000

/-- Is the address in T1? -/
def inT1 (a : Nat) : Bool := decide (a < 32 * stackBytes)
/-- Is the address in T0? -/
def inT0 (a : Nat) : Bool := decide (t0Base ≤ a) && decide (a < t0Base + 576 * 0x200000)
/-- Is the address in T2? -/
def inT2 (a : Nat) : Bool := decide (t2Base ≤ a) && decide (a < 0x800000000000)

/-- The allotment word of a GiB of a stack; 0 where it lies in no INTERLEAVED region of realm 0 (R457). -/
def allotBy (cfg : Nat → Nat → Nat) (s g : Nat) : Nat :=
  match regionOfOffset (regionsBy cfg s) (g * gib) with
  | some w => if rgMode w = 1 && rgRealm w == 0 then elem (cfg 0x2460 (s + 1)) 2 g else 0
  | none => 0

/-- REALM of an allotment word. -/
def alRealm (w : Nat) : Nat := bits w 7 0
/-- CACHE of an allotment word. -/
def alCache (w : Nat) : Bool := bit w 8

/-- The realm in whose T1 window a GiB of a stack lies; 0 for the device's, none where no region covers it (R456, R458). A lent GiB that
a commit allots is not in the new owner's window until it is released (R476). -/
def ownerBy (cfg : Nat → Nat → Nat) (lent : Nat → Bool) (s g : Nat) : Option Nat :=
  match regionOfOffset (regionsBy cfg s) (g * gib) with
  | none => none
  | some w =>
    if rgMode w = 1 && rgRealm w == 0 then
      let al := elem (cfg 0x2460 (s + 1)) 2 g
      some (if alCache al || lent (96 * s + g) then 0 else alRealm al)
    else some (rgRealm w)

/-- The owner of the GiB of a T1 address. -/
def Dev.t1Owner (d : Dev) (a : Nat) : Option Nat :=
  ownerBy d.cfg (fun g => (tabGet g d.tiers.lent).isSome) (a / stackBytes) (a % stackBytes / gib)

/-- The clock group of a tile (R22); tile n lies at (n mod 24, n / 24). -/
def tileGroup (n : Nat) : Nat := 6 * (n / 24 / 4) + n % 24 / 4

/-- The realm that owns a clock group, 0 where none does (0x2E00 + r.02). -/
def Dev.groupOwner (d : Dev) (g : Nat) : Nat :=
  ((List.range 255).find? fun r => bit (d.cfg (0x2E01 + r) 2) g).map (· + 1) |>.getD 0

/-- The realm that owns the tile of a T0 address (R127). -/
def Dev.t0Owner (d : Dev) (a : Nat) : Nat := d.groupOwner (tileGroup ((a - t0Base) / 0x200000))

/-- The segment of a T2 address. -/
def segmentOf (a : Nat) : Nat := (a - t2Base) / gib

/-- A segment's record; unmapped where none is held. -/
def Dev.segment (d : Dev) (n : Nat) : Segment := tabGetD n ⟨0, 0, 0, 0, 0, false, false, 0⟩ d.tiers.segments

/-- The GiB of a realm's T2 cache, by number (R471); realm 0 has none. -/
def Dev.cacheGibs (d : Dev) (realm : Nat) : List Nat :=
  if realm = 0 then [] else ((List.range 32).map fun s => ((List.range 96).filter fun g =>
    let w := allotBy d.cfg s g; alCache w && alRealm w == realm && (tabGet (96 * s + g) d.tiers.lent).isNone).map (96 * s + ·)).flatten

/-- GiB of T2 cache of a realm (0x2462.01). -/
def Dev.cacheGib (d : Dev) (realm : Nat) : Nat := (d.cacheGibs realm).length

/-- What an access of a realm to a GiB-sized piece of T1 or T2 answers: ST_OK, or the status that refuses it (R23, R456, R458, R466,
R472, R480, R482). -/
def Dev.pieceStatus (d : Dev) (realm a : Nat) : Nat :=
  if inT1 a then (if d.t1Owner a == some realm && realm != 0 then stOk else stViolation)
  else if inT2 a then
    let sg := d.segment (segmentOf a)
    if sg.state = 0 || !sg.mine || sg.realm != realm then stViolation
    else if sg.state = 4 then stNodeLost
    else if d.cacheGib realm = 0 then stNoSpace else stOk
  else stViolation

/-- The addresses at which an access of `len` bytes enters a new GiB. -/
def piecesOf (a len : Nat) : List Nat :=
  if 2 ^ 47 < a + len then [2 ^ 48] else
    (List.range ((a + len - 1) / gib - a / gib + 1)).map fun i => if i = 0 then a else (a / gib + i) * gib

/-- What an access of a realm to a range of T1 or T2 answers: the first piece that refuses it decides. -/
def Dev.windowStatus (d : Dev) (realm a len : Nat) : Nat :=
  if len = 0 then stOk else
    (((piecesOf a len).map (d.pieceStatus realm)).find? (· != stOk)).getD stOk

/-- Does a range lie inside the realm's windows of T1 and T2 (R458, R466)? -/
def Dev.inWindows (d : Dev) (realm a len : Nat) : Bool := d.windowStatus realm a len != stViolation

/-- Does a range lie inside the realm's windows, T0 included? -/
def Dev.inAnyWindow (d : Dev) (realm a len : Nat) : Bool :=
  d.inWindows realm a len || (inT0 a && inT0 (a + len - 1) && decide (0 < len) &&
    (List.range ((a + len - 1 - t0Base) / 0x200000 - (a - t0Base) / 0x200000 + 1)).all fun i =>
      d.groupOwner (tileGroup ((a - t0Base) / 0x200000 + i)) == realm)

/-- Does a range lie inside the realm's T1 windows? -/
def Dev.inT1Window (d : Dev) (realm a len : Nat) : Bool :=
  decide (0 < len) && decide (a + len ≤ 32 * stackBytes) && (piecesOf a len).all fun p => d.t1Owner p == some realm

/-! ### Index descriptors and stripes (R265, R273–R276) -/

/-- The descriptor of index slot x. -/
def Dev.index (d : Dev) (x : Nat) : Nat := d.cfg (0x3020 + x) 1

/-- KIND. -/
def ixKind (w : Nat) : Nat := bits w 7 0
/-- CODE_FMT. -/
def ixCode (w : Nat) : Nat := bits w 11 8
/-- METRIC. -/
def ixMetric (w : Nat) : Nat := bits w 15 12
/-- ORIG_FMT. -/
def ixOrig (w : Nat) : Nat := bits w 19 16
/-- REALM. -/
def ixRealm (w : Nat) : Nat := bits w 31 24
/-- DIM. -/
def ixDim (w : Nat) : Nat := bits w 47 32
/-- DEG. -/
def ixDeg (w : Nat) : Nat := bits w 63 48
/-- COUNT. -/
def ixCount (w : Nat) : Nat := bits w 95 64
/-- SCALE. -/
def ixScale (w : Nat) : Nat := bits w 127 96
/-- ID_LIMIT. -/
def ixIdLimit (w : Nat) : Nat := bits w 159 128
/-- ID_BASE. -/
def ixIdBase (w : Nat) : Nat := bits w 207 160
/-- STRIPE_LOG2. -/
def ixStripeLog (w : Nat) : Nat := bits w 211 208
/-- SEG_CAP. -/
def ixSegCap (w : Nat) : Nat := bits w 224 216
/-- VOLUME. -/
def ixVolume (w : Nat) : Nat := bits w 255 240
/-- SPARSE. -/
def ixSparse (w : Nat) : Nat := bits w 271 256
/-- STRIPE_COUNT. -/
def ixStripes (w : Nat) : Nat := bits w 287 272
/-- BOUND_SLACK. -/
def ixSlack (w : Nat) : Nat := bits w 319 288
/-- AREA_ADDR. -/
def ixArea (w : Nat) : Nat := bits w 383 320
/-- CELL_ADDR. -/
def ixCell (w : Nat) : Nat := bits w 447 384
/-- HANDLE_ADDR. -/
def ixHandle (w : Nat) : Nat := bits w 511 448
/-- HANDLE_ARRAYS. -/
def ixArrays (w : Nat) : Nat := bits w 543 512
/-- CACHE_SLOTS. -/
def ixCacheSlots (w : Nat) : Nat := bits w 575 544
/-- LOCATOR_ADDR. -/
def ixLocator (w : Nat) : Nat := bits w 639 576
/-- CACHE_ADDR. -/
def ixCacheAddr (w : Nat) : Nat := bits w 703 640
/-- Stripe word i. -/
def ixStripe (w i : Nat) : Nat := byteField w (128 + 2 * i) 2

/-- The code size CS (R278). -/
def ixCS (w : Nat) : Nat := if ixCode w = 10 then ixDim w / 2 else ixDim w
/-- Scale exponents per code, SB (R278): 0 unless the binding is streamed. -/
def ixSB (w : Nat) : Nat := if bindSrc (ixScale w) = 2 then ixDim w / 2 ^ bindBlock (ixScale w) else 0
/-- Bytes of an original, OB (R282). -/
def ixOB (w : Nat) : Nat := if ixOrig w = 9 then 4 * ixDim w else 2 * ixDim w
/-- Rows of a segment (R279). -/
def ixSegRows (w : Nat) : Nat :=
  ceilDiv (ixSegCap w * ixCS w) 1024 +
    ceilDiv (ceilDiv (4 * ixSegCap w) 32 * 32 + ceilDiv (ixSegCap w * ixSB w) 32 * 32) 1024

/-- STACK of a stripe word. -/
def stripeStack (t : Nat) : Nat := bits t 4 0
/-- DIE of a stripe word. -/
def stripeDie (t : Nat) : Nat := bits t 8 5
/-- PC of a stripe word. -/
def stripePc (t : Nat) : Nat := bits t 13 9

/-- The pseudo-channels of a stripe of 2^s banks (R273). -/
def stripePcs (s t : Nat) : List Nat :=
  if s ≤ 6 then (List.range (2 ^ (s - 1))).map (stripePc t + ·) else List.range 32
/-- The bank indices of a stripe (R273). -/
def stripeIndices (s t : Nat) : List Nat :=
  if s ≤ 6 then [2 * stripeDie t, 2 * stripeDie t + 1] else (List.range (2 ^ (s - 5))).map (2 * stripeDie t + ·)

/-- The global bank of member m of a stripe (R275). -/
def stripeBank (s t m : Nat) : Nat :=
  if s ≤ 6 then globalBank (stripeStack t) (stripePc t + m / 2) (2 * stripeDie t + m % 2)
  else globalBank (stripeStack t) (m % 64 / 2) (2 * (stripeDie t + m / 64) + m % 2)

/-- The banks of an index's stripes. -/
def indexBanks (w : Nat) : List Nat :=
  if ixKind w = 1 then ((List.range (ixStripes w)).map fun i =>
    (List.range (2 ^ ixStripeLog w)).map (stripeBank (ixStripeLog w) (ixStripe w i))).flatten
  else []

/-- Does the stripe hold a global bank, and as which member (R275)? -/
def stripeMember (s t bank : Nat) : Option Nat :=
  let pc := bank % 768 / 24
  let b := bank % 24
  if bank / 768 = stripeStack t && (stripePcs s t).contains pc && (stripeIndices s t).contains b then
    some (if s ≤ 6 then 2 * (pc - stripePc t) + b % 2 else 64 * (b / 2 - stripeDie t) + 2 * pc + b % 2)
  else none

/-- Is a global bank a bank of a stripe of an index? -/
def ixHasBank (w bank : Nat) : Bool :=
  ixKind w == 1 && (List.range (ixStripes w)).any fun i => (stripeMember (ixStripeLog w) (ixStripe w i) bank).isSome

/-- Is a global bank a bank of a stripe of any active index (R277)? -/
def Dev.isStripeBank (d : Dev) (bank : Nat) : Bool := (List.range 64).any fun x => ixHasBank (d.index x) bank

/-- The stripe of a cell, as its word (R276). -/
def ixCellStripe (w c : Nat) : Nat := ixStripe w (c % ixStripes w)

/-! ### The T2 cache (R468–R471) -/

/-- Counters of a realm's cache. -/
def Dev.cacheCounters (d : Dev) (realm : Nat) : CacheCounters := tabGetD realm ⟨0, 0, 0, 0⟩ d.tiers.counters

/-- The counters changed. -/
def Dev.countCache (d : Dev) (realm : Nat) (f : CacheCounters → CacheCounters) : Dev :=
  d.setTiers { d.tiers with counters := tabSet realm (f (d.cacheCounters realm)) d.tiers.counters }

/-- Number of sets of a realm's directory (R468). -/
def Dev.cacheSets (d : Dev) (realm : Nat) : Nat := d.cacheGib realm * 1024

/-- A sector's bytes taken from one memory into another: 4,096 bytes at the sector's address. -/
def copySector (src dst : List Host.Cell) (sector : Nat) : List Host.Cell :=
  memPutBytes dst (sector * 4096) (memBytes src (sector * 4096) 4096)

/-- A dirty sector sent to its home (R471): a POOL WRITE message, the home's bytes (log entry 11), a write-back that awaits its
acknowledgement, for which a write waits where it is written through. A sector whose write-back is on its way already is sent again, and the first
acknowledgement no longer clears it. -/
def Dev.sendBack (d : Dev) (realm sector : Nat) (through : Bool) : Dev :=
  let sg := d.segment (segmentOf (sector * 4096))
  let t := d.tiers
  let d := d.setTiers { t with
    home := copySector t.cache t.home sector,
    writeBacks := t.writeBacks.map (fun b => if b.sector = sector then { b with again := true } else b) ++ [⟨sector, realm, false, through, none⟩] }
  let d := d.countCache realm fun k => { k with writeBacks := k.writeBacks + 1 }
  d.afp 0x53 sg.homeNode [segmentOf (sector * 4096), sg.gen, sector * 4096 % gib, 4096]

/-- A dirty sector sent to its home, for no write that waits. -/
def Dev.writeBack (d : Dev) (realm sector : Nat) : Dev := d.sendBack realm sector false

/-- A sector's write-back is on its way and covers its present bytes. -/
def Dev.onItsWay (d : Dev) (sector : Nat) : Bool := d.tiers.writeBacks.any fun b => b.sector == sector && !b.again

/-- The T2 address bits [45:16] of a sector's panel, from the sector number (address / 4,096). -/
def panelTag (sector : Nat) : Nat := sector / 16 % 2 ^ 30

/-- A tag counts from T2 address bits [45:16]; the sector number of sector i of a panel whose tag was taken from T2. -/
def panelSector (tag i : Nat) : Nat := (t2Base / 65536 + tag) * 16 + i

/-- The panel's dirty sectors, by sector number. -/
def CachePanel.dirtyAt (p : CachePanel) : List Nat := (bitsSet 16 p.dirty).map (panelSector p.tag)

/-- When the oldest dirty sector of a panel was first written (AGE). -/
def CachePanel.dirtySince (p : CachePanel) : Nat := ((p.written.map (·.2)).min?).getD 0

/-- The panel of a realm with a tag. -/
def Dev.panel (d : Dev) (realm tag : Nat) : Option CachePanel := d.tiers.panels.find? fun p => p.realm == realm && p.tag == tag

/-- The panel with a tag put in front as the most recently used. -/
def Dev.putPanel (d : Dev) (p : CachePanel) : Dev :=
  d.setTiers { d.tiers with panels := p :: d.tiers.panels.filter fun q => !(q.realm == p.realm && q.tag == p.tag) }

/-- The panel changed in place. -/
def Dev.setPanel (d : Dev) (p : CachePanel) : Dev :=
  d.setTiers { d.tiers with panels := d.tiers.panels.map fun q => if q.realm = p.realm ∧ q.tag = p.tag then p else q }

/-- A panel leaves the cache: its dirty sectors are written back and stay dirty until their homes have acknowledged them, its bytes go (R471). -/
def Dev.dropPanel (d : Dev) (p : CachePanel) (writeBack : Bool) : Dev :=
  let d := if writeBack then (p.dirtyAt.filter fun s => !d.onItsWay s).foldl (fun d s => d.writeBack p.realm s) d else d
  d.setTiers { d.tiers with
    panels := d.tiers.panels.filter fun q => !(q.realm == p.realm && q.tag == p.tag)
    replaced := if writeBack && p.dirty != 0 then p :: d.tiers.replaced else d.tiers.replaced
    cache := memZero d.tiers.cache (panelSector p.tag 0 * 4096) 65536 }

/-- The cached panels in the set of a tag (R468). -/
def Dev.panelSet (d : Dev) (realm tag : Nat) : List CachePanel :=
  let sets := max (d.cacheSets realm) 1
  d.tiers.panels.filter fun p => p.realm == realm && p.tag % sets == tag % sets

/-- Room for a panel in its set: the least recently used entry that is not pinned is replaced where all 16 are in use (R468). An access whose set has
every entry pinned waits before it comes here (R472). -/
def Dev.makeRoom (d : Dev) (realm tag : Nat) : Dev :=
  let inSet := d.panelSet realm tag
  if inSet.length < 16 then d
  else match (inSet.filter fun p => p.pins == 0).getLast? with
    | some p => d.dropPanel p true
    | none => d

/-- The panel of a sector brought into the directory, most recently used. -/
def Dev.ensurePanel (d : Dev) (realm sector : Nat) : CachePanel × Dev :=
  let tag := panelTag sector
  match d.panel realm tag with
  | some p => (p, d.putPanel p)
  | none =>
    let d := d.makeRoom realm tag
    let p : CachePanel := ⟨realm, tag, 0, 0, 0, []⟩
    (p, d.putPanel p)

/-- A sector made present: a hit, or a fetch from the home (R469; T2_CACHE_MISS). `fetch` is false where a whole sector is to be
written. -/
def Dev.touchSector (d : Dev) (realm sector : Nat) (fetch : Bool) : Dev :=
  let (p, d) := d.ensurePanel realm sector
  if bit p.present (sector % 16) then d.countCache realm fun k => { k with hits := k.hits + 1 }
  else
    let d := d.setPanel { p with present := p.present ||| 2 ^ (sector % 16) }
    if !fetch then d else
      let sg := d.segment (segmentOf (sector * 4096))
      let d := d.setTiers { d.tiers with cache := copySector d.tiers.home d.tiers.cache sector }
      (d.countCache realm fun k => { k with misses := k.misses + 1 }).afp 0x52 sg.homeNode
        [segmentOf (sector * 4096), sg.gen, sector * 4096 % gib, 4096]

/-- The sectors of a range of T2. -/
def sectorsOf (a len : Nat) : List Nat :=
  if len = 0 then [] else (List.range ((a + len - 1) / 4096 - a / 4096 + 1)).map (a / 4096 + ·)

/-- A realm's dirty sectors: those cached, and those of replaced panels that their homes have not acknowledged (R471). -/
def Dev.dirtySectors (d : Dev) (realm : Nat) : List Nat :=
  distinct (((d.tiers.panels ++ d.tiers.replaced).filter fun p => p.realm == realm).map CachePanel.dirtyAt).flatten

/-- The realm's panels with something to write back, oldest first. -/
def Dev.oldestDirty (d : Dev) (realm : Nat) : List CachePanel :=
  sortBy (fun a b => decide (a.dirtySince < b.dirtySince)) (d.tiers.panels.filter fun p => p.realm == realm && p.dirty != 0)

/-- Sectors written back, oldest entries first, until no more than `limit` dirty ones are without a write-back (R471). -/
def Dev.trimDirty (d : Dev) (realm limit : Nat) : List CachePanel → Dev
  | [] => d
  | p :: ps =>
    if ((d.dirtySectors realm).filter fun s => !d.onItsWay s).length ≤ limit then d
    else Dev.trimDirty ((p.dirtyAt.filter fun s => !d.onItsWay s).foldl (fun d s => d.writeBack realm s) d) realm limit ps

/-- Is a sector's segment evacuated, so that a write to it is acknowledged when its home has it (R477)? -/
def Dev.evacuates (d : Dev) (sector : Nat) : Bool := inRange 2 3 (d.segment (segmentOf (sector * 4096))).state

/-- Sector marked dirty (R469), and written through where its segment is evacuated or the write-back age is 0 (R477, 0x2461.02). -/
def Dev.markDirty (c : Ctx) (d : Dev) (realm sector : Nat) : Dev :=
  match d.panel realm (panelTag sector) with
  | none => d
  | some p =>
    let i := sector % 16
    let first := !bit p.dirty i || d.onItsWay sector
    let d := d.setPanel { p with dirty := p.dirty ||| 2 ^ i, written := if first then tabSet i c.now p.written else p.written }
    let d := d.setTiers { d.tiers with
      writeBacks := d.tiers.writeBacks.map fun b => if b.sector = sector then { b with again := true } else b }
    if d.evacuates sector || d.cfg 0x2461 2 == 0 then d.sendBack realm sector (d.evacuates sector) else d

/-- The realm's dirty sectors brought down to its dirty limit (R471). -/
def Dev.trimToLimit (d : Dev) (realm : Nat) : Dev :=
  d.trimDirty realm (d.cacheGib realm * 262144 * d.cfg 0x2461 1 / 100) (d.oldestDirty realm)

/-- The cached panels of a list pinned once more, or once less. -/
def Dev.repin (d : Dev) (l : List (Nat × Nat)) (f : Nat → Nat) : Dev :=
  d.setTiers { d.tiers with panels := d.tiers.panels.map fun p => if l.contains (p.realm, p.tag) then { p with pins := f p.pins } else p }

/-- A capsule in flight. -/
def Dev.capsule? (d : Dev) (order : Nat) : Option Capsule := d.capsules.live.find? fun c => c.order == order

/-! ### Banks and their stacks (R89, R90, R190) -/

/-- A bank's record. -/
def Dev.bank (d : Dev) (n : Nat) : Bank := tabGetD n .reset d.banks.banks

/-- A bank's record changed. -/
def Dev.modBank (d : Dev) (n : Nat) (f : Bank → Bank) : Dev :=
  d.setBanks { d.banks with banks := tabMod n .reset f d.banks.banks }

/-- The value of an entry for a capsule's work: that of its acceptance. -/
def Dev.cfgFor (d : Dev) (capsule idx sub : Nat) : Nat :=
  match d.capsule? capsule with
  | some k => (tabValue k.cfg idx sub).num
  | none => d.cfg idx sub

/-- The oldest hold on a block, if there is one. -/
def Dev.holdOn (d : Dev) (kind number : Nat) : Option Hold := d.dict.holds.find? fun h => h.kind == kind && h.number == number

/-- A per-stack entry of 0x2405–0x2409: while the stack is held, that of the last generation before the oldest hold (R89, R90). -/
def Dev.stackCfg (d : Dev) (s idx : Nat) : Nat :=
  match d.holdOn 0 s with
  | none => d.cfg idx (s + 1)
  | some h =>
    match (d.capsules.live.filter fun k => decide (k.order < h.since)).getLast? with
    | some k => d.cfgFor k.order idx (s + 1)
    | none => d.cfg idx (s + 1)

/-- A stack's record. -/
def Dev.stack (d : Dev) (s : Nat) : Stack := d.banks.units.getD s .reset

/-- A stack's record changed. -/
def Dev.modStack (d : Dev) (s : Nat) (f : Stack → Stack) : Dev := d.setBanks { d.banks with units := listMod s f d.banks.units }

/-- Is a stack under the governor, and not under timing rules? -/
def Dev.governed (d : Dev) (s : Nat) : Bool := d.stackCfg s 0x2405 == 0

/-! ### Accesses at a bank's controller (R155, R191–R193, R203) -/

/-- Units of an access to bytes of one row: 8 for the row, 1 for each column (R203). -/
def rowUnits (a len : Nat) : Nat := 8 + ((a + len + 31) / 32 - a / 32)

/-- Units taken from a window; ordinary accesses are charged and never delayed (R203). -/
def Dev.spendUnits (d : Dev) (s n : Nat) : Dev :=
  if d.governed s then d.modStack s fun k => { k with remaining := k.remaining - n } else d

/-- Does a bank keep ordinary accesses waiting: in an open step, or while a sequence has it exclusively (R192, R193)? -/
def Bank.closed (b : Bank) : Bool :=
  match b.run with
  | some r => r.inStep || b.state == .pimExclusive
  | none => false

/-- Does any ordinary access wait at a bank? -/
def Bank.waits (b : Bank) : Bool := !b.accesses.isEmpty || !b.quiet.isEmpty

/-- A range cut at the multiples of a size. -/
def cutAt (u a len : Nat) : List (Nat × Nat) :=
  if len = 0 then [] else
    (List.range ((a + len - 1) / u - a / u + 1)).map fun i =>
      let lo := max a ((a / u + i) * u)
      (lo, min (a + len) ((a / u + i + 1) * u) - lo)

/-- What the on-die code corrects in a read that no command's operand speaks of: it finds a single-bit error or none, freely, and counts it (R208;
log entry 77). -/
def Dev.noteCode (d : Dev) (bank : Nat) (write : Bool) : Dev :=
  if write then d
  else
    let (k, d) := d.choose 2
    d.modBank bank fun b => { b with corrected := satAdd 32 b.corrected k }

/-- An operator's or the device's own access to bytes of one row. A bank that lets it through serves it at once. At any other it waits to be
acknowledged until a boundary, and until then the running sequence reads the row as it was (R155, R192, R193). -/
def Dev.touchRow (d : Dev) (bank a len : Nat) (write : Bool) : Dev :=
  let b := d.bank bank
  if b.closed then
    let old := memNum d.mem (bankKey bank (a / 1024 * 1024)) 1024
    (d.noteCode bank write).modBank bank fun b => { b with
      quiet := b.quiet ++ [⟨rowUnits a len, none, false⟩]
      shadow := if write && (tabGet (a / 1024) b.shadow).isNone then tabSet (a / 1024) old b.shadow else b.shadow }
  else
    let d := (d.spendUnits (bank / 768) (rowUnits a len)).noteCode bank write
    match b.run with
    | some r =>
      if r.counted then d
      else d.modBank bank fun b => { b with
        suspensions := satAdd 64 b.suspensions 1, run := b.run.map fun r => { r with counted := true } }
    | none => d

/-- An access to bytes of a bank, row by row. -/
def Dev.touchBank (d : Dev) (bank a len : Nat) (write : Bool) : Dev :=
  (cutAt 1024 a len).foldl (fun d p => d.touchRow bank p.1 p.2 write) d

/-- An access to a range of T1: each 256-byte run lies in one row of one bank (R166, R167). -/
def Dev.touchT1 (d : Dev) (a len : Nat) (write : Bool) : Dev :=
  (cutAt 256 a len).foldl (fun d p => match d.t1Key p.1 with
    | some k => d.touchRow (k / 2 ^ 27) (k % 2 ^ 27) p.2 write
    | none => d) d

/-- The accesses that have just come to wait: noted with their arrival (R193) and the operation that waits for them (R143). -/
def Bank.hear (now : Nat) (owner : Option (Nat × Nat)) (b : Bank) : Bank :=
  if b.quiet.all fun q => q.heard then b
  else { b with
    firstWait := if b.accesses.isEmpty && !b.quiet.any (fun q => q.heard) then now else b.firstWait
    quiet := b.quiet.map fun q => if q.heard then q else { q with owner := owner, heard := true } }

/-- The same at every bank, and for the writes that wait for a home (R477). -/
def Dev.hear (c : Ctx) (d : Dev) (owner : Option (Nat × Nat)) : Dev :=
  (d.setBanks { d.banks with banks := d.banks.banks.map fun e => (e.1, e.2.hear c.now owner) }).setTiers { d.tiers with
    writeBacks := d.tiers.writeBacks.map fun b => if b.through then { b with through := false, owner := owner } else b }

/-- A command's effect, with the arrival of what it leaves waiting at the banks noted. -/
def hearing (f : Ctx → Dev → Dev) (c : Ctx) (d : Dev) : Dev := (f c d).hear c none

/-- Does an operation, or a record of an update, wait for a bank or a home to acknowledge an access of its own (R143, R155, R477)? -/
def Dev.unacknowledged (d : Dev) (order desc : Nat) : Bool :=
  (d.banks.banks.any fun e => e.2.quiet.any fun q => q.owner == some (order, desc)) ||
    d.tiers.writeBacks.any fun b => b.owner == some (order, desc)

/-! ### Reads and writes of device addresses -/

/-- The GiB in which a realm's T2 cache holds a panel: which of its cache GiB is stated nowhere, and the tag chooses it (log entry 99). -/
def Dev.cacheGibAt (d : Dev) (realm a : Nat) : Option Nat :=
  let l := d.cacheGibs realm
  l[a / 65536 % max l.length 1]?

/-- The stack in which a realm's T2 cache holds a panel. -/
def Dev.cacheStack (d : Dev) (realm a : Nat) : Option Nat := (d.cacheGibAt realm a).map (· / 96)

/-- The units of an access that the realm's cache serves from its DRAM (R203). -/
def Dev.spendCache (d : Dev) (realm a len : Nat) : Dev :=
  (cutAt 1024 a len).foldl (fun d p => match d.cacheStack realm p.1 with
    | some s => d.spendUnits s (rowUnits p.1 p.2)
    | none => d) d

/-- So many columns of a read that the realm's cache serves are corrected, at a bank that nothing states (R208, log entry 99). -/
def Dev.correctCache (d : Dev) (realm a n : Nat) : Dev :=
  match d.cacheStack realm a with
  | none => d
  | some s => let (i, d) := d.choose 768; d.modBank (768 * s + i) fun b => { b with corrected := satAdd 32 b.corrected n }

/-- A read of T2 through the realm's cache. -/
def Dev.t2Read (d : Dev) (realm a len : Nat) : List Byte × Dev :=
  let d := d.spendCache realm a len
  let d := (sectorsOf a len).foldl (fun d s => d.touchSector realm s true) d
  (memBytes d.tiers.cache a len, d)

/-- A write of T2 through the realm's cache (R469, R470), which may bring the realm over its dirty limit (R471). -/
def Dev.t2Write (c : Ctx) (d : Dev) (realm a : Nat) (bs : List Byte) : Dev :=
  let d := d.spendCache realm a bs.length
  let ss := sectorsOf a bs.length
  let d := ss.foldl (fun d s => d.touchSector realm s (decide (s * 4096 < a) || decide (a + bs.length < s * 4096 + 4096))) d
  let d := d.setTiers { d.tiers with cache := memPutBytes d.tiers.cache a bs }
  (ss.foldl (fun d s => d.markDirty c realm s) d).trimToLimit realm

/-- T1 bytes at a device address: each 256-byte run lies in one bank (R166, R167). -/
def Dev.t1Read (d : Dev) (a : Nat) : Nat → List Byte
  | 0 => []
  | n + 1 => (match d.t1Key a with | some k => memGet d.mem k | none => 0) :: Dev.t1Read d (a + 1) n

/-- Bytes of T1 seen by a reader that takes them by their number. -/
def Dev.t1Seen (d : Dev) (a n : Nat) : Dev := d.touchT1 a n false

/-- T1 bytes put at a device address. -/
def Dev.t1Store (d : Dev) (a : Nat) : List Byte → Dev
  | [] => d
  | b :: bs => Dev.t1Store (match d.t1Key a with | some k => d.setMem (memPut d.mem k b) | none => d) (a + 1) bs

/-- T1 bytes written at a device address, through the banks' controllers. -/
def Dev.t1Write (d : Dev) (a : Nat) (bs : List Byte) : Dev := (d.touchT1 a bs.length true).t1Store a bs

/-- The bytes at a device address, with no check: T1, T0 or, through the realm's cache, T2. -/
def Dev.rawRead (d : Dev) (realm a len : Nat) : List Byte × Dev :=
  if inT2 a then
    let (k, d) := d.choose 2
    (d.correctCache realm a k).t2Read realm a len
  else if inT1 a then (d.t1Read a len, d.touchT1 a len false)
  else (memBytes d.mem a len, d)

/-- Bytes written at a device address, with no check. -/
def Dev.rawWrite (c : Ctx) (d : Dev) (realm a : Nat) (bs : List Byte) : Dev :=
  if inT2 a then d.t2Write c realm a bs
  else if inT1 a then d.t1Write a bs
  else d.setMem (memPutBytes d.mem a bs)

/-- The first byte of a range that the realm may not reach. -/
def Dev.firstRefused (d : Dev) (realm a len : Nat) : Nat := ((piecesOf a len).find? fun p => d.pieceStatus realm p == stViolation).getD a

/-- A refused access's address and kind kept for its record (R643). -/
def Dev.noteRefusal (d : Dev) (st a kind : Nat) : Dev := if st = stViolation then d.setRefused (a, kind) else d

/-- Does a range of T0 or T1 reach a resource that is still being cleared (R637)? -/
def Dev.beingCleared (d : Dev) (a len : Nat) : Bool :=
  !d.scrubs.isEmpty && decide (0 < len) &&
  if inT1 a then
    ((List.range ((a + len - 1) / gib - a / gib + 1)).any fun i => d.scrubs.contains (1, a / gib + i)) ||
    (List.range ((a + len - 1) / 2 ^ 27 - a / 2 ^ 27 + 1)).any fun i =>
      let x := max a ((a / 2 ^ 27 + i) * 2 ^ 27)
      d.scrubs.any fun s => s.1 == 0 && decide (s.2 / 768 = x / stackBytes) &&
        match regionOfOffset (regionsBy d.cfg (x / stackBytes)) (x % stackBytes) with
        | some w => if rgMode w = 2 then (regionPlace (x / stackBytes) w (x % stackBytes)).1 == s.2
            else decide (rgFirst w ≤ s.2 % 24) && decide (s.2 % 24 < rgFirst w + rgCount w)
        | none => false
  else inT0 a && d.scrubs.contains (2, tileGroup ((a - t0Base) / 0x200000))

/-- The panels of a range of T2, by TAG. -/
def panelTags (a len : Nat) : List Nat := if len = 0 then [] else (cutAt 65536 a len).map fun p => panelTag (p.1 / 4096)

/-- Does a range of T2 need an entry of a set in which all are pinned (R472)? -/
def Dev.pinnedOut (d : Dev) (realm a len : Nat) : Bool :=
  (panelTags a len).any fun t => (d.panel realm t).isNone &&
    (let l := d.panelSet realm t; decide (16 ≤ l.length) && l.all fun p => p.pins != 0)

/-- Does a range of T2 need a sector of a segment that is migrating, from its home (R479)? -/
def Dev.needsMigrating (d : Dev) (realm a len : Nat) : Bool :=
  (sectorsOf a len).any fun s => (d.segment (segmentOf (s * 4096))).state == 3 &&
    !((d.panel realm (panelTag s)).any fun p => bit p.present (s % 16))

/-- Does an access of a realm wait: for memory that is being cleared, its own or its cache's (R460, R637); for an entry of the cache (R472); or for the
switch of a segment that is migrating? Whether the lender has begun the switch the borrower cannot know before the home answers: a free choice (R479). -/
def Dev.heldUp (d : Dev) (realm a len : Nat) : Bool × Dev :=
  if d.beingCleared a len then (true, d)
  else if !inT2 a then (false, d)
  else if !d.scrubs.isEmpty && (cutAt 65536 a len).any fun p => (d.cacheGibAt realm p.1).any fun g => d.scrubs.contains (1, g) then (true, d)
  else if d.pinnedOut realm a len then (true, d)
  else if d.needsMigrating realm a len then let (k, d) := d.choose 2; (k == 1, d)
  else (false, d)

/-- An access noted as one that waits. -/
def Dev.noteFill (d : Dev) (st realm a len : Nat) : Dev :=
  if st != stOk then d
  else
    let (waits, d) := d.heldUp realm a len
    if waits then d.setFillWait true else d

/-- What is begun, or where an access of it met a resource that is still being cleared, what waiting for it leaves (R637). -/
def Dev.unlessFilling (d : Dev) (f waits : Dev → Dev) : Dev :=
  let r := f (d.setFillWait false)
  if r.fillWait then waits d else r

/-- What a read by a realm answers; a refusal is noted. -/
def Dev.checkRead (d : Dev) (realm a len : Nat) : Nat × Dev :=
  let st := d.windowStatus realm a len
  let d := d.noteFill st realm a len
  (st, d.noteRefusal st (d.firstRefused realm a len) 0)

/-- A checked read of T1 or T2 by a realm: a status, and the bytes where it is ST_OK. -/
def Dev.readAt (d : Dev) (realm a len : Nat) : Nat × List Byte × Dev :=
  let (st, d) := d.checkRead realm a len
  if st = stOk then let (bs, d) := d.rawRead realm a len; (stOk, bs, d) else (st, [], d)

/-- Does a write of a range of T1 touch a bank of a stripe (R277)? A BANK_LINEAR run of 128 MiB lies in one bank. -/
def Dev.hitsStripe (d : Dev) (a len : Nat) : Bool :=
  inT1 a && decide (0 < len) && (List.range ((a + len - 1) / 2 ^ 27 - a / 2 ^ 27 + 1)).any fun i =>
    let x := max a ((a / 2 ^ 27 + i) * 2 ^ 27)
    match regionOfOffset (regionsBy d.cfg (x / stackBytes)) (x % stackBytes) with
    | some w => rgMode w == 2 && d.isStripeBank (regionPlace (x / stackBytes) w (x % stackBytes)).1
    | none => false

/-- Does a write of a range of T1 touch the cell table of an active index (R277)? -/
def Dev.hitsCells (d : Dev) (a len : Nat) : Bool :=
  inT1 a && decide (0 < len) && (List.range 64).any fun x =>
    let w := d.index x
    ixKind w == 1 && decide (a < ixCell w + 64 * ixCount w) && decide (ixCell w < a + len)

/-- What a write by a realm answers: the windows (R458, R466), and no stripe bank or cell table (R277; the status for the cell table is a
DESIGN CHOICE, log entry 127). -/
def Dev.writeStatus (d : Dev) (realm a len : Nat) : Nat :=
  let st := d.windowStatus realm a len
  if st != stOk then st else if d.hitsStripe a len || d.hitsCells a len then stViolation else stOk

/-- What a write by a realm answers; a refusal is noted. -/
def Dev.checkWrite (d : Dev) (realm a len : Nat) : Nat × Dev :=
  let st := d.writeStatus realm a len
  let d := d.noteFill st realm a len
  (st, d.noteRefusal st (d.firstRefused realm a len) 1)

/-- A checked write of T1 or T2 by a realm. -/
def Dev.writeAt (c : Ctx) (d : Dev) (realm a : Nat) (bs : List Byte) : Nat × Dev :=
  let (st, d) := d.checkWrite realm a bs.length
  if st = stOk then (stOk, d.rawWrite c realm a bs) else (st, d)

/-- Bytes of a function's host memory. -/
def Dev.hostRead (d : Dev) (port function a len : Nat) : List Byte := memBytes d.hostMem (hostKey port function a) len

end Sys2Proof.Machine
end

