-- ==== Sys2Proof/Machine/Operands.lean ====
section
/-! DEFINITION. Every operand form: plan images, descriptors and tensors (06_plans), and how a descriptor's operands are read and written. -/

namespace Sys2Proof.Machine

/-! ### Plan images (R213) -/

/-- VERSION. -/
def imVersion (im : DictVal) : Nat := bits im.num 15 0
/-- DESC_COUNT. -/
def imDescs (im : DictVal) : Nat := bits im.num 31 16
/-- TENSOR_COUNT. -/
def imTensors (im : DictVal) : Nat := bits im.num 47 32
/-- GROUP_COUNT. -/
def imGroups (im : DictVal) : Nat := bits im.num 55 48
/-- ARG_COUNT. -/
def imArgs (im : DictVal) : Nat := bits im.num 63 56
/-- MAX_INFLIGHT. -/
def imInflight (im : DictVal) : Nat := bits im.num 79 64
/-- SEQ_COUNT. -/
def imSeqs (im : DictVal) : Nat := bits im.num 87 80
/-- FN_COUNT. -/
def imFns (im : DictVal) : Nat := bits im.num 95 88
/-- SET_COUNT. -/
def imSets (im : DictVal) : Nat := bits im.num 103 96
/-- The budget of unit u: 0 probes, 1 vectors, 2 flash reads, 3 matrix tiles. -/
def imBudget (im : DictVal) (u : Nat) : Nat := bits im.num (191 + 64 * u) (128 + 64 * u)
/-- DESC_OFF. -/
def imDescOff (im : DictVal) : Nat := bits im.num 415 384
/-- TENSOR_OFF. -/
def imTensorOff (im : DictVal) : Nat := bits im.num 447 416
/-- SEQ_OFF. -/
def imSeqOff (im : DictVal) : Nat := bits im.num 479 448
/-- SET_OFF. -/
def imSetOff (im : DictVal) : Nat := bits im.num 511 480
/-- FN_OFF. -/
def imFnOff (im : DictVal) : Nat := bits im.num 543 512
/-- CONST_OFF. -/
def imConstOff (im : DictVal) : Nat := bits im.num 639 576
/-- CONST_BYTES. -/
def imConstBytes (im : DictVal) : Nat := bits im.num 703 640
/-- Plan group record g. -/
def imGroup (im : DictVal) (g : Nat) : Nat := byteField im.num (128 + 8 * g) 8
/-- Descriptor i, 512 bits. -/
def imDesc (im : DictVal) (i : Nat) : Nat := byteField im.num (imDescOff im + 64 * i) 64
/-- Tensor record i, 256 bits. -/
def imTensor (im : DictVal) (i : Nat) : Nat := byteField im.num (imTensorOff im + 32 * i) 32

/-- CLOCK_GROUPS of a plan group record. -/
def pgClocks (g : Nat) : Nat := bits g 5 0
/-- RESIDENCY. -/
def pgResidency (g : Nat) : Nat := bits g 7 6
/-- WINDOW. -/
def pgWindow (g : Nat) : Nat := bits g 11 8
/-- PLACE. -/
def pgPlace (g : Nat) : Nat := bits g 15 12
/-- EXCLUSIVE. -/
def pgExclusive (g : Nat) : Bool := bit g 16

/-- ABI of a bank sequence header (*Bank sequence header*). -/
def sqAbi (h : Nat) : Nat := bits h 7 0
/-- LENGTH. -/
def sqLength (h : Nat) : Nat := bits h 27 16
/-- USES_CHAIN. -/
def sqChain (h : Nat) : Bool := bit h 28
/-- USES_BUS. -/
def sqBus (h : Nat) : Bool := bit h 29
/-- Bytes of a sequence, padded to 8. -/
def sqBytes (h : Nat) : Nat := 8 + ceilDiv (4 * sqLength h) 8 * 8

/-- Offset of the i-th sequence of the section. -/
def imSeqAt (im : DictVal) : Nat → Nat
  | 0 => imSeqOff im
  | i + 1 => let o := imSeqAt im i; o + sqBytes (byteField im.num o 8)

/-- Header of sequence i. -/
def imSeqHead (im : DictVal) (i : Nat) : Nat := byteField im.num (imSeqAt im i) 8
/-- Instruction k of sequence i. -/
def imSeqWord (im : DictVal) (i k : Nat) : Nat := byteField im.num (imSeqAt im i + 8 + 4 * k) 4

/-- Offset of scale register set i. -/
def imSetAt (im : DictVal) : Nat → Nat
  | 0 => imSetOff im
  | i + 1 => let o := imSetAt im i; o + ceilDiv (4 + byteField im.num o 2) 8 * 8

/-- The SEs of a scale register set as stored: a U16 length, a U16 reserved, then I8 each (R729). -/
def setOf (v o : Nat) : List Int := (List.range (byteField v o 2)).map fun i => signed 8 (byteField v (o + 4 + i) 1)

/-- Scale register set i of a plan. -/
def imSet (im : DictVal) (i : Nat) : List Int := setOf im.num (imSetAt im i)

/-- Table function i: 4,104 bytes as a number. -/
def imFn (im : DictVal) (i : Nat) : Nat := byteField im.num (imFnOff im + 4104 * i) 4104

/-! ### Descriptors (R217, R218) -/

/-- OP. -/
def dcOp (w : Nat) : Nat := bits w 7 0
/-- GUARDED. -/
def dcGuarded (w : Nat) : Bool := bit w 8
/-- SENSE. -/
def dcSense (w : Nat) : Bool := bit w 9
/-- GUARD. -/
def dcGuard (w : Nat) : Nat := bits w 21 10
/-- AFTER_VALID. -/
def dcAfterValid (w : Nat) : Bool := bit w 22
/-- AFTER. -/
def dcAfter (w : Nat) : Nat := bits w 34 23
/-- GROUP. -/
def dcGroup (w : Nat) : Nat := bits w 38 35
/-- EXPERT_VALID. -/
def dcExpertValid (w : Nat) : Bool := bit w 39
/-- EXPERT. -/
def dcExpert (w : Nat) : Nat := bits w 45 40
/-- ROUTE. -/
def dcRoute (w : Nat) : Nat := bits w 57 46
/-- IN_OPT of input i. -/
def dcOpt (w i : Nat) : Bool := bit w (58 + i)
/-- INi. -/
def dcIn (w i : Nat) : Nat := bits w (16 * i + 143) (16 * i + 128)
/-- OUTj. -/
def dcOut (w j : Nat) : Nat := bits w (16 * j + 271) (16 * j + 256)
/-- Parameter bits P[hi:lo]. -/
def dcP (w hi lo : Nat) : Nat := bits w (320 + hi) (320 + lo)
/-- Parameter bit P[i]. -/
def dcPb (w i : Nat) : Bool := bit w (320 + i)
/-- No operand. -/
def noOperand : Nat := 0xFFFF

/-- The named inputs of a descriptor, as (slot, tensor). -/
def dcIns (w : Nat) : List (Nat × Nat) :=
  ((List.range 8).map fun i => (i, dcIn w i)).filter fun p => p.2 != noOperand
/-- The named outputs of a descriptor, as (slot, tensor). -/
def dcOuts (w : Nat) : List (Nat × Nat) :=
  ((List.range 4).map fun i => (i, dcOut w i)).filter fun p => p.2 != noOperand

/-! ### Tensor records (R214) -/

/-- FORMAT, as a code. -/
def tnFmtCode (t : Nat) : Nat := bits t 3 0
/-- FORMAT; INT8 where the code is reserved, which no loaded plan has. -/
def tnFmt (t : Nat) : Fmt := (Fmt.ofCode (tnFmtCode t)).getD .int8
/-- KIND. -/
def tnKind (t : Nat) : Nat := bits t 6 4
/-- TIER. -/
def tnTier (t : Nat) : Nat := bits t 8 7
/-- Rank, 1–4. -/
def tnRank (t : Nat) : Nat := bits t 10 9 + 1
/-- VAR. -/
def tnVar (t : Nat) : Bool := bit t 11
/-- ARG. -/
def tnArg (t : Nat) : Nat := bits t 17 12
/-- LAYER. -/
def tnLayer (t : Nat) : Nat := bits t 25 18
/-- GROUP. -/
def tnGroup (t : Nat) : Nat := bits t 29 26
/-- SCALE. -/
def tnScale (t : Nat) : Nat := bits t 63 32
/-- DIM i. -/
def tnDim (t i : Nat) : Nat := bits t (95 + 32 * i) (64 + 32 * i)
/-- OFFSET. -/
def tnOffset (t : Nat) : Nat := bits t 255 192
/-- The four dimensions, innermost first. -/
def tnDims (t : Nat) : List Nat := (List.range 4).map (tnDim t)

/-- The dimensions with the outermost bound where the tensor is VAR (R247). -/
def tnBound (t varLen : Nat) : List Nat :=
  if tnVar t then (tnDims t).set (tnRank t - 1) varLen else tnDims t

/-- The number of elements of dimensions. -/
def volumeOf (dims : List Nat) : Nat := dims.foldl (· * ·) 1

/-- Bytes of `n` elements of a format (R31). -/
def fmtBytes (f : Fmt) (n : Nat) : Nat := ceilDiv (n * f.width) 8

/-- Bytes of a tensor at its largest. -/
def tensorBytes (im : DictVal) (t : Nat) : Nat := fmtBytes (tnFmt (imTensor im t)) (volumeOf (tnDims (imTensor im t)))

/-- The raw elements of bytes held as a number (R31). -/
def unpack (f : Fmt) (n v : Nat) : List Nat := (List.range n).map fun i => (v >>> (f.width * i)) % 2 ^ f.width

/-- Raw elements as bytes held as a number. -/
def packElems (f : Fmt) : List Nat → Nat
  | [] => 0
  | x :: xs => x % 2 ^ f.width + (packElems f xs) <<< f.width

/-! ### The plan and the run of a capsule -/

/-- The run of a capsule. -/
def Dev.run? (d : Dev) (capsule : Nat) : Option PlanRun := d.plans.runs.find? fun r => r.capsule == capsule

/-- The run of a capsule changed. -/
def Dev.modRun (d : Dev) (capsule : Nat) (f : PlanRun → PlanRun) : Dev :=
  d.setPlans { d.plans with runs := d.plans.runs.map fun r => if r.capsule = capsule then f r else r }

/-- A plan by handle. -/
def Dev.plan? (d : Dev) (h : Nat) : Option Plan := tabGet h d.plans.plans

/-- A plan changed. -/
def Dev.modPlan (d : Dev) (h : Nat) (f : Plan → Plan) : Dev := d.setPlans { d.plans with plans := tabUpdate h f d.plans.plans }

/-- A capsule in flight changed. -/
def Dev.modCapsule (d : Dev) (order : Nat) (f : Capsule → Capsule) : Dev :=
  d.setCapsules { d.capsules with live := d.capsules.live.map fun c => if c.order = order then f c else c }

/-- What a tile operation works on: its capsule and run, its plan, and its descriptor's number and word. -/
structure OpCtx where
  cap : Capsule
  run : PlanRun
  plan : Plan
  desc : Nat
  word : Nat
deriving DecidableEq, Repr

/-- Tensor record of operand number `t`. -/
def OpCtx.record (o : OpCtx) (t : Nat) : Nat := imTensor o.plan.image t

/-- The descriptor that produces a tensor. -/
def producer (im : DictVal) (t : Nat) : Option Nat :=
  (List.range (imDescs im)).find? fun i => (dcOuts (imDesc im i)).any fun p => p.2 == t

/-- Does a candidate list stream (R319): its producer is a SCAN, a GRAPH_STEP or a FILTER of a streaming list, and every reader is a SELECT,
MERGE, DEDUP or FILTER? The reader of an external output is outside the plan. -/
def listStreams (im : DictVal) : Nat → Nat → Bool
  | 0, _ => false
  | fuel + 1, t =>
    let readers := ((List.range (imDescs im)).map (imDesc im)).filter fun w => (dcIns w).any fun p => p.2 == t
    tnKind (imTensor im t) != 4 && readers.all (fun w => dcOp w == 0x33 || inRange 0x35 0x37 (dcOp w)) &&
    match producer im t with
    | none => false
    | some i =>
      let w := imDesc im i
      if dcOp w = 0x31 then true
      else if dcOp w = 0x32 then dcOut w 1 == t
      else if dcOp w = 0x33 then listStreams im fuel (dcIn w 0)
      else false

/-- Is a tensor a streaming list? -/
def streamingList (im : DictVal) (t : Nat) : Bool := listStreams im (imDescs im) t

/-- The outermost dimension of a tensor in a run: as the record gives it, or, for a VAR tensor, as its argument's VAR_LEN binds it (R247);
a working VAR tensor takes that of the tensor its producer reads it from (log entry 22). -/
def outermost (im : DictVal) (args : List ArgBinding) : Nat → Nat → Nat
  | 0, t => tnDim (imTensor im t) (tnRank (imTensor im t) - 1)
  | fuel + 1, t =>
    let w := imTensor im t
    if !tnVar w then tnDim w (tnRank w - 1)
    else if tnKind w = 3 ∨ tnKind w = 4 then (args.getD (tnArg w) ⟨0, 0, 0⟩).varLen
    else match producer im t with
      | none => tnDim w (tnRank w - 1)
      | some i =>
        let p := imDesc im i
        if dcOp p = 0x50 then outermost im args fuel (dcIn p 1)
        else if dcOp p = 0x12 ∨ dcOp p = 0x13 then
          let a := outermost im args fuel (dcIn p 0)
          if a = 1 then outermost im args fuel (dcIn p 1) else a
        else outermost im args fuel (dcIn p 0)

/-- The dimensions of a tensor in a run. -/
def runDims (im : DictVal) (args : List ArgBinding) (t : Nat) : List Nat :=
  tnBound (imTensor im t) (outermost im args (imDescs im) t)

/-- The dimensions of a tensor in the run. -/
def OpCtx.dims (o : OpCtx) (t : Nat) : List Nat := runDims o.plan.image o.run.args t

/-- K elements per pass of a MATMUL's formats (*Matrix unit combinations*). -/
def kPerPass (a w : Fmt) : Nat := if (a == .int4 || a == .q4) && (w == .int4 || w == .q4) then 64 else 32

/-- The descriptors that read a tensor, as (operator word, slot). -/
def readersOf (im : DictVal) (t : Nat) : List (Nat × Nat) :=
  (((List.range (imDescs im)).map (imDesc im)).map fun w => ((dcIns w).filter fun p => p.2 == t).map fun p => (w, p.1)).flatten

/-- The elements along K of one pass of the matrix operator that reads a tensor (R114); where none does, those of a format's own pair. -/
def readerK (im : DictVal) (t : Nat) : Nat :=
  match (readersOf im t).find? fun r => dcOp r.1 == 0x10 && decide (r.2 < 2) with
  | some r => kPerPass (tnFmt (imTensor im (dcIn r.1 0))) (tnFmt (imTensor im (dcIn r.1 1)))
  | none => let f := tnFmt (imTensor im t); kPerPass f f

/-- The native blocking of the reader of a constant in a plan group (R243, R462): that of the matrix unit's operand, or rows for the vector unit. -/
def nativeBlocking (im : DictVal) (g t : Nat) : Nat :=
  match (readersOf im t).find? fun r => dcGroup r.1 == g && (dcOp r.1 == 0x10 || dcOp r.1 == 0x11) with
  | some r => if r.2 = 0 then 2 else if r.2 = 1 then (if dcOp r.1 = 0x11 then 4 else 3) else 1
  | none => 1

/-- The layout of a tensor with given dimensions under a blocking. -/
def tensorLayout (im : DictVal) (t blocking : Nat) (dims : List Nat) : List (List (Option Nat)) :=
  panelLayout blocking (tnFmt (imTensor im t)).width (readerK im t) (dims.getD 0 1) (volumeOf (dims.drop 1))

/-- The layout in which a pinned group holds a constant. -/
def pinnedLayout (im : DictVal) (g t : Nat) : List (List (Option Nat)) := tensorLayout im t (nativeBlocking im g t) (tnDims (imTensor im t))

/-- A tensor's value: from the run, the image, or memory (R214, R249); none where nothing produced it. -/
def Dev.tensorValue (d : Dev) (o : OpCtx) (t : Nat) : Option Tensor × Dev :=
  let w := o.record t
  let f := tnFmt w
  let dims := o.dims t
  let n := volumeOf dims
  match tabGet (16384 * dcGroup o.word + t) o.plan.pinned with
  | some x => (some ⟨dims, takePanel (pinnedLayout o.plan.image (dcGroup o.word) t) (x.map (·.2)) n⟩, d)
  | none =>
  if tnKind w = 1 then
    (some ⟨dims, unpack f n (byteField o.plan.image.num (imConstOff o.plan.image + tnOffset w) (fmtBytes f n))⟩, d)
  else if tnKind w = 2 then
    let (bs, d) := d.rawRead o.plan.realm (tnOffset w) (fmtBytes f n)
    (some ⟨dims, unpack f n (ofLE bs)⟩, d)
  else match tabGet t o.run.values with
    | some v => (some v, d)
    | none =>
      let b := o.run.args.getD (tnArg w) ⟨0, 0, 0⟩
      if tnKind w = 3 && b.loc == 0 then
        let (bs, d) := d.rawRead o.plan.realm b.addr (fmtBytes f n)
        (some ⟨dims, unpack f n (ofLE bs)⟩, d)
      else (none, d)

/-- The value of input slot i; none where it is not named or absent (R225). -/
def Dev.input (d : Dev) (o : OpCtx) (i : Nat) : Option Tensor × Dev :=
  if dcIn o.word i = noOperand then (none, d) else d.tensorValue o (dcIn o.word i)

/-- The value of input slot i, empty where there is none. -/
def Dev.inputD (d : Dev) (o : OpCtx) (i : Nat) : Tensor × Dev :=
  let (v, d) := d.input o i; (v.getD ⟨[0, 1, 1, 1], []⟩, d)

/-- Format of input slot i. -/
def OpCtx.inFmt (o : OpCtx) (i : Nat) : Fmt := tnFmt (o.record (dcIn o.word i))
/-- Format of output slot j. -/
def OpCtx.outFmt (o : OpCtx) (j : Nat) : Fmt := tnFmt (o.record (dcOut o.word j))
/-- Dimensions of output slot j. -/
def OpCtx.outDims (o : OpCtx) (j : Nat) : List Nat := o.dims (dcOut o.word j)

/-! ### Elements and their scale exponents (R49–R55) -/

/-- Element of a list of dimensions. -/
def dimAt (dims : List Nat) (i : Nat) : Nat := dims.getD i 1

/-- The coordinate along an axis of the element with flat number i. -/
def coordOf (dims : List Nat) (axis i : Nat) : Nat := i / volumeOf (dims.take axis) % max (dimAt dims axis) 1

/-- The flat number, in the scale tensor of R53, of the SE of element i of a tensor whose blocks of `block` elements run along `axis`. -/
def blockOf (dims : List Nat) (axis block i : Nat) : Nat :=
  let inner := volumeOf (dims.take axis)
  let len := dimAt dims axis
  i % inner + inner * (i / inner % max len 1 / block) + inner * (len / block) * (i / (inner * max len 1))

/-- The set of an object named by a GATHER's output (R729): the table of the GATHER that writes tensor t. -/
def gatherTable (im : DictVal) (t : Nat) : Option Nat :=
  ((List.range (imDescs im)).find? fun i => dcOp (imDesc im i) == 0x20 && dcOut (imDesc im i) 0 == t).map fun i =>
    dcP (imDesc im i) 15 0 % 0x1000

/-- The SEs that a tensor's channel binding names. -/
def Dev.channelSet (d : Dev) (im : DictVal) (t : Nat) : List Int :=
  match gatherTable im t with
  | some tb => setOf (d.cfg (0x3120 + tb) 0x11) 0
  | none => imSet im (bindSet (tnScale (imTensor im t)))

/-- The scale exponents of a tensor's elements, by flat number, as operand of a descriptor: one, a channel's, or a streamed block's from
the operand slot that SET names. -/
def Dev.seOf (d : Dev) (o : OpCtx) (t : Nat) (dims : List Nat) : (Nat → Int) × Dev :=
  let b := tnScale (o.record t)
  match bindSrc b with
  | 0 => (fun _ => bindSE b, d)
  | 1 => let s := d.channelSet o.plan.image t; (fun i => s.getD (coordOf dims (bindAxis b) i) 0, d)
  | _ =>
    let (v, d) := d.inputD o (bindSet b)
    (fun i => signed 8 (v.elems.getD (blockOf dims (bindAxis b) (2 ^ bindBlock b) i) 0), d)

/-- The exact values of an operand, with its scale exponents (R39, R40, R733). -/
def Dev.values (d : Dev) (o : OpCtx) (t : Nat) : Option (List Nat × List Num) × Dev :=
  match d.tensorValue o t with
  | (none, d) => (none, d)
  | (some v, d) =>
    let f := tnFmt (o.record t)
    let (se, d) := if f.isCode then d.seOf o t v.dims else (fun _ => 0, d)
    (some (v.dims, v.elems.mapIdx fun i x => valueOf f (se i) x), d)

/-- The exact values of input slot i. -/
def Dev.inValues (d : Dev) (o : OpCtx) (i : Nat) : Option (List Nat × List Num) × Dev :=
  if dcIn o.word i = noOperand then (none, d) else d.values o (dcIn o.word i)

/-- The exact values of input slot i, empty where there are none. -/
def Dev.inValuesD (d : Dev) (o : OpCtx) (i : Nat) : (List Nat × List Num) × Dev :=
  let (v, d) := d.inValues o i; (v.getD ([0, 1, 1, 1], []), d)

/-- The experts chosen for the tokens, two for each, as the ROUTE that a descriptor is bound to wrote them (R227). -/
def OpCtx.experts (o : OpCtx) : List Nat :=
  ((tabGet (dcOut (imDesc o.plan.image (dcRoute o.word)) 0) o.run.values).map fun v => v.elems).getD []

/-- Output elements put in their places: for a descriptor bound to an expert, the rows of the tokens whose ROUTE output holds it, each in the
slot in which it appears, and nothing elsewhere (R228); all of them as they stand for any other. -/
def OpCtx.arrange {α : Type} (o : OpCtx) (d0 : Nat) (xs : List α) : List (Option α) :=
  if dcExpertValid o.word then
    let e := o.experts
    (List.range (d0 * e.length)).map fun i =>
      if e.getD (i / d0) 64 = dcExpert o.word then
        if xs.length = d0 * e.length then xs[i]? else xs[i / d0 / 2 * d0 + i % d0]?
      else none
  else xs.map some

/-- The dimensions of an output of `rows` with rows of d0 elements: [t, 2, d] for a descriptor bound to an expert (R228). -/
def OpCtx.placedDims (o : OpCtx) (dims : List Nat) : List Nat :=
  if dcExpertValid o.word then [dims.getD 0 1, 2, o.experts.length / 2, 1] else dims

/-- Written elements put in their places; rows that no rule writes are free (log entry 1). -/
def Dev.placeOut (d : Dev) (f : Fmt) (dims : List Nat) (rs : List (Option (Nat × Counts))) : Tensor × Counts × Dev :=
  let (pick, d) := d.pick (if rs.any Option.isNone then rs.length else 0)
  let ws := rs.mapIdx fun i r => r.getD (pick i % 2 ^ f.width, .none)
  (⟨dims, ws.map (·.1)⟩, ws.foldl (fun c r => c.plus r.2) .none, d)

/-- Values written into an output's format under its binding by a rule for one element, and what the counters gain. -/
def Dev.writeOutBy (wr : Fmt → Int → Num → Nat × Counts) (d : Dev) (o : OpCtx) (t : Nat) (dims : List Nat) (xs : List Num) :
    Tensor × Counts × Dev :=
  let f := tnFmt (o.record t)
  let ys := o.arrange (dimAt dims 0) xs
  let dims := o.placedDims dims
  let (se, d) := if f.isCode then d.seOf o t dims else (fun _ => 0, d)
  d.placeOut f dims (ys.mapIdx fun i y => y.map (wr f (se i)))

/-- Values converted or quantised into an output (R44, R48, R728). -/
def Dev.writeOut (d : Dev) (o : OpCtx) (t : Nat) (dims : List Nat) (xs : List Num) : Tensor × Counts × Dev :=
  d.writeOutBy writeAs o t dims xs

/-- The result of ADD or MUL in an output's format (R733): R34 into a floating-point format, where no overflow is counted. -/
def writeArith (f : Fmt) (se : Int) (x : Num) : Nat × Counts :=
  if f.isFloat then ((encodeFloat f false x).1, .none) else writeAs f se x

/-! ### What an operator answers -/

/-- The outcome of a tile operation: outputs by tensor number, with what the descriptor's counters gain; or work that other events will
end; or the status that ends the capsule. -/
inductive OpResult where
  | done (writes : List (Nat × Tensor)) (counts : Counts)
  | waits
  | stops (status : Nat)
deriving DecidableEq, Repr

/-- An output in slot j, if the descriptor names it. -/
def OpCtx.put (o : OpCtx) (j : Nat) (v : Tensor) : List (Nat × Tensor) :=
  if dcOut o.word j = noOperand then [] else [(dcOut o.word j, v)]

/-- Done with one output and no counts. -/
def OpCtx.answer (o : OpCtx) (v : Tensor) : OpResult := .done (o.put 0 v) .none

/-- An INT32 tensor of signed numbers. -/
def intTensor (dims : List Nat) (l : List Int) : Tensor := ⟨dims, l.map (unsigned 32)⟩

end Sys2Proof.Machine
end

