-- ==== Sys2Proof/Machine/Flags.lean ====
section
/-! DEFINITION. Flags of results: the conditions that a comparison holds (R56, R57, R223), and SHORT and TIES of an instance (R355). -/

namespace Sys2Proof.Machine

/-- A condition of BRANCH_IF: 0 EQ, 1 NE, 2 LT, 3 LE, 4 GT, 5 GE; with a NaN only NE holds (R56, R57). -/
def condition (code : Nat) (x y : Num) : Bool :=
  match Num.cmp x y with
  | none => code == 1
  | some o => match code with
    | 0 => o == .eq
    | 1 => o != .eq
    | 2 => o == .lt
    | 3 => o != .gt
    | 4 => o == .gt
    | _ => o != .lt

/-- SHORT and TIES of an instance (R355): the OR over the headers of SELECT, MERGE and root COLLECT MERGE outputs that are external. -/
def runFlags (im : DictVal) (r : PlanRun) : Bool × Bool :=
  let heads := ((List.range (imDescs im)).map (imDesc im)).filterMap fun w =>
    if dcOp w = 0x35 ∨ dcOp w = 0x36 ∨ (dcOp w = 0x44 ∧ dcP w 37 36 = 0) then
      if (dcOuts w).any fun p => tnKind (imTensor im p.2) == 4 then
        (dcOuts w).findSome? fun p => (tabGet p.2 r.values).map fun v => nth v.elems 1
      else none
    else none
  (heads.any fun h => bit h 0, heads.any fun h => bit h 1)

end Sys2Proof.Machine
end

