-- ==== Sys2Proof/Machine/KvPools.lean ====
section
/-! DEFINITION. KV pools: descriptors, sequence records, page headers, allocation, eviction, publication (10_attention_and_kv). -/

namespace Sys2Proof.Machine

/-- The descriptor of pool slot k. -/
def Dev.pool (d : Dev) (k : Nat) : Nat := d.cfg (0x3200 + k) 1

/-- KIND. -/
def plKind (w : Nat) : Nat := bits w 7 0
/-- FMT. -/
def plFmt (w : Nat) : Nat := bits w 11 8
/-- LAYERS. -/
def plLayers (w : Nat) : Nat := bits w 23 16
/-- HKV. -/
def plHkv (w : Nat) : Nat := bits w 31 24
/-- DH. -/
def plDh (w : Nat) : Nat := bits w 47 32
/-- ROPE_DIMS. -/
def plRope (w : Nat) : Nat := bits w 63 48
/-- SCALE. -/
def plScale (w : Nat) : Nat := bits w 95 64
/-- ROPE_THETA. -/
def plTheta (w : Nat) : Nat := bits w 127 96
/-- REALM. -/
def plRealm (w : Nat) : Nat := bits w 135 128
/-- SEQS. -/
def plSeqs (w : Nat) : Nat := bits w 159 144
/-- GRANULES. -/
def plGranules (w : Nat) : Nat := bits w 191 160
/-- AREA_ADDR. -/
def plArea (w : Nat) : Nat := bits w 255 192
/-- SERVICE. -/
def plService (w : Nat) : Bool := bit w 256
/-- KEY_LOG2. -/
def plKeyLog (w : Nat) : Nat := bits w 268 264

/-- CS: bytes of one head vector's codes. -/
def plCS (w : Nat) : Nat := if plFmt w = 11 then plDh w else plDh w / 2
/-- SB: exponents of one head vector. -/
def plSB (w : Nat) : Nat := plDh w / 32
/-- GB: bytes of a granule (R416). -/
def plGB (w : Nat) : Nat := 16 * plLayers w * plHkv w * 2 * (plCS w + plSB w)
/-- H: offset of the page headers. -/
def plHeads (w : Nat) : Nat := ceilDiv (2048 * plSeqs w) 4096 * 4096
/-- K: offset of the key table. -/
def plKeys (w : Nat) : Nat := plHeads w + ceilDiv (64 * plGranules w) 4096 * 4096
/-- D0: offset of the page data. -/
def plData (w : Nat) : Nat := plKeys w + (if plService w then 32 * 2 ^ plKeyLog w else 0)
/-- Bytes of the pool area. -/
def plBytes (w : Nat) : Nat := plData w + plGB w * plGranules w

/-- A pool slot's state; absent where nothing is active. -/
def Dev.poolState (d : Dev) (k : Nat) : PoolState := tabGetD k ⟨0, [], 0, 0, 0, 0, 0⟩ d.kv.pools

/-- A pool slot's state changed. -/
def Dev.modPool (d : Dev) (k : Nat) (f : PoolState → PoolState) : Dev :=
  d.setKv { d.kv with pools := tabUpdate k f d.kv.pools }

/-- Does a pool handle name an active pool of a realm? -/
def Dev.poolOf (d : Dev) (realm handle : Nat) : Option Nat :=
  let k := handle - 0x3000
  if 0x3000 ≤ handle ∧ k < 16 ∧ plKind (d.pool k) = 1 ∧ plRealm (d.pool k) = realm then some k else none

/-! ### Numbers in T1 -/

/-- A little-endian number of T1. -/
def Dev.t1Num (d : Dev) (a n : Nat) : Nat := ofLE (d.t1Read a n)

/-- A little-endian number of T1 written. -/
def Dev.t1Put (d : Dev) (a n v : Nat) : Dev := d.t1Write a (leBytes n v)

/-! ### Sequence records (R421) -/

/-- The address of sequence record q of pool slot k. -/
def Dev.seqAt (d : Dev) (k q : Nat) : Nat := plArea (d.pool k) + 2048 * q
/-- Bits [127:0] and GENERATION of a sequence record: its first 32 bytes. -/
def Dev.seqHead (d : Dev) (k q : Nat) : Nat := d.t1Num (d.seqAt k q) 32
/-- The first 32 bytes written, with the whole first word in one write (R422). -/
def Dev.putSeqHead (d : Dev) (k q v : Nat) : Dev := d.t1Put (d.seqAt k q) 32 v

/-- N. -/
def sqN (h : Nat) : Nat := bits h 31 0
/-- PAGES. -/
def sqPages (h : Nat) : Nat := bits h 37 32
/-- CLAIMED. -/
def sqClaimed (h : Nat) : Bool := bit h 38
/-- TREE. -/
def sqTree (h : Nat) : Bool := bit h 39
/-- NODES. -/
def sqNodes (h : Nat) : Nat := bits h 55 48
/-- DRAFTS_LEFT. -/
def sqLeft (h : Nat) : Nat := bits h 63 56
/-- PENDING. -/
def sqPending (h : Nat) : Nat := bits h 95 64
/-- GENERATION. -/
def sqGen (h : Nat) : Nat := bits h 191 128

/-- Entry i of PAGE_LIST. -/
def Dev.seqPage (d : Dev) (k q i : Nat) : Nat := d.t1Num (d.seqAt k q + 32 + 4 * i) 4
/-- Entry i of PAGE_LIST written. -/
def Dev.putSeqPage (d : Dev) (k q i p : Nat) : Dev := d.t1Put (d.seqAt k q + 32 + 4 * i) 4 p
/-- The published pages. -/
def Dev.seqPageList (d : Dev) (k q : Nat) : List Nat := (List.range (sqPages (d.seqHead k q))).map (d.seqPage k q)
/-- Tree node i (*Tree node*). -/
def Dev.treeNode (d : Dev) (k q i : Nat) : Nat := d.t1Num (d.seqAt k q + 256 + 8 * i) 8

/-! ### Page headers (R418) -/

/-- The address of page header g. -/
def Dev.pageAt (d : Dev) (k g : Nat) : Nat := plArea (d.pool k) + plHeads (d.pool k) + 64 * g
/-- Page header g. -/
def Dev.page (d : Dev) (k g : Nat) : Nat := d.t1Num (d.pageAt k g) 64
/-- Page header g written. -/
def Dev.putPage (d : Dev) (k g v : Nat) : Dev := d.t1Put (d.pageAt k g) 64 v

/-- SIZE_LOG2. -/
def pgSize (h : Nat) : Nat := bits h 3 0
/-- STATE. -/
def pgState (h : Nat) : Nat := bits h 5 4
/-- KEYED. -/
def pgKeyed (h : Nat) : Bool := bit h 6
/-- REFS. -/
def pgRefs (h : Nat) : Nat := bits h 63 32
/-- FILL. -/
def pgFill (h : Nat) : Nat := bits h 95 64
/-- POS. -/
def pgPos (h : Nat) : Nat := bits h 127 96
/-- KEY. -/
def pgKey (h : Nat) : Nat := bits h 255 128
/-- PINS. -/
def pgPins (h : Nat) : Nat := bits h 271 256
/-- LAST_USE. -/
def pgLastUse (h : Nat) : Nat := bits h 383 320

/-- The header of a page just taken: a size, staged or in use, one reference, its position. -/
def pageHeader (s state realm pos : Nat) : Nat := s + state * 16 + realm * 256 + 2 ^ 32 + pos * 2 ^ 96

/-- Is granule g part of a page that is not free? A page of size s starts at a multiple of 2^(s−4). -/
def Dev.granuleUsed (d : Dev) (k g : Nat) : Bool :=
  (List.range 9).any fun e =>
    let p := g - g % 2 ^ e
    let h := d.page k p
    pgState h != 0 && decide (g < p + 2 ^ (pgSize h - 4))

/-- The pages of size s that are free. -/
def Dev.freePages (d : Dev) (k s : Nat) : List Nat :=
  ((List.range (plGranules (d.pool k) / 2 ^ (s - 4))).map (· * 2 ^ (s - 4))).filter fun p =>
    (List.range (2 ^ (s - 4))).all fun i => !d.granuleUsed k (p + i)

/-- Granules free (0x3200 + k.08). -/
def Dev.granulesFree (d : Dev) (k : Nat) : Nat :=
  ((List.range (plGranules (d.pool k))).filter fun g => !d.granuleUsed k g).length

/-- Are pages of size s allowed (R415)? -/
def Dev.sizeAllowed (d : Dev) (k s : Nat) : Bool := inRange 4 12 s && bit (d.cfg (0x3200 + k) 4) s

/-- A reference on a page given up; the page is free when none is left (R423, R449). -/
def Dev.unrefPage (d : Dev) (k p : Nat) : Dev :=
  let h := d.page k p
  if pgRefs h ≤ 1 then d.putPage k p 0 else d.putPage k p (setBits h 63 32 (pgRefs h - 1))

/-- A reference on a page taken. -/
def Dev.refPage (d : Dev) (k p : Nat) : Dev := let h := d.page k p; d.putPage k p (setBits h 63 32 (pgRefs h + 1))

/-- A service entry's key removed from its page (R449): KEYED and KEY cleared, its reference given up. -/
def Dev.unkeyPage (d : Dev) (k p : Nat) : Dev :=
  let h := setBits (setBits (setBits (d.page k p) 6 6 0) 255 128 0) 271 256 0
  ((d.putPage k p h).unrefPage k p).modPool k fun s => { s with keys := s.keys.filter fun e => e.2 != p }

/-- The service entry of a pool with the oldest LAST_USE among those with PINS 0 and REFS 1 (R451). -/
def Dev.evictable (d : Dev) (k : Nat) : Option Nat :=
  let l := ((d.poolState k).keys.map (·.2)).filter fun p => pgPins (d.page k p) == 0 && pgRefs (d.page k p) == 1
  (sortBy (fun a b => decide (pgLastUse (d.page k a) < pgLastUse (d.page k b))) l).head?

/-- One eviction (R451). -/
def Dev.evict (d : Dev) (k p : Nat) : Dev := (d.unkeyPage k p).modPool k fun s => { s with evictions := s.evictions + 1 }

/-- A page of one of the listed sizes, the first that is free; which of the free pages is unspecified. -/
def Dev.takeFree (d : Dev) (k : Nat) : List Nat → Option (Nat × Nat) × Dev
  | [] => (none, d)
  | s :: ss =>
    let l := d.freePages k s
    if l.isEmpty then Dev.takeFree d k ss
    else let (i, d) := d.choose l.length; (some (s, l.getD i 0), d)

/-- A page of one of the listed sizes, evicting service entries while none is free (R437, R451). -/
def Dev.takePage (d : Dev) (k : Nat) (sizes : List Nat) : Nat → Option (Nat × Nat) × Dev
  | 0 => (none, d)
  | fuel + 1 =>
    match d.takeFree k sizes with
    | (some r, d) => (some r, d)
    | (none, d) => match d.evictable k with
      | some p => Dev.takePage (d.evict k p) k sizes fuel
      | none => (none, d)

/-- A page of the sizes, with as many evictions as there are entries. -/
def Dev.getPage (d : Dev) (k : Nat) (sizes : List Nat) : Option (Nat × Nat) × Dev :=
  d.takePage k sizes ((d.poolState k).keys.length + 1)

/-- The bytes of the keyed pages of a realm's pools (R452). -/
def Dev.keyedBytes (d : Dev) (realm : Nat) : Nat :=
  sumOf ((List.range 16).map fun k => if plRealm (d.pool k) = realm ∧ plKind (d.pool k) = 1 then
    sumOf ((d.poolState k).keys.map fun e => 2 ^ (pgSize (d.page k e.2) - 4) * plGB (d.pool k)) else 0)

/-! ### Where a token lies (R419) -/

/-- The first byte of a page's data. -/
def Dev.pageData (d : Dev) (k p : Nat) : Nat := plArea (d.pool k) + plData (d.pool k) + p * plGB (d.pool k)

/-- Offsets of one head vector in a page of 2^s tokens: key codes, key exponents, value codes, value exponents. -/
def vectorAt (w s layer head token : Nat) : Nat × Nat × Nat × Nat :=
  let t := 2 ^ s
  let l := layer * t * plHkv w * 2 * (plCS w + plSB w)
  let i := head * t + token
  (l + i * plCS w, l + t * plHkv w * plCS w + i * plSB w,
   l + t * plHkv w * (plCS w + plSB w) + i * plCS w, l + t * plHkv w * (2 * plCS w + plSB w) + i * plSB w)

/-- The page of a list that holds a token, and the token's place in it. -/
def Dev.tokenPlace (d : Dev) (k : Nat) (pages : List Nat) (t : Nat) : Option (Nat × Nat) :=
  (pages.find? fun p => let h := d.page k p; decide (pgPos h ≤ t) && decide (t < pgPos h + 2 ^ pgSize h)).map
    fun p => (p, t - pgPos (d.page k p))

/-! ### The end of an instance (R438) -/

/-- FILL raised to what a page holds of tokens 0 to n − 1, and the page in use. -/
def Dev.fillPage (d : Dev) (k p n : Nat) : Dev :=
  let h := d.page k p
  let fill := min (n - pgPos h) (2 ^ pgSize h)
  d.putPage k p (setBits (setBits h 95 64 (max fill (pgFill h))) 5 4 2)

/-- One claimed sequence published, in the order of R438. -/
def Dev.publish (d : Dev) (c : Claim) : Dev :=
  let n := c.base + c.appended
  let d := ((d.seqPageList c.pool c.seq).getLast?.toList ++ c.pages).foldl
    (fun d p => if c.appended = 0 then d else d.fillPage c.pool p n) d
  let h := d.seqHead c.pool c.seq
  let h := match c.pending with | some b => setBits h 95 64 b | none => h
  let h := setBits (setBits h 31 0 n) 37 32 (c.basePages + c.pages.length)
  let h := setBits (setBits (setBits h 38 38 0) 39 39 0) 55 48 0
  d.putSeqHead c.pool c.seq (setBits h 191 128 (sqGen h + 1))

/-- One claimed sequence given up: staged pages freed, the claim and the tree cleared (R438). -/
def Dev.unclaim (d : Dev) (c : Claim) : Dev :=
  let d := c.pages.foldl (fun d p => d.putPage c.pool p 0) d
  let d := (List.range c.pages.length).foldl (fun d i => d.putSeqPage c.pool c.seq (c.basePages + i) 0xFFFFFFFF) d
  let h := d.seqHead c.pool c.seq
  d.putSeqHead c.pool c.seq (setBits (setBits (setBits h 38 38 0) 39 39 0) 55 48 0)

/-- A capsule's claims as its instance ends (KV_PUBLISH, R438). -/
def Dev.endClaims (d : Dev) (capsule : Nat) (ok : Bool) : Dev :=
  let mine := d.kv.claims.filter fun c => c.capsule == capsule
  let d := mine.foldl (fun d c => if ok then d.publish c else d.unclaim c) d
  d.setKv { d.kv with claims := d.kv.claims.filter fun c => c.capsule != capsule }

end Sys2Proof.Machine
end

