-- ==== Sys2Proof/Machine/Luns.lean ====
section
/-! DEFINITION. The LUNs of the flash channels: their numbers, and what each serves (12_flash). -/

namespace Sys2Proof.Machine

/-! ### Numbers (R486, R487, R511) -/

/-- The channel of a LUN. -/
def lunChannel (lun : Nat) : Nat := lun / 32
/-- The channel group of a LUN. -/
def lunGroup (lun : Nat) : Nat := lun / 128
/-- Block number `b` of a LUN, among all blocks of the device. -/
def blockKey (lun b : Nat) : Nat := lun * 16384 + b
/-- The LUN of a block. -/
def blockLun (k : Nat) : Nat := k / 16384

/-! ### Operations (R488, R494) -/

/-- The operation with a number. -/
def Dev.flashOp? (d : Dev) (n : Nat) : Option FlashOp := d.flash.ops.find? fun o => o.number == n

/-- Is an operation a read? -/
def FlashOp.isRead (o : FlashOp) : Bool := match o.use with | .read .. => true | .copyRead .. => true | _ => false

/-- The slots that a page program carries, and none for its block's summary; `none` for another operation. -/
def FlashOp.programmed (o : FlashOp) : Option (List (FlashSlot × Option Nat)) := match o.use with
  | .program l => some l
  | .summary _ => some []
  | _ => none

/-- The program or erase under way on a LUN: the oldest. -/
def Dev.busyOp (d : Dev) (lun : Nat) : Option FlashOp :=
  d.flash.ops.find? fun p => blockLun p.block == lun && !p.isRead

/-- The read that a LUN serves, if it serves one. -/
def Dev.served (d : Dev) (lun : Nat) : Option FlashOp := (tabGet lun d.flash.serving).bind d.flashOp?

/-- Commands issued to a LUN, in order (R488). -/
def Dev.onfi (d : Dev) (lun : Nat) (l : List Onfi) : Dev := l.foldl (fun d x => d.send (.onfi lun x)) d

/-- A LUN begins a read. -/
def Dev.beginRead (d : Dev) (o : FlashOp) : Dev :=
  (d.setFlash { d.flash with serving := tabSet (blockLun o.block) o.number d.flash.serving }).onfi (blockLun o.block) [.read o.block o.index o.retries]

/-- A read suspends the program or erase under way; those of reads other than C0's are counted (R494). -/
def Dev.suspend (d : Dev) (p : FlashOp) (c0 : Bool) : Dev :=
  let d := d.onfi (blockLun p.block) [.suspend]
  if c0 then d
  else d.setFlash { d.flash with ops := d.flash.ops.map fun x => if x.number = p.number then { x with suspends := x.suspends + 1 } else x }

/-- A LUN that serves no read begins the next: C0 first, then in order of arrival. Where a program or an erase is under way the read suspends
it; once reads other than C0's have suspended it four times, the next of them waits for its end (R494). -/
def Dev.serveLun (d : Dev) (lun : Nat) : Dev :=
  if (d.served lun).isSome then d
  else
    let l := d.flash.ops.filter fun o => o.isRead && blockLun o.block == lun
    match (l.filter (·.c0) ++ l.filter (!·.c0)).head? with
    | none => d
    | some o => match d.busyOp lun with
      | none => d.beginRead o
      | some p => if !o.c0 && decide (4 ≤ p.suspends) then d else (d.suspend p o.c0).beginRead o

/-- A LUN goes on after a read: with the next, or with the operation that was suspended. -/
def Dev.lunGoesOn (d : Dev) (lun : Nat) : Dev :=
  let e := d.serveLun lun
  if (e.served lun).isNone && (e.busyOp lun).isSome then e.onfi lun [.resume] else e

end Sys2Proof.Machine
end

