-- ==== Sys2Proof/Machine/Queues.lean ====
section
/-! DEFINITION. Fair queueing at a point, and the Carillon (R552–R557). -/

namespace Sys2Proof.Machine

/-! ### Fair queueing (R553, R554) -/

/-- The number of a flow of a realm and class. -/
def flowOf (realm cls : Nat) : Nat := 8 * realm + cls

/-- The weight of a class of a realm (0x2C00 + r.02–.08). -/
def Dev.classWeight (d : Dev) (realm cls : Nat) : Nat := if realm = 0 then 1 else d.cfg (0x2C00 + realm) (cls + 1)

/-- A finish tag: max(v, F) + s × 65,536 / w in 64 bits; none for a scavenger. -/
def finishTag (v f s w : Nat) : Nat := if w = 0 then 0 else (max v f + s * 65536 / w) % 2 ^ 64

/-- An item arrives on its flow, and on its realm's at a point with a realm level. -/
def QueuePoint.arrive (p : QueuePoint) (realm cls size w wRealm arrival capsule : Nat) : QueuePoint :=
  let t := finishTag p.v (tabGetD (flowOf realm cls) 0 p.tags) size w
  let tr := finishTag p.vRealm (tabGetD realm 0 p.realmTags) size wRealm
  { p with
    tags := if cls = 0 then p.tags else tabSet (flowOf realm cls) t p.tags
    realmTags := if cls = 0 then p.realmTags else tabSet realm tr p.realmTags
    items := p.items ++ [⟨realm, cls, size, t, tr, arrival, capsule, false, []⟩] }

/-- The item that comes first under an order, the earliest of equals. -/
def firstBy (before : QueueItem → QueueItem → Bool) (l : List QueueItem) : Option QueueItem := (sortBy before l).head?

/-- Does a realm tag come before another; equal ones by class, then by realm? -/
def realmBefore (a b : QueueItem) : Bool :=
  decide (a.realmTag < b.realmTag) || (a.realmTag == b.realmTag && (decide (a.cls < b.cls) || (a.cls == b.cls && decide (a.realm < b.realm))))

/-- Does a class tag come before another; equal ones by class, then by realm? -/
def tagBefore (a b : QueueItem) : Bool :=
  decide (a.tag < b.tag) || (a.tag == b.tag && (decide (a.cls < b.cls) || (a.cls == b.cls && decide (a.realm < b.realm))))

/-- The item served next among those that are ready: C0 first (R541), then by finish tags, then scavengers round-robin (R554). -/
def QueuePoint.next (p : QueuePoint) (ready : QueueItem → Bool) (weight : Nat → Nat → Nat) : Option QueueItem :=
  let l := p.items.filter ready
  match l.find? fun i => i.cls == 0 with
  | some i => some i
  | none =>
    match firstBy realmBefore (l.filter fun i => weight i.realm i.cls != 0) with
    | some i => firstBy tagBefore (l.filter fun j => j.realm == i.realm && weight j.realm j.cls != 0)
    | none => firstBy (fun a b =>
        decide ((flowOf a.realm a.cls + 2048 - p.scavenger - 1) % 2048 < (flowOf b.realm b.cls + 2048 - p.scavenger - 1) % 2048)) l

/-- An item leaves its point: v follows its tag, and its realm's smallest realm tag is used up. -/
def QueuePoint.serve (p : QueuePoint) (i : QueueItem) (weight : Nat → Nat → Nat) : QueuePoint :=
  let rest := p.items.filter fun j => j.arrival != i.arrival
  if i.cls = 0 then { p with items := rest }
  else if weight i.realm i.cls = 0 then { p with items := rest, scavenger := flowOf i.realm i.cls }
  else
    let least := (rest.filter fun j => j.realm == i.realm && j.cls != 0 && weight j.realm j.cls != 0).foldl (fun m j => min m j.realmTag) i.realmTag
    let rest := rest.map fun (j : QueueItem) => if j.realm == i.realm && j.cls != 0 && j.realmTag == least && least != i.realmTag then { j with realmTag := i.realmTag } else j
    { p with items := rest, v := i.tag, vRealm := least }

/-! ### The Carillon (R555–R557) -/

/-- The flow numbers of the Carillon: C0 admission of realm r is r, the cap of class c of realm r is 256c + r, the C0 egress of realm r at
point n is 2,048 + 256n + r. -/
def capFlow (realm cls : Nat) : Nat := 256 * cls + realm

/-- The flow of C0 egress. -/
def egressFlow (realm point : Nat) : Nat := 2048 + 256 * point + realm

/-- An instant in nanoseconds. -/
def Ctx.ns (c : Ctx) : Rat := ((c.now * 10 : Nat) : Rat)

/-- ⌈e / w⌉ of a time in nanoseconds and a whole width. -/
def slotUp (e : Rat) (w : Nat) : Nat := (Rat.ceil (e / ((w : Nat) : Rat))).toNat

/-- The widths of a fine and a coarse slot in nanoseconds. -/
def fineNs : Nat := 250
/-- A coarse slot is 4,096 fine ones. -/
def coarseNs : Nat := 1024000
/-- The horizon of the coarse level in nanoseconds. -/
def horizonNs : Nat := 4194000000

/-- Is a flow waiting in the Carillon? -/
def Dev.shaped (d : Dev) (flow : Nat) : Bool :=
  (d.traffic.fine.any fun e => e.flow == flow) || d.traffic.coarse.any fun e => e.flow == flow

/-- A flow entered by its E (R555): at once eligible, in a fine slot, in a coarse slot, or clamped. -/
def Dev.enterFlow (c : Ctx) (d : Dev) (flow : Nat) (e : Rat) : Dev :=
  let t := d.traffic
  let wait := e - c.ns
  if wait ≤ 0 then d
  else if wait < ((coarseNs : Nat) : Rat) then d.setTraffic { t with fine := t.fine ++ [⟨flow, e, slotUp e fineNs, false⟩] }
  else if wait < ((horizonNs : Nat) : Rat) then d.setTraffic { t with coarse := t.coarse ++ [⟨flow, e, slotUp e coarseNs, false⟩] }
  else
    let last := (c.now * 10 + horizonNs - 1) / coarseNs
    d.setTraffic { t with coarse := t.coarse ++ [⟨flow, e, last, true⟩], clamps := satAdd 64 t.clamps 1 }

/-- A flow's E raised by a step, from now where it lies in the past. -/
def Dev.shapeFlow (c : Ctx) (d : Dev) (flow : Nat) (step : Rat) : Dev :=
  let e := max (tabGetD flow 0 d.traffic.eligible) c.ns + step
  let t := d.traffic
  d.setTraffic { t with
    eligible := tabSet flow e t.eligible
    fine := t.fine.filter fun x => x.flow != flow
    coarse := t.coarse.filter fun x => x.flow != flow }

/-- A flow that has a request waiting is entered while its E is to come (R555). -/
def Dev.awaitFlow (c : Ctx) (d : Dev) (flow : Nat) : Dev :=
  if d.shaped flow then d else d.enterFlow c flow (tabGetD flow 0 d.traffic.eligible)

/-- Does a flow's E lie ahead, or has the Carillon not released the flow? -/
def Dev.flowWaits (c : Ctx) (d : Dev) (flow : Nat) : Bool := d.shaped flow || decide (c.ns < tabGetD flow 0 d.traffic.eligible)

/-- The C0 capsules of a realm that its flow's E holds back: each counts once in 0x2C00.04. -/
def Dev.noteWaits (c : Ctx) (d : Dev) (realm : Nat) : Dev :=
  let t := d.traffic
  let p := tabGetD realm .reset t.admission
  let held := p.items.filter fun i => i.cls == 0 && !i.waited
  if !d.flowWaits c realm || held.isEmpty then d
  else d.setTraffic { t with
    c0Waits := satAdd 64 t.c0Waits held.length
    admission := tabSet realm { p with items := p.items.map fun i => if i.cls = 0 then { i with waited := true } else i } t.admission }

/-! ### Egress (R552, R557) -/

/-- The egress point of a host port. -/
def hostPoint (port : Nat) : Nat := port
/-- The egress point of a fabric link. -/
def linkPoint (link : Nat) : Nat := 6 + link

/-- The bandwidth share of a realm at an egress point, per mille (0x2E00 + r.03, .04): Hp out, Pp out; a hub link's share is that of H0. -/
def Dev.realmShare (d : Dev) (realm point : Nat) : Nat :=
  if realm = 0 then 1000
  else if point < 2 then elem (d.cfg (0x2E00 + realm) 3) 2 (2 * point)
  else if point < 6 then elem (d.cfg (0x2E00 + realm) 3) 2 0
  else elem (d.cfg (0x2E00 + realm) 4) 2 (2 * ((point - 6) / 4))

/-- The weight of a flow at an egress point: 0 where its realm's share is 0 too. -/
def Dev.egressWeight (d : Dev) (point realm cls : Nat) : Nat := if d.realmShare realm point = 0 then 0 else d.classWeight realm cls

/-- An egress point. -/
def Dev.egressPoint (d : Dev) (point : Nat) : QueuePoint := tabGetD point .reset d.traffic.egress

/-- Bytes queued for an egress point. -/
def Dev.enqueue (d : Dev) (point realm cls size : Nat) : Dev :=
  let t := d.traffic
  let p := (d.egressPoint point).arrive realm cls size (d.classWeight realm cls) (d.realmShare realm point) t.arrivals 0
  d.setTraffic { t with egress := tabSet point p t.egress, arrivals := t.arrivals + 1 }

/-- Bytes written into a function's host memory by the item that entered its port's egress last (R552, R592). -/
def Dev.hostWrite (d : Dev) (port function a : Nat) (bs : List Byte) : Dev :=
  let key := hostKey port function a
  let p := d.egressPoint (hostPoint port)
  let items := p.items.modify (p.items.length - 1) fun i => { i with replaced := (key, memBytes d.hostMem key bs.length) :: i.replaced }
  (d.setTraffic { d.traffic with egress := tabSet (hostPoint port) { p with items := items } d.traffic.egress }).setHostMem
    (memPutBytes d.hostMem key bs)

/-- Data posted to a function's host memory (R552). -/
def Dev.postHost (d : Dev) (port function realm cls a : Nat) (bs : List Byte) : Dev :=
  (d.enqueue (hostPoint port) realm cls bs.length).hostWrite port function a bs

/-- Posted writes still queued towards a port are discarded (R592): the memory that they were to replace is as it was. -/
def Dev.dropPosted (d : Dev) (p : Nat) : Dev :=
  let q := d.egressPoint (hostPoint p)
  let mem := q.items.foldr (fun i m => i.replaced.foldl (fun m e => memPutBytes m e.1 e.2) m) d.hostMem
  (d.setTraffic { d.traffic with egress := tabSet (hostPoint p) { q with items := [] } d.traffic.egress }).setHostMem mem

end Sys2Proof.Machine
end

