-- ==== Sys2Proof/Machine/Members.lean ====
section
/-! DEFINITION. Compositions as this node holds them: the epoch check, the tree of collectives, messages to members (R611–R616, R601). -/

namespace Sys2Proof.Machine

/-- The slot of a composition that is installed. -/
def Dev.compositionSlot (d : Dev) (id : Nat) : Option Nat :=
  (d.fabric.compositions.find? fun e => e.2.id == id && e.2.state != 3 && id != 0).map (·.1)

/-- A composition by slot. -/
def Dev.composition? (d : Dev) (slot : Nat) : Option Composition := tabGet slot d.fabric.compositions

/-- The composition of a realm that a host capsule belongs to: the first slot with one (log entry 24). -/
def Dev.compositionOfRealm (d : Dev) (realm : Nat) : Option (Nat × Composition) :=
  d.fabric.compositions.find? fun e => e.2.realm == realm && e.2.state != 3 && e.2.id != 0

/-! ### Ownership units (R619, R620) -/

/-- The key of an ownership unit. -/
def unitKey (slot unit : Nat) : Nat := 4096 * slot + unit

/-- An ownership unit at this node; where no transfer has touched it, its owner is the table's rank at generation 0. -/
def Dev.ownUnit (d : Dev) (slot unit : Nat) : OwnUnit :=
  match tabGet (unitKey slot unit) d.fabric.units with
  | some u => u
  | none =>
    let mine := match d.composition? slot with | some k => nth k.owners unit == k.ownRank | none => false
    ⟨if mine then .owner else .none, 0, 0, 0, [], []⟩

/-- An ownership unit changed. -/
def Dev.setUnit (d : Dev) (slot unit : Nat) (u : OwnUnit) : Dev :=
  d.setFabric { d.fabric with units := tabSet (unitKey slot unit) u d.fabric.units }

/-! ### The epoch check (R612) -/

/-- What the epoch of a request gives: served under an epoch with its own rank and member table; held; moved, with the redirect's node and
epoch; or an unknown composition. -/
inductive EpochAnswer where
  | served (slot epoch ownRank : Nat) (members : List Nat)
  | held
  | moved (epoch node : Nat)
  | unknown
deriving DecidableEq, Repr

/-- *Epoch check*. -/
def Dev.epochCheck (c : Ctx) (d : Dev) (h : Afp) : EpochAnswer :=
  match d.compositionSlot h.composition with
  | none =>
    match tabGet h.composition d.fabric.removed with
    | some t => if c.now ≤ t + 10 * secondTicks then .moved 0 0 else .unknown
    | none => .unknown
  | some s =>
    match d.composition? s with
    | none => .unknown
    | some k =>
      let redirect := EpochAnswer.moved k.epoch (if h.dstRank = 0xFFFF then 0 else nth k.members h.dstRank)
      if h.epoch = 0 then redirect
      else if h.epoch = k.epoch then .served s k.epoch k.ownRank k.members
      else if k.epoch < h.epoch then .held
      else match k.prev with
        | some p =>
          if h.epoch = p.epoch && k.epoch == p.epoch + 1 && decide (c.now < k.installedAt + d.cfg 0x2A50 1 * msTicks) &&
              (h.dstRank == p.ownRank || h.dstRank == 0xFFFF) then .served s p.epoch p.ownRank p.members
          else redirect
        | none => redirect

/-- The counters of 0x2AC0 follow an answer. -/
def Dev.countEpoch (d : Dev) : EpochAnswer → Dev
  | .served s e _ _ =>
    if (d.composition? s).any fun k => k.epoch != e then d.setFabric { d.fabric with prevEpoch := satAdd 64 d.fabric.prevEpoch 1 } else d
  | .held => d.setFabric { d.fabric with heldCount := satAdd 64 d.fabric.heldCount 1 }
  | .moved _ _ => d.setFabric { d.fabric with epochMoved := satAdd 64 d.fabric.epochMoved 1 }
  | .unknown => d

/-- A node-lost ending counted (0x2AC0.05). -/
def Dev.countLost (d : Dev) : Dev := d.setFabric { d.fabric with nodeLost := satAdd 64 d.fabric.nodeLost 1 }

/-- The *Redirect* as message fields. -/
def redirect (epoch node rank : Nat) : List Nat := [epoch, node, rank]

/-- A request of a composition under the epoch check: served, held as the command it came as, or refused by `refuse` with a status and
the redirect. One addressed to a vacant rank completes with ST_NODE_LOST (R617). -/
def Dev.byEpoch (c : Ctx) (d : Dev) (h : Afp) (command : Instr) (refuse : Dev → Nat → List Nat → Dev)
    (serve : Dev → Nat → Nat → Nat → List Nat → Dev) : Dev :=
  let a := d.epochCheck c h
  let d := d.countEpoch a
  match a with
  | .served s e r m =>
    if decide (h.dstRank < m.length) && nth m h.dstRank == 0 then
      refuse d.countLost stNodeLost []
    else serve d s e r m
  | .held => d.setFabric { d.fabric with held := d.fabric.held ++ [⟨h, command, c.now⟩] }
  | .moved e n => refuse d stEpochMoved (redirect e n h.dstRank)
  | .unknown => refuse d stBadArg []

/-! ### The tree of a collective (R615) -/

/-- The relative rank of a member. -/
def relRank (root m r : Nat) : Nat := (r + m - root) % max m 1

/-- The member of a relative rank. -/
def ofRel (root m x : Nat) : Nat := (x + root) % max m 1

/-- The parent of a member other than the root. -/
def parentRank (root m r : Nat) : Nat := ofRel root m ((relRank root m r - 1) / 8)

/-- The children of a member. -/
def childRanks (root m r : Nat) : List Nat :=
  (((List.range 8).map fun i => 8 * relRank root m r + 1 + i).filter fun x => decide (x < m)).map (ofRel root m)

/-- A member and all below it, as a bitmap of ranks. -/
def subtree (root m : Nat) : Nat → Nat → Nat
  | 0, r => 2 ^ r
  | fuel + 1, r => (childRanks root m r).foldl (fun b x => b ||| subtree root m fuel x) (2 ^ r)

/-- Four levels of degree 8 hold 512 members. -/
def subtreeOf (root m r : Nat) : Nat := subtree root m 4 r

/-! ### Messages to members -/

/-- A capsule's place in its composition. -/
def Capsule.member (cap : Capsule) : Member :=
  ⟨cap.composition, cap.epoch, cap.ownRank, cap.members, cap.realm, cap.cls, cap.mirrored⟩

/-- The fields with which a message of a capsule's composition begins: composition, epoch, rank. -/
def Dev.memberFields (d : Dev) (cap : Member) (rank : Nat) : List Nat :=
  [((d.composition? (cap.composition - 1)).map fun k => k.id).getD 0, cap.epoch, rank]

/-- A message of a composition to the node of a rank, over one of the links that can carry it (which one is unspecified). Nothing is sent to
a vacant rank, nor by a mirrored capsule, whose results reach no other member (R625). -/
def Dev.toRank (d : Dev) (cap : Member) (type rank : Nat) (fields : List Nat) : Dev :=
  if cap.mirrored || nth cap.members rank == 0 then d
  else
    let up := d.linksFor type
    let (i, d) := d.choose up.length
    let d : Dev := if up.isEmpty then d else d.enqueue (linkPoint (up.getD i 0)) cap.realm cap.cls (48 + 8 * fields.length)
    d.afpOver (up.getD i 0) type (nth cap.members rank) (d.memberFields cap rank ++ fields)

/-- The instant of a capsule's deadline (R580). -/
def Capsule.deadlineAt (cap : Capsule) : Nat := cap.acceptedAt + cap.deadlineUs * usTicks

/-- A request of a capsule to the node of a rank, with the next REQUEST_ID, until its answer or the capsule's deadline (R607, R613). -/
def Dev.ask (c : Ctx) (d : Dev) (cap : Capsule) (desc type rank : Nat) (fields : List Nat) : Dev :=
  let id := d.fabric.nextRequest
  let r : OwnRequest := ⟨id, type, nth cap.members rank, cap.composition, cap.order, desc, c.now, cap.deadlineAt,
    d.memberFields cap.member rank ++ id :: fields⟩
  (d.setFabric { d.fabric with requests := d.fabric.requests ++ [r], nextRequest := id + 1 }).toRank cap.member type rank (id :: fields)

/-- The outstanding request that a response from a node answers. -/
def Dev.asked (d : Dev) (h : Afp) (requestId : Nat) : Option OwnRequest :=
  d.fabric.requests.find? fun r => r.requestId == requestId && r.dest == h.src

/-- An outstanding request answered. -/
def Dev.answered (d : Dev) (requestId : Nat) : Dev :=
  d.setFabric { d.fabric with requests := d.fabric.requests.filter fun r => r.requestId != requestId }

end Sys2Proof.Machine
end

