-- ==== Sys2Proof/Machine/Shadow.lean ====
section
/-! DEFINITION. Shadowing: the comparison of a mirrored request's two results, and the agreement window (R626, R627). -/

namespace Sys2Proof.Machine

/-- A finite FP32 value as a rational. -/
def f32Rat (w : Nat) : Option Rat :=
  match ofF32 w with
  | .fin neg m e =>
    let s : Rat := if neg then -1 else 1
    let p : Rat := if 0 ≤ e then ((2 ^ e.toNat : Nat) : Rat) else 1 / ((2 ^ (-e).toNat : Nat) : Rat)
    some (s * ((m : Nat) : Rat) * p)
  | _ => none

/-- The absolute value of a rational. -/
def ratAbs (x : Rat) : Rat := if x < 0 then -x else x

/-- Do two scores agree within |x − y| ≤ a + r × max(|x|, |y|)? Equal infinities do. -/
def scoresAgree (a r : Rat) (x y : Nat) : Bool :=
  f32Eq x y || match f32Rat x, f32Rat y with
  | some u, some v => decide (ratAbs (u - v) ≤ a + r * max (ratAbs u) (ratAbs v))
  | _, _ => false

/-- Do two candidate lists agree: overlap, and the scores of the identifiers in both? -/
def listsAgree (overlap a r : Rat) (w s : Candidates) : Bool :=
  let common := w.filterMap fun e => (s.find? fun x => x.1 == e.1).map fun x => (e.2, x.2)
  (w.isEmpty && s.isEmpty) ||
    (decide (overlap * ((max w.length s.length : Nat) : Rat) ≤ ((common.length : Nat) : Rat)) && common.all fun p => scoresAgree a r p.1 p.2)

/-- A threshold or tolerance of 0x2AB0, whose range is finite. -/
def Dev.shadowSetting (d : Dev) (sub : Nat) : Rat := (f32Rat (d.cfg 0x2AB0 sub)).getD 0

/-- Do the two results of a mirrored request agree (R626)? -/
def Dev.mirrorAgrees (d : Dev) (status : Nat) (lists : List Candidates) (result : Nat × List Candidates) : Bool :=
  status == result.1 && lists.length == result.2.length &&
    (lists.zip result.2).all fun p => listsAgree (d.shadowSetting 3) (d.shadowSetting 4) (d.shadowSetting 5) p.1 p.2

/-- The end of an agreement window: SHADOW_REPORT with its counts, and readiness where the agreeing share reaches the pass share (R627). -/
def Dev.endWindow (d : Dev) : Dev :=
  let s := d.fabric.shadow
  if s.windowCompared < d.cfg 0x2AB0 6 then d
  else
    let ready := decide (d.cfg 0x2AB0 7 * s.windowCompared ≤ 1000 * s.windowAgreed)
    (d.setFabric { d.fabric with shadow := { s with windowCompared := 0, windowAgreed := 0, ready := ready } }).afp 0x73 0xFFFF
      [s.windowCompared, s.windowAgreed, if ready then 1 else 0]

/-- A mirrored request compared. -/
def Dev.judgeMirror (d : Dev) (order : Nat) (agrees : Bool) : Dev :=
  let s := d.fabric.shadow
  let n := if agrees then 1 else 0
  let s := { s with
    awaiting := s.awaiting.filter fun w => w.capsule != order
    compared := satAdd 64 s.compared 1
    agreed := satAdd 64 s.agreed n
    windowCompared := s.windowCompared + 1
    windowAgreed := s.windowAgreed + n }
  (d.setFabric { d.fabric with shadow := s }).endWindow

/-- A mirrored request, by the working node's capsule. -/
def Dev.awaited (d : Dev) (order : Nat) : Option AwaitedMirror := d.fabric.shadow.awaiting.find? fun w => w.capsule == order

/-- A mirrored request changed. -/
def Dev.modAwaited (d : Dev) (order : Nat) (f : AwaitedMirror → AwaitedMirror) : Dev :=
  let l := d.fabric.shadow.awaiting.map fun w => if w.capsule = order then f w else w
  d.setFabric { d.fabric with shadow := { d.fabric.shadow with awaiting := l } }

/-- A mirrored request compared once both results are here. -/
def Dev.settleMirror (d : Dev) (order : Nat) : Dev :=
  match d.awaited order with
  | some ⟨_, some st, lists, some r, _⟩ => d.judgeMirror order (d.mirrorAgrees st lists r)
  | _ => d

/-- A SHADOW_RESULT that has not arrived by its request's deadline disagrees (R626). -/
def Dev.expireMirror (c : Ctx) (d : Dev) (order : Nat) : Dev :=
  match d.awaited order with
  | some w => if w.deadline ≤ c.now && w.result.isNone then d.judgeMirror order false else d
  | none => d

end Sys2Proof.Machine
end

