-- ==== Sys2Proof/Machine/Completion.lean ====
section
/-! DEFINITION. How work ends: slots, cancellation, completion records, interrupts (R143–R149, R583–R588, R606). -/

namespace Sys2Proof.Machine

/-! ### Ports, functions, rings -/

/-- Host port p. -/
def Dev.port (d : Dev) (p : Nat) : HostPort := d.ports.getD p .reset

/-- Host port p changed. -/
def Dev.modPort (d : Dev) (p : Nat) (f : HostPort → HostPort) : Dev := d.setPorts (listMod p f d.ports)

/-- A function of a port; its registers at reset where nothing was written. -/
def Dev.fn (d : Dev) (p n : Nat) : Function := tabGetD n .reset (d.port p).functions

/-- A function changed. -/
def Dev.modFn (d : Dev) (p n : Nat) (f : Function → Function) : Dev :=
  d.modPort p fun h => { h with functions := tabMod n .reset f h.functions }

/-- A ring of a function. -/
def Function.ring (f : Function) (q : Nat) : Ring := tabGetD q .reset f.rings

/-- An aperture of a function. -/
def Function.aperture (f : Function) (a : Nat) : Aperture := tabGetD a .reset f.apertures

/-- An MSI-X message of a function's vector. -/
def Dev.interrupt (d : Dev) (p n v : Nat) : Dev := d.send (.msix p n v)

/-- A message of a function's error vector (R588). -/
def Dev.errorVector (d : Dev) (p n : Nat) : Dev := d.interrupt p n 31

/-- The capsules that a function has outstanding. -/
def Function.outstanding (f : Function) : Nat := sumOf (f.apertures.map fun a => a.2.outstanding)

/-- QUIESCED becomes 1 when QUIESCE is 1 and no capsule is outstanding (R588, *Function status*). -/
def Dev.checkQuiesced (d : Dev) (p n : Nat) : Dev :=
  let f := d.fn p n
  let q := f.quiesce && f.outstanding == 0
  let d := d.modFn p n fun f => { f with wasQuiesced := q }
  if q && !f.wasQuiesced then d.errorVector p n else d

/-! ### Completion records (R583–R587) -/

/-- A completion record without its phase (*Completion record*). -/
def completionRecord (c : Ctx) (cap : Capsule) (status : Nat) (short ties : Bool) (reason result : Nat) : Nat :=
  let aperture := match cap.src with | .host _ _ a _ _ => a | .fabric .. => 0
  status + (if short && status == stOk then 2 ^ 8 else 0) + (if ties && status == stOk then 2 ^ 9 else 0) + cap.tag * 2 ^ 16 +
    cap.opcode * 2 ^ 32 + aperture * 2 ^ 40 + reason * 2 ^ 48 + result % 2 ^ 64 * 2 ^ 64 + cap.acceptedAt * 2 ^ 128 +
    min (c.now - cap.acceptedAt) (2 ^ 32 - 1) * 2 ^ 192

/-- Does a ring send its message now (R587)? -/
def Ring.signals (r : Ring) (c0 : Bool) : Bool :=
  decide (r.coalCount ≤ r.unsignalled) || r.coalTime == 0 || (r.c0Immediate && c0)

/-- A record written to a ring of a function: entry, phase, and the message if one is due (R584, R587). -/
def Dev.ringWrite (c : Ctx) (d : Dev) (p n q record : Nat) (c0 : Bool) : Dev :=
  let r := (d.fn p n).ring q
  let rcd := record + (if r.phase then 2 ^ 248 else 0)
  let d := (d.hostWrite p n (r.base + 32 * r.next) (leBytes 32 rcd)).send (.completion p n q r.next rcd)
  let last := decide (2 ^ r.sizeLog2 ≤ r.next + 1)
  let r := { r with
    next := if last then 0 else r.next + 1
    phase := if last then !r.phase else r.phase
    firstAt := if r.unsignalled = 0 then c.now else r.firstAt
    unsignalled := r.unsignalled + 1 }
  let fire := r.signals c0
  let d := d.modFn p n fun f => { f with rings := tabSet q (if fire then { r with unsignalled := 0 } else r) f.rings }
  if fire then d.interrupt p n r.vector else d

/-- A host capsule's record: written to its aperture's ring, or discarded and counted where the ring was disabled since (R584). The
aperture's credit comes back. -/
def Dev.hostRecord (c : Ctx) (d : Dev) (p n a disables record : Nat) (c0 : Bool) : Dev :=
  let q := ((d.fn p n).aperture a).ring
  let r := (d.fn p n).ring q
  let d : Dev := if r.enable && r.disables == disables then d.ringWrite c p n q record c0
    else ((d.modFn p n fun f => { f with lost := satAdd 16 f.lost 1 }).modPort p fun h => { h with discarded := satAdd 64 h.discarded 1 }).errorVector p n
  let d := d.modFn p n fun f => { f with apertures := tabUpdate a (fun x => { x with outstanding := x.outstanding - 1 }) f.apertures }
  d.checkQuiesced p n

/-- A capsule leaves the device with its record: to its ring, to the node that sent it (R606, with the answer kept for duplicates, R607),
or, where it was mirrored here, to the working node (R625). Only an ST_OK record goes with results (R157, R255). -/
def Dev.deliver (c : Ctx) (d : Dev) (cap : Capsule) (record : Nat) (lists : List Candidates) : Dev :=
  let d : Dev := match cap.src with
    | .host p n a _ _ => (d.enqueue (hostPoint p) cap.realm cap.cls 32).hostRecord c p n a cap.ringDisables record (cap.cls == 0)
    | .fabric h _ _ =>
      let d := d.enqueue (linkPoint h.link) cap.realm cap.cls (80 + cap.outData.length)
      if cap.mirrored then
        d.afp 0x72 h.src ([h.requestId, record] ++ (lists.map fun l => l.length) ++ (lists.flatten.map fun e => [e.1, e.2]).flatten)
      else
        let out := if record % 256 = stOk then cap.outData.map fun x => x.1 * 256 + x.2.toNat else []
        let d := d.afp 0x31 h.src ([h.requestId, record] ++ out)
        d.setFabric { d.fabric with seen := d.fabric.seen.map fun s =>
          if s.src = h.src ∧ s.requestId = h.requestId then { s with answer := some ([0x31, h.requestId, record] ++ out) } else s }
  -- the working node's own side of a mirrored request (R626)
  let d := (d.modAwaited cap.order fun w => { w with status := some (record % 256), lists := lists }).settleMirror cap.order
  d.setCapsules { d.capsules with live := d.capsules.live.filter fun x => x.order != cap.order }

/-! ### Slots (R143–R145) -/

/-- A tile's record. -/
def Dev.tile (d : Dev) (n : Nat) : Tile := tabGetD n .reset d.tiles.tiles

/-- A tile's record changed. -/
def Dev.modTile (d : Dev) (n : Nat) (f : Tile → Tile) : Dev :=
  d.setTiles { d.tiles with tiles := tabMod n .reset f d.tiles.tiles }

/-- Slots in use on a tile, as (slot, record). -/
def Dev.slotsOf (d : Dev) (tile : Nat) : List (Nat × Slot) :=
  (d.tiles.slots.filter fun e => e.1 / 64 == tile).map fun e => (e.1 % 64, e.2)

/-- A free slot of a tile for a class: slots 56–63 take C0 operations only (R144). -/
def Dev.freeSlot (d : Dev) (tile cls : Nat) : Option Nat :=
  let order := (List.range 56) ++ (if cls = 0 then (List.range 8).map (56 + ·) else [])
  order.find? fun s => (tabGet (64 * tile + s) d.tiles.slots).isNone

/-- The slots of a capsule, as (key, record). -/
def Dev.capsuleSlots (d : Dev) (order : Nat) : List (Nat × Slot) := d.tiles.slots.filter fun e => e.2.capsule == order

/-- The slots of a capsule's descriptor, as (key, record). -/
def Dev.slotsFor (d : Dev) (order desc : Nat) : List (Nat × Slot) :=
  d.tiles.slots.filter fun e => e.2.capsule == order && e.2.desc == desc

/-- The slot of a capsule's descriptor that stands for it: a RUNNING one, or else its first. -/
def Dev.slotOf (d : Dev) (order desc : Nat) : Option (Nat × Slot) :=
  let l := d.slotsFor order desc
  match l.find? fun e => e.2.state == .running with
  | some e => some e
  | none => l.head?

/-- The tile of a capsule's descriptor, as its slots give it. -/
def Dev.tileFor (d : Dev) (order desc : Nat) : Nat := ((d.slotOf order desc).map fun e => e.1 / 64).getD 0

/-- A slot filled; the tile's peak of slots in use follows (0x2020). -/
def Dev.fillSlot (d : Dev) (tile slot : Nat) (s : Slot) : Dev :=
  let d := d.setTiles { d.tiles with slots := tabSet (64 * tile + slot) s d.tiles.slots }
  d.modTile tile fun t => { t with peak := max t.peak (d.slotsOf tile).length }

/-- The state of one slot changed, by its key. -/
def Dev.slotTo (d : Dev) (key : Nat) (st : SlotState) : Dev :=
  d.setTiles { d.tiles with slots := tabUpdate key (fun s => { s with state := st }) d.tiles.slots }

/-- The state of the slots of a capsule's descriptor changed. -/
def Dev.slotState (d : Dev) (order desc : Nat) (st : SlotState) : Dev :=
  d.setTiles { d.tiles with slots := d.tiles.slots.map fun e =>
    if e.2.capsule = order ∧ e.2.desc = desc then (e.1, { e.2 with state := st }) else e }

/-- The unit that an operator's tile operations need (R112). -/
def opUnit (op : Nat) : TileUnit :=
  if op = 0x10 || op == 0x11 then .matrix
  else if op = 0x23 || op == 0x24 then .mover
  else if op = 0x35 || op == 0x36 || op == 0x37 then .select
  else if (0x12 ≤ op && op ≤ 0x1C) || op == 0x20 || op == 0x21 || op == 0x22 || op == 0x30 || op == 0x32 || op == 0x34 || op == 0x50 || op == 0x51
  then .vector else .scheduler

/-- Has a descriptor delivered its token? -/
def delivered (r : PlanRun) (i : Nat) : Bool :=
  match tabGet i r.descs with | some .fired => true | some .skipped => true | _ => false

/-- The scratchpad bank, by address bits [10:6], at which a stream starts (R464). -/
def startBank : TileStream → Nat
  | .weight => 0
  | .activation => 8
  | .output => 16
  | .panel => 24

/-- The bank that line i of a stream lies in: a stream advances one line per bank (R464). -/
def streamBank (s : TileStream) (i : Nat) : Nat := (startBank s + i) % 32

/-- The streams that a tile operation of an operator has in scratchpad (log entry 100). -/
def streamsOf (op : Nat) : List (TileStream × Nat) :=
  (show List TileStream from match opUnit op with
  | .matrix => [.weight, .activation, .output]
  | .mover => if op = 0x23 then [.panel] else []
  | .scheduler => []
  | _ => [.activation, .output]).map fun s => (s, streamBank s 0)

/-- The layers of a plan group's constants that descriptors not yet fired read, lowest first. -/
def layersLeft (im : DictVal) (r : PlanRun) (g : Nat) : List Nat :=
  sortBy (fun a b => decide (a < b)) (distinct ((((List.range (imDescs im)).filter fun i =>
    !delivered r i && dcGroup (imDesc im i) == g).map fun i =>
      ((dcIns (imDesc im i)).filter fun p => tnKind (imTensor im p.2) == 1 || tnKind (imTensor im p.2) == 2).map
        fun p => tnLayer (imTensor im p.2)).flatten))

/-- Is layer l of a windowed group of a run's plan in place in the buffer that the run holds for it (R245, R246)? -/
def Dev.layerReady (d : Dev) (im : DictVal) (r : PlanRun) (g l : Nat) : Bool :=
  let key := 16 * g + l % max (pgWindow (imGroup im g)) 1
  tabGet key r.layer == some l && tabGet (4096 * r.plan + key) d.plans.layers == some l

/-- How many of a descriptor's inputs are constants whose layer its windowed group has not in place (R245). -/
def Dev.waitsForLayer (d : Dev) (im : DictVal) (r : PlanRun) (w : Nat) : Nat :=
  ((dcIns w).filter fun p =>
    let t := imTensor im p.2
    decide (tnKind t = 1 ∨ tnKind t = 2) && pgResidency (imGroup im (dcGroup w)) == 2 && !d.layerReady im r (dcGroup w) (tnLayer t)).length

/-- Tile operation number `part` of a capsule's descriptor put into a slot of a tile, or held in order where there is none, or where the
capsule has one held there already (R145). -/
def Dev.place (d : Dev) (order desc tile part : Nat) : Dev :=
  match d.capsule? order, d.run? order with
  | some cap, some run =>
    match d.plan? run.plan with
    | none => d
    | some p =>
      let w := imDesc p.image desc
      let held := d.tiles.held.any fun h => h.1 == order && h.2.2 == tile
      match (if held then none else d.freeSlot tile cap.cls) with
      | none => d.setTiles { d.tiles with held := d.tiles.held ++ [(order, desc, tile)] }
      | some s =>
        let wait := d.waitsForLayer p.image run w
        d.fillSlot tile s
          ⟨if wait = 0 then .ready else .waiting, cap.cls, cap.realm, run.plan, desc, min wait 8, cap.tag, order, opUnit (dcOp w), part,
            streamsOf (dcOp w)⟩
  | _, _ => d

/-- The number of the tile operation of a descriptor that was cut last; the one that is held, where one is. -/
def Dev.lastPart (d : Dev) (order desc : Nat) : Nat :=
  ((d.run? order).map fun r => (tabGetD desc ⟨0, 0, 0, 0, 0⟩ r.cuts).cut).getD 0 - 1

/-- The held operations tried again, in order (R145). -/
def Dev.placeHeld (d : Dev) : Dev :=
  d.tiles.held.foldl (fun d h => d.place h.1 h.2.1 h.2.2 (d.lastPart h.1 h.2.1)) (d.setTiles { d.tiles with held := [] })

/-- A slot freed. -/
def Dev.freeTheSlot (d : Dev) (tile slot : Nat) : Dev :=
  (d.setTiles { d.tiles with slots := tabDel (64 * tile + slot) d.tiles.slots }).placeHeld

/-! ### Panel moves and windowed layers (R112, R132, R244–R246) -/

/-- The panel moves that a tile has outstanding or is about to start: those under way, and the RUNNING mover slots whose move has not
begun. -/
def Dev.movesOn (d : Dev) (tile : Nat) : Nat :=
  let l := tabGetD tile [] d.tiles.moves
  l.length + ((d.slotsOf tile).filter fun e => e.2.unit == .mover && e.2.state == .running &&
    !l.any fun m => m.capsule == e.2.capsule && m.desc == e.2.desc).length

/-- The tensors that a panel move reads and writes: its descriptor's operands, or the constants of a layer. -/
def moveTensors (im : DictVal) (desc : Nat) : List Nat :=
  if desc < 0x10000 then (dcIns (imDesc im desc) ++ dcOuts (imDesc im desc)).map (·.2)
  else (List.range (imTensors im)).filter fun t =>
    tnKind (imTensor im t) == 2 && tnLayer (imTensor im t) == desc % 256 && (List.range (imDescs im)).any fun i =>
      dcGroup (imDesc im i) == (desc - 0x10000) / 256 && (dcIns (imDesc im i)).any fun e => e.2 == t

/-- The ranges of T2 that a panel move accesses, as (realm, address, length). -/
def Dev.moveRanges (d : Dev) (order desc : Nat) : List (Nat × Nat × Nat) :=
  match d.run? order with
  | none => []
  | some r => match d.plan? r.plan with
    | none => []
    | some p => ((moveTensors p.image desc).filterMap fun t =>
        let w := imTensor p.image t
        let b := r.args.getD (tnArg w) ⟨0, 0, 0⟩
        let a := if tnKind w = 2 then some (tnOffset w) else if (tnKind w = 3 ∨ tnKind w = 4) ∧ b.loc = 0 then some b.addr else none
        a.map fun a => (p.realm, a, tensorBytes p.image t)).filter fun e => inT2 e.2.1

/-- The place of a new panel of 2^p bytes in a tile's scratchpad: a multiple of its size (R461), the lowest at which no panel under way lies. -/
def Dev.panelPlace (d : Dev) (tile p : Nat) : Nat :=
  let l := tabGetD tile [] d.tiles.moves
  2 ^ p * (((List.range (2 ^ (21 - p))).find? fun i =>
    !l.any fun m => rangesMeet (2 ^ p * i) (2 ^ p) m.place (2 ^ m.size)).getD 0)

/-- A panel move started on a tile, its panels of the T2 cache pinned (R468); layer loads carry 0x10000 + 256 × group + layer in place of a descriptor. -/
def Dev.startMove (d : Dev) (tile : Nat) (m : PanelMove) : Dev :=
  let pins := ((d.moveRanges m.capsule m.desc).map fun e => (panelTags e.2.1 e.2.2).map fun t => (e.1, t)).flatten
  (d.setTiles { d.tiles with
    moves := tabMod tile [] (· ++ [{ m with number := d.tiles.nextMove, pins := pins, place := d.panelPlace tile m.size }]) d.tiles.moves
    nextMove := d.tiles.nextMove + 1 }).repin pins (· + 1)

/-- A panel move that has ended, or is dropped, is outstanding no more: its panels are pinned once less. -/
def Dev.endMoves (d : Dev) (which : Nat → PanelMove → Bool) : Dev :=
  let ended := (d.tiles.moves.map fun e => e.2.filter (which e.1)).flatten
  ended.foldl (fun d m => d.repin m.pins (· - 1))
    (d.setTiles { d.tiles with moves := d.tiles.moves.map fun e => (e.1, e.2.filter fun m => !which e.1 m) })

/-- Waiting layer loads started, in order, on the tiles that have room for them; they wait in no slot of a tile (DESIGN CHOICE, log entry 124). -/
def Dev.pullMoves (d : Dev) : Dev :=
  d.tiles.queued.foldl (fun d e =>
    if d.movesOn e.1 < 16 then d.startMove e.1 e.2
    else d.setTiles { d.tiles with queued := d.tiles.queued ++ [e] }) (d.setTiles { d.tiles with queued := [] })

/-- The tiles in service of the clock groups bound to a plan group. -/
def Dev.groupTiles (d : Dev) (p : Plan) (g : Nat) : List Nat :=
  (List.range 576).filter fun n => bit (nth p.binding g) (tileGroup n) && !(d.tile n).fenced

/-- The size of the panel that carries a tile's share of a layer: the smallest of 4 KiB to 1 MiB that holds it (R461). -/
def shareSize (bytes : Nat) : Nat := ((List.range 9).map (12 + ·)).find? (fun p => decide (bytes ≤ 2 ^ p)) |>.getD 20

/-- Buffer b of a windowed group as a run wants it: held for the lowest layer of that buffer that the run has not finished, unless another
run of the plan holds the buffer (R246), and loaded then, one panel move for each tile of the group; given up where none is left. -/
def Dev.wantLayer (d : Dev) (order g b : Nat) : Dev :=
  match d.run? order with
  | none => d
  | some r =>
    match d.plan? r.plan with
    | none => d
    | some p =>
      let key := 16 * g + b
      match (layersLeft p.image r g).find? fun l => l % max (pgWindow (imGroup p.image g)) 1 == b with
      | none => d.modRun order fun r => { r with layer := tabDel key r.layer }
      | some l =>
        if tabGet key r.layer == some l ||
          d.plans.runs.any fun q => q.plan == r.plan && q.capsule != order && (tabGet key q.layer).isSome then d
        else
          let d := d.modRun order fun r => { r with layer := tabSet key l r.layer }
          let d := d.setPlans { d.plans with layers := tabDel (4096 * r.plan + key) d.plans.layers }
          (d.setTiles { d.tiles with queued := d.tiles.queued ++ (d.groupTiles p g).map fun n =>
            (n, ⟨0, order, 0x10000 + 256 * g + l, [],
              shareSize (ceilDiv (sumOf ((moveTensors p.image (0x10000 + 256 * g + l)).map (tensorBytes p.image))) (max 1 (d.groupTiles p g).length)),
              0, some (startBank .panel), [], []⟩) }).pullMoves

/-- The buffers of the windowed groups of a plan's runs, the oldest first. -/
def Dev.wantLayers (d : Dev) (plan : Nat) : Dev :=
  match d.plan? plan with
  | none => d
  | some p =>
    let groups := (List.range (imGroups p.image)).filter fun g => pgResidency (imGroup p.image g) == 2
    let runs := (d.plans.runs.filter fun r => r.plan == plan && r.status == stOk).map fun r => r.capsule
    runs.foldl (fun d k => groups.foldl (fun d g => (List.range (pgWindow (imGroup p.image g))).foldl (fun d b => d.wantLayer k g b) d) d) d

/-- The slots of a plan that wait for a layer looked at again (R245). -/
def Dev.wakeSlots (d : Dev) (plan : Nat) : Dev :=
  match d.plan? plan with
  | none => d
  | some p =>
    let look (s : Slot) : Slot :=
      match (if s.plan = plan ∧ s.state = .waiting then d.run? s.capsule else none) with
      | some r =>
        let wait := d.waitsForLayer p.image r (imDesc p.image s.desc)
        { s with wait := min wait 8, state := if wait = 0 then .ready else .waiting }
      | none => s
    d.setTiles { d.tiles with slots := d.tiles.slots.map fun e => (e.1, look e.2) }

/-! ### Triggers of a capsule (R182, R198) -/

/-- An accepted trigger by number. -/
def Dev.trigger? (d : Dev) (k : Nat) : Option Trigger := d.banks.triggers.find? fun t => t.order == k

/-- A trigger changed. -/
def Dev.modTrigger (d : Dev) (k : Nat) (f : Trigger → Trigger) : Dev :=
  d.setBanks { d.banks with triggers := d.banks.triggers.map fun t => if t.order = k then f t else t }

/-- Released slots are held for the earliest trigger that has waited too long for slots of their pseudo-channel (R182). Slot 7 serves C0
triggers only. -/
def Dev.holdSlots (d : Dev) (keys : List Nat) : Dev :=
  keys.foldl (fun d key =>
    match d.banks.triggers.find? fun t => t.holding && !t.granted && t.stack == key / 256 && bit t.pcMask (key / 8 % 32) with
    | some t => if key % 8 = 7 then d else d.setBanks { d.banks with heldSlots := tabSet key t.order d.banks.heldSlots }
    | none => d) d

/-- The pseudo-channels of a trigger whose sequences have all ended give back its query slots (R182); a trigger with none left goes. -/
def Dev.releaseTrigger (d : Dev) (k : Nat) : Dev :=
  match d.trigger? k with
  | none => d
  | some t =>
    let live := t.left.map (· / 24)
    let given := (d.banks.querySlots.filter fun e => e.2 == k && !live.contains (e.1 / 8 % 32)).map (·.1)
    let d := d.setBanks { d.banks with querySlots := d.banks.querySlots.filter fun e => !given.contains e.1 }
    let d := d.holdSlots given
    if t.left.isEmpty then
      d.setBanks { d.banks with
        triggers := d.banks.triggers.filter fun t => t.order != k
        heldSlots := d.banks.heldSlots.filter fun e => e.2 != k }
    else d

/-- A sequence of a trigger has ended on a bank. -/
def Dev.leaveBank (d : Dev) (k bank : Nat) : Dev :=
  (d.modTrigger k fun t => { t with left := t.left.filter fun n => n != bank % 768 }).releaseTrigger k

/-- Counters of a plan's descriptor raised (R67, R68) by an instance; where a clear has discarded that instance's counts, only the total that
no clear reduces (R73). -/
def Dev.addCounts (d : Dev) (order plan desc : Nat) (k : Counts) : Dev :=
  let gone := ((d.run? order).map fun r => r.cleared.contains desc).getD false
  let d := d.modRun order fun r => { r with counts := tabMod desc .none (fun o => o.plus k) r.counts }
  d.modPlan plan fun p =>
    let old := tabGetD desc .none p.counts
    { p with
      counts := if gone then p.counts else tabSet desc ⟨satAdd 64 old.sat k.sat, satAdd 64 old.nan k.nan⟩ p.counts
      satTotal := satAdd 64 p.satTotal k.sat }

/-- The saturations of a sequence that ends enter its SCAN's counter (R36, R37, R68), whether or not its capsule is still there. -/
def Dev.countRun (d : Dev) (r : BankRun) : Dev :=
  match d.trigger? r.trigger with
  | some t => d.addCounts t.capsule t.plan t.desc ⟨r.engine.sat, 0⟩
  | none => d

/-- The triggers of a capsule are cancelled: those that wait are dropped, saved sequences go, and running ones stop at their next step
boundary (R198). What the saved ones saturated is counted. -/
def Dev.cancelTriggers (d : Dev) (order : Nat) : Dev :=
  let mine := (d.banks.triggers.filter fun t => t.capsule == order).map fun t => t.order
  let d := (d.banks.banks.filterMap fun e => e.2.saved).foldl (fun d r => if mine.contains r.trigger then d.countRun r else d) d
  let runs (b : Bank) (k : Nat) : Bool := match b.run with | some r => r.trigger == k | none => false
  let banks := d.banks.banks.map fun e => (e.1, { e.2 with
    queue := e.2.queue.filter fun k => !mine.contains k
    saved := match e.2.saved with | some r => if mine.contains r.trigger then none else some r | none => none
    run := match e.2.run with | some r => some (if mine.contains r.trigger then { r with cancelled := true } else r) | none => none })
  let d := d.setBanks { d.banks with banks := banks }
  mine.foldl (fun d k =>
    (d.modTrigger k fun t => { t with left := t.left.filter fun n => runs (d.bank (768 * t.stack + n)) k }).releaseTrigger k) d

/-- Counters of 0x3310 of a realm raised. -/
def Dev.countSelect (d : Dev) (realm : Nat) (f : SelectCounters → SelectCounters) : Dev :=
  d.setSearch { d.search with counters := tabMod realm .reset f d.search.counters }

/-- The rank that the last collective of any realm missed (0x3310.06). -/
def Dev.noteMissing (d : Dev) (r : Nat) : Dev := d.setSearch { d.search with lastMissing := r }

/-! ### Cancellation and the end of a capsule (R148, R149, R253) -/

/-- COLLECT descriptors of a plan. -/
def imCollects (im : DictVal) : List Nat :=
  ((List.range (imDescs im)).map (imDesc im)).filter fun w => dcOp w == 0x44

/-- The record of a collective of a composition slot. -/
def Dev.collective? (d : Dev) (slot number tag : Nat) : Option Collective :=
  d.search.collectives.find? fun k => k.composition == slot && k.number == number && k.tag == tag

/-- A collective of which nothing has come yet. -/
def Collective.fresh (slot number tag : Nat) : Collective := ⟨slot, number, tag, none, 0, [], 0, false, false, stOk, none⟩

/-- The record of a collective; a fresh one where there is none. -/
def Dev.collectiveD (d : Dev) (slot number tag : Nat) : Collective := (d.collective? slot number tag).getD (.fresh slot number tag)

/-- The record of a collective put in place of the one with its key. -/
def Dev.putCollective (d : Dev) (k : Collective) : Dev :=
  d.setSearch { d.search with collectives :=
    k :: d.search.collectives.filter fun x => !(x.composition == k.composition && x.number == k.number && x.tag == k.tag) }

/-- What the other members hear when a capsule of a composition ends with a status other than ST_OK (R352, R354, R615): a member sends an
end contribution towards the root; a root sends its status down the tree for every member not acknowledged. -/
def Dev.endCollectives (d : Dev) (cap : Capsule) (status : Nat) : Dev :=
  match d.plan? cap.plan with
  | none => d
  | some p =>
    if cap.opcode != 1 || cap.composition == 0 || status == stOk || p.realm != cap.realm then d else
      (imCollects p.image).foldl (fun d w =>
        let number := dcP w 15 0
        let m := dcP w 25 16
        let root := dcP w 35 26
        let k := d.collectiveD (cap.composition - 1) number cap.tag
        if k.ended then d
        else if cap.ownRank = root then
          (childRanks root m root).foldl (fun d r =>
            let left := (bitsSet 512 (subtreeOf root m r)).filter fun x => !bit k.acked x
            if left.isEmpty then d else d.toRank cap.member 0x34 r [number, cap.tag, left.foldl (fun b x => b ||| 2 ^ x) 0, status]) d
        else
          let id := d.fabric.nextRequest
          (d.setFabric { d.fabric with nextRequest := id + 1 }).toRank cap.member 0x33 (parentRank root m cap.ownRank)
            [id, number, cap.tag, 2 ^ cap.ownRank, status]) d

/-- A capsule's collectives are over: what still comes for them is late (R353). -/
def Dev.dropCollectives (d : Dev) (cap : Capsule) : Dev :=
  match d.plan? cap.plan with
  | none => d
  | some p =>
    if cap.opcode != 1 || cap.composition == 0 || p.realm != cap.realm then d else
      (imCollects p.image).foldl (fun d w => d.putCollective
        { Collective.fresh (cap.composition - 1) (dcP w 15 0) cap.tag with
          ended := true, former := some (cap.member, dcP w 25 16, dcP w 35 26) }) d

/-- Everything a capsule has waiting elsewhere is dropped: requests to other members, SCANs, flash reads and writes, panel moves, held
operations, update jobs. -/
def Dev.dropWork (d : Dev) (order : Nat) : Dev :=
  let d := d.setFabric { d.fabric with requests := d.fabric.requests.filter fun r => r.capsule != order }
  let d := d.setSearch { d.search with
    scans := d.search.scans.filter fun s => s.capsule != order
    waits := d.search.waits.filter fun w => w.capsule != order }
  let d := ((d.setTiles { d.tiles with
    held := d.tiles.held.filter fun h => h.1 != order
    queued := d.tiles.queued.filter fun e => e.2.capsule != order }).endMoves fun _ m => m.capsule == order).pullMoves
  let d := d.setUpdates { d.updates with
    jobs := d.updates.jobs.filter fun j => j.capsule != order
    gathers := d.updates.gathers.filter fun g => g.capsule != order }
  let e := d.setFlash { d.flash with
    waiting := d.flash.waiting.filter fun w => w.1 != order
    parked := d.flash.parked.map fun b => (b.1, if b.2 = some order then none else b.2)
    opens := d.flash.opens.map fun e => (e.1, { e.2 with buffer := e.2.buffer.map fun b => (b.1, if b.2 = some order then none else b.2) })
    ops := (d.flash.ops.map fun o => match o.use with
      | .program l => { o with use := .program (l.map fun b => (b.1, if b.2 = some order then none else b.2)) }
      | _ => o).filter fun o => match o.use with | .read k _ _ _ => k != order | _ => true }
  (distinct (d.flash.serving.map (·.1))).foldl (fun e lun => if (d.served lun).isSome && (e.served lun).isNone then e.lunGoesOn lun else e) e

/-- The destinations in memory of a capsule's panel moves that did not complete hold free bytes after its cancellation (R149). -/
def Dev.spoilMoves (c : Ctx) (d : Dev) (order : Nat) : Dev :=
  ((d.tiles.moves.map fun e => e.2).flatten.filter fun m => m.capsule == order && decide (m.desc < 0x10000)).foldl (fun d m =>
    match d.run? order with
    | none => d
    | some r =>
      match d.plan? r.plan with
      | none => d
      | some p =>
        let t := dcOut (imDesc p.image m.desc) 0
        let w := imTensor p.image t
        let b := r.args.getD (tnArg w) ⟨0, 0, 0⟩
        if tnKind w = 4 ∧ b.loc = 0 then
          let n := fmtBytes (tnFmt w) (volumeOf (runDims p.image r.args t))
          let (pick, d) := d.pick n
          d.rawWrite c p.realm b.addr ((List.range n).map fun i => BitVec.ofNat 8 (pick i))
        else d) d

/-- WAITING and READY slots of a capsule are freed, RUNNING ones drain (R148). -/
def Dev.cancelSlots (d : Dev) (order : Nat) : Dev :=
  let keep := d.tiles.slots.filter fun e => e.2.capsule != order || e.2.state == .running || e.2.state == .draining
  (d.setTiles { d.tiles with slots := keep.map fun e =>
    if e.2.capsule = order then (e.1, { e.2 with state := .draining }) else e }).placeHeld

/-- RESULT of a RUN capsule's record (*Completion results*); 0x10000 stands for no operator. -/
def runResult (status desc : Nat) : Nat := if status = stOk ∨ 0x10000 ≤ desc then 0 else desc % 4096 + 4096

/-- The candidate lists among a run's external outputs (R626): entries with their identifiers and scores. -/
def candidateLists (im : DictVal) (run : PlanRun) : List Candidates :=
  ((List.range (imTensors im)).filter fun t => tnKind (imTensor im t) == 4).filterMap fun t =>
    match tabGet t run.values with
    | some v => if v.dims.getD 0 0 = 4 ∧ tnFmtCode (imTensor im t) = 4 ∧ 4 ≤ v.dims.getD 1 0 then
        some ((List.range (nth v.elems 0)).map fun i =>
          ((nth v.elems (16 + 4 * i) + nth v.elems (17 + 4 * i) * 2 ^ 32) % 2 ^ 48, nth v.elems (18 + 4 * i)))
      else none
    | none => none

/-- A RUN capsule of a plan's realm has completed with a status: the plan's counters (*Plan entries*). -/
def Dev.countCompletion (d : Dev) (plan status : Nat) : Dev :=
  d.modPlan plan fun p => { p with
    completed := satAdd 64 p.completed 1
    budgetStops := p.budgetStops + b2n (status == stBudget)
    deadlineStops := p.deadlineStops + b2n (status == stDeadline) }

/-- The plan that a capsule's handle names (R237): none of a handle that is free, unloading, or loaded for another realm, which complete
alike. -/
def Dev.planNamed (d : Dev) (realm handle : Nat) : Option Plan := (d.plan? handle).filter fun p => p.state != 2 && p.realm == realm

/-- The instance of a capsule is over: claims published or given up (R438), the plan's counters (R257), the record (R584). -/
def Dev.finishRun (c : Ctx) (d : Dev) (cap : Capsule) (run : PlanRun) : Dev :=
  let d := d.endClaims cap.order (run.status == stOk)
  let lists := match d.plan? run.plan with | some p => if run.status = stOk then candidateLists p.image run else [] | none => []
  let d := d.setPlans { d.plans with runs := d.plans.runs.filter fun r => r.capsule != cap.order }
  let d := (d.countCompletion run.plan run.status).modPlan run.plan fun p => { p with
    lastSpend := if run.status = stOk ∨ run.status = stBudget then run.spend else p.lastSpend }
  let d : Dev := if cap.cls = 0 then
      d.setTraffic { d.traffic with flashWaves := tabSet run.plan (sumOf (run.flashPerLun.map (·.2))) d.traffic.flashWaves }
    else d
  let d := (((d.endCollectives cap run.status).dropCollectives cap).dropWork cap.order).wantLayers run.plan
  d.deliver c cap (completionRecord c cap run.status run.short run.ties 0 (runResult run.status run.statusDesc)) lists

/-- The record is written once every slot of the capsule is FREE (R149). -/
def Dev.tryFinish (c : Ctx) (d : Dev) (order : Nat) : Dev :=
  match d.capsule? order, d.run? order with
  | some cap, some run =>
    if run.status != stOk && (d.capsuleSlots order).isEmpty && !(d.banks.triggers.any fun t => t.capsule == order) then d.finishRun c cap run
    else d
  | _, _ => d

/-- SOURCE and SOURCE_ID of a capsule's violations (R643). -/
def Capsule.source (cap : Capsule) : Nat × Nat :=
  match cap.src with
  | .host p n _ _ _ => (0, 32768 * p + n)
  | .fabric h _ _ => (5, h.src)

/-- The record of an access of a tile operation or panel move that ended with ST_VIOLATION (R643). -/
def Dev.violateOp (c : Ctx) (d : Dev) (r : PlanRun) (desc : Nat) : Dev :=
  match d.plan? r.plan, d.capsule? r.capsule with
  | some p, some cap =>
    let op := dcOp (imDesc p.image desc)
    let tile := ((d.slotOf r.capsule desc).map fun e => e.1 / 64).getD 0
    d.violate c r.realm (if op = 0x23 ∨ op = 0x24 then 2 else 1) tile op d.refused.2 cap.tag d.refused.1 r.plan desc
  | _, _ => d

/-- A run ends with a status: the first such status is the one reported (R253). -/
def Dev.stopRun (c : Ctx) (d : Dev) (order status desc : Nat) : Dev :=
  match d.run? order with
  | none => d
  | some r =>
    if r.status != stOk then d
    else
      let d := d.modRun order fun r => { r with status := status, statusDesc := desc }
      ((((d.cancelTriggers order).spoilMoves c order).dropWork order).cancelSlots order).tryFinish c order

/-- An operator, or an expiry, ends a run with a status; ST_VIOLATION leaves its record. -/
def Dev.endRun (c : Ctx) (d : Dev) (order status desc : Nat) : Dev :=
  match d.run? order with
  | none => d
  | some r =>
    let d : Dev := if status = stViolation ∧ r.status = stOk then d.violateOp c r desc else d
    d.stopRun c order status desc

/-- A capsule that has no run ends with a status, a reason and a result. One that its plan accepted counts at the plan (0x3303.07, .09; log
entry 109). -/
def Dev.finishPlain (c : Ctx) (d : Dev) (order status reason result : Nat) : Dev :=
  match d.capsule? order with
  | none => d
  | some cap =>
    let d : Dev := if cap.opcode = 1 ∧ status ≠ stBadPlan ∧ ((d.plan? cap.plan).any fun p => p.realm == cap.realm) then
        d.countCompletion cap.plan status
      else d
    (((d.endCollectives cap status).dropCollectives cap).dropWork order).deliver c cap (completionRecord c cap status false false reason result) []

/-- The same, and ST_VIOLATION leaves its record (R643, R737). -/
def Dev.endPlain (c : Ctx) (d : Dev) (order status reason result : Nat) : Dev :=
  match d.capsule? order with
  | none => d
  | some cap =>
    (if status = stViolation then
        d.violate c cap.realm cap.source.1 cap.source.2 cap.opcode d.refused.2 cap.tag d.refused.1
          (if cap.opcode = 1 then cap.plan else 0) 0xFFFF
      else d).finishPlain c order status reason result

/-- An operation or an update record whose access a lost home will not answer ends with ST_NODE_LOST (R480, R482). -/
def Dev.loseAccess (c : Ctx) (d : Dev) (order desc : Nat) : Dev :=
  match d.run? order with
  | some _ => d.endRun c order stNodeLost desc
  | none => d.setUpdates { d.updates with jobs := d.updates.jobs.map fun j =>
      if j.capsule = order ∧ (tabGet desc j.applied).isSome then { j with applied := tabSet desc stNodeLost j.applied } else j }

/-- Any capsule ends with a status. -/
def Dev.endCapsule (c : Ctx) (d : Dev) (order status : Nat) : Dev :=
  match d.run? order with
  | some r => d.endRun c order status r.statusDesc
  | none =>
    match d.capsule? order with
    | some cap => d.endPlain c order status 0 (if cap.opcode = 0x11 then cap.blocks else 0)
    | none => d

/-- A capsule whose flash read failed ends with ST_MEDIA, ended by the descriptor that asked where one did (R304). -/
def Dev.endReader (c : Ctx) (d : Dev) (order : Nat) (desc : Option Nat) : Dev :=
  match d.run? order, desc with
  | some _, some i => d.endRun c order stMedia i
  | _, _ => d.endCapsule c order stMedia

/-- A capsule's work done under the configuration active at its acceptance (R89). -/
def Dev.under (d : Dev) (order : Nat) (f : Dev → Dev) : Dev :=
  match d.capsule? order with
  | none => f d
  | some cap =>
    let now := d.dict.cfg
    let r := f (d.setDict { d.dict with cfg := cap.cfg })
    r.setDict { r.dict with cfg := now }

/-- A capsule is cancelled without a record (R591): its work stops, its claims are given up, its partners hear ST_ABORTED. -/
def Dev.abortCapsule (c : Ctx) (d : Dev) (cap : Capsule) : Dev :=
  let order := cap.order
  let plan := (d.run? order).map fun r => r.plan
  let d := d.endClaims order false
  let d := ((((d.endCollectives cap stAborted).dropCollectives cap).cancelTriggers order).spoilMoves c order).dropWork order
  let d := (d.setTiles { d.tiles with slots := d.tiles.slots.filter fun e => e.2.capsule != order }).placeHeld
  let d := d.setPlans { d.plans with runs := d.plans.runs.filter fun r => r.capsule != order }
  let d : Dev := match plan with | some h => d.wantLayers h | none => d
  d.setCapsules { d.capsules with live := d.capsules.live.filter fun x => x.order != order }

end Sys2Proof.Machine
end

