-- ==== Sys2Proof/Machine/Mesh.lean ====
section
/-! DEFINITION. The mesh: attachment points, routes, failed links, and the transfers that no route serves (R134, R138–R141). -/

namespace Sys2Proof.Machine

/-! ### Attachment points (R138) -/

/-- A router of Q0 mirrored onto quarter die q: x for Q1 and Q3, y for Q2 and Q3. -/
def mirrored (q : Nat) (r : Nat × Nat) : Nat × Nat := (if q % 2 = 1 then 23 - r.1 else r.1, if 2 ≤ q then 23 - r.2 else r.2)

/-- The routers at which the memory controllers of S00–S07 enter the mesh (*Attachment points on Q0*). -/
def stackRouters : List (Nat × Nat) := [(1, 0), (4, 0), (7, 0), (10, 0), (0, 1), (0, 4), (0, 7), (0, 10)]

/-- The routers of the flash channel groups F00–F03, F04–F07, F08–F11 and F12–F15. -/
def flashRouters : List (Nat × Nat) := [(2, 0), (8, 0), (0, 2), (0, 8)]

/-- The routers of the fabric ports P0 and P1. -/
def portRouters : List (Nat × Nat) := [(5, 0), (0, 5)]

/-- The router of a tile. -/
def tileRouter (n : Nat) : Nat × Nat := (n % 24, n / 24)

/-- The router of the memory controller of stack s; S(8q) to S(8q + 7) lie on Qq (R16). -/
def stackRouter (s : Nat) : Nat × Nat := mirrored (s / 8) (stackRouters.getD (s % 8) (0, 0))

/-- The router of flash channel c; F(16q) to F(16q + 15) lie on Qq (R16). -/
def flashRouter (c : Nat) : Nat × Nat := mirrored (c / 16) (flashRouters.getD (c % 16 / 4) (0, 0))

/-- The router of fabric port p; P(2q) and P(2q + 1) lie on Qq (R16). -/
def portRouter (p : Nat) : Nat × Nat := mirrored (p / 2) (portRouters.getD (p % 2) (0, 0))

/-- The router of quarter die q's hub link to the Belfry. -/
def hubRouter (q : Nat) : Nat × Nat := mirrored q (11, 11)

/-! ### Routes (R134, R140, R141) -/

/-- Elements of 0x2021 of the links along a row from x to x'. -/
def rowLinks (y x x' : Nat) : List Nat := (List.range (max x x' - min x x')).map fun i => 23 * y + min x x' + i

/-- Elements of 0x2021 of the links along a column from y to y'. -/
def columnLinks (x y y' : Nat) : List Nat := (List.range (max y y' - min y y')).map fun i => 552 + 24 * (min y y' + i) + x

/-- The links of the x-first route, which a message takes while they are up (R134). -/
def xFirst (a b : Nat × Nat) : List Nat := rowLinks a.2 a.1 b.1 ++ columnLinks b.1 a.2 b.2

/-- The links of the y-first route, which a message takes where its x-first route crosses a failed link (R140). -/
def yFirst (a b : Nat × Nat) : List Nat := columnLinks a.1 a.2 b.2 ++ rowLinks b.2 a.1 b.1

/-- Has a link failed? -/
def Dev.linkFailed (d : Dev) (l : Nat) : Bool := match tabGet l d.tiles.links with | some m => m.state == 2 | none => false

/-- The route that a message from one router to another takes: x-first, or y-first on the escape copies; none where both cross a failed
link. -/
def Dev.route (d : Dev) (a b : Nat × Nat) : Option (List Nat) :=
  if !(xFirst a b).any d.linkFailed then some (xFirst a b) else if !(yFirst a b).any d.linkFailed then some (yFirst a b) else none

/-- The failed links that both routes cross, one of each, where no route serves (R141). -/
def Dev.unroutable (d : Dev) (a b : Nat × Nat) : Option (Nat × Nat) :=
  match d.route a b with
  | some _ => none
  | none => some (((xFirst a b).find? d.linkFailed).getD 0, ((yFirst a b).find? d.linkFailed).getD 0)

/-! ### The ends of a transfer -/

/-- The router at which a device address of a realm is reached: its stack's, its tile's, or for T2 that of its cache. -/
def Dev.addressRouter (d : Dev) (realm a : Nat) : Option (Nat × Nat) :=
  if inT1 a then some (stackRouter (a / stackBytes))
  else if inT0 a then some (tileRouter ((a - t0Base) / 0x200000))
  else if inT2 a then (d.cacheStack realm a).map stackRouter
  else none

/-- The addresses in memory that a descriptor's operands begin at: constants at an address, and external tensors of LOC 0. -/
def OpCtx.places (o : OpCtx) : List Nat :=
  (dcIns o.word ++ dcOuts o.word).filterMap fun p =>
    let w := o.record p.2
    let b := o.run.args.getD (tnArg w) ⟨0, 0, 0⟩
    if tnKind w = 2 then some (tnOffset w) else if (tnKind w = 3 ∨ tnKind w = 4) ∧ b.loc = 0 then some b.addr else none

/-- Does a descriptor read or write memory of the host that submitted its capsule (LOC 1)? That goes by the hub link of the tile's quarter die. -/
def OpCtx.hostBound (o : OpCtx) : Bool :=
  (match o.cap.src with | .host .. => true | .fabric .. => false) && (dcIns o.word ++ dcOuts o.word).any fun p =>
    inRange 3 4 (tnKind (o.record p.2)) && (o.run.args.getD (tnArg (o.record p.2)) ⟨0, 0, 0⟩).loc == 1

/-- The quarter die of a router (R16). -/
def routerQuarter (r : Nat × Nat) : Nat := r.1 / 12 + 2 * (r.2 / 12)

/-- Where the objects that an operator works on begin: an index's areas, a table's home and forwarding entries, a pool. Its reads and writes of
them go to the stack of that place (log entry 128). -/
def Dev.objectPlaces (d : Dev) (o : OpCtx) : List Nat :=
  let op := dcOp o.word
  let n := dcP o.word 15 0 % 0x1000
  let l :=
    if op = 0x30 ∨ op = 0x32 then [ixArea (d.index n)]
    else if op = 0x34 then [ixLocator (d.index n)]
    else if op = 0x20 ∨ op = 0x21 ∨ op = 0x33 then [bits (d.cfg (0x3120 + n) 1) 191 128, bits (d.cfg (0x3120 + n) 1) 319 256]
    else if op = 0x18 ∨ op = 0x50 ∨ op = 0x51 then [plArea (d.pool n)]
    else []
  l.filter (· != 0)

/-- The failed links that keep a tile from a place that its operation or panel move reaches (R141). -/
def Dev.transferBlocked (d : Dev) (o : OpCtx) (tile : Nat) : Option (Nat × Nat) :=
  (((o.places ++ d.objectPlaces o).filterMap (d.addressRouter o.plan.realm)) ++
    (if o.hostBound then [hubRouter (routerQuarter (tileRouter tile))] else [])).findSome? fun r => d.unroutable r (tileRouter tile)

/-- The failed links that keep a layer load from a tile: those between it and a constant of the layer. -/
def Dev.loadBlocked (d : Dev) (p : Plan) (g l tile : Nat) : Option (Nat × Nat) :=
  ((List.range (imTensors p.image)).filter fun t =>
    let w := imTensor p.image t
    tnKind w == 2 && tnLayer w == l && ((List.range (imDescs p.image)).any fun i =>
      dcGroup (imDesc p.image i) == g && (dcIns (imDesc p.image i)).any fun e => e.2 == t)).findSome? fun t =>
    match d.addressRouter p.realm (tnOffset (imTensor p.image t)) with
    | some r => d.unroutable r (tileRouter tile)
    | none => none

/-- The failed links that keep a descriptor's message from the fabric port that it leaves by; the model leaves that port free (log entry
115). -/
def Dev.portBlocked (d : Dev) (order desc : Nat) : Option (Nat × Nat) × Dev :=
  match d.slotOf order desc with
  | none => (none, d)
  | some s =>
    let (p, d) := d.choose 8
    (d.unroutable (tileRouter (s.1 / 64)) (portRouter p), d)

/-- Event 0x0203: a transfer that no route serves, with both link numbers (R141). -/
def Dev.logUnroutable (c : Ctx) (d : Dev) (realm : Nat) (l : Nat × Nat) : Dev := d.event c 0x0203 2 realm l.1 l.2 0

end Sys2Proof.Machine
end

