-- ==== Sys2Proof/Machine/PageTables.lean ====
section
/-! DEFINITION. Page tables, and what the step rows of an ATTEND see (R424–R427, R431). -/

namespace Sys2Proof.Machine

/-! ### Page tables (R424, R425) -/

/-- A column of a page table (*Page table row*). -/
structure Column where
  seq : Nat
  step : Nat
  flags : Nat
  append : Nat
  rows : List Int
  bonus : Int
  leaf : Int
  logp : Nat
deriving DecidableEq, Repr

/-- WRITER. -/
def Column.writer (c : Column) : Bool := bit c.flags 0
/-- TREE. -/
def Column.tree (c : Column) : Bool := bit c.flags 1
/-- ACCEPTED. -/
def Column.accepted (c : Column) : Bool := bit c.flags 2

/-- The columns of a page table. -/
def columnsOf (t : Tensor) : List Column :=
  (chunks 16 (t.elems.length + 1) t.elems).map fun e =>
    { seq := nth e 0, step := nth e 1, flags := nth e 2, append := nth e 3,
      rows := ((e.drop 4).take 9).map (signed 32), bonus := signed 32 (nth e 13), leaf := signed 32 (nth e 14), logp := nth e 15 }

/-- Does a column break R425? -/
def Column.bad (c : Column) (seqs : Nat) : Bool :=
  decide (seqs ≤ c.seq) || decide (4096 < c.step) || decide (8 ≤ c.flags) || (c.tree && c.step != 65) ||
  (c.accepted && (c.append == 0 || decide (9 < c.append) || decide (c.bonus < -1) || decide (c.leaf < -1) || decide (63 < c.leaf) ||
    (List.range 9).any fun i =>
      let r := c.rows.getD i (-1)
      if i < c.append then decide (r < 0) || decide ((c.step : Int) ≤ r) else r != -1))

/-- Does a page table break R425, with `rows` step rows where it goes with a step tensor? -/
def tableBad (cols : List Column) (seqs : Nat) (rows : Option Nat) : Bool :=
  cols.any (fun c => c.bad seqs) || (cols.map fun c => c.seq).length != (distinct (cols.map fun c => c.seq)).length ||
  decide (16384 < sumOf (cols.map fun c => c.step)) || rows.any fun n => sumOf (cols.map fun c => c.step) != n

/-- The first step row of column b. -/
def firstRow (cols : List Column) (b : Nat) : Nat := sumOf ((cols.take b).map fun c => c.step)

/-- The pool slot that P[15:0] names. -/
def OpCtx.poolSlot (o : OpCtx) : Nat := dcP o.word 15 0 - 0x3000

/-! ### What an ATTEND sees (R426, R427, R431) -/

/-- A tree node of the view an ATTEND works on. -/
def tnToken (n : Nat) : Nat := bits n 31 0
/-- PARENT. -/
def tnParent (n : Nat) : Nat := bits n 38 32
/-- DEPTH. -/
def tnDepth (n : Nat) : Nat := bits n 43 40
/-- DRAFT. -/
def tnDraft (n : Nat) : Nat := bits n 55 48
/-- END_DRAFT. -/
def tnEnd (n : Nat) : Nat := bits n 63 56

/-- What the rows of one column see: its sequence's tokens and pages, window, step rows and tree. -/
structure AttendCol where
  pages : List Nat
  n : Nat
  lo : Int
  hi : Int
  base : Nat
  step : Nat
  tree : Bool
  nodes : Nat
  parents : List Nat
  depths : List Nat
deriving DecidableEq, Repr

/-- The cached tokens that every row sees. -/
def AttendCol.cached (a : AttendCol) : List Nat :=
  (List.range a.n).filter fun c => decide (a.lo ≤ (c : Int)) && decide ((c : Int) < a.hi)

/-- The view of a column: N and PAGES as they were taken when the ATTEND fired, or as they are where none has yet (R431). -/
def Dev.attendCol (d : Dev) (k : Nat) (cols : List Column) (b : Nat) (c : Column) (window : Option (Int × Int)) (taken : Option (Nat × List Nat)) :
    AttendCol :=
  let h := d.seqHead k c.seq
  let (n, pages) := taken.getD (sqN h, d.seqPageList k c.seq)
  let nodes := (List.range 65).map (d.treeNode k c.seq)
  { pages := pages, n := n, lo := (window.map (·.1)).getD 0, hi := (window.map (·.2)).getD n,
    base := firstRow cols b, step := c.step, tree := c.tree, nodes := if sqTree h then sqNodes h else 0,
    parents := nodes.map tnParent, depths := nodes.map tnDepth }

/-- N and PAGES of the sequence of each column, as an ATTEND that fires takes them (R431). -/
def Dev.takeViews (d : Dev) (k : Nat) (cols : List Column) : List (Nat × List Nat) :=
  cols.map fun c => (sqN (d.seqHead k c.seq), d.seqPageList k c.seq)

/-- The views of a page table's columns. -/
def Dev.attendCols (d : Dev) (k : Nat) (cols : List Column) (window : Option Tensor) (taken : List (Nat × List Nat)) : List AttendCol :=
  cols.mapIdx fun b c => d.attendCol k cols b c (window.map fun t => (signed 32 (nth t.elems (2 * b)), signed 32 (nth t.elems (2 * b + 1)))) taken[b]?

/-- The matrix passes of an ATTEND: for each column, query head and step row, those of the scores against the keys that the column sees and
of the weighted sum of as many values (log entry 13). -/
def Dev.attendPasses (d : Dev) (k h : Nat) (fused : Bool) (cols : List Column) (window : Option Tensor) : Nat :=
  sumOf ((d.attendCols k cols window []).map fun a =>
    h * (2 * a.step * ceilDiv (a.cached.length + (if fused then a.step else 0)) 32 * ceilDiv (plDh (d.pool k)) 32))

end Sys2Proof.Machine
end

