-- ==== Sys2Proof/Machine/Runs.lean ====
section
/-! DEFINITION. The life of an instance of a plan: starting, tokens, skipping, charges, dispatch and completion (R223–R257, R142–R154). -/

namespace Sys2Proof.Machine

/-! ### Work budgets (R254) -/

/-- Element `i` of a list of four sums raised. -/
def addAt (l : List Nat) (i n : Nat) : List Nat := l.set i (nth l i + n)

/-- A charge: refused where it would raise the spend above the plan's budget; all ones is unlimited. -/
def Dev.charge (d : Dev) (order unit n : Nat) : Bool × Dev :=
  match d.run? order with
  | none => (false, d)
  | some r =>
    let b := ((d.plan? r.plan).map fun p => imBudget p.image unit).getD 0
    if b != 2 ^ 64 - 1 && decide (b < nth r.spend unit + n) then (false, d)
    else (true, d.modRun order fun r => { r with spend := addAt r.spend unit n })

/-! ### Edges, tokens, skipping (R224, R225, R229) -/

/-- The descriptors with an edge into descriptor i (R229). -/
def edgesInto (im : DictVal) (i : Nat) : List Nat :=
  let w := imDesc im i
  ((dcIns w).filterMap fun p => producer im p.2) ++ (if dcGuarded w then [dcGuard w] else []) ++
    (if dcAfterValid w then [dcAfter w] else []) ++ (if dcExpertValid w then [dcRoute w] else [])

/-- Was a descriptor skipped? -/
def wasSkipped (r : PlanRun) (i : Nat) : Bool := tabGet i r.descs == some .skipped

/-- May input i of a descriptor be absent (R225, *Operators*)? SELECT, MERGE and BARRIER take an absent input as an empty one; a FILTER by
IN_SET needs its IN1 (R301). -/
def mayBeAbsent (w i : Nat) : Bool :=
  let op := dcOp w
  op == 0x35 || op == 0x36 || op == 0x42 || (i == 2 && (op == 0x10 || op == 0x11 || op == 0x15 || op == 0x18)) ||
    (i == 1 && op == 0x33 && dcP w 21 19 != 7)

/-- Is an input absent: it has a producer, and the producer wrote nothing (skipped, or a COLLECT away from its root, R260)? -/
def absentInput (im : DictVal) (r : PlanRun) (t : Nat) : Bool := (producer im t).isSome && (tabGet t r.values).isNone

/-- Is a descriptor skipped (R224)? A GUARD or ROUTE that was itself skipped has no decision and no choice (log entry 12). -/
def skips (im : DictVal) (r : PlanRun) (i : Nat) : Bool :=
  let w := imDesc im i
  let first (t : Nat) : Nat := ((tabGet t r.values).map fun v => nth v.elems 0).getD 0
  (dcGuarded w && (wasSkipped r (dcGuard w) || (first (dcOut (imDesc im (dcGuard w)) 0) != 0) != dcSense w)) ||
  ((dcIns w).any fun p => absentInput im r p.2 && !(dcOpt w p.1 && mayBeAbsent w p.1)) ||
  (dcAfterValid w && wasSkipped r (dcAfter w)) ||
  (dcExpertValid w && (wasSkipped r (dcRoute w) ||
    !(((tabGet (dcOut (imDesc im (dcRoute w)) 0) r.values).map fun v => v.elems.contains (dcExpert w)).getD false)))

/-- The context of a capsule's descriptor, if its run goes on. -/
def Dev.opCtx (d : Dev) (order desc : Nat) : Option OpCtx :=
  match d.capsule? order, d.run? order with
  | some cap, some run =>
    match d.plan? run.plan with
    | some p => if run.status = stOk then some ⟨cap, run, p, desc, imDesc p.image desc⟩ else none
    | none => none
  | _, _ => none

/-! ### The tile operations of a descriptor (R142, R241, *Work units*) -/

/-- The rows of A that a matrix operator works on: all of them, or those of the tokens whose ROUTE output holds its expert (R228). -/
def matrixRows (im : DictVal) (r : PlanRun) (w : Nat) : Nat :=
  if dcExpertValid w then
    (((tabGet (dcOut (imDesc im (dcRoute w)) 0) r.values).map fun v => v.elems).getD []).countP (· == dcExpert w)
  else volumeOf ((runDims im r.args (dcIn w 0)).drop 1)

/-- Matrix-unit passes of a descriptor: rows, blocks of 32 output columns and passes along K; for ATTEND those of its page table; for
VERIFY_TREE a free number, which no rule states. A pass that a zero map lets a tile skip counts too (DESIGN CHOICE, log entry 13). -/
def Dev.matrixPasses (d : Dev) (o : OpCtx) : Nat :=
  let im := o.plan.image
  let r := o.run
  let w := o.word
  if dcOp w = 0x10 ∨ dcOp w = 0x11 then
    let b := runDims im r.args (dcIn w 1)
    let k := if dcOp w = 0x11 then 64 else kPerPass (tnFmt (imTensor im (dcIn w 0))) (tnFmt (imTensor im (dcIn w 1)))
    matrixRows im r w * ceilDiv (dimAt b 1) 32 * ceilDiv (dimAt (runDims im r.args (dcIn w 0)) 0) k
  else if dcOp w = 0x18 then
    d.attendPasses o.poolSlot (dcP w 29 22) (dcPb w 20) (columnsOf (d.inputD o 1).1) (d.input o 2).1
  else if dcOp w = 0x50 then Config.treePasses (dcP w 16 16) (volumeOf (o.dims (dcIn w 0)))
  else 0

/-- The most matrix passes of one tile operation: 16,384 cycles, of which a pass takes one, or four in the 16-bit formats (R142). -/
def passesPerOp (im : DictVal) (w : Nat) : Nat :=
  if dcOp w = 0x18 ∨ (tnFmt (imTensor im (dcIn w 0))).width = 16 then 4096 else 16384

/-- Elements that the vector unit takes in a cycle: 128 lanes in 16-bit formats, 64 otherwise. -/
def vectorLanes (f : Fmt) : Nat := if f.width = 16 then 128 else 64

/-- The cutting of a descriptor: the fewest operations of at most 16,384 cycles (log entry 13); a selection has one for each select unit
that it needs (R122, R241), and what runs on no array has one. -/
def Dev.cutting (d : Dev) (o : OpCtx) : Cutting :=
  let im := o.plan.image
  let w := o.word
  let per := passesPerOp im w
  let elems (t : Nat) : Nat := match tabGet t o.run.values with | some v => v.elems.length | none => volumeOf (o.dims t)
  let largest := (((dcIns w) ++ dcOuts w).map fun p => elems p.2).foldl max 0
  let passes := d.matrixPasses o
  let n := match opUnit (dcOp w) with
    | .matrix => ceilDiv passes per
    | .vector => if passes = 0 then ceilDiv largest (vectorLanes (tnFmt (imTensor im (dcIn w 0))) * 16384) else ceilDiv passes per
    | .select => max (ceilDiv (sumOf ((dcIns w).map fun p => elems p.2 / 4)) (16 * 16384))
        (if dcOp w = 0x37 then 1 else ceilDiv (dcP w 16 0) 1024)
    | _ => 1
  ⟨max 1 n, 0, 0, passes, per⟩

/-- Matrix tiles of the next tile operation of a cutting: 1,024 passes each, rounded up. -/
def Cutting.nextTiles (k : Cutting) : Nat := ceilDiv (min k.per (k.passes - k.per * k.cut)) 1024

/-! ### Placing what is ready -/

/-- The tiles of a plan group that the next operation of a descriptor may go to: for a selection spread over several select units, those
that hold none of it yet, where there are any. -/
def Dev.tilesFor (d : Dev) (p : Plan) (order desc : Nat) : List Nat :=
  let w := imDesc p.image desc
  let l := d.groupTiles p (dcGroup w)
  let free := l.filter fun n => !(d.slotsFor order desc).any fun e => e.1 / 64 == n
  if opUnit (dcOp w) = .select && !free.isEmpty then free else l

/-- The failed links that keep from a tile the tokens and results of the descriptors that a descriptor follows (R141, R154). -/
def Dev.sourceBlocked (d : Dev) (im : DictVal) (r : PlanRun) (desc tile : Nat) : Option (Nat × Nat) :=
  (edgesInto im desc).findSome? fun i => (tabGet i r.firedOn).bind fun t => d.unroutable (tileRouter t) (tileRouter tile)

/-- The dispatcher cuts a descriptor into its tile operations, each charged before it is placed on a tile of its group, until all are cut or
one is held for want of a slot (R142, R145, R241). A charge refused ends the capsule with ST_BUDGET (R254); a group without a tile in
service ends it with ST_FAULT (R242), and so does a tile that no route brings the producers' tokens to (R141). Which tile takes an operation is free (log entry 13). -/
def Dev.cutOps (c : Ctx) (d : Dev) (order desc : Nat) : Nat → Dev
  | 0 => d
  | fuel + 1 =>
    match d.run? order with
    | none => d
    | some r =>
      match d.plan? r.plan with
      | none => d
      | some p =>
        let k := tabGetD desc ⟨0, 0, 0, 0, 0⟩ r.cuts
        if r.status != stOk || decide (k.total ≤ k.cut) || d.tiles.held.any fun h => h.1 == order && h.2.1 == desc then d
        else
          let (ok, d) := d.charge order 3 k.nextTiles
          if !ok then d.endRun c order stBudget desc
          else
            let tiles := d.tilesFor p order desc
            if tiles.isEmpty then d.endRun c order stFault desc
            else
              let (i, d) := d.choose tiles.length
              match d.sourceBlocked p.image r desc (tiles.getD i 0) with
              | some l => (d.logUnroutable c r.realm l).endRun c order stFault desc
              | none =>
                let d := d.modRun order fun r => { r with cuts := tabSet desc { k with cut := k.cut + 1 } r.cuts }
                Dev.cutOps c (d.place order desc (tiles.getD i 0) k.cut) order desc fuel

/-- The cutting of instances goes on where what was held has found a slot (R145). -/
def Dev.resumeCutting (c : Ctx) (d : Dev) : Dev :=
  d.plans.runs.foldl (fun d r => r.cuts.foldl (fun d e => d.cutOps c r.capsule e.1 (e.2.total - e.2.cut)) d) d

/-- One descriptor whose tokens have all come: skipped, or cut into tile operations (R224, R241). -/
def Dev.startDesc (c : Ctx) (d : Dev) (order i : Nat) : Dev :=
  match d.run? order with
  | none => d
  | some r =>
    match d.plan? r.plan with
    | none => d
    | some p =>
      if r.status != stOk || (tabGet i r.descs).isSome || !(edgesInto p.image i).all (delivered r) then d
      else if skips p.image r i then d.modRun order fun r => { r with descs := tabSet i .skipped r.descs }
      else match d.opCtx order i with
        | none => d
        | some o =>
          let k := d.cutting o
          (d.modRun order fun r => { r with descs := tabSet i .placed r.descs, cuts := tabSet i k r.cuts }).cutOps c order i k.total

/-- Every descriptor tried, as often as skipping may open another (each round takes at least one). -/
def Dev.advance (c : Ctx) (d : Dev) (order n : Nat) : Nat → Dev
  | 0 => d
  | fuel + 1 =>
    let before := (d.run? order).map fun r => r.descs.length
    let d := (List.range n).foldl (fun d i => d.startDesc c order i) d
    if ((d.run? order).map fun r => r.descs.length) = before then d else Dev.advance c d order n fuel

/-- The instance completes when every descriptor has fired or been skipped (R253). -/
def Dev.checkDone (c : Ctx) (d : Dev) (order : Nat) : Dev :=
  match d.capsule? order, d.run? order with
  | some cap, some r =>
    match d.plan? r.plan with
    | some p =>
      if r.status = stOk && (List.range (imDescs p.image)).all (delivered r) then
        let (short, ties) := runFlags p.image r
        d.finishRun c cap { r with short := short, ties := ties }
      else d
    | none => d
  | _, _ => d

/-- Tokens followed: layers, newly ready descriptors, the layers whose last readers were skipped, completion. -/
def Dev.proceed (c : Ctx) (d : Dev) (order : Nat) : Dev :=
  match d.run? order with
  | none => d
  | some r =>
    let n := ((d.plan? r.plan).map fun p => imDescs p.image).getD 0
    ((((d.wantLayers r.plan).wakeSlots r.plan).advance c order n (n + 1)).wantLayers r.plan).checkDone c order

/-! ### Operators -/

/-- Address and bytes of an input that a descriptor reads in memory: a constant at an address, or an external input of LOC 0. -/
def OpCtx.inputPlace (o : OpCtx) (t : Nat) : Option (Nat × Nat) :=
  let w := o.record t
  let b := o.run.args.getD (tnArg w) ⟨0, 0, 0⟩
  let len := fmtBytes (tnFmt w) (volumeOf (o.dims t))
  if tnKind w = 2 then some (tnOffset w, len) else if tnKind w = 3 ∧ b.loc = 0 then some (b.addr, len) else none

/-- What reading a descriptor's inputs in memory answers (R456, R466, R480): the first input in T2 that may not be read decides. -/
def Dev.inputStatus (d : Dev) (o : OpCtx) : Nat × Dev :=
  match (((dcIns o.word).filterMap fun p => o.inputPlace p.2).filter fun p => inT2 p.1).find?
      (fun (p : Nat × Nat) => d.windowStatus o.plan.realm p.1 p.2 != stOk) with
  | some p => d.checkRead o.plan.realm p.1 p.2
  | none => (stOk, d)

/-- An output kept in the run, and written to memory where it is an external output of LOC 0. -/
def Dev.putOutput (c : Ctx) (d : Dev) (o : OpCtx) (t : Nat) (v : Tensor) : Nat × Dev :=
  let d := d.modRun o.cap.order fun r => { r with values := tabSet t v r.values }
  let w := o.record t
  let b := o.run.args.getD (tnArg w) ⟨0, 0, 0⟩
  if tnKind w = 4 ∧ b.loc = 0 then
    d.writeAt c o.plan.realm b.addr (leBytes (fmtBytes (tnFmt w) v.elems.length) (packElems (tnFmt w) v.elems))
  else (stOk, d)

/-- All outputs put; the first status other than ST_OK is the answer. -/
def Dev.putOutputs (c : Ctx) (d : Dev) (o : OpCtx) : List (Nat × Tensor) → Nat × Dev
  | [] => (stOk, d)
  | (t, v) :: l =>
    let (st, d) := d.putOutput c o t v
    if st = stOk then Dev.putOutputs c d o l else (st, d)

/-- A descriptor has its results: counters, outputs, zero maps of what the vector unit writes (R119), and its slots drain (R143). -/
def Dev.finishOp (c : Ctx) (d : Dev) (o : OpCtx) (writes : List (Nat × Tensor)) (k : Counts) : Dev :=
  let (st, d) := (d.addCounts o.cap.order o.run.plan o.desc k).putOutputs c o writes
  if st != stOk then d.endRun c o.cap.order st o.desc
  else
    (d.modRun o.cap.order fun r => { r with
      descs := tabSet o.desc .operated r.descs
      zeroMaps := if opUnit (dcOp o.word) = .vector then (dcOuts o.word).map (·.2) ++ r.zeroMaps else r.zeroMaps
      }).slotState o.cap.order o.desc .draining

/-- What follows an operator's answer. -/
def Dev.applyOp (c : Ctx) (d : Dev) (o : OpCtx) : OpResult → Dev
  | .done writes k => d.finishOp c o writes k
  | .waits => d.modRun o.cap.order fun r => { r with descs := tabSet o.desc .operated r.descs }
  | .stops st => d.endRun c o.cap.order st o.desc

/-- Does the descriptor read an empty tensor (*Zero values*)? The dimensions of a streaming list limit nothing (R319). -/
def OpCtx.emptyInput (o : OpCtx) : Bool :=
  (dcIns o.word).any fun p => volumeOf (o.dims p.2) == 0 && !streamingList o.plan.image p.2

/-- One of several tile operations of a descriptor has run: its slot drains; the descriptor's results come with the last one. -/
def Dev.partRuns (d : Dev) (order desc key : Nat) : Dev :=
  (d.modRun order fun r => { r with cuts := tabUpdate desc (fun k => { k with ran := k.ran + 1 }) r.cuts }).slotTo key .draining

/-- An operator ends its capsule after work that counted `k` (R68). -/
def Dev.stopsWith (d : Dev) (o : OpCtx) (status : Nat) (k : Counts) : OpResult × Dev :=
  (.stops status, d.addCounts o.cap.order o.run.plan o.desc k)

/-- An operator's row: it runs where the capsule's descriptor has that operator, a slot of it is RUNNING and it has not run yet. The
descriptor's results are formed when the last of its tile operations runs (log entry 13). A reader of an empty tensor completes with empty
outputs (*Zero values*), but for the operators that `onEmpty` names. -/
def runOpNow (is : Nat → Bool) (onEmpty : Bool) (f : Ctx → Dev → OpCtx → OpResult × Dev) (order desc : Nat) (c : Ctx) (d : Dev) : Dev :=
  match d.opCtx order desc, d.slotOf order desc with
  | some o, some s =>
    let k := tabGetD desc ⟨1, 1, 0, 0, 0⟩ o.run.cuts
    if !is o.word || s.2.state != .running || tabGet desc o.run.descs != some .placed then d
    else if k.ran + 1 < k.total then d.partRuns order desc s.1
    else if !onEmpty && o.emptyInput then
      d.finishOp c o ((dcOuts o.word).map fun p => (p.2, ⟨[0, 1, 1, 1], []⟩)) .none
    else
      match d.transferBlocked o (s.1 / 64) with
      | some l => (d.logUnroutable c o.cap.realm l).endRun c order stFault desc
      | none =>
        let (st, d) := d.inputStatus o
        if st != stOk then d.endRun c order st desc
        else let (r, d) := f c d o; d.applyOp c o r
  | _, _ => d

/-- An operator's row, under the configuration of its capsule (R89); it waits while memory that it reaches is being cleared (R637). -/
def runOp (is : Nat → Bool) (onEmpty : Bool) (f : Ctx → Dev → OpCtx → OpResult × Dev) (order desc : Nat) (c : Ctx) (d : Dev) : Dev :=
  (d.under order fun d => d.unlessFilling (runOpNow is onEmpty f order desc c) fun d => d).hear c (some (order, desc))

/-- The row of operator code `op`. -/
def runOpCode (op : Nat) (f : Ctx → Dev → OpCtx → OpResult × Dev) (order desc : Nat) (c : Ctx) (d : Dev) : Dev :=
  runOp (fun w => dcOp w == op) false f order desc c d

/-- An operator that waited has its results now. -/
def Dev.lateFinish (c : Ctx) (d : Dev) (order desc : Nat) (f : Dev → OpCtx → OpResult × Dev) : Dev :=
  match d.opCtx order desc with
  | some o =>
    (d.under order fun d =>
      let (r, d) := f d o
      match r with
      | .waits => d
      | r => d.applyOp c o r).hear c (some (order, desc))
  | none => d

end Sys2Proof.Machine
end

