-- ==== Sys2Proof/Machine/Select.lean ====
section
/-! DEFINITION. Candidate lists, selection, merging, fusion, duplicate resolution (08_selection), and SELECT, MERGE, DEDUP. -/

namespace Sys2Proof.Machine

/-- The empty handle (R315). -/
def emptyHandle : Nat := 2 ^ 64 - 1

/-- The identifier of a handle. -/
def handleId (h : Nat) : Nat := h % 2 ^ 48

/-- The version of a handle. -/
def handleVersion (h : Nat) : Nat := h / 2 ^ 48 % 2 ^ 16

/-- A candidate: handle and FP32 score. -/
abbrev Cand := Nat × Nat

/-- A result record's fields (*Result record*). -/
structure Header where
  n : Nat
  short : Bool
  ties : Bool
  order : Bool
  exp : Bool
  fused : Bool
  selected : Bool
  k : Nat
  displaced : Nat
  left : Nat
  tie : Nat
  dup : Nat
  nan : Nat
  m : Nat
  selSum : Nat
  resSum : Nat
deriving DecidableEq, Repr

/-- The worst value of an order: −∞ where higher is better, +∞ where lower is (order true). -/
def worst (order : Bool) : Nat := if order then f32PosInf else f32NegInf

/-- A raw list's header (R318). -/
def Header.raw (n : Nat) (order : Bool) (dup nan : Nat) : Header :=
  ⟨n, false, false, order, false, false, false, 0, 0, 0, 0, dup, nan, worst order, 0, 0⟩

/-- The 16 words of a result record. -/
def Header.words (h : Header) : List Nat :=
  [h.n, b2n h.short + 2 * b2n h.ties + 4 * b2n h.order + 8 * b2n h.exp + 16 * b2n h.fused + 32 * b2n h.selected, h.k, h.displaced,
   h.left % 2 ^ 32, h.left / 2 ^ 32, h.tie % 2 ^ 32, h.tie / 2 ^ 32, h.dup % 2 ^ 32, h.dup / 2 ^ 32, h.nan % 2 ^ 32, h.nan / 2 ^ 32,
   h.m, h.selSum, h.resSum, 0]

/-- The record that 16 words hold. -/
def Header.ofWords (l : List Nat) : Header :=
  let f := nth l 1
  let q (i : Nat) : Nat := nth l i + nth l (i + 1) * 2 ^ 32
  ⟨nth l 0, bit f 0, bit f 1, bit f 2, bit f 3, bit f 4, bit f 5, nth l 2, nth l 3, q 4, q 6, q 8, q 10, nth l 12, nth l 13, nth l 14⟩

/-- The four words of an entry (R316). -/
def candWords (e : Cand) : List Nat := [e.1 % 2 ^ 32, e.1 / 2 ^ 32, e.2, 0]

/-- An empty entry (R315). -/
def emptyCand : Cand := (emptyHandle, f32NegInf)

/-- A candidate list tensor of a capacity (R316, R321). -/
def listTensor (h : Header) (es : List Cand) (cap : Nat) : Tensor :=
  ⟨[4, 4 + cap, 1, 1], h.words ++ ((es ++ List.replicate (cap - es.length) emptyCand).map candWords).flatten⟩

/-- The header of a list tensor. -/
def listHead (t : Tensor) : Header := Header.ofWords (t.elems.take 16)

/-- The entries of a list tensor: N of them from row 4. -/
def listEntries (t : Tensor) : List Cand :=
  (List.range (nth t.elems 0)).map fun i => (nth t.elems (16 + 4 * i) + nth t.elems (17 + 4 * i) * 2 ^ 32, nth t.elems (18 + 4 * i))

/-- A result record as a tensor (R317). -/
def recordTensor (h : Header) : Tensor := ⟨[16, 1, 1, 1], h.words⟩

/-- Is score x strictly better than y under the order? -/
def better (order : Bool) (x y : Nat) : Bool := if order then f32Lt x y else f32Lt y x

/-- Is a candidate valid (R322)? -/
def validCand (e : Cand) : Bool := e.1 != emptyHandle && !f32IsNaN e.2

/-- NaN-scored entries (R323). -/
def nanCand (e : Cand) : Bool := e.1 != emptyHandle && f32IsNaN e.2

/-- Does a newcomer win over a held candidate of its identifier (R334)? `coin` decides at equal versions and scores. -/
def winsOver (order coin : Bool) (x e : Cand) : Bool :=
  if handleVersion x.1 != handleVersion e.1 then decide (handleVersion e.1 < handleVersion x.1)
  else if better order x.2 e.2 then true else if better order e.2 x.2 then false else coin

/-- The best score of a list beside a start (R329). -/
def bestOf (order : Bool) (m : Nat) (l : List Nat) : Nat := l.foldl (fun m s => if better order s m then s else m) m

/-- A selection under way (R337): entries held, best first; scores left out; resolutions and displacements. -/
structure Selecting where
  held : List Cand
  out : List Nat
  dup : Nat
  displaced : Nat
deriving DecidableEq, Repr

/-- A candidate put among those held, best first; its place among equals is the coin's. -/
def insertCand (order coin : Bool) (x : Cand) : List Cand → List Cand
  | [] => [x]
  | e :: l => if better order x.2 e.2 || (coin && !better order e.2 x.2) then x :: e :: l else e :: insertCand order coin x l

/-- One valid candidate at a streaming selection of capacity k (R337, R338). A meeting is a displacement where the kept candidate, whichever of the two
it is, scores strictly worse and some candidate was left out before. -/
def Selecting.arrive (order : Bool) (k : Nat) (coin : Bool) (s : Selecting) (x : Cand) : Selecting :=
  let insert (s : Selecting) : Selecting :=
    let held := insertCand order coin x s.held
    if k < held.length then
      match held.getLast? with
      | some w => { s with held := held.dropLast, out := w.2 :: s.out }
      | none => { s with held := held }
    else { s with held := held }
  match s.held.find? fun e => handleId e.1 == handleId x.1 with
  | none => insert s
  | some e =>
    let s := { s with dup := s.dup + 1 }
    if !winsOver order coin x e then
      { s with displaced := s.displaced + (if better order x.2 e.2 && !s.out.isEmpty then 1 else 0) }
    else
      let s := { s with displaced := s.displaced + (if better order e.2 x.2 && !s.out.isEmpty then 1 else 0) }
      insert { s with held := eraseFirst (fun y => y.1 == e.1 && y.2 == e.2) s.held }

/-- Complete resolution of a list (R336): one candidate for each identifier, in the place of its first occurrence. -/
def resolve (order : Bool) (coin : Nat → Bool) : List Cand → List Cand × Nat
  | [] => ([], 0)
  | x :: l =>
    let (r, n) := resolve order coin l
    match r.find? fun e => handleId e.1 == handleId x.1 with
    | none => (x :: r, n)
    | some e => (if winsOver order (coin n) x e then x :: eraseFirst (fun y => y.1 == e.1) r
        else e :: eraseFirst (fun y => y.1 == e.1) r, n + 1)

/-- The transform of R330. -/
def transform (exp order : Bool) (m x : Nat) : Nat :=
  if !exp then x
  else if f32Eq x m then 0x3F800000
  else if m = f32PosInf ∨ m = f32NegInf then 0
  else fnExp (if order then f32Sub m x else f32Sub x m)

/-- What a selection is asked: k, order (true: lower is better), transform, and whether some input streams. -/
structure SelectSpec where
  k : Nat
  order : Bool
  exp : Bool
  streams : Bool
deriving DecidableEq, Repr

/-- Two partial sums, each with the best score that it is relative to, joined: under the exp transform the one with the worse best score is
rescaled by exp(m_old − m_new) (R123). -/
def joinSums (exp order : Bool) (a b : Nat × Nat) : Nat × Nat :=
  if !exp then (a.1, f32Add a.2 b.2)
  else
    let m := if better order b.1 a.1 then b.1 else a.1
    let part (p : Nat × Nat) : Nat := if f32Eq p.1 m then p.2 else f32Mul p.2 (transform true order m p.1)
    (m, f32Add (part a) (part b))

/-- Partial sums joined as `pick` chooses, neighbours first, until one is left. -/
def joinTree (exp order : Bool) (pick : Nat → Nat) : Nat → List (Nat × Nat) → Nat
  | 0, l => (l.headD (0, 0)).2
  | _, [] => 0
  | _, [x] => x.2
  | n + 1, a :: b :: l =>
    let xs := a :: b :: l
    let i := pick n % (xs.length - 1)
    joinTree exp order pick n (xs.take i ++ joinSums exp order (xs.getD i (0, 0)) (xs.getD (i + 1) (0, 0)) :: xs.drop (i + 2))

/-- A sum of R331 over scores, and over the sums that selected inputs carry with their own best scores (R339), in an order and with
rescalings that `pick` chooses (R123, R332). `met` are all scores accounted for, any of which may have been the maximum for a time. -/
def scoreSum (exp order : Bool) (pick : Nat → Nat) (scores : List Nat) (carried : List (Nat × Nat)) (met : List Nat) : Nat :=
  if exp then
    let l := scores.map (fun x => (x, 0x3F800000)) ++ carried ++ met.map fun x => (x, 0)
    joinTree true order (fun i => pick (2 * i + 1)) l.length (orderedBy (fun i => pick (2 * i)) l.length l)
  else f32SumBy pick (scores ++ (carried.map (·.2)).filter fun x => !f32Eq x 0)

/-- What one select unit makes of the lists that reach it, with free choices for the unspecified ones (R322–R340): resolution on meeting
where `streams`, else complete. -/
def unitSelect (q : SelectSpec) (pick : Nat → Nat) (ins : List (Header × List Cand)) : Header × List Cand :=
  let es := (ins.map (·.2)).flatten
  let valid := orderedBy (fun i => pick (4 * i)) es.length (es.filter validCand)
  let heads := ins.map (·.1)
  let sel := heads.filter fun h => h.selected
  let nan := (es.filter nanCand).length + sumOf (heads.map (·.nan))
  let m := bestOf q.order (worst q.order) (valid.map (·.2) ++ sel.map (·.m))
  let coin (i : Nat) : Bool := pick (4 * i + 1) % 2 == 1
  let s : Selecting :=
    if q.streams then (valid.mapIdx fun i x => (i, x)).foldl (fun s e => s.arrive q.order q.k (coin e.1) e.2) ⟨[], [], 0, 0⟩
    else
      let (l, n) := resolve q.order coin valid
      let sorted := (l.mapIdx fun i x => (i, x)).foldl (fun r e => insertCand q.order (coin e.1) e.2 r) []
      ⟨sorted.take q.k, (sorted.drop q.k).map (·.2), n, 0⟩
  let n := s.held.length
  let ties := match s.held.getLast?.map (·.2) with
    | none => 0
    | some x => (s.out.filter fun y => f32Eq x y).length +
        sumOf ((ins.filter fun i => i.1.selected && (match i.2.getLast? with | some e => f32Eq e.2 x | none => false)).map fun i => i.1.tie)
  let met := m :: valid.map (·.2)
  (⟨n, decide (n < q.k), ties != 0, q.order, q.exp, false, true, q.k, s.displaced, s.out.length + sumOf (sel.map (·.left)), ties,
    s.dup + sumOf (heads.map (·.dup)), nan, m, scoreSum q.exp q.order (fun i => pick (4 * i + 2)) (s.held.map (·.2)) [] met,
    scoreSum q.exp q.order (fun i => pick (4 * i + 3)) s.out (sel.map fun h => (h.m, h.resSum)) met⟩, s.held)

/-- The interior units of a tree: each merges some of the lists that are left, as many and which as `pick` chooses, until there is one
(R346). What they merge is stored, and resolves completely. -/
def mergeUnits (q : SelectSpec) (pick : Nat → Nat → Nat) : Nat → List (Header × List Cand) → Header × List Cand
  | 0, l => l.headD (unitSelect q (pick 0) [])
  | _, [] => unitSelect q (pick 0) []
  | _, [x] => x
  | fuel + 1, a :: b :: l =>
    let xs := orderedBy (fun i => pick (2 * fuel) (i + 1)) (l.length + 2) (a :: b :: l)
    let n := 2 + pick (2 * fuel) 0 % (xs.length - 1)
    mergeUnits q pick fuel (unitSelect { q with streams := false } (pick (2 * fuel + 1)) (xs.take n) :: xs.drop n)

/-- What reaches leaf unit u of n: entries of raw lists go to a unit each, selected lists to one unit whole, as `pick` chooses. -/
def leafInputs (pick : Nat → Nat) (order : Bool) (n u : Nat) (ins : List (Header × List Cand)) : List (Header × List Cand) :=
  (ins.mapIdx fun j e => (j, e)).filterMap fun (j, h, es) =>
    if h.selected then (if pick j % n = u then some (h, es) else none)
    else some (if u = 0 then h else Header.raw 0 order 0 0,
      ((es.mapIdx fun i x => (i, x)).filter fun e => pick (8 * (e.1 + 1) + j) % n == u).map (·.2))

/-- Draws for one unit of a selection of n candidates. -/
def unitSpan (n : Nat) : Nat := 64 * (n + 4)

/-- Draws for a selection over lists. -/
def selectSpan (ins : List (Header × List Cand)) : Nat :=
  let n := (ins.map fun i => i.2.length).foldl (· + ·) 0 + ins.length
  unitSpan n * (3 * n + 4)

/-- The result of a selection over lists (R322–R348). Where an input streams, the candidates reach as many leaf units as `pick` chooses,
whose lists interior units merge, with the displacements summed over the units (log entry 101); where every input is stored, the units'
result is that of one selection (R348). -/
def selectLists (q : SelectSpec) (pick : Nat → Nat) (ins : List (Header × List Cand)) : Header × List Cand :=
  let n := (ins.map fun i => i.2.length).foldl (· + ·) 0 + ins.length
  let own (u : Nat) : Nat → Nat := fun i => pick (unitSpan n * (u + 1) + i)
  if !q.streams then unitSelect q (own 0) ins
  else
    let units := 1 + pick 0 % (n + 1)
    let leaves := (List.range units).map fun u => unitSelect q (own u) (leafInputs (fun i => pick (i + 1)) q.order units u ins)
    let (h, es) := mergeUnits q (fun k => own (units + k)) units leaves
    ({ h with displaced := sumOf (leaves.map fun l => l.1.displaced) }, es)

/-- R340: a selected input holds N ≥ k where it left any out, and has the selection's order and transform. -/
def inputsFit (q : SelectSpec) (ins : List (Header × List Cand)) : Bool :=
  ins.all fun i => !i.1.selected || ((i.1.left == 0 || decide (q.k ≤ i.1.n)) && i.1.order == q.order && i.1.exp == q.exp)

/-- The fused scores of two lists (R341): identifiers of either, with the handle of the higher version. -/
def fuseLists (order : Bool) (coin : Nat → Bool) (w0 w1 : Nat) (a b : List Cand) : List Cand × Nat :=
  let (a, n) := resolve order coin (a.filter validCand)
  let (b, m) := resolve order coin (b.filter validCand)
  let score (x : Option Nat) : Nat := x.getD 0
  let join (h : Nat) (s0 s1 : Option Nat) : Cand := (h, f32Add (f32Mul w0 (score s0)) (f32Mul w1 (score s1)))
  let left := a.map fun x =>
    match b.find? fun y => handleId y.1 == handleId x.1 with
    | none => (join x.1 (some x.2) none, 0)
    | some y =>
      if handleVersion x.1 = handleVersion y.1 then (join x.1 (some x.2) (some y.2), 0)
      else if handleVersion y.1 < handleVersion x.1 then (join x.1 (some x.2) none, 1)
      else (join y.1 none (some y.2), 1)
  let right := (b.filter fun y => !a.any fun x => handleId x.1 == handleId y.1).map fun y => join y.1 none (some y.2)
  (left.map (·.1) ++ right, n + m + sumOf (left.map (·.2)))

/-! ### The operators -/

/-- The lists of inputs `slots` of a descriptor; an absent input is an empty list (R225). -/
def Dev.inputLists (d : Dev) (o : OpCtx) : List Nat → List (Header × List Cand) × Dev
  | [] => ([], d)
  | i :: is =>
    let (v, d) := d.input o i
    let (l, d) := Dev.inputLists d o is
    match v with
    | some t => ((listHead t, listEntries t) :: l, d)
    | none => (l, d)

/-- Does some input of a descriptor stream? -/
def OpCtx.anyStreams (o : OpCtx) : Bool :=
  (dcIns o.word).any fun p => streamingList o.plan.image p.2

/-- The spec of a SELECT or MERGE descriptor: k in P[16:0], order P[17], transform P[18]. -/
def OpCtx.selectSpec (o : OpCtx) : SelectSpec := ⟨dcP o.word 16 0, dcPb o.word 17, dcPb o.word 18, o.anyStreams⟩

/-- A selection's outputs. -/
def OpCtx.selected (o : OpCtx) (h : Header) (es : List Cand) : OpResult :=
  .done (o.put 0 (listTensor h es (dimAt (o.outDims 0) 1 - 4)) ++ o.put 1 (recordTensor h)) .none

/-- SELECT (R324–R340): the selection over its inputs. -/
def opSelect (_c : Ctx) (d : Dev) (o : OpCtx) : OpResult × Dev :=
  let (ins, d) := d.inputLists o (List.range 8)
  let q := o.selectSpec
  if !inputsFit q ins then (.stops stBadArg, d)
  else
    let (pick, d) := d.pick (selectSpan ins)
    let (h, es) := selectLists q pick ins
    (o.selected h es, d)

/-- MERGE (R339), and fusing MERGE (R341–R343), whose selected inputs fit as R340 asks. -/
def opMerge (c : Ctx) (d : Dev) (o : OpCtx) : OpResult × Dev :=
  if !dcPb o.word 19 then opSelect c d o
  else
    let (a, d) := d.inputLists o [0]
    let (b, d) := d.inputLists o [1]
    let q := { o.selectSpec with streams := false }
    if !inputsFit q (a ++ b) then (.stops stBadArg, d)
    else
      let la := (a.map (·.2)).flatten
      let lb := (b.map (·.2)).flatten
      let heads := (a ++ b).map (·.1)
      let (coins, d) := d.pick (la.length + lb.length)
      let (l, dups) := fuseLists q.order (fun i => coins i % 2 == 1) (dcP o.word 95 64) (dcP o.word 127 96) la lb
      let ins := [(Header.raw l.length q.order (dups + sumOf (heads.map (·.dup))) (((la ++ lb).filter nanCand).length + sumOf (heads.map (·.nan))), l)]
      let (pick, d) := d.pick (selectSpan ins)
      let (h, es) := selectLists q pick ins
      (o.selected { h with fused := true } es, d)

/-- DEDUP (R344, R345): one entry for each identifier, in order of first occurrence. -/
def opDedup (_c : Ctx) (d : Dev) (o : OpCtx) : OpResult × Dev :=
  let (ins, d) := d.inputLists o [0]
  let order := dcPb o.word 17
  match ins with
  | [] => (.done (o.put 0 (listTensor (Header.raw 0 order 0 0) [] (dimAt (o.outDims 0) 1 - 4)) ++ o.put 1 (recordTensor (Header.raw 0 order 0 0))) .none, d)
  | i :: _ =>
    let (pick, d) := d.pick i.2.length
    let (l, n) := resolve order (fun j => pick j % 2 == 1) (i.2.filter validCand)
    let h := Header.raw l.length order (n + i.1.dup) ((i.2.filter nanCand).length + i.1.nan)
    let cap := dimAt (o.outDims 0) 1 - 4
    if cap < l.length && !streamingList o.plan.image (dcOut o.word 0) then (.stops stBadArg, d)
    else (.done (o.put 0 (listTensor h l cap) ++ o.put 1 (recordTensor h)) .none, d)

/-- SELECT. -/
def execSelect (capsule desc : Nat) (s : State) : Out := devStep (runOpCode 0x35 opSelect capsule desc) s

/-- MERGE. -/
def execMerge (capsule desc : Nat) (s : State) : Out := devStep (runOpCode 0x36 opMerge capsule desc) s

/-- DEDUP. -/
def execDedup (capsule desc : Nat) (s : State) : Out := devStep (runOpCode 0x37 opDedup capsule desc) s

end Sys2Proof.Machine
end

