-- ==== Sys2Proof/Machine/Tables.lean ====
section
/-! DEFINITION. Embedding tables: row records, read-verify, replacement, GATHER, SCATTER, promotion and demotion (09_updates_and_tables). -/

namespace Sys2Proof.Machine

/-! ### Table descriptors (R388, R389) -/

/-- The descriptor of table slot t. -/
def Dev.table (d : Dev) (t : Nat) : Nat := d.cfg (0x3120 + t) 1
/-- KIND. -/
def tbKind (w : Nat) : Nat := bits w 7 0
/-- FMT, as a code. -/
def tbFmtCode (w : Nat) : Nat := bits w 11 8
/-- FMT. -/
def tbFmt (w : Nat) : Fmt := (Fmt.ofCode (tbFmtCode w)).getD .int8
/-- ELEMS. -/
def tbElems (w : Nat) : Nat := bits w 31 16
/-- ROWS. -/
def tbRows (w : Nat) : Nat := bits w 63 32
/-- SCALE. -/
def tbScale (w : Nat) : Nat := bits w 95 64
/-- REALM. -/
def tbRealm (w : Nat) : Nat := bits w 103 96
/-- HOME_ADDR. -/
def tbHome (w : Nat) : Nat := bits w 191 128
/-- CACHE_ROWS. -/
def tbCacheRows (w : Nat) : Nat := bits w 223 192
/-- PROMOTE. -/
def tbPromote (w : Nat) : Nat := bits w 255 224
/-- CACHE_ADDR. -/
def tbCacheAddr (w : Nat) : Nat := bits w 319 256

/-- Slot bytes RS. -/
def tbRS (w : Nat) : Nat := ceilDiv (tbElems w * (tbFmt w).width) 64 * 8
/-- Slot stride SS. -/
def tbSS (w : Nat) : Nat := ceilDiv (tbRS w) 64 * 64
/-- Record bytes RB. -/
def tbRB (w : Nat) : Nat := 64 + 2 * tbSS w
/-- Bytes of the home area. -/
def tbHomeBytes (w : Nat) : Nat := (tbRows w + 1) * tbRB w
/-- Bytes of the forwarding table, rounded up to 4 KiB. -/
def tbFwdBytes (w : Nat) : Nat := ceilDiv (64 * tbCacheRows w) 4096 * 4096
/-- Bytes of the local area. -/
def tbLocalBytes (w : Nat) : Nat := if tbCacheRows w = 0 then 0 else tbFwdBytes w + tbCacheRows w * tbRB w

/-- A table slot's state; absent where no table is active. -/
def Dev.tableState (d : Dev) (t : Nat) : TableState := tabGetD t { TableState.fresh with state := 0 } d.updates.tables

/-- A table slot's state changed. -/
def Dev.modTable (d : Dev) (t : Nat) (f : TableState → TableState) : Dev :=
  d.setUpdates { d.updates with tables := tabUpdate t f d.updates.tables }

/-- Does a table handle name an active table of a realm? -/
def Dev.tableOf (d : Dev) (realm handle : Nat) : Option Nat :=
  let t := handle - 0x2000
  if 0x2000 ≤ handle ∧ t < 64 ∧ tbKind (d.table t) = 1 ∧ tbRealm (d.table t) = realm then some t else none

/-- A table serves (R391). -/
def Dev.tableServes (d : Dev) (t : Nat) : Bool := (d.tableState t).state == 2

/-! ### Forwarding entries (R406) -/

/-- The address of forwarding entry i. -/
def fwdAt (w i : Nat) : Nat := tbCacheAddr w + 32 * i
/-- Is the entry valid? -/
def fwValid (e : Nat) : Bool := bit e 32
/-- ROW. -/
def fwRow (e : Nat) : Nat := bits e 31 0
/-- STATE. -/
def fwState (e : Nat) : Nat := bits e 34 33
/-- DIRTY. -/
def fwDirty (e : Nat) : Bool := bit e 35
/-- IN_EPOCH. -/
def fwIn (e : Nat) : Nat := bits e 127 64
/-- OUT_EPOCH. -/
def fwOut (e : Nat) : Nat := bits e 191 128
/-- LOCAL_SLOT. -/
def fwSlot (e : Nat) : Nat := bits e 223 192

/-- The positions of the forwarding table in a row's probe order. -/
def probeOrder (w r : Nat) : List Nat :=
  let n := 2 * tbCacheRows w
  (List.range n).map fun i => (r * 0x9E3779B1 % 2 ^ 32 % n + i) % n

/-- A forwarding entry. -/
def Dev.fwd (d : Dev) (w i : Nat) : Nat := ofLE (d.t1Read (fwdAt w i) 32)

/-- A forwarding entry written. -/
def Dev.putFwd (d : Dev) (w i v : Nat) : Dev := d.t1Write (fwdAt w i) (leBytes 32 v)

/-- The position and contents of a row's valid entry. -/
def Dev.fwdOf (d : Dev) (w r : Nat) : Option (Nat × Nat) :=
  (probeOrder w r).findSome? fun i =>
    let e := d.fwd w i
    if fwValid e && fwRow e == r then some (i, e) else none

/-- The forwarding entries that finding a row's reads: those of its probe order up to its own (R203). -/
def Dev.fwdSeen (d : Dev) (w r : Nat) : Dev :=
  ((probeOrder w r).takeWhile fun i => match d.fwdOf w r with | some (j, _) => i != j | none => false).foldl
    (fun d i => d.t1Seen (fwdAt w i) 32) (match d.fwdOf w r with | some (j, _) => d.t1Seen (fwdAt w j) 32 | none => d)

/-- The address of local record n. -/
def localAt (w n : Nat) : Nat := tbCacheAddr w + tbFwdBytes w + n * tbRB w
/-- The address of a row's home record. -/
def homeAt (w r : Nat) : Nat := tbHome w + (r + 1) * tbRB w

/-- Is a row's local copy authoritative at an epoch (R406)? -/
def localAtEpoch (e epoch : Nat) : Bool :=
  fwIn e != 0 && decide (fwIn e ≤ epoch) && (fwOut e == 0 || decide (epoch < fwOut e))

/-- The record that is authoritative for a row at an epoch. -/
def Dev.rowAt (d : Dev) (w r epoch : Nat) : Nat :=
  match d.fwdOf w r with
  | some (_, e) => if localAtEpoch e epoch then localAt w (fwSlot e) else homeAt w r
  | none => homeAt w r

/-! ### Reading and replacing a row (R392–R395) -/

/-- SEL of a version word. -/
def vwSel (v : Nat) : Nat := bits v 0 0
/-- PRESENT of a version word. -/
def vwPresent (v : Nat) : Bool := bit v 1
/-- The version word after a flip. -/
def vwFlip (v sel present : Nat) : Nat := sel + 2 * present + (bits v 63 8 + 1) % 2 ^ 56 * 256

/-- The default row: the table's entry, zeros where it is empty. -/
def Dev.defaultRow (d : Dev) (t : Nat) : List Byte := leBytes (tbRS (d.table t)) (d.cfg (0x3120 + t) 3)

/-- A record's row by R393, none where it is not present; no flip comes between in a model whose commands are whole. -/
def Dev.readRecord (d : Dev) (realm a rs ss : Nat) : Nat × Option (List Byte) × Dev :=
  let (st, v, d) := d.readAt realm a 8
  if st != stOk then (st, none, d)
  else if !vwPresent (ofLE v) then (stOk, none, d)
  else
    let (st, bs, d) := d.readAt realm (a + 64 + vwSel (ofLE v) * ss) rs
    (st, if st = stOk then some bs else none, d)

/-- Whether a row read gave the row, the default row because none is present, or the default row for an index out of range. -/
inductive RowFound where
  | present | absent | invalid
deriving DecidableEq, Repr

/-- A row as readers of a table at an epoch see it (R393, R395). -/
def Dev.readRow (d : Dev) (t epoch r : Nat) : Nat × RowFound × List Byte × Dev :=
  let w := d.table t
  if tbRows w ≤ r ∨ r = 0xFFFFFFFF then (stOk, .invalid, d.defaultRow t, d)
  else
    let a := d.rowAt w r epoch
    let (st, v, d) := (d.fwdSeen w r).readRecord (tbRealm w) a (tbRS w) (tbSS w)
    match v with
    | some bs => (st, .present, bs, d)
    | none => (st, .absent, d.defaultRow t, d)

/-- What the table's counters gain for `n` positions of a row served (R395). -/
def Dev.countServed (d : Dev) (t n : Nat) (f : RowFound) : Dev :=
  match f with
  | .present => d
  | .absent => d.modTable t fun s => { s with defaults := satAdd 64 s.defaults n }
  | .invalid => d.modTable t fun s => { s with defaults := satAdd 64 s.defaults n, invalid := satAdd 64 s.invalid n }

/-- A row read at the latest epoch, as FILTER and RERANK_EXACT read it, counted. -/
def Dev.lookupRow (d : Dev) (t r : Nat) : Nat × List Byte × Dev :=
  let (st, f, bs, d) := d.readRow t (d.tableState t).epoch r
  (st, bs, d.countServed t 1 f)

/-- A record given new contents, or none, by R392. -/
def Dev.replaceRecord (c : Ctx) (d : Dev) (realm a ss : Nat) (row : Option (List Byte)) : Nat × Dev :=
  let (st, v, d) := d.readAt realm a 8
  if st != stOk then (st, d)
  else
    let v := ofLE v
    match row with
    | none => d.writeAt c realm a (leBytes 8 (vwFlip v (vwSel v) 0))
    | some bs =>
      let s := 1 - vwSel v
      let (st, d) := d.writeAt c realm (a + 64 + s * ss) bs
      if st != stOk then (st, d) else d.writeAt c realm a (leBytes 8 (vwFlip v s 1))

/-- The entry of a row whose copy runs takes DIRTY (R409). -/
def Dev.markRow (d : Dev) (w r : Nat) : Dev :=
  match d.fwdOf w r with
  | some (i, e) => if fwState e = 0 ∨ (fwState e = 2 ∧ fwOut e = 0) then d.putFwd w i (setBits e 35 35 1) else d
  | none => d

/-! ### Promotion and demotion (R408–R411) -/

/-- May rows of the table be demoted: its home is not being reclaimed or lost (R412)? -/
def Dev.homeStays (d : Dev) (w : Nat) : Bool :=
  !inT2 (tbHome w) || ((List.range ((tbHome w + tbHomeBytes w - 1 - t2Base) / gib - segmentOf (tbHome w) + 1)).all fun i =>
    (d.segment (segmentOf (tbHome w) + i)).state == 1)

/-- A row's migration changed. -/
def Dev.modCopy (d : Dev) (t r : Nat) (f : RowCopy → RowCopy) : Dev :=
  d.setUpdates { d.updates with copies := d.updates.copies.map fun x => if x.table = t ∧ x.row = r then f x else x }

/-- A row's migration given up: a demotion that its home can no longer take leaves the row LOCAL (R412). -/
def Dev.keepLocal (d : Dev) (t r i e : Nat) : Dev :=
  (d.putFwd (d.table t) i (setBits (setBits e 34 33 1) 35 35 0)).setUpdates { d.updates with
    copies := d.updates.copies.filter fun x => !(x.table == t && x.row == r) }

/-- A copy of a row ends, having put the row into the other record: it is made again while it was written meanwhile, and otherwise the epoch
flips (R409, R410). -/
def Dev.endCopy (c : Ctx) (d : Dev) (t r : Nat) : Dev :=
  let w := d.table t
  match d.updates.copies.find? fun k => k.table == t && k.row == r && k.switched.isNone, d.fwdOf w r with
  | some k, some (i, e) =>
    if k.out && !d.homeStays w then d.keepLocal t r i e
    else
      let there := localAt w (fwSlot e)
      let (src, dst) := if k.out then (there, homeAt w r) else (homeAt w r, there)
      let (st, row, d) := d.readRecord (tbRealm w) src (tbRS w) (tbSS w)
      if st != stOk then d
      else
        let (st, d) := d.replaceRecord c (tbRealm w) dst (tbSS w) row
        if st != stOk then d
        else if fwDirty e then
          ((d.putFwd w i (setBits e 35 35 0)).modCopy t r fun x => { x with copies := x.copies + 1 }).modTable t fun s =>
            { s with recopies := satAdd 64 s.recopies 1 }
        else
          let epoch := (d.tableState t).epoch + 1
          let e := if k.out then setBits e 191 128 epoch else setBits (setBits e 127 64 epoch) 34 33 1
          ((d.putFwd w i e).modTable t fun s =>
            { s with epoch := epoch, promotions := s.promotions + b2n (!k.out), demotions := s.demotions + b2n k.out }).modCopy t r
              fun x => { x with switched := some epoch }
  | _, _ => d

/-- The writers of a row are held for the length of a copy from the fifth on (R409): they find it ended. -/
def Dev.settleCopy (c : Ctx) (d : Dev) (t r : Nat) : Dev :=
  if d.updates.copies.any fun k => k.table == t && k.row == r && k.switched.isNone && decide (4 ≤ k.copies) then d.endCopy c t r else d

/-- A row's authoritative copy replaced by a writer of the device (R392, R407); `none` deletes it. -/
def Dev.replaceRow (c : Ctx) (d : Dev) (t r : Nat) (row : Option (List Byte)) : Nat × Dev :=
  let d := d.settleCopy c t r
  let w := d.table t
  let a := d.rowAt w r (d.tableState t).epoch
  let (st, old, d) := d.readRecord (tbRealm w) a (tbRS w) (tbSS w)
  if st != stOk then (st, d)
  else if old.isNone && row.isNone then (stOk, d)
  else
    let (st, d) := d.replaceRecord c (tbRealm w) a (tbSS w) row
    if st != stOk then (st, d)
    else (stOk, (d.markRow w r).modTable t fun s => { s with
      flips := satAdd 64 s.flips 1
      present := if old.isNone then s.present + 1 else if row.isNone then s.present - 1 else s.present })

/-- The windows of 1 ms brought up to an instant (R408). -/
def TableState.roll (s : TableState) (now : Nat) : TableState :=
  let n := now / msTicks
  if n = s.window then s else { s with window := n, now := [], last := if n = s.window + 1 then s.now else [] }

/-- The valid forwarding entries. -/
def Dev.fwds (d : Dev) (w : Nat) : List (Nat × Nat) :=
  ((List.range (2 * tbCacheRows w)).map fun i => (i, d.fwd w i)).filter fun e => fwValid e.2

/-- A copy begins: the migration's record. -/
def Dev.startCopy (d : Dev) (t r : Nat) (out : Bool) (slot : Nat) (follow : Option Nat) : Dev :=
  d.setUpdates { d.updates with copies := d.updates.copies ++ [⟨t, r, out, 0, slot, none, follow⟩] }

/-- A row's promotion into a free local slot begins, where its probe order has a free entry (R409). -/
def Dev.promoteTo (d : Dev) (t r n : Nat) : Dev :=
  let w := d.table t
  match (probeOrder w r).find? fun i => !fwValid (d.fwd w i) with
  | some i => if (d.fwdOf w r).isSome then d else (d.putFwd w i (r + 2 ^ 32 + n * 2 ^ 192)).startCopy t r false n none
  | none => d

/-- A row that has come to its PROMOTE-th gather of the window (R408): a free local slot takes it; or else the LOCAL row gathered least in
the last window begins to leave, and this one follows into its slot. Where every slot is in a migration the promotion is dropped (log entry
20). -/
def Dev.promote (d : Dev) (t r : Nat) : Dev :=
  let w := d.table t
  if (d.fwdOf w r).isSome || tbCacheRows w == 0 || d.updates.copies.any fun k => k.table == t && k.follow == some r then d
  else
    let l := d.fwds w
    match (List.range (tbCacheRows w)).find? fun n => !l.any fun e => fwSlot e.2 == n with
    | some n => d.promoteTo t r n
    | none =>
      let s := d.tableState t
      let count (e : Nat × Nat) : Nat := tabGetD (fwRow e.2) 0 s.last
      let stays (e : Nat × Nat) : Bool := fwState e.2 == 1 && !d.updates.copies.any fun k => k.table == t && k.row == fwRow e.2
      match (sortBy (fun a b => decide (count a < count b)) (l.filter stays)).head? with
      | some (i, e) =>
        if d.homeStays w then (d.putFwd w i (setBits (setBits e 34 33 2) 35 35 0)).startCopy t (fwRow e) true (fwSlot e) (some r) else d
      | none => d

/-- One gather of a row in the present window. -/
def Dev.noteGather (c : Ctx) (d : Dev) (t r : Nat) : Dev :=
  let w := d.table t
  let d := d.modTable t fun s => let s := s.roll c.now; { s with now := tabMod r 0 (· + 1) s.now }
  if tbPromote w != 0 && decide (tbPromote w ≤ tabGetD r 0 (d.tableState t).now) then d.promote t r else d

/-- ROW_COPY_COMPLETE. -/
def execRowCopyComplete (table row : Nat) (s : State) : Out := devStep (hearing fun c d => d.endCopy c table row) s

/-- FORMER_COPY_RELEASE (R411): once no GATHER with an older epoch runs; after a demotion the entry and its slot are free, and the row for
which it was made is promoted into the slot (R408). -/
def doFormerCopyRelease (table row : Nat) (_c : Ctx) (d : Dev) : Dev :=
  let w := d.table table
  match d.updates.copies.find? fun k => k.table == table && k.row == row with
  | none => d
  | some k =>
    match k.switched with
    | none => d
    | some epoch =>
      if d.updates.gathers.any fun g => g.table == table && decide (g.epoch < epoch) then d
      else
        let d : Dev := match d.fwdOf w row with
          | some (i, _) => if k.out then d.putFwd w i 0 else d
          | none => d
        let d := d.setUpdates { d.updates with copies := d.updates.copies.filter fun x => !(x.table == table && x.row == row) }
        match k.follow with
        | some r => d.promoteTo table r k.slot
        | none => d

/-- FORMER_COPY_RELEASE. -/
def execFormerCopyRelease (table row : Nat) (s : State) : Out := devStep (hearing (doFormerCopyRelease table row)) s

/-! ### GATHER (R396–R399) -/

/-- The rows of the distinct indices of a batch, each read once, in order; the first status other than ST_OK ends it. -/
def Dev.gatherRows (c : Ctx) (d : Dev) (t epoch : Nat) : List Nat → Nat × List (Nat × RowFound × List Byte) × Dev
  | [] => (stOk, [], d)
  | r :: rs =>
    let (st, f, bs, d) := d.readRow t epoch r
    if st != stOk then (st, [], d)
    else
      let d := if f = .invalid then d else d.noteGather c t r
      let (st, l, d) := Dev.gatherRows c d t epoch rs
      (st, (r, f, bs) :: l, d)

/-- GATHER: every position of an index gets its row. -/
def opGather (c : Ctx) (d : Dev) (o : OpCtx) : OpResult × Dev :=
  let t := dcP o.word 15 0 % 0x1000
  let w := d.table t
  if !d.tableServes t then (.stops stBusy, d)
  else
    let (ix, d) := d.inputD o 0
    let epoch := ((d.updates.gathers.find? fun g => g.capsule == o.cap.order && g.desc == o.desc).map fun g => g.epoch).getD (d.tableState t).epoch
    let keys := distinct ix.elems
    let (st, rows, d) := d.gatherRows c t epoch keys
    if st != stOk then (.stops st, d)
    else
      let reads := (rows.filter fun r => r.2.1 != .invalid).length
      let d := d.modTable t fun s => { s with
        reads := satAdd 64 s.reads reads
        coalesced := satAdd 64 s.coalesced (ix.elems.length - reads)
        overflows := satAdd 64 s.overflows (if 4096 < reads then 1 else 0) }
      let found (i : Nat) : RowFound × List Byte := ((rows.find? fun r => r.1 == i).map (·.2)).getD (.invalid, [])
      let d := ix.elems.foldl (fun d i => d.countServed t 1 (found i).1) d
      let els := (ix.elems.map fun i => unpack (tbFmt w) (tbElems w) (ofLE (found i).2)).flatten
      let (v, _, d) := d.placeOut (tbFmt w) (o.placedDims (o.outDims 0)) (o.arrange (tbElems w) (els.map fun x => (x, Counts.none)))
      (.done (o.put 0 v) .none, d)

/-- GATHER. -/
def execGather (capsule desc : Nat) (s : State) : Out := devStep (runOpCode 0x20 opGather capsule desc) s

/-! ### SCATTER (R400–R403) -/

/-- Two elements combined by MIN or MAX, in the table's format (R56, R59, R60). -/
def extreme (f : Fmt) (isMax pick : Bool) (x y : Nat) : Nat :=
  if f.isFloat then (encodeFloat f true (numMinMax isMax pick (decodeFloat f x) (decodeFloat f y))).1
  else unsigned f.width ((if isMax then max else min) (signed f.width x) (signed f.width y))

/-- The combination of one element over the rows given for an index, with the saturations it counts (R400, R401). -/
def combineElem (pick : Nat → Nat) (f : Fmt) (how : Nat) (xs : List Nat) : Nat × Counts :=
  match how with
  | 0 =>
    if f.isFloat then
      writeAs f 0 (ofF32 (f32SumBy pick (xs.map fun x => toF32 (decodeFloat f x))))
    else
      let (v, n) := (orderedBy pick xs.length xs).foldl (fun (s : Int × Nat) x =>
        let (v, ov) := clampInt f.range.1 f.range.2 (s.1 + signed f.width x)
        (v, if ov then s.2 + 1 else s.2)) (0, 0)
      (unsigned f.width v, ⟨n, 0⟩)
  | 1 => (xs.tail.foldl (extreme f false (pick 0 % 2 == 1)) (xs.headD 0), .none)
  | 2 => (xs.tail.foldl (extreme f true (pick 0 % 2 == 1)) (xs.headD 0), .none)
  | _ => (xs.getD (pick 0 % max xs.length 1) 0, .none)

/-- The row written for an index: one choice for the whole row under ANY_ONE, each element by itself under the others. -/
def combineRows (pick : Nat → Nat) (f : Fmt) (how n : Nat) (rows : List (List Nat)) : List Nat × Counts :=
  let k := 2 * rows.length + 1
  let rs := (List.range n).map fun j => combineElem (if how = 3 then pick else fun i => pick (k * j + i)) f how (rows.map fun r => nth r j)
  (rs.map (·.1), rs.foldl (fun a r => a.plus r.2) .none)

/-- The combined rows written, one by one. -/
def Dev.scatterRows (c : Ctx) (d : Dev) (t : Nat) : List (Nat × List Byte) → Nat × Dev
  | [] => (stOk, d)
  | (r, bs) :: l =>
    let (st, d) := d.replaceRow c t r (some bs)
    if st != stOk then (st, d) else Dev.scatterRows c d t l

/-- What a SCATTER writes: for each distinct valid index its row, combined of the values that it gives, with the counts of that; the reads of the
inputs and the table's counters are in the device. -/
def Dev.scattered (d : Dev) (o : OpCtx) (t : Nat) : List (Nat × List Byte × Counts) × Dev :=
  let w := d.table t
  let (ix, d) := d.inputD o 0
  let (v, d) := d.inputD o 1
  let n := tbElems w
  let rows := chunks n (v.elems.length + 1) v.elems
  let valid (i : Nat) : Bool := decide (i < tbRows w) && i != 0xFFFFFFFF
  let keys := distinct (ix.elems.filter valid)
  let span := n * (2 * rows.length + 1) + 1
  let (pick, d) := d.pick (span * keys.length)
  let out := keys.mapIdx fun q i =>
    let mine := ((ix.elems.zip rows).filter fun e => e.1 == i).map (·.2)
    let (els, k) := combineRows (fun j => pick (span * q + j)) (tbFmt w) (dcP o.word 17 16) n mine
    (i, leBytes (tbRS w) (packElems (tbFmt w) els), k)
  let bad := (ix.elems.filter fun i => !valid i).length
  (out, d.modTable t fun s => { s with
    invalid := satAdd 64 s.invalid bad, overflows := satAdd 64 s.overflows (if 4096 < keys.length then 1 else 0) })

/-- SCATTER: its rows are written one by one; what they count is reported also where one of them ends the capsule (R36, R37, R63). -/
def opScatter (c : Ctx) (d : Dev) (o : OpCtx) : OpResult × Dev :=
  let t := dcP o.word 15 0 % 0x1000
  if !d.tableServes t then (.stops stBusy, d)
  else
    let (out, d) := d.scattered o t
    let (st, d) := d.scatterRows c t (out.map fun e => (e.1, e.2.1))
    let k := out.foldl (fun a e => a.plus e.2.2) .none
    if st != stOk then d.stopsWith o st k else (.done [] k, d)

/-- SCATTER. -/
def execScatter (capsule desc : Nat) (s : State) : Out := devStep (runOpCode 0x21 opScatter capsule desc) s

end Sys2Proof.Machine
end

