-- ==== Sys2Proof/Machine/Index.lean ====
section
/-! DEFINITION. What an index keeps in memory: cells, segments, codes, handles, locators, and the walk of the centroid graph (07_vector_search). -/

namespace Sys2Proof.Machine

/-! ### Bank memory -/

/-- A little-endian number in a bank. -/
def Dev.bankNum (d : Dev) (bank a n : Nat) : Nat := memNum d.mem (bankKey bank a) n

/-- A little-endian number written in a bank, through its controller. -/
def Dev.putBank (d : Dev) (bank a n v : Nat) : Dev :=
  let d := d.touchBank bank a n true
  d.setMem (memPutNum d.mem (bankKey bank a) n v)

/-! ### Index slots -/

/-- An index slot's state; absent where no index is active. -/
def Dev.indexState (d : Dev) (x : Nat) : IndexState := tabGetD x { IndexState.fresh with state := 0 } d.search.indexes

/-- An index slot's state changed. -/
def Dev.modIndex (d : Dev) (x : Nat) (f : IndexState → IndexState) : Dev :=
  d.setSearch { d.search with indexes := tabUpdate x f d.search.indexes }

/-- Does an index handle name an active index of a realm? -/
def Dev.indexOf (d : Dev) (realm handle : Nat) : Option Nat :=
  let x := handle - 0x1000
  if 0x1000 ≤ handle ∧ x < 64 ∧ ixKind (d.index x) != 0 ∧ ixRealm (d.index x) = realm then some x else none

/-- An index serves (R270). -/
def Dev.indexServes (d : Dev) (x : Nat) : Bool := (d.indexState x).state == 3

/-- Is lower better under an index's metric? -/
def ixLower (w : Nat) : Bool := ixMetric w == 0

/-- The code format. -/
def ixFmt (w : Nat) : Fmt := if ixCode w = 10 then .q4 else .q8

/-- The format of originals. -/
def ixOrigFmt (w : Nat) : Fmt := (Fmt.ofCode (ixOrig w)).getD .fp32

/-! ### Cell records -/

/-- The address of cell c's record. -/
def cellAt (w c : Nat) : Nat := ixCell w + 64 * c
/-- Cell c's record. -/
def Dev.cell (d : Dev) (w c : Nat) : Nat := d.t1Num (cellAt w c) 64
/-- Cell c's record written. -/
def Dev.putCell (d : Dev) (w c v : Nat) : Dev := d.t1Put (cellAt w c) 64 v
/-- VECTORS. -/
def clVectors (v : Nat) : Nat := bits v 31 0
/-- TOMBSTONED. -/
def clTomb (v : Nat) : Nat := bits v 63 32
/-- RADIUS. -/
def clRadius (v : Nat) : Nat := bits v 95 64
/-- SEGMENTS. -/
def clSegments (v : Nat) : Nat := bits v 127 96
/-- GENERATION. -/
def clGen (v : Nat) : Nat := bits v 159 128

/-- The primary directory slot of cell c (R276). -/
def primarySlot (w c : Nat) : Nat := c / ixStripes w

/-- The banks of a cell's stripe, by member number. -/
def cellBanks (w c : Nat) : List Nat := (List.range (2 ^ ixStripeLog w)).map (stripeBank (ixStripeLog w) (ixCellStripe w c))

/-! ### Segments (R277–R279) -/

/-- The bank address of the header of slot j. -/
def segAt (j : Nat) : Nat := 0x400 + 32 * j
/-- The bank address of the tombstone column of slot j. -/
def tombAt (j : Nat) : Nat := 0x10400 + 32 * j
/-- The header of slot j. -/
def Dev.seg (d : Dev) (bank j : Nat) : Nat := d.bankNum bank (segAt j) 32
/-- The header of slot j written, one column (R371). -/
def Dev.putSeg (d : Dev) (bank j v : Nat) : Dev := d.putBank bank (segAt j) 32 v
/-- CODE. -/
def sgCode (h : Nat) : Nat := bits h 31 0
/-- COUNT. -/
def sgCount (h : Nat) : Nat := bits h 63 32
/-- NORM. -/
def sgNorm (h : Nat) : Nat := bits h 127 96
/-- CAP. -/
def sgCap (h : Nat) : Nat := bits h 136 128
/-- PRIMARY. -/
def sgPrimary (h : Nat) : Bool := bit h 140
/-- TAIL. -/
def sgTail (h : Nat) : Bool := bit h 141
/-- SEALED. -/
def sgSealed (h : Nat) : Bool := bit h 142
/-- NEXT. -/
def sgNext (h : Nat) : Nat := bits h 191 160
/-- CELL. -/
def sgCell (h : Nat) : Nat := bits h 223 192
/-- HANDLES. -/
def sgHandles (h : Nat) : Nat := bits h 255 224

/-- The slots of a cell's chain in a bank, from slot j on. -/
def Dev.chainFrom (d : Dev) (bank : Nat) : Nat → Nat → List Nat
  | 0, _ => []
  | fuel + 1, j => if 2048 ≤ j then [] else j :: Dev.chainFrom d bank fuel (sgNext (d.seg bank j))

/-- The slots of a cell's chain in a bank. -/
def Dev.chain (d : Dev) (w c bank : Nat) : List Nat := d.chainFrom bank 2048 (primarySlot w c)

/-- Is entry i of slot j tombstoned? -/
def Dev.tombstoned (d : Dev) (bank j i : Nat) : Bool := bit (d.bankNum bank (tombAt j) 32) i

/-- Bank address of the scale exponents of a segment (R278). -/
def sgScale (h : Nat) : Nat := sgNorm h + ceilDiv (4 * sgCap h) 32 * 32

/-- Handle entry i of handle array a (R280). -/
def handleAt (w a i : Nat) : Nat := ixHandle w + 2048 * a + 8 * i
/-- The vector handle of an entry of a segment. -/
def Dev.entryHandle (d : Dev) (w h i : Nat) : Nat := d.t1Num (handleAt w (sgHandles h) i) 8

/-! ### Codes -/

/-- The scale exponents of a vector's elements: the binding's one, the index's set, or the blocks' stored ones (R49, R729, R278). -/
def Dev.codeSE (d : Dev) (x w : Nat) (blocks : Nat → Nat) (e : Nat) : Int :=
  match bindSrc (ixScale w) with
  | 0 => bindSE (ixScale w)
  | 1 => (setOf (d.cfg (0x3020 + x) 0x10) 0).getD e 0
  | _ => signed 8 (blocks (e / 2 ^ bindBlock (ixScale w)))

/-- The FP32 elements of a dequantised code, and the saturations (R42). -/
def dequantCode (w : Nat) (se : Nat → Int) (code : Nat) : List Nat × Counts :=
  let l := (unpack (ixFmt w) (ixDim w) code).mapIdx fun e r => dequantFloat .fp32 (signed (ixFmt w).width r) (se e)
  (l.map (·.1), ⟨l.countP (·.2), 0⟩)

/-- The dequantised code of entry i of a segment, as FP32. -/
def Dev.entryVector (d : Dev) (x w bank h i : Nat) : List Nat × Counts :=
  dequantCode w (d.codeSE x w fun b => d.bankNum bank (sgScale h + i * ixSB w + b) 1) (d.bankNum bank (sgCode h + i * ixCS w) (ixCS w))

/-! ### Scores in FP32 -/

/-- Σ (x − y)². -/
def distSq (pick : Nat → Nat) (xs ys : List Nat) : Nat :=
  f32SumBy pick ((xs.zip ys).map fun p => let e := f32Sub p.1 p.2; f32Mul e e)

/-- Σ x·y. -/
def dotOf (pick : Nat → Nat) (xs ys : List Nat) : Nat := f32SumBy pick ((xs.zip ys).map fun p => f32Mul p.1 p.2)

/-- ‖x‖. -/
def normOf (pick : Nat → Nat) (xs : List Nat) : Nat := fnSqrt (dotOf pick xs xs)

/-- Is every element zero: ‖q‖ = 0? -/
def zeroVector (xs : List Nat) : Bool := xs.all fun x => f32Eq x 0

/-- x / ‖x‖, element by element. -/
def unitOfVector (pick : Nat → Nat) (xs : List Nat) : List Nat :=
  let n := normOf pick xs
  xs.map fun x => f32Quot (ofF32 x) (ofF32 n)

/-- The score of the *Metrics* table on two vectors, the query already a unit vector for cosine. -/
def metricScore (metric : Nat) (pick : Nat → Nat) (q v : List Nat) : Nat :=
  if metric = 0 then distSq pick q v else dotOf pick q v

/-! ### Locators (R281, R303) -/

/-- The address of an identifier's locator. -/
def locatorAt (w id : Nat) : Nat := ixLocator w + 32 * (id - ixIdBase w)
/-- Does an index hold an identifier? -/
def hasId (w id : Nat) : Bool := decide (ixIdBase w ≤ id) && decide (id < ixIdBase w + ixIdLimit w)
/-- Slot s of a locator. -/
def Dev.locator (d : Dev) (w id s : Nat) : Nat := d.t1Num (locatorAt w id + 16 * s) 16
/-- Slot s of a locator written. -/
def Dev.putLocator (d : Dev) (w id s v : Nat) : Dev := d.t1Put (locatorAt w id + 16 * s) 16 v
/-- VERSION. -/
def osVersion (v : Nat) : Nat := bits v 15 0
/-- VALID. -/
def osValid (v : Nat) : Bool := bit v 16
/-- RESIDENT. -/
def osResident (v : Nat) : Bool := bit v 17
/-- CACHE_SLOT. -/
def osSlot (v : Nat) : Nat := bits v 63 32
/-- LBA. -/
def osLba (v : Nat) : Nat := bits v 111 64
/-- OFFSET. -/
def osOffset (v : Nat) : Nat := bits v 118 112

/-- The locator slot of an identifier that is valid for a version. -/
def Dev.locatorOf (d : Dev) (w id version : Nat) : Option Nat :=
  if hasId w id then (List.range 2).find? fun s => let v := d.locator w id s; osValid v && osVersion v == version else none

/-! ### The centroid graph (R271, R290) -/

/-- Offset of the neighbour lists in the centroid area. -/
def neighboursAt (w : Nat) : Nat := 4096 + ceilDiv (2 * ixCount w * ixDim w) 4096 * 4096

/-- The valid cells among U32 numbers, none twice (DESIGN CHOICE, log entry 127). -/
def validCells (w : Nat) (l : List Nat) : List Nat := distinct (l.filter fun c => decide (c < ixCount w))

/-- The cells of the entry list. -/
def Dev.entryCells (d : Dev) (w : Nat) : List Nat := validCells w (toElems 4 16 (d.t1Num (ixArea w) 64))

/-- The neighbours of a cell. -/
def Dev.cellNeighbours (d : Dev) (w c : Nat) : List Nat :=
  validCells w (toElems 4 32 (d.t1Num (ixArea w + neighboursAt w + 128 * c) 128))

/-- The centroid of a cell, as FP32. -/
def Dev.centroid (d : Dev) (w c : Nat) : List Nat :=
  (toElems 2 (ixDim w) (d.t1Num (ixArea w + 4096 + 2 * ixDim w * c) (2 * ixDim w))).map (· * 65536)

/-- The centroid score of a cell: δ for L2, q·c otherwise (R367). -/
def Dev.centroidScore (d : Dev) (w : Nat) (pick : Nat → Nat) (q : List Nat) (c : Nat) : Nat :=
  metricScore (ixMetric w) pick q (d.centroid w c)

/-- The bound of a cell (R289); for cosine the query is already a unit vector. -/
def Dev.bound (d : Dev) (w : Nat) (pick : Nat → Nat) (q : List Nat) (c : Nat) : Nat :=
  let r := clRadius (d.cell w c)
  if ixMetric w = 0 then
    let e := f32Sub (fnSqrt (distSq pick q (d.centroid w c))) r
    let e := if f32Lt e 0 then 0 else e
    f32Mul e e
  else
    f32Add (dotOf pick q (d.centroid w c)) (f32Mul (normOf (fun i => pick (4 * q.length + i)) q) r)

/-- A walk of a graph: the search list, best first, as (number, score, expanded), and the numbers met. -/
structure Walk where
  list : List (Nat × Nat × Bool)
  visited : List Nat
deriving DecidableEq, Repr

/-- An entry put in its place, equal scores by lower number; a NaN enters no list. The best `cap` stay. -/
def Walk.insert (lower : Bool) (cap : Nat) (s : Walk) (c score : Nat) : Walk :=
  if f32IsNaN score then s
  else { s with list := (insertBy (fun (a b : Nat × Nat × Bool) =>
    better lower a.2.1 b.2.1 || (f32Eq a.2.1 b.2.1 && decide (a.1 < b.1))) (c, score, false) s.list).take cap }

/-- A batch of new entries scored. -/
def Walk.batch (lower : Bool) (cap : Nat) (score : Nat → Nat) (s : Walk) (l : List Nat) : Walk :=
  l.foldl (fun s c => { s with visited := c :: s.visited }.insert lower cap c (score c)) s

/-- The best entry not yet expanded. -/
def Walk.best (s : Walk) : Option Nat := (s.list.find? fun e => !e.2.2).map (·.1)

/-- An entry marked expanded. -/
def Walk.expand (s : Walk) (c : Nat) : Walk :=
  { s with list := s.list.map fun e => if e.1 = c then (e.1, e.2.1, true) else e }

/-- The walk of R290, with a charge before each batch; none where a charge was refused. -/
def Walk.run (lower : Bool) (cap : Nat) (score : Nat → Nat) (nb : Nat → List Nat) (charge : Nat → Dev → Bool × Dev) :
    Nat → Walk → Dev → Option Walk × Dev
  | 0, s, d => (some s, d)
  | fuel + 1, s, d =>
    match s.best with
    | none => (some s, d)
    | some c =>
      let s := s.expand c
      let l := (nb c).filter fun n => !s.visited.contains n
      match charge l.length d with
      | (false, d) => (none, d)
      | (true, d) => Walk.run lower cap score nb charge fuel (s.batch lower cap score l) d

/-- The whole walk over an index's cells from its entry list. -/
def Dev.walkCells (d : Dev) (w cap : Nat) (score : Nat → Nat) (charge : Nat → Dev → Bool × Dev) : Option Walk × Dev :=
  let es := d.entryCells w
  match charge es.length d with
  | (false, d) => (none, d)
  | (true, d') => Walk.run (ixLower w) cap score (d.cellNeighbours w) charge (ixCount w + 1) ((Walk.mk [] []).batch (ixLower w) cap score es) d'

end Sys2Proof.Machine
end

