-- ==== Sys2Proof/Machine/Floors.lean ====
section
/-! DEFINITION. The governor's budgets, and the class-0 floors and bound of a plan (R202, R557, R560, R561). -/

namespace Sys2Proof.Machine

/-! ### The governor's budget (R202) -/

/-- The budget of a window in units, for a power allowance in W and the hottest core die in 0.1 °C. -/
def governorBudget (allowance hottest : Nat) : Nat :=
  let base := if hottest ≤ 850 then 26 else 31
  let full := 1000 * (10 * allowance - base)
  if hottest < 900 then full else if hottest < 950 then full * (950 - hottest) / 50 else 0

/-- The budget of a stack at a temperature (0x2406). -/
def Dev.stackBudget (d : Dev) (s hottest : Nat) : Nat := governorBudget (d.cfg 0x2406 (s + 1)) hottest

/-! ### Floors (R561) -/

/-- Matrix-charging operators (*Work units*). -/
def chargesMatrix (op : Nat) : Bool := op == 0x10 || op == 0x11 || op == 0x18 || op == 0x50

/-- Does a descriptor make c = 4: FP16 or BF16 inputs, ATTEND or VERIFY_TREE? -/
def slowMatrix (im : DictVal) (w : Nat) : Bool :=
  dcOp w == 0x18 || dcOp w == 0x50 ||
    ((dcOp w == 0x10 || dcOp w == 0x11) && [0, 1].any fun i =>
      let f := tnFmtCode (imTensor im (dcIn w i))
      f == 7 || f == 8)

/-- The descriptor words of a plan. -/
def imWords (im : DictVal) : List Nat := (List.range (imDescs im)).map (imDesc im)

/-- F_M: matrix tiles per second. -/
def Dev.floorM (d : Dev) (p : Plan) : Nat :=
  let ws := (imWords p.image).filter fun w => chargesMatrix (dcOp w)
  match ws.map fun w => (d.groupTiles p (dcGroup w)).length with
  | [] => 0
  | n :: ns => 600000000 * ns.foldl min n / (1024 * (if ws.any (slowMatrix p.image) then 4 else 1))

/-- The index slots that a plan's descriptors of some operators name. -/
def Dev.planIndexes (d : Dev) (p : Plan) (ops : List Nat) : List Nat :=
  distinct (((imWords p.image).filter fun w => ops.contains (dcOp w)).filterMap fun w => d.indexOf p.realm (dcP w 15 0))

/-- F_P: probes per second. -/
def Dev.floorP (d : Dev) (p : Plan) : Nat :=
  let ws := (imWords p.image).filter fun w => dcOp w == 0x30 || dcOp w == 0x32
  match d.planIndexes p [0x30, 0x32] with
  | [] => 0
  | x :: _ => Config.probeFloor (sumOf ((distinct (ws.map dcGroup)).map fun g => (d.groupTiles p g).length)) (ixDim (d.index x)) (ixCode (d.index x))

/-- F_V: scanned vectors per second: ρ times the governor budgets at 90 °C of the stacks with the plan's stripes, a vector of the largest code
size costing 1.25 × CS/32 units. -/
def Dev.floorV (d : Dev) (p : Plan) : Nat :=
  let xs := d.planIndexes p [0x31, 0x32]
  let used := distinct ((xs.map fun x => (List.range (ixStripes (d.index x))).map fun i => stripeStack (ixStripe (d.index x) i)).flatten)
  let units := sumOf ((used.filter fun s => d.cfg 0x2405 (s + 1) == 0).map fun s => d.stackBudget s 900)
  let cs := (xs.map fun x => ixCS (d.index x)).foldl max 0
  d.cfg (0x2C00 + p.realm) 1 * units * 1000 * 128 / max 1 (5 * cs)

/-- The floors of a plan, F_P, F_V and F_M (*C0 service floors*). -/
def Dev.floorsOf (d : Dev) (p : Plan) : List Nat := [d.floorP p, d.floorV p, d.floorM p]

/-- The floors computed again for the plans that meet a condition (R561). -/
def Dev.renewFloors (d : Dev) (which : Plan → Bool) : Dev :=
  d.setPlans { d.plans with plans := d.plans.plans.map fun e => (e.1, if which e.2 then { e.2 with floors := d.floorsOf e.2 } else e.2) }

/-- A quotient of two counts in nanoseconds; 0 where the floor is 0. -/
def perFloor (budget floor : Nat) : Rat := if floor = 0 then 0 else ((budget * 1000000000 : Nat) : Rat) / ((floor : Nat) : Rat)

/-- S_A(p) in nanoseconds (R560). -/
def reservedNs (p : Plan) : Rat :=
  perFloor (imBudget p.image 0) (nth p.floors 0) + perFloor (imBudget p.image 1) (nth p.floors 1) + perFloor (imBudget p.image 3) (nth p.floors 2)

/-! ### L0 (R560) -/

/-- A path of a plan's graph: its descriptors from its end back, and how many of them are SCANs. -/
structure GraphPath where
  descs : List Nat
  scans : Nat
deriving DecidableEq, Repr

/-- Is one path longer than another, or as long with more SCANs? -/
def GraphPath.longer (a b : GraphPath) : Bool :=
  decide (b.descs.length < a.descs.length) || (a.descs.length == b.descs.length && decide (b.scans < a.scans))

/-- One round of longest paths: for each descriptor the longest path that ends there. -/
def pathRound (im : DictVal) (t : List GraphPath) : List GraphPath :=
  (List.range (imDescs im)).map fun i =>
    let own := if dcOp (imDesc im i) = 0x31 then 1 else 0
    (edgesInto im i).foldl (fun b j =>
      let a := t.getD j ⟨[], 0⟩
      let a : GraphPath := ⟨i :: a.descs, own + a.scans⟩
      if a.longer b then a else b) ⟨[i], own⟩

/-- The rounds repeated. -/
def pathRounds (im : DictVal) : Nat → List GraphPath → List GraphPath
  | 0, t => t
  | n + 1, t => let u := pathRound im t; if u = t then t else pathRounds im n u

/-- The longest path of a plan's graph, of those as long the one with the most SCANs (log entry 27). -/
def longestPath (im : DictVal) : GraphPath :=
  (pathRounds im (imDescs im) []).foldl (fun b a => if a.longer b then a else b) ⟨[], 0⟩

/-- Bytes of the external inputs and outputs at their largest: H(p), as if all were of LOC 1. -/
def externalBytes (im : DictVal) : Nat :=
  sumOf (((List.range (imTensors im)).filter fun t => tnKind (imTensor im t) == 3 || tnKind (imTensor im t) == 4).map (tensorBytes im))

/-- L0(p) in nanoseconds; Y is 0x240B.00 in ns. -/
def Dev.fixedNs (d : Dev) (p : Plan) : Nat :=
  let path := longestPath p.image
  12000 + path.descs.length * 27310 + path.scans * (d.cfg 0x240B 0 + 1320) + externalBytes p.image * 1000 / max 1 (d.cfg (0x2C00 + p.realm) 1 * 64)

end Sys2Proof.Machine
end

