-- ==== Sys2Proof/Machine/Compute.lean ====
section
/-! DEFINITION. The operators that compute on tensors: MATMUL to COPY, ROUTE and COMBINE, panels, conditions and budgets (04, 06, 11). -/

namespace Sys2Proof.Machine

/-- The value of an operand as FP32 bits, and what the counters gain: a floating-point value or a code is converted under R42 and R48, where
one above the largest FP32 value saturates and counts; an integer is rounded to nearest (R223). -/
def f32Counted (f : Fmt) (x : Num) : Nat × Counts :=
  if f.isFloat || f.isCode then let (b, s) := encodeFloat .fp32 true x; (b, .ofSat s) else (toF32 x, .none)

/-- The FP32 bits of an operand's value. -/
def toF32Bits (f : Fmt) (x : Num) : Nat := (f32Counted f x).1

/-- The values of an operand as FP32 bits, and what the counters gain, once for each element. -/
def f32Values (f : Fmt) (xs : List Num) : List Nat × Counts :=
  let l := xs.map (f32Counted f)
  (l.map (·.1), l.foldl (fun k e => k.plus e.2) .none)

/-! ### The matrix unit (R113–R120) -/

/-- Is there one scale exponent along the whole K axis of an operand (R115)? -/
def kConstant (binding len : Nat) : Bool := bindSrc binding != 2 || bindAxis binding != 0 || decide (len ≤ 2 ^ bindBlock binding)

/-- What a matrix operator works on: operands, their scale exponents, lengths, and the metadata of 2:4 weights. `k` is the length of an activation row, `kw` the elements of W that one output stores. -/
structure MatCtx where
  sp : Bool
  fa : Fmt
  fw : Fmt
  a : List Nat
  w : List Nat
  nibbles : List Nat
  k : Nat
  kw : Nat
  m : Nat
  n : Nat
  zeroMap : Bool
deriving DecidableEq, Repr

/-- Elements of K in a pass. -/
def MatCtx.step (x : MatCtx) : Nat := if x.sp then 64 else kPerPass x.fa x.fw

/-- The products of a pass as pairs of places in A and W: every element of K, or for 2:4 weights every kept value with the activation at
the position its metadata names (R117); in the row's padding that activation is a zero (R118), which the place after A's last element stands
for. -/
def MatCtx.pairs (x : MatCtx) (i j p : Nat) : List (Nat × Nat) :=
  if x.sp then
    ((List.range 32).map (32 * p + ·)).filterMap fun q =>
      let nib := x.nibbles.getD (j * (x.kw / 2) + q / 2) 0
      let e := 4 * (q / 2) + (if q % 2 = 0 then nib % 4 else nib / 4 % 4)
      if q < x.kw then some (if e < x.k then i * x.k + e else x.a.length, j * x.kw + q) else none
  else
    ((List.range x.step).map (x.step * p + ·)).filterMap fun e => if e < x.k then some (i * x.k + e, j * x.k + e) else none

/-- Is an element +0 or −0? -/
def isZeroRaw (f : Fmt) (raw : Nat) : Bool := if f.isFloat then raw % f.signBit == 0 else raw == 0

/-- Does the zero map skip a pass of row i (R119)? Activations that carry none are never skipped. -/
def MatCtx.skips (x : MatCtx) (i p : Nat) : Bool :=
  x.zeroMap && ((List.range x.step).map (x.step * p + ·)).all fun e => decide (x.k ≤ e) || isZeroRaw x.fa (x.a.getD (i * x.k + e) 0)

/-- The passes of a row that run, in an order of the device's (R64). -/
def MatCtx.passes (x : MatCtx) (pick : Nat → Nat) (i : Nat) : List Nat :=
  let l := (List.range (ceilDiv x.k x.step)).filter fun p => !x.skips i p
  orderedBy pick l.length l

/-- One element of the output where the accumulator is INT32 (R36, R115): its value, and what the counters gain: the accumulations that
saturated, and the bias's conversion into INT32 (R728). A bias enters rounded to a multiple of the product's scale (log entry 14). -/
def MatCtx.intElement (x : MatCtx) (pick : Nat → Nat) (se : Int) (bias : Num) (i j : Nat) : Num × Counts :=
  let (init, k) := toIntFmt .int32 (bias.scale (-se))
  let code (f : Fmt) (l : List Nat) (q : Nat) : Int := signed f.width (l.getD q 0)
  let (acc, sat) := (x.passes pick i).foldl (fun (s : Int × Nat) p =>
    let sum := ((x.pairs i j p).map fun q => code x.fa x.a q.1 * code x.fw x.w q.2).foldl (· + ·) 0
    let (v, ov) := sat32 (s.1 + sum)
    (v, s.2 + (if ov then 1 else 0))) (init, 0)
  (.ofCode acc se, k.plus ⟨sat, 0⟩)

/-- One element of the output where the accumulator is FP32 and begins at a bias: each pass's exact sum rounded once, and added with one more
rounding (R35, R115). A pass over codes sums them as integers, so that its zero is +0; one over floating-point products keeps the sign that they
all have. -/
def MatCtx.floatElement (x : MatCtx) (pick : Nat → Nat) (va vw : Nat → Num) (bias : Nat) (i j : Nat) : Num :=
  ofF32 ((x.passes pick i).foldl (fun acc p =>
    f32Add acc (toF32 (((x.pairs i j p).map fun q => (va q.1).mul (vw q.2)).foldl Num.add (.zero x.fa.isFloat)))) bias)

/-- A weight as it enters the array: codes beside BF16 activations become BF16 (*Matrix unit combinations*). -/
def weightValue (fa fw : Fmt) (se : Int) (raw : Nat) : Num × Bool :=
  if fa == .bf16 && fw.isCode then
    let (b, s) := dequantFloat .bf16 (signed fw.width raw) se
    (decodeFloat .bf16 b, s)
  else (valueOf fw se raw, false)

/-- MATMUL and MATMUL_SP. -/
def opMatmul (sp : Bool) (_c : Ctx) (d : Dev) (o : OpCtx) : OpResult × Dev :=
  let (a, d) := d.inputD o 0
  let (w, d) := d.inputD o 1
  let (md, d) := if sp then d.inputD o 3 else (⟨[], []⟩, d)
  let (bias, d) := d.inValues o 2
  let fa := o.inFmt 0
  let fw := o.inFmt 1
  let (seA, d) := if fa.isCode then d.seOf o (dcIn o.word 0) a.dims else (fun _ => 0, d)
  let (seW, d) := if fw.isCode then d.seOf o (dcIn o.word 1) w.dims else (fun _ => 0, d)
  let kw := dimAt w.dims 0
  let x : MatCtx := ⟨sp, fa, fw, a.elems, w.elems, md.elems, dimAt a.dims 0, kw, volumeOf (a.dims.drop 1), dimAt w.dims 1,
    o.run.zeroMaps.contains (dcIn o.word 0)⟩
  let single := !fa.isFloat && kConstant (tnScale (o.record (dcIn o.word 0))) x.k && kConstant (tnScale (o.record (dcIn o.word 1))) kw
  let bs := (bias.map (·.2)).getD []
  let (bf, kb) := if single then ([], Counts.none) else f32Values (o.inFmt 2) bs
  let np := ceilDiv x.k x.step
  let (pick, d) := d.pick (x.m * x.n * np)
  let ws := w.elems.mapIdx fun i r => weightValue fa fw (seW i) r
  let as := a.elems.mapIdx fun i r => valueOf fa (seA i) r
  let els := (List.range (x.m * x.n)).map fun t =>
    let i := t / x.n
    let j := t % x.n
    let p (q : Nat) : Nat := pick (t * np + q)
    if single then x.intElement p (seA (i * x.k) + seW (j * kw)) (bs.getD j (.zero false)) i j
    else (x.floatElement p (fun q => as.getD q (.zero false)) (fun q => (ws.getD q (.zero false, false)).1) (nth bf j) i j, .none)
  let ke := (o.arrange x.n els).foldl (fun k e => match e with | some e => k.plus e.2 | none => k) kb
  let (v, k, d) := d.writeOut o (dcOut o.word 0) ((a.dims.set 0 x.n)) (els.map (·.1))
  (.done (o.put 0 v) ((k.plus ke).plus ⟨(ws.filter (·.2)).length, 0⟩), d)

/-- MATMUL. -/
def execMatmul (capsule desc : Nat) (s : State) : Out := devStep (runOpCode 0x10 (opMatmul false) capsule desc) s

/-- MATMUL_SP. -/
def execMatmulSp (capsule desc : Nat) (s : State) : Out := devStep (runOpCode 0x11 (opMatmul true) capsule desc) s

/-! ### Elementwise operators -/

/-- The dimensions of two operands broadcast together. -/
def broadcastDims (a b : List Nat) : List Nat :=
  (List.range 4).map fun i => if dimAt a i = 1 then dimAt b i else dimAt a i

/-- The place in an operand of element i of the broadcast result. -/
def broadcastAt (dims out : List Nat) (i : Nat) : Nat :=
  sumOf ((List.range 4).map fun ax => if dimAt dims ax = 1 then 0 else coordOf out ax i * volumeOf (dims.take ax))

/-- An elementwise operation on two operands (R733). -/
def opBinary (f : Num → Num → Num) (_c : Ctx) (d : Dev) (o : OpCtx) : OpResult × Dev :=
  let (a, d) := d.inValuesD o 0
  let (b, d) := d.inValuesD o 1
  let dims := broadcastDims a.1 b.1
  let xs := (List.range (volumeOf dims)).map fun i =>
    f (a.2.getD (broadcastAt a.1 dims i) .nan) (b.2.getD (broadcastAt b.1 dims i) .nan)
  let (v, k, d) := d.writeOutBy writeArith o (dcOut o.word 0) dims xs
  (.done (o.put 0 v) k, d)

/-- ADD. -/
def execAdd (capsule desc : Nat) (s : State) : Out := devStep (runOpCode 0x12 (opBinary Num.add) capsule desc) s

/-- MUL. -/
def execMul (capsule desc : Nat) (s : State) : Out := devStep (runOpCode 0x13 (opBinary Num.mul) capsule desc) s

/-- Each element of input 0 at its exact value, through a function, into output 0. -/
def opUnary (f : Fmt → Num → Num) (_c : Ctx) (d : Dev) (o : OpCtx) : OpResult × Dev :=
  let (a, d) := d.inValuesD o 0
  let fmt := o.inFmt 0
  let (v, k, d) := d.writeOut o (dcOut o.word 0) a.1 (a.2.map (f fmt))
  (.done (o.put 0 v) k, d)

/-- COPY (R733). -/
def execCopy (capsule desc : Nat) (s : State) : Out := devStep (runOpCode 0x22 (opUnary fun _ x => x) capsule desc) s

/-- DEQUANT: into every format the exact value of the code, rounded and held once (R41–R43, R734). -/
def execDequant (capsule desc : Nat) (s : State) : Out := devStep (runOpCode 0x1A (opUnary fun _ x => x) capsule desc) s

/-- The function of ACT: P[7:4], with the plan's table function P[11:8] (R121). -/
def actFn (im : DictVal) (w x : Nat) : Nat :=
  match dcP w 7 4 with
  | 0 => fnRelu x
  | 1 => fnGelu 1 x
  | 2 => fnGelu 2 x
  | 3 => fnGelu 3 x
  | 4 => fnTanh x
  | 5 => fnSigmoid x
  | 6 => fnExp x
  | _ => fnTable (imFn im (dcP w 11 8)) x

/-- ACT. -/
def opAct (_c : Ctx) (d : Dev) (o : OpCtx) : OpResult × Dev :=
  let (a, d) := d.inValuesD o 0
  let (xs, k0) := f32Values (o.inFmt 0) a.2
  let (v, k, d) := d.writeOut o (dcOut o.word 0) a.1 (xs.map fun x => ofF32 (actFn o.plan.image o.word x))
  (.done (o.put 0 v) (k.plus k0), d)

/-- ACT. -/
def execAct (capsule desc : Nat) (s : State) : Out := devStep (runOpCode 0x14 opAct capsule desc) s

/-! ### Rows of DIM0 (R121, R61; the results are FP32 sums in an order of the device's, log entry 15) -/

/-- Layer or RMS normalisation of a row of FP32 values. -/
def normRow (pick : Nat → Nat) (rms : Bool) (eps : Nat) (gain bias xs : List Nat) : List Nat :=
  let n := f32OfInt xs.length
  let mean := if rms then 0 else f32Quot (ofF32 (f32SumBy pick xs)) (ofF32 n)
  let ys := if rms then xs else xs.map fun x => f32Sub x mean
  let var := f32Quot (ofF32 (f32SumBy (fun i => pick (2 * xs.length + i)) (ys.map fun y => f32Mul y y))) (ofF32 n)
  let r := fnRsqrt (f32Add var eps)
  ys.mapIdx fun i y =>
    let z := f32Mul (f32Mul y r) (gain.getD i 0x3F800000)
    match bias[i]? with
    | some b => f32Add z b
    | none => z

/-- The rows of DIM0 elements of an operand, as FP32, and what the counters gain. -/
def Dev.f32Rows (d : Dev) (o : OpCtx) (i : Nat) : List Nat × List (List Nat) × Counts × Dev :=
  let (a, d) := d.inValuesD o i
  let (xs, k) := f32Values (o.inFmt i) a.2
  (a.1, chunks (dimAt a.1 0) (a.2.length + 1) xs, k, d)

/-- NORM: IN1 gain, IN2 bias, P[4] RMS, P[63:32] epsilon. -/
def opNorm (_c : Ctx) (d : Dev) (o : OpCtx) : OpResult × Dev :=
  let (dims, rows, k0, d) := d.f32Rows o 0
  let (g, d) := d.inValuesD o 1
  let (b, d) := d.inValues o 2
  let (gain, k1) := f32Values (o.inFmt 1) g.2
  let (bias, k2) := f32Values (o.inFmt 2) ((b.map (·.2)).getD [])
  let n := dimAt dims 0
  let (pick, d) := d.pick (4 * n * rows.length + 1)
  let out := (rows.mapIdx fun r xs => normRow (fun i => pick (4 * n * r + i)) (dcPb o.word 4) (dcP o.word 63 32) gain bias xs).flatten
  let (v, k, d) := d.writeOut o (dcOut o.word 0) dims (out.map ofF32)
  (.done (o.put 0 v) (((k.plus k0).plus k1).plus k2), d)

/-- NORM. -/
def execNorm (capsule desc : Nat) (s : State) : Out := devStep (runOpCode 0x15 opNorm capsule desc) s

/-- The running maximum of a row, which ignores NaN (R61); NaN where every input is one. -/
def rowMax (xs : List Nat) : Nat := xs.foldl f32Max f32NaN

/-- Softmax of a row of FP32 values, with its pair (m, s) (R61, R121). -/
def softmaxRow (pick : Nat → Nat) (xs : List Nat) : List Nat × Nat × Nat :=
  let m := rowMax xs
  let es := xs.map fun x => fnExp (f32Sub x m)
  let s := f32SumBy pick es
  (es.map fun e => f32Mul e (fnRecip s), m, s)

/-- SOFTMAX, with the partial states in OUT1. -/
def opSoftmax (_c : Ctx) (d : Dev) (o : OpCtx) : OpResult × Dev :=
  let (dims, rows, k0, d) := d.f32Rows o 0
  let n := dimAt dims 0
  let (pick, d) := d.pick (2 * n * rows.length + 1)
  let rs := rows.mapIdx fun r xs => softmaxRow (fun i => pick (2 * n * r + i)) xs
  let (v, k, d) := d.writeOut o (dcOut o.word 0) dims ((rs.map (·.1)).flatten.map ofF32)
  let k := k.plus k0
  if dcOut o.word 1 = noOperand then (.done (o.put 0 v) k, d)
  else
    let (p, k2, d) := d.writeOut o (dcOut o.word 1) (dims.set 0 2) ((rs.map fun r => [r.2.1, r.2.2]).flatten.map ofF32)
    (.done (o.put 0 v ++ o.put 1 p) (k.plus k2), d)

/-- SOFTMAX. -/
def execSoftmax (capsule desc : Nat) (s : State) : Out := devStep (runOpCode 0x16 opSoftmax capsule desc) s

/-- A row rotated at a position over its first `r` dimensions, neighbouring elements in pairs (log entry 16). -/
def ropeRow (r theta pos : Nat) (xs : List Nat) : List Nat :=
  xs.mapIdx fun i x =>
    if r ≤ i then x
    else
      let c := fnRotary 0 pos (i / 2) r theta
      let s := fnRotary 1 pos (i / 2) r theta
      if i % 2 = 0 then f32Sub (f32Mul x c) (f32Mul (xs.getD (i + 1) 0) s)
      else f32Add (f32Mul (xs.getD (i - 1) 0) s) (f32Mul x c)

/-- ROPE: IN1 positions, P[15:4] rotated dimensions, P[63:32] base. The rows that share a position lie together (log entry 16). -/
def opRope (_c : Ctx) (d : Dev) (o : OpCtx) : OpResult × Dev :=
  let (dims, rows, k0, d) := d.f32Rows o 0
  let (ps, d) := d.inputD o 1
  let each := max (rows.length / max ps.elems.length 1) 1
  let out := (rows.mapIdx fun r xs => ropeRow (dcP o.word 15 4) (dcP o.word 63 32) (ps.elems.getD (r / each) 0) xs).flatten
  let (v, k, d) := d.writeOut o (dcOut o.word 0) dims (out.map ofF32)
  (.done (o.put 0 v) (k.plus k0), d)

/-- ROPE. -/
def execRope (capsule desc : Nat) (s : State) : Out := devStep (runOpCode 0x17 opRope capsule desc) s

/-! ### QUANT (R44–R47, R221, R222) -/

/-- The smallest s with a ≤ qmax × 2^s, for a finite a above 0, held to −128 to 127 (R221). -/
def autoExponent (qmax : Nat) (a : Num) : Int :=
  match a with
  | .fin _ m e =>
    if m = 0 then 0
    else
      let g : Int := (Nat.log2 m : Int) + e - (Nat.log2 qmax : Int)
      let fits (s : Int) : Bool := !Num.lt (.fin false qmax s) (.fin false m e)
      (clampInt (-128) 127 (if fits (g - 1) then g - 1 else if fits g then g else g + 1)).1
  | _ => 0

/-- The largest magnitude of the finite elements of a block. -/
def largestFinite (xs : List Num) : Num :=
  xs.foldl (fun a x => match x with | .fin _ m e => if Num.lt a (.fin false m e) then .fin false m e else a | _ => a) (.zero false)

/-- QUANT: under the output's binding, or with a chosen exponent for each block along DIM0. -/
def opQuant (_c : Ctx) (d : Dev) (o : OpCtx) : OpResult × Dev :=
  let (a, d) := d.inValuesD o 0
  if !dcPb o.word 1 then
    let (v, k, d) := d.writeOut o (dcOut o.word 0) a.1 a.2
    (.done (o.put 0 v) k, d)
  else
    let f := o.outFmt 0
    let b := 2 ^ (dcP o.word 4 2 + 4)
    let blocks := chunks b (a.2.length + 1) a.2
    let ses := blocks.map fun xs => autoExponent f.qmax (largestFinite xs)
    let rs := (blocks.mapIdx fun i xs => xs.map fun x => let (v, k) := quantise f (ses.getD i 0) x; (unsigned f.width v, k)).flatten
    let dims := a.1
    let sdims := dims.set 0 (dimAt dims 0 / b)
    let (v, k, d) := d.placeOut f (o.placedDims dims) (o.arrange (dimAt dims 0) rs)
    let (s, _, d) := d.placeOut .int8 (o.placedDims sdims) (o.arrange (dimAt sdims 0) (ses.map fun x => (unsigned 8 x, Counts.none)))
    (.done (o.put 0 v ++ o.put 1 s) k, d)

/-- QUANT. -/
def execQuant (capsule desc : Nat) (s : State) : Out := devStep (runOpCode 0x19 opQuant capsule desc) s

/-! ### Experts (R227, R228) -/

/-- The expert with the highest finite logit among those not excluded, the lower number between equals. -/
def topExpert (ls : List Nat) (excluded : Option Nat) : Option Nat :=
  (List.range ls.length).foldl (fun best i =>
    let l := ls.getD i f32NaN
    let finite : Bool := match ofF32 l with | .fin .. => true | _ => false
    if !finite || excluded == some i then best
    else match best with
      | none => some i
      | some b => if f32Lt (ls.getD b f32NaN) l then some i else best) none

/-- The two slots of a token: (expert, weight) each. -/
def routeToken (pick : Nat → Nat) (ls : List Nat) : List (Nat × Nat) :=
  match topExpert ls none with
  | none => [(0xFFFFFFFF, 0), (0xFFFFFFFF, 0)]
  | some e0 =>
    match topExpert ls (some e0) with
    | none => [(e0, 0x3F800000), (0xFFFFFFFF, 0)]
    | some e1 =>
      let w := (softmaxRow pick [ls.getD e0 0, ls.getD e1 0]).1
      [(e0, nth w 0), (e1, nth w 1)]

/-- ROUTE: experts and weights of each token. -/
def opRoute (_c : Ctx) (d : Dev) (o : OpCtx) : OpResult × Dev :=
  let (_, rows, k0, d) := d.f32Rows o 0
  let (pick, d) := d.pick (4 * rows.length + 1)
  let rs := (rows.mapIdx fun t ls => routeToken (fun i => pick (4 * t + i)) ls).flatten
  let dims := [2, rows.length, 1, 1]
  (.done (o.put 0 ⟨dims, rs.map (·.1)⟩ ++ o.put 1 ⟨dims, rs.map (·.2)⟩) k0, d)

/-- ROUTE. -/
def execRoute (capsule desc : Nat) (s : State) : Out := devStep (runOpCode 0x1B opRoute capsule desc) s

/-- The ROUTE whose weights reach tensor t, through the descriptors that pass elements on one by one. -/
def routeOf (im : DictVal) : Nat → Nat → Option Nat
  | 0, _ => none
  | fuel + 1, t => match producer im t with
    | none => none
    | some i =>
      let w := imDesc im i
      if dcOp w = 0x1B then some i
      else if dcOp w = 0x22 ∨ dcOp w = 0x23 ∨ dcOp w = 0x24 ∨ dcOp w = 0x12 ∨ dcOp w = 0x13 ∨ dcOp w = 0x14 ∨ dcOp w = 0x1A ∨ dcOp w = 0x19
      then routeOf im fuel (dcIn w 0) else none

/-- COMBINE: for each token the weighted sum of its two slots; a slot that holds −1 contributes nothing. -/
def opCombine (_c : Ctx) (d : Dev) (o : OpCtx) : OpResult × Dev :=
  let (dims, rows, k0, d) := d.f32Rows o 0
  let (ws, d) := d.inputD o 1
  let experts := match routeOf o.plan.image (imDescs o.plan.image) (dcIn o.word 1) with
    | some i => ((tabGet (dcOut (imDesc o.plan.image i) 0) o.run.values).map fun (v : Tensor) => v.elems).getD []
    | none => []
  let n := dimAt dims 0
  let tokens := rows.length / 2
  let out := ((List.range tokens).map fun t => (List.range n).map fun j =>
    ((List.range 2).filter fun s => experts.getD (2 * t + s) 0 != 0xFFFFFFFF).foldl
      (fun acc s => f32Add acc (f32Mul (nth ws.elems (2 * t + s)) (nth (rows.getD (2 * t + s) []) j))) 0).flatten
  let (v, k, d) := d.writeOut o (dcOut o.word 0) [n, tokens, 1, 1] (out.map ofF32)
  (.done (o.put 0 v) (k.plus k0), d)

/-- COMBINE. -/
def execCombine (capsule desc : Nat) (s : State) : Out := devStep (runOpCode 0x1C opCombine capsule desc) s

/-! ### Panels (R461–R465, R132, R133) -/

/-- The metadata nibbles of the SPMATMUL that reads a tensor, as its metadata input holds them; empty where none does. -/
def Dev.metadataOf (d : Dev) (o : OpCtx) (t : Nat) : List Nat × Dev :=
  match (readersOf o.plan.image t).find? fun r => dcOp r.1 == 0x11 && r.2 == 1 with
  | none => ([], d)
  | some r => let (v, d) := d.tensorValue o (dcIn r.1 3); ((v.map fun v => v.elems).getD [], d)

/-- PANEL_LOAD and PANEL_STORE: the tensor's elements stand in the panel by its blocking, padded with +0, and OUT0 takes those that lie inside
the tensor (R462, R463); a descriptor bound to an expert moves the rows of its tokens (R228). The move stands outstanding at the tile until
PANEL_MOVE_COMPLETE (log entry 17: it reads when it is issued). A mover slot fires only while its tile has room for the move (R132). -/
def opPanel (c : Ctx) (d : Dev) (o : OpCtx) : OpResult × Dev :=
  let (v, d) := d.inputD o 0
  let b := dcP o.word 9 5
  let layout := tensorLayout o.plan.image (dcOut o.word 0) b v.dims
  let blocks := fillPanel layout v.elems
  let (ms, d) := if b = 4 then d.metadataOf o (dcOut o.word 0) else ([], d)
  let rows := o.arrange (dimAt v.dims 0) (takePanel layout blocks v.elems.length)
  let (out, _, d) := d.placeOut (o.inFmt 0) (o.placedDims v.dims) (rows.map fun r => r.map fun x => (x, .none))
  let (st, d) := d.putOutputs c o (o.put 0 out)
  if st != stOk then (.stops st, d)
  else (.waits, d.startMove (d.tileFor o.cap.order o.desc) ⟨0, o.cap.order, o.desc, [], dcP o.word 4 0, 0,
    if dcOp o.word = 0x23 then some (startBank .panel) else none, blocks, fillPanel (metaLayout b (dimAt v.dims 0) (volumeOf (v.dims.drop 1))) ms⟩)

/-- PANEL_LOAD. -/
def execPanelLoad (capsule desc : Nat) (s : State) : Out := devStep (runOpCode 0x23 opPanel capsule desc) s

/-- PANEL_STORE. -/
def execPanelStore (capsule desc : Nat) (s : State) : Out := devStep (runOpCode 0x24 opPanel capsule desc) s

/-! ### Conditions, budgets, barriers (R223, R256, R219) -/

/-- What the conversion of a decision's first element to FP32 counts (R48); one compared as an integer is not converted. -/
def decisionCounts (f : Fmt) (w : Nat) (x : Option Num) : Counts :=
  match x with
  | none => .none
  | some x => if f.isInt && !dcPb w 3 then .none else (f32Counted f x).2

/-- The decision of BRANCH_IF on the first element, none where there is none. -/
def decision (f : Fmt) (w : Nat) (x : Option Num) : Bool :=
  let k := dcP w 63 32
  match x with
  | none => false
  | some x =>
    if f.isInt && !dcPb w 3 then condition (dcP w 2 0) x (.ofInt (signed 32 k))
    else condition (dcP w 2 0) (ofF32 (toF32Bits f x)) (ofF32 (if dcPb w 3 then k else toF32 (.ofInt (signed 32 k))))

/-- BRANCH_IF. -/
def opBranch (_c : Ctx) (d : Dev) (o : OpCtx) : OpResult × Dev :=
  let (a, d) := d.inValuesD o 0
  (.done (o.put 0 (intTensor (o.outDims 0) [if decision (o.inFmt 0) o.word a.2.head? then 1 else 0])) (decisionCounts (o.inFmt 0) o.word a.2.head?), d)

/-- BRANCH_IF, which answers 0 on an empty tensor. -/
def execBranchIf (capsule desc : Nat) (s : State) : Out :=
  devStep (runOp (fun w => dcOp w == 0x40) true opBranch capsule desc) s

/-- The budget minus the spend of a unit; all ones where it is unlimited (R256). -/
def budgetLeft (im : DictVal) (run : PlanRun) (u : Nat) : Nat :=
  let b := imBudget im u
  if b = 2 ^ 64 - 1 then b else b - nth run.spend u

/-- BUDGET. -/
def opBudget (_c : Ctx) (d : Dev) (o : OpCtx) : OpResult × Dev :=
  let left := budgetLeft o.plan.image o.run (dcP o.word 1 0)
  (o.answer ⟨[2, 1, 1, 1], [left % 2 ^ 32, left / 2 ^ 32]⟩, d)

/-- BUDGET. -/
def execBudget (capsule desc : Nat) (s : State) : Out := devStep (runOpCode 0x41 opBudget capsule desc) s

/-- BARRIER has no output; it fires when its inputs and AFTER are complete. -/
def execBarrier (capsule desc : Nat) (s : State) : Out :=
  devStep (runOp (fun w => dcOp w == 0x42) true (fun _ d _ => (.done [] .none, d)) capsule desc) s

end Sys2Proof.Machine
end

