-- ==== Sys2Proof/Machine/Search.lean ====
section
/-! DEFINITION. PROBE, SCAN with its triggers and records, thresholds, FILTER and GRAPH_STEP (07_vector_search). -/

namespace Sys2Proof.Machine

/-- The elements of input i as FP32, and what the counters gain (R42). -/
def Dev.queryOf (d : Dev) (o : OpCtx) (i : Nat) : (List Nat × Counts) × Dev :=
  let (q, d) := d.inValuesD o i
  (f32Values (o.inFmt i) q.2, d)

/-- The index slot that P[15:0] names. -/
def OpCtx.indexSlot (o : OpCtx) : Nat := dcP o.word 15 0 % 0x1000

/-! ### PROBE (R289–R291) -/

/-- The cells of a list up to the first that would raise the sum of vectors above the cap, 0 for no cap; and whether it cut. -/
def capCells (cap : Nat) : Nat → List (Nat × Nat × Nat) → List (Nat × Nat × Nat) × Bool
  | _, [] => ([], false)
  | sum, (c, b, v) :: l =>
    if cap != 0 && decide (cap < sum + v) then ([], true)
    else let (r, cut) := capCells cap (sum + v) l; ((c, b, v) :: r, cut)

/-- A cell list (*Cell list*) of n_c rows: cells as (number, bound, vectors). -/
def cellListTensor (nc : Nat) (cells : List (Nat × Nat × Nat)) (capped exhausted : Bool) : Tensor :=
  let sum := sumOf (cells.map fun c => c.2.2)
  ⟨[4, nc + 1, 1, 1],
    [cells.length, sum % 2 ^ 32, sum / 2 ^ 32, b2n capped + 2 * b2n exhausted] ++
    (cells.map fun c => [c.1, c.2.1, c.2.2, 0]).flatten ++ (List.replicate (nc - cells.length) [0xFFFFFFFF, 0, 0, 0]).flatten⟩

/-- The cells of a cell list tensor. -/
def cellsOf (t : Tensor) : List (Nat × Nat × Nat) :=
  (List.range (nth t.elems 0)).map fun i => (nth t.elems (4 + 4 * i), nth t.elems (5 + 4 * i), nth t.elems (6 + 4 * i))

/-- The chosen cells of a walk, with VECTORS as read. -/
def Dev.chosenCells (d : Dev) (w nc : Nat) (s : Walk) : List (Nat × Nat × Nat) :=
  (s.list.take nc).map fun e => (e.1, e.2.1, clVectors (d.cell w e.1))

/-- The entry list, and the records, centroids and neighbour lists of the cells that a walk has met, as it reads them (R203). -/
def Dev.cellsSeen (d : Dev) (w : Nat) (l : List Nat) : Dev :=
  l.foldl (fun d c => ((d.t1Seen (cellAt w c) 64).t1Seen (ixArea w + 4096 + 2 * ixDim w * c) (2 * ixDim w)).t1Seen
    (ixArea w + neighboursAt w + 128 * c) 128) (d.t1Seen (ixArea w) 64)

/-- PROBE. -/
def opProbe (_c : Ctx) (d : Dev) (o : OpCtx) : OpResult × Dev :=
  let x := o.indexSlot
  let w := d.index x
  if !d.indexServes x then (.stops stBusy, d)
  else
    let ((q, k), d) := d.queryOf o 0
    if ixMetric w == 2 && zeroVector q then d.stopsWith o stBadArg k
    else
      let span := 8 * ixDim w
      let (pick, d) := d.pick (span * (ixCount w + 1))
      let q := if ixMetric w = 2 then unitOfVector pick q else q
      let nc := dcP o.word 27 16
      let cap := if dcP o.word 43 28 = 0 then nc else dcP o.word 43 28
      match d.walkCells w cap (fun c => d.bound w (fun i => pick (span * (c + 1) + i)) q c) (fun n d => d.charge o.cap.order 0 n) with
      | (none, d) => d.stopsWith o stBudget k
      | (some s, d) =>
        let d := d.cellsSeen w s.visited
        let (cells, cut) := capCells (dcP o.word 95 64) 0 (d.chosenCells w nc s)
        (.done (o.put 0 (cellListTensor nc cells cut (decide (s.list.length < nc)))) k, d)

/-- PROBE. -/
def execProbe (capsule desc : Nat) (s : State) : Out := devStep (runOpCode 0x30 opProbe capsule desc) s

/-! ### SCAN: its query (R286) -/

/-- SE_ref of a SCAN: TH_SE / 2 with INT32 accumulation, 0 with FP32 (R286, R287). -/
def scanRef (w : Nat) : Int := if dcPb w 40 then 0 else signed 8 (dcP w 39 32) / 2

/-- The query as the banks take it: 16-bit elements, and what the counters gain. -/
def Dev.scanQuery (d : Dev) (x w desc : Nat) (pick : Nat → Nat) (q : List Nat) : List Nat × Counts :=
  let q := if ixMetric w = 2 then unitOfVector pick q else q
  let q := q.mapIdx fun i e =>
    if bindSrc (ixScale w) = 1 then (ofF32 e).scale ((setOf (d.cfg (0x3020 + x) 0x10) 0).getD i 0) else ofF32 e
  let rs := q.map fun e =>
    if dcPb desc 40 then let (b, s) := encodeFloat .bf16 true e; (b, Counts.ofSat s)
    else let (v, k) := toClamped (-32767) 32767 (e.scale (-(scanRef desc))); (unsigned 16 v, k)
  (rs.map (·.1), rs.foldl (fun k r => k.plus r.2) .none)

/-! ### SCAN at work (R292–R299) -/

/-- The SCAN run of a capsule's descriptor. -/
def Dev.scanRun? (d : Dev) (capsule desc : Nat) : Option ScanRun :=
  d.search.scans.find? fun s => s.capsule == capsule && s.desc == desc

/-- A SCAN run changed. -/
def Dev.modScan (d : Dev) (capsule desc : Nat) (f : ScanRun → ScanRun) : Dev :=
  d.setSearch { d.search with scans := d.search.scans.map fun s => if s.capsule = capsule ∧ s.desc = desc then f s else s }

/-- Does the latest published threshold prune a cell of bound b (R294)? A NaN bound is never skipped. -/
def prunes (lower : Bool) (slack : Nat) (threshold : Option Nat) (b : Nat) : Bool :=
  match threshold with
  | none => false
  | some t =>
    let e := f32Mul slack (f32Abs t)
    if lower then f32Lt (f32Add t e) b else f32Lt b (f32Sub t e)

/-- Trigger records offered in list order while fewer than 16 cells are outstanding (R293, R294). -/
def ScanRun.refill (lower : Bool) (slack : Nat) : Nat → ScanRun → ScanRun
  | 0, s => s
  | fuel + 1, s =>
    if 16 ≤ s.offers.length + s.rows.length then s
    else match s.cells[s.next]? with
      | none => s
      | some (_, b, v) =>
        let s' := { s with next := s.next + 1 }
        ScanRun.refill lower slack fuel (if v = 0 then s'
          else if prunes lower slack s.threshold b then { s' with skipped := s'.skipped + 1 }
          else { s' with offers := s'.offers ++ [s.next + 1] })

/-- Has a cell's trigger ended with every record of it taken? -/
def Dev.rowDone (d : Dev) (capsule desc tag : Nat) : Bool :=
  !(d.banks.triggers.any fun t => t.capsule == capsule && t.desc == desc && t.tag == tag) &&
  !(d.banks.results.any fun e => e.2.any fun r => r.capsule == capsule && r.desc == desc && r.tag == tag)

/-- The SCAN is over: its list, and the index's counters (R299, R318–R320). -/
def Dev.scanEnd (c : Ctx) (d : Dev) (s : ScanRun) : Dev :=
  let d := d.setSearch { d.search with scans := d.search.scans.filter fun x => !(x.capsule == s.capsule && x.desc == s.desc) }
  let d := d.modIndex s.index fun k => { k with
    scans := satAdd 64 k.scans 1, triggered := satAdd 64 k.triggered s.triggered, skipped := satAdd 64 k.skipped s.skipped,
    abandoned := satAdd 64 k.abandoned s.abandoned, met := satAdd 64 k.met s.met }
  d.lateFinish c s.capsule s.desc fun d o =>
    let cap := dimAt (o.outDims 0) 1 - 4
    if cap < s.found.length && !streamingList o.plan.image (dcOut o.word 0) then (.stops stBadArg, d)
    else (o.answer (listTensor (Header.raw s.found.length (ixLower (d.index s.index)) 0 s.nan) s.found cap), d)

/-- Cells that are through leave, others are offered; with none left the SCAN is over (R293, R299). -/
def Dev.scanAdvance (c : Ctx) (d : Dev) (capsule desc : Nat) : Dev := d.under capsule fun d =>
  match d.scanRun? capsule desc with
  | none => d
  | some s =>
    let w := d.index s.index
    let s := { s with rows := s.rows.filter fun t => !d.rowDone capsule desc t }
    let s := s.refill (ixLower w) (ixSlack w) (s.cells.length + 1)
    let d := d.modScan capsule desc fun _ => s
    if s.offers.isEmpty && s.rows.isEmpty && decide (s.cells.length ≤ s.next) then d.scanEnd c s else d

/-- SCAN: the charge, the query, the first triggers offered. -/
def opScan (_c : Ctx) (d : Dev) (o : OpCtx) : OpResult × Dev :=
  let x := o.indexSlot
  let w := d.index x
  if !d.indexServes x then (.stops stBusy, d)
  else
    let ((q, k0), d) := d.queryOf o 0
    let (l, d) := d.inputD o 1
    if ixMetric w == 2 && zeroVector q then d.stopsWith o stBadArg k0
    else match d.charge o.cap.order 1 (nth l.elems 1 + nth l.elems 2 * 2 ^ 32) with
      | (false, d) => d.stopsWith o stBudget k0
      | (true, d) =>
        let (pick, d) := d.pick (2 * ixDim w)
        let (q, k) := d.scanQuery x w o.word pick q
        let d := d.addCounts o.cap.order o.run.plan o.desc (k0.plus k)
        let s : ScanRun := { capsule := o.cap.order, desc := o.desc, index := x, cells := cellsOf l, next := 0, offers := [], rows := [],
                             threshold := none, sentAt := none, inFlight := [], received := [], query := q, found := [], nan := 0, abandoned := 0, met := 0,
                             triggered := 0, skipped := 0 }
        (.waits, d.setSearch { d.search with scans := d.search.scans ++ [s] })

/-- SCAN; one whose list triggers nothing is over at once. -/
def execScan (capsule desc : Nat) (s : State) : Out :=
  devStep (fun c d => (runOp (fun w => dcOp w == 0x31) true opScan capsule desc c d).scanAdvance c capsule desc) s

/-! ### Records to candidates (R296–R298) -/

/-- The bank and bank address of an entry's offset; none where the entry word is no place of the stripe. -/
def Dev.entryPlace (d : Dev) (w cell bank off : Nat) : Option (Nat × Nat) :=
  let exchange := ((d.bankRegion bank).map rgExchange).getD 0
  if exchange = 0 then some (bank, off)
  else
    let member := bits off 31 27 + bits off 3 0 * 32
    if bit off 4 || decide (2 ^ ixStripeLog w ≤ member) then none
    else some (stripeBank (ixStripeLog w) (ixCellStripe w cell) member, bits off 26 5 * 32)

/-- The segments of a cell in a bank in which a scan may have found an entry: those of its chain, and a source that consolidation has taken out of
the chain but not yet freed (R297, R382, R383). -/
def Dev.scannedSegments (d : Dev) (w cell bank : Nat) : List Nat :=
  ((d.chain w cell bank).map (d.seg bank)) ++
    (d.updates.moves.filter fun m => m.stage == .unlinked && d.index m.index == w && m.cell == cell && m.bank == bank).map (·.header)

/-- The handle of the entry of a cell whose code begins at a bank address (R297); none where there is none (R298). -/
def Dev.handleAtCode (d : Dev) (w cell bank a : Nat) : Option Nat :=
  match (d.scannedSegments w cell bank).find? fun h => decide (sgCode h ≤ a) && decide (a < sgCode h + sgCount h * ixCS w) with
  | none => none
  | some h => if (a - sgCode h) % ixCS w = 0 then some (d.entryHandle w h ((a - sgCode h) / ixCS w)) else none

/-- The candidates of a record; none where an offset is bad. -/
def Dev.recordCands (d : Dev) (w cell bank : Nat) : List (Nat × Nat) → Option (List Cand)
  | [] => some []
  | (score, off) :: l =>
    match d.entryPlace w cell bank off with
    | none => none
    | some (b, a) =>
      match d.handleAtCode w cell b a, Dev.recordCands d w cell bank l with
      | some h, some r => some ((h, score) :: r)
      | _, _ => none

/-- CHANNEL_RESULT_RECORD: the oldest record of a channel's buffer goes to its SCAN; one whose SCAN is gone is discarded (R209). -/
def doChannelResultRecord (stack channel : Nat) (c : Ctx) (d : Dev) : Dev :=
  match tabGetD (16 * stack + channel) [] d.banks.results with
  | [] => d
  | r :: rest =>
    let key := 16 * stack + channel
    let left : Tab (List ResultRecord) := if rest.isEmpty then tabDel key d.banks.results else tabSet key rest d.banks.results
    let d := d.setBanks { d.banks with results := left }
    match d.scanRun? r.capsule r.desc with
    | none => d
    | some s => d.under r.capsule fun d => match d.unroutable (stackRouter r.stack) (tileRouter (d.tileFor r.capsule r.desc)) with
      | some l => (d.logUnroutable c (ixRealm (d.index s.index)) l).endRun c r.capsule stFault r.desc
      | none =>
      if r.fault then d.scanAdvance c r.capsule r.desc
      else
        let w := d.index s.index
        match d.recordCands w ((s.cells.getD (r.tag - 1) (0, 0, 0)).1) (768 * r.stack + r.bank) r.entries with
        | none => d.endRun c r.capsule stBadPlan r.desc
        | some es =>
          (d.modScan r.capsule r.desc fun s => { s with
            found := s.found ++ es, nan := s.nan + r.nan, abandoned := s.abandoned + r.abandoned, met := s.met + r.tombstoned }).scanAdvance
            c r.capsule r.desc

/-- CHANNEL_RESULT_RECORD. -/
def execChannelResultRecord (stack channel : Nat) (s : State) : Out := devStep (doChannelResultRecord stack channel) s

/-! ### FILTER (R301) -/

/-- Does a row's word satisfy the predicate of a FILTER? -/
def predicate (w : Nat) (set : List Nat) (row : List Byte) : Bool :=
  let x := ofLE ((row.drop (4 * dcP w 18 16)).take 4)
  let k := dcP w 63 32
  let holds := match dcP w 21 19 with
    | 0 => x == k
    | 1 => x != k
    | 2 => decide (x < k)
    | 3 => decide (x ≤ k)
    | 4 => decide (k < x)
    | 5 => decide (k ≤ x)
    | 6 => x &&& k == k
    | _ => set.contains x
  holds != dcPb w 22

/-- The candidates that pass, in order; empty entries are dropped. -/
def Dev.filterCands (d : Dev) (w t : Nat) (set : List Nat) : List Cand → Nat × List Cand × Dev
  | [] => (stOk, [], d)
  | e :: l =>
    if e.1 = emptyHandle then Dev.filterCands d w t set l
    else
      let (st, row, d) := d.lookupRow t (e.1 % 2 ^ 32)
      if st != stOk then (st, [], d)
      else
        let (st, r, d) := Dev.filterCands d w t set l
        (st, if predicate w set row then e :: r else r, d)

/-- FILTER. -/
def opFilter (_c : Ctx) (d : Dev) (o : OpCtx) : OpResult × Dev :=
  let t := dcP o.word 15 0 % 0x1000
  if !d.tableServes t then (.stops stBusy, d)
  else
    let (l, d) := d.inputD o 0
    let (set, d) := d.inputD o 1
    let h := listHead l
    let (st, es, d) := d.filterCands o.word t set.elems (listEntries l)
    let cap := dimAt (o.outDims 0) 1 - 4
    if st != stOk then (.stops st, d)
    else if cap < es.length && !streamingList o.plan.image (dcOut o.word 0) then (.stops stBadArg, d)
    else (o.answer (listTensor (Header.raw es.length h.order h.dup h.nan) es cap), d)

/-- FILTER. -/
def execFilter (capsule desc : Nat) (s : State) : Out := devStep (runOpCode 0x33 opFilter capsule desc) s

/-! ### Thresholds (R124–R126, R183) -/

/-- The candidates that have reached a SELECT on one of its inputs: those of a SCAN at work, through a FILTER where there is one, or of a
list already written. -/
def Dev.arrived (d : Dev) (o : OpCtx) (t : Nat) : List Cand :=
  let im := o.plan.image
  match producer im t with
  | none => []
  | some i =>
    match tabGet t o.run.values with
    | some v => listEntries v
    | none =>
      if dcOp (imDesc im i) = 0x31 then ((d.scanRun? o.cap.order i).map fun s => s.found).getD []
      else if dcOp (imDesc im i) = 0x33 then
        match producer im (dcIn (imDesc im i) 0) with
        | some j =>
          let found := ((d.scanRun? o.cap.order j).map fun s => s.found).getD []
          let set := ((d.input { o with desc := i, word := imDesc im i } 1).1.map fun v => v.elems).getD []
          (d.filterCands (imDesc im i) (dcP (imDesc im i) 15 0 % 0x1000) set found).2.1
        | none => []
      else []

/-- The score of the k-th entry that a SELECT holds of the candidates that have reached it; none while it holds fewer. -/
def Dev.kthScore (d : Dev) (o : OpCtx) : Option Nat :=
  let k := dcP o.word 16 0
  let order := dcPb o.word 17
  let es := ((dcIns o.word).map fun p => d.arrived o p.2).flatten.filter validCand
  let s := es.foldl (fun (s : Selecting) e => s.arrive order k false e) ⟨[], [], 0, 0⟩
  if k != 0 && s.held.length == k then s.held.getLast?.map (·.2) else none

/-- The stacks that a SCAN's index has stripes on. -/
def Dev.scanStacks (d : Dev) (s : ScanRun) : List Nat :=
  let w := d.index s.index
  distinct ((List.range (ixStripes w)).map fun k => stripeStack (ixStripe w k))

/-- The tile of a descriptor, or a freely chosen one of its group where it has no slot yet (log entry 13). -/
def Dev.someTile (d : Dev) (o : OpCtx) : Nat × Dev :=
  match d.slotOf o.cap.order o.desc with
  | some e => (e.1 / 64, d)
  | none =>
    let l := d.groupTiles o.plan (dcGroup o.word)
    let (i, d) := d.choose l.length
    (l.getD i 0, d)

/-- Did the select unit of a descriptor send its last threshold 64 cycles of its tile ago, or more (R126)? -/
def Dev.thresholdDue (c : Ctx) (d : Dev) (o : OpCtx) (tile : Nat) : Bool :=
  d.search.scans.all fun s => match s.sentAt with
    | some t => s.capsule != o.cap.order || dcP (imDesc o.plan.image s.desc) 31 20 != o.desc ||
        decide (64 * usTicks ≤ (c.now - t) * nth d.power.mhz (tileGroup tile))
    | none => true

/-- THRESHOLD_PUBLISH: the k-th score is sent to the SCANs that name the SELECT as their partner, if it is better than the last: one message
to the memory controller of each stack of the index, behind those sent before (R134, R136), and not within 64 tile cycles of the last (R126). Where no route serves, the capsule ends with
ST_FAULT (R141). -/
def doThresholdPublish (capsule desc : Nat) (c : Ctx) (d : Dev) : Dev :=
  match d.opCtx capsule desc with
  | none => d
  | some o =>
    if dcOp o.word != 0x35 then d
    else match d.kthScore o with
      | none => d
      | some t =>
        let improves (s : ScanRun) : Bool := s.capsule == capsule && dcP (imDesc o.plan.image s.desc) 31 20 == desc &&
          match s.threshold with | none => true | some old => better (dcPb o.word 17) t old
        let scans := d.search.scans.filter improves
        let (tile, d) := d.someTile o
        if !d.thresholdDue c o tile then d
        else match (scans.map d.scanStacks).flatten.findSome? fun k => d.unroutable (tileRouter tile) (stackRouter k) with
        | some l => (d.logUnroutable c o.cap.realm l).endRun c capsule stFault desc
        | none =>
          let sent (s : ScanRun) : ScanRun := { s with
            threshold := some t, sentAt := some c.now, inFlight := s.inFlight ++ (d.scanStacks s).map fun k => (k, t) }
          d.setSearch { d.search with scans := d.search.scans.map fun s => if improves s then sent s else s }

/-- THRESHOLD_PUBLISH. -/
def execThresholdPublish (capsule desc : Nat) (s : State) : Out := devStep (doThresholdPublish capsule desc) s

/-- A score in accumulator units: t × 2^−TH_SE rounded toward the worse side (R183); INT32 saturates. -/
def accThreshold (accFp lower : Bool) (thSE : Int) (t : Nat) : Nat :=
  match (ofF32 t).scale (-thSE) with
  | .nan => if accFp then f32NaN else 0
  | .inf s => if accFp then toF32 (.inf s) else unsigned 32 (if s then -2147483648 else 2147483647)
  | .fin s m e =>
    if accFp then
      -- the FP32 value on the worse side of the exact one
      let b := toF32 (.fin s m e)
      if lower then (if Num.lt (ofF32 b) (.fin s m e) then nextUp b else b)
      else (if Num.lt (.fin s m e) (ofF32 b) then nextDown b else b)
    else
      let v : Int := if 0 ≤ e then (m : Int) * 2 ^ e.toNat else 0
      let q : Int := if 0 ≤ e then (if s then -v else v)
        else
          let n : Int := if s then -(m : Int) else m
          let p : Int := 2 ^ (-e).toNat
          if lower then -((-n) / p) else n / p
      unsigned 32 (clampInt (-2147483648) 2147483647 q).1
where
  /-- The next FP32 value above. -/
  nextUp (b : Nat) : Nat := if b = 0x80000000 ∨ b = 0 then 1 else if b < 2 ^ 31 then b + 1 else b - 1
  /-- The next FP32 value below. -/
  nextDown (b : Nat) : Nat := if b = 0x80000000 ∨ b = 0 then 0x80000001 else if b < 2 ^ 31 then b - 1 else b + 1

/-- The worst accumulator value of an order (R124). -/
def accWorst (accFp lower : Bool) : Nat :=
  if accFp then worst lower else if lower then 0x7FFFFFFF else 0x80000000

/-- TH of a SCAN's sequences on a stack: the conversion of the latest threshold received there, or the worst value. -/
def ScanRun.th (s : ScanRun) (stack : Nat) (accFp lower : Bool) (thSE : Int) : Word :=
  BitVec.ofNat 32 (match tabGet stack s.received with
    | some t => accThreshold accFp lower thSE t
    | none => accWorst accFp lower)

/-- THRESHOLD_RECEIVE: the stack's memory controller takes the threshold sent to it first (R136), and TH of every running sequence of the SCAN on the stack follows (R183), but for those of ABI 2 (R207). -/
def doThresholdReceive (stack capsule desc : Nat) (_c : Ctx) (d : Dev) : Dev :=
  match d.scanRun? capsule desc with
  | none => d
  | some s =>
    match s.inFlight.find? fun m => m.1 == stack with
    | none => d
    | some (_, t) =>
      let s := { s with received := tabSet stack t s.received, inFlight := eraseFirst (fun m => m.1 == stack) s.inFlight }
      let d := d.modScan capsule desc fun _ => s
      let mine := d.banks.triggers.filter fun g => g.capsule == capsule && g.desc == desc && g.stack == stack && g.abi != 2
      let put (r : BankRun) : BankRun :=
        match mine.find? fun g => g.order == r.trigger with
        | some g => { r with engine := { r.engine with th := s.th stack g.accFp g.lowerBetter g.thSE } }
        | none => r
      d.setBanks { d.banks with
        banks := d.banks.banks.map fun e => (e.1, { e.2 with run := e.2.run.map put, saved := e.2.saved.map put })
        triggers := d.banks.triggers.map fun g =>
          if g.capsule = capsule ∧ g.desc = desc ∧ g.stack = stack ∧ g.abi ≠ 2 then { g with th := s.th stack g.accFp g.lowerBetter g.thSE } else g }

/-- THRESHOLD_RECEIVE. -/
def execThresholdReceive (stack capsule desc : Nat) (s : State) : Out := devStep (doThresholdReceive stack capsule desc) s

/-! ### GRAPH_STEP (R307–R312) -/

/-- Bytes of a node. -/
def nodeBytes (w : Nat) : Nat := ceilDiv (16 + ixCS w + 4 * ixDeg w + ixSB w) 64 * 64

/-- A node's bytes, as a number. -/
def Dev.node (d : Dev) (w n : Nat) : Nat := d.t1Num (ixArea w + 4096 + n * nodeBytes w) (nodeBytes w)

/-- A node's handle. -/
def ndHandle (v : Nat) : Nat := byteField v 0 8

/-- Is a node DELETED: by its flag, or by the identifier of the empty handle (R315)? -/
def ndDeleted (v : Nat) : Bool := bit (byteField v 8 4) 0 || handleId (ndHandle v) == 2 ^ 48 - 1

/-- A node's score, and the saturations of dequantising its code (R42). -/
def Dev.nodeScore (d : Dev) (x w : Nat) (pick : Nat → Nat) (q : List Nat) (n : Nat) : Nat × Counts :=
  let v := d.node w n
  let cs := ixCS w
  let blocks (b : Nat) : Nat := byteField v (16 + cs + 4 * ixDeg w + b) 1
  let (c, k) := dequantCode w (d.codeSE x w blocks) (byteField v 16 cs)
  (metricScore (ixMetric w) pick q c, k)

/-- The nodes among U32 numbers that exist, none twice. -/
def validNodes (w : Nat) (l : List Nat) : List Nat := validCells w l

/-- The visited bit of a number (R311). -/
def visitedBit (w n : Nat) : Nat := if ixKind w = 1 then n else n * 0x9E3779B1 % 2 ^ 32 / 4096

/-- A frontier under way: entries (number, score, expanded), visited bits as one number, steps taken, what the counters gain. -/
structure Frontier where
  list : List (Nat × Nat × Bool)
  visited : Nat
  steps : Nat
  counts : Counts
deriving DecidableEq, Repr

/-- New numbers scored into the frontier: those whose visited bit is not set. -/
def Frontier.batch (w cap : Nat) (score : Nat → Nat × Counts) (f : Frontier) (l : List Nat) : Frontier :=
  l.foldl (fun f n =>
    let b := visitedBit w n
    if f.visited.testBit b then f
    else
      let (s, k) := score n
      { f with
        visited := f.visited ||| 2 ^ b
        list := ((Walk.mk f.list []).insert (ixLower w) cap n s).list
        counts := f.counts.plus k }) f

/-- Steps of a walk over a frontier, each charged before; false, with the frontier so far, where a charge was refused. -/
def Frontier.walk (w cap : Nat) (score : Nat → Nat × Counts) (nb : Nat → List Nat) (charge : Dev → Bool × Dev) :
    Nat → Frontier → Dev → Bool × Frontier × Dev
  | 0, f, d => (true, f, d)
  | steps + 1, f, d =>
    match f.list.find? fun e => !e.2.2 with
    | none => (true, f, d)
    | some (n, _, _) =>
      match charge d with
      | (false, d) => (false, f, d)
      | (true, d) =>
        let f : Frontier := { f with steps := f.steps + 1, list := f.list.map fun e => if e.1 = n then (e.1, e.2.1, true) else e }
        Frontier.walk w cap score nb charge steps (f.batch w cap score (nb n)) d

/-- The frontier of a tensor (R309). -/
def frontierOf (t : Tensor) (cap : Nat) : Frontier :=
  let row (r : Nat) (i : Nat) : Nat := nth t.elems (4 * r + i)
  ⟨(List.range (row 0 0)).map fun i => (row (i + 1) 0, row (i + 1) 1, bit (row (i + 1) 2) 0),
   ofElems 4 ((t.elems.drop (4 * (1 + cap))).take 32768), row 0 2, .none⟩

/-- The tensor of a frontier; a number that `deleted` marks has bit 1 of its flags. -/
def Frontier.tensor (f : Frontier) (cap : Nat) (deleted : Nat → Bool) : Tensor :=
  ⟨[4, 1 + cap + 8192, 1, 1],
    [f.list.length, cap, f.steps % 2 ^ 32, 1] ++
    (f.list.map fun e => [e.1, e.2.1, b2n e.2.2 + 2 * b2n (deleted e.1), 0]).flatten ++
    List.replicate (4 * (cap - f.list.length)) 0 ++ toElems 4 32768 f.visited⟩

/-- The cells or nodes of a frontier, as the walk reads them (R203). -/
def Dev.frontierSeen (d : Dev) (w : Nat) (f : Frontier) : Dev :=
  if ixKind w = 1 then d.cellsSeen w (f.list.map (·.1))
  else f.list.foldl (fun d e => d.t1Seen (ixArea w + 4096 + e.1 * nodeBytes w) (nodeBytes w)) d

/-- GRAPH_STEP. -/
def opGraphStep (_c : Ctx) (d : Dev) (o : OpCtx) : OpResult × Dev :=
  let x := o.indexSlot
  let w := d.index x
  if !d.indexServes x then (.stops stBusy, d)
  else
    let ((q, k0), d) := d.queryOf o 0
    let (t, d) := d.inputD o 1
    if ixKind w == 1 && ixMetric w == 2 && zeroVector q then d.stopsWith o stBadArg k0
    else
      let cap := dimAt t.dims 1 - 8193
      let span := 8 * ixDim w
      let (pick, d) := d.pick (span * (ixCount w + 1))
      let q := if ixMetric w = 2 then unitOfVector pick q else q
      let own (n : Nat) : Nat → Nat := fun i => pick (span * (n + 1) + i)
      let score (n : Nat) : Nat × Counts := if ixKind w = 1 then (d.bound w (own n) q n, .none) else d.nodeScore x w (own n) q n
      let nb (n : Nat) : List Nat :=
        if ixKind w = 1 then d.cellNeighbours w n
        else validNodes w (toElems 4 (ixDeg w) (byteField (d.node w n) (16 + ixCS w) (4 * ixDeg w)))
      let charge (d : Dev) : Bool × Dev :=
        if ixKind w = 1 then d.charge o.cap.order 0 32 else d.charge o.cap.order 1 (ixDeg w)
      let f := frontierOf t cap
      let seeds := d.entryCells w
      let (ok, d) : Bool × Dev := if f.list.isEmpty && ixKind w == 1 then d.charge o.cap.order 0 seeds.length else (true, d)
      if !ok then d.stopsWith o stBudget k0
      else
        let f : Frontier := if f.list.isEmpty then f.batch w cap score seeds else f
        match f.walk w cap score nb charge (dcP o.word 27 20) d with
        | (false, f, d) => d.stopsWith o stBudget (k0.plus f.counts)
        | (true, (f : Frontier), d) =>
          let d := d.frontierSeen w f
          let deleted (n : Nat) : Bool := ixKind w == 2 && ndDeleted (d.node w n)
          let rows := dimAt (o.outDims 1) 1
          let live : List (Nat × Nat × Bool) := f.list.filter fun (e : Nat × Nat × Bool) => !deleted e.1
          let second : Tensor :=
            if ixKind w = 1 then
              let s : Walk := ⟨f.list, []⟩
              cellListTensor (rows - 1) (d.chosenCells w (rows - 1) s) false (decide (f.list.length < rows - 1))
            else listTensor (Header.raw live.length (ixLower w) 0 0) (live.map fun (e : Nat × Nat × Bool) => (ndHandle (d.node w e.1), e.2.1)) (rows - 4)
          if ixKind w == 2 && dcOut o.word 1 != noOperand && decide (rows - 4 < live.length) &&
              !streamingList o.plan.image (dcOut o.word 1) then d.stopsWith o stBadArg (k0.plus f.counts)
          else (.done (o.put 0 (f.tensor cap deleted) ++ o.put 1 second) (k0.plus f.counts),
            d.modIndex x fun k => { k with scans := satAdd 64 k.scans 1 })

/-- GRAPH_STEP. -/
def execGraphStep (capsule desc : Nat) (s : State) : Out := devStep (runOpCode 0x32 opGraphStep capsule desc) s

end Sys2Proof.Machine
end

