-- ==== Sys2Proof/Machine/Attention.lean ====
section
/-! DEFINITION. ATTEND, KV_APPEND and VERIFY_TREE over KV pools (10_attention_and_kv). -/

namespace Sys2Proof.Machine

/-! ### Claims (R433) -/

/-- A pool serves (R417). -/
def Dev.poolServes (d : Dev) (k : Nat) : Bool := (d.poolState k).state == 2

/-- The claim of an instance on a sequence. -/
def Dev.claim? (d : Dev) (capsule k q : Nat) : Option Claim :=
  d.kv.claims.find? fun c => c.capsule == capsule && c.pool == k && c.seq == q

/-- A claim changed. -/
def Dev.modClaim (d : Dev) (capsule k q : Nat) (f : Claim → Claim) : Dev :=
  d.setKv { d.kv with claims := d.kv.claims.map fun c => if c.capsule = capsule ∧ c.pool = k ∧ c.seq = q then f c else c }

/-- The columns with WRITER claimed, in order; false where another instance holds one (R433). -/
def Dev.claimAll (d : Dev) (capsule k : Nat) : List Column → Bool × Dev
  | [] => (true, d)
  | c :: l =>
    if !c.writer || (d.claim? capsule k c.seq).isSome then Dev.claimAll d capsule k l
    else
      let h := d.seqHead k c.seq
      if sqClaimed h then (false, d.modPool k fun s => { s with conflicts := satAdd 64 s.conflicts 1 })
      else
        let d := d.putSeqHead k c.seq (setBits h 38 38 1)
        Dev.claimAll (d.setKv { d.kv with claims := d.kv.claims ++ [⟨k, c.seq, capsule, sqN h, sqPages h, 0, [], none⟩] }) capsule k l

/-- What an operator on a pool finds before its work: the page table's columns, or the status that ends the capsule. -/
def Dev.openTable (d : Dev) (o : OpCtx) (slot : Nat) (rows : Option Nat) (writers : Bool) : Nat × List Column × Dev :=
  let k := o.poolSlot
  if !d.poolServes k then (stBusy, [], d)
  else
    let (t, d) := d.inputD o slot
    let cols := columnsOf t
    if tableBad cols (plSeqs (d.pool k)) rows || (writers && cols.any fun c => !c.writer) then (stBadArg, [], d)
    else match (cols.foldl (fun d c => d.t1Seen (d.seqAt k c.seq) 32) d).claimAll o.cap.order k cols with
      | (false, d) => (stBusy, [], d)
      | (true, d) => (stOk, cols, d)

/-! ### Head vectors in pages (R419, R429) -/

/-- The format of a pool's codes. -/
def plFmt' (w : Nat) : Fmt := if plFmt w = 11 then .q8 else .q4

/-- The key (or value) of a cached token at a layer and head, as BF16 bits, with the saturations of dequantising it. -/
def Dev.headVector (d : Dev) (k p layer head token : Nat) (key : Bool) : List Nat × Nat :=
  let w := d.pool k
  let (kc, ke, vc, ve) := vectorAt w (pgSize (d.page k p)) layer head token
  let a := d.pageData k p
  let codes := unpack (plFmt' w) (plDh w) (d.t1Num (a + (if key then kc else vc)) (plCS w))
  let ses := toElems 1 (plSB w) (d.t1Num (a + (if key then ke else ve)) (plSB w))
  let rs := codes.mapIdx fun i r => dequantFloat .bf16 (signed (plFmt' w).width r) (signed 8 (nth ses (i / 32)))
  (rs.map (·.1), (rs.filter (·.2)).length)

/-- FP32 bits rounded to BF16 bits. -/
def toBf16 (x : Nat) : Nat := (encodeFloat .bf16 true (ofF32 x)).1
/-- BF16 bits as FP32 bits. -/
def ofBf16 (x : Nat) : Nat := x * 65536

/-- A row of BF16 bits rotated at a position by a pool's rule (R428; log entry 16). -/
def rotateRow (w pos : Nat) (xs : List Nat) : List Nat :=
  if plRope w = 0 then xs else (ropeRow (plRope w) (plTheta w) pos (xs.map ofBf16)).map toBf16

/-- The elements of a rotated row whose FP32 result lies above BF16's largest value: they saturate and count (R48). -/
def rotateSats (w pos : Nat) (xs : List Nat) : Nat :=
  if plRope w = 0 then 0
  else (ropeRow (plRope w) (plTheta w) pos (xs.map ofBf16)).countP fun x => (encodeFloat .bf16 true (ofF32 x)).2

/-- The dot product of the matrix unit on BF16 operands: passes of 32 exact products, each rounded once and added in FP32 (R115). -/
def passDot (pick : Nat → Nat) (xs ys : List Nat) : Nat :=
  let ps := chunks 32 (xs.length + 1) (xs.zip ys)
  (orderedBy pick ps.length ps).foldl (fun acc p =>
    f32Add acc (toF32 ((p.map fun q => (decodeFloat .bf16 q.1).mul (decodeFloat .bf16 q.2)).foldl Num.add (.zero true)))) 0

/-! ### ATTEND (R426–R431) -/

/-- A step tensor: rows of heads of DH BF16 elements, by (row, head). -/
def headRow (t : Tensor) (dh heads r h : Nat) : List Nat := (t.elems.drop ((r * heads + h) * dh)).take dh

/-- A node's own number and its ancestors'. -/
def ancestors (parent : Nat → Nat) : Nat → Nat → List Nat
  | 0, n => [n]
  | fuel + 1, n => if n = 0 then [0] else n :: ancestors parent fuel (parent n)

/-- Is a step row of a tree column padding (R427)? -/
def AttendCol.padding (a : AttendCol) (r : Nat) : Bool := a.tree && decide (a.nodes < r)

/-- The position of a step row (R427). -/
def AttendCol.pos (a : AttendCol) (r : Nat) : Nat := a.n + (if a.tree then nth a.depths r else r)

/-- The step rows that row r sees (R427). -/
def AttendCol.seesStep (a : AttendCol) (fused causal : Bool) (r : Nat) : List Nat :=
  if !fused then []
  else if a.tree then ancestors (nth a.parents) 9 r
  else if causal then List.range (r + 1) else List.range a.step

/-- One head's output for a row: the scores of what it sees, the streaming softmax, the weighted sum (R429, R430). -/
def attendHead (pick : Nat → Nat) (scale : Nat) (q : List Nat) (kvs : List (List Nat × List Nat)) (dh : Nat) : List Nat :=
  let n := dh + 1
  let scores := kvs.mapIdx fun i kv => f32Mul scale (passDot (fun j => pick (n * i + j)) q kv.1)
  if scores.isEmpty then List.replicate dh 0
  else if scores.all f32IsNaN then List.replicate dh f32NaN
  else
    let m := rowMax scores
    let es := scores.map fun x => fnExp (f32Sub x m)
    let o := n * kvs.length
    let s := f32SumBy (fun j => pick (o + j)) es
    let ws := es.map toBf16
    (List.range dh).map fun i =>
      f32Quot (ofF32 (passDot (fun j => pick (o + (2 + i) * kvs.length + j)) ws (kvs.map fun kv => nth kv.2 i))) (ofF32 s)

/-- 1/√DH as FP32. -/
def invSqrtDh (dh : Nat) : Nat := if dh = 64 then 0x3E000000 else if dh = 128 then 0x3DB504F3 else 0x3D800000

/-- The page headers and pages that the views of an ATTEND read (R203). -/
def Dev.viewsSeen (d : Dev) (k : Nat) (views : List AttendCol) : Dev :=
  ((views.map fun a => a.pages).flatten).foldl (fun d p =>
    (d.t1Seen (d.pageAt k p) 64).t1Seen (d.pageData k p) (2 ^ (pgSize (d.page k p) - 4) * plGB (d.pool k))) d

/-- One step row of a column: every query head's output, and the saturations of dequantising what it reads. -/
def Dev.attendRow (d : Dev) (pick : Nat → Nat) (o : OpCtx) (layer : Nat) (t : Tensor) (a : AttendCol) (r : Nat) : List Nat :=
  let k := o.poolSlot
  let w := d.pool k
  let dh := plDh w
  let hq := dcP o.word 29 22
  let heads := if dcPb o.word 20 then hq + 2 * plHkv w else hq
  let scale := if dcP o.word 63 32 = 0 then invSqrtDh dh else dcP o.word 63 32
  if a.padding r then List.replicate (hq * dh) 0
  else
    let cached := a.cached.filterMap fun c => d.tokenPlace k a.pages c
    let steps := a.seesStep (dcPb o.word 20) (dcPb o.word 21) r
    let span := (dh + 4) * (cached.length + steps.length + 1) * 2
    ((List.range hq).map fun h =>
      let kv := h * plHkv w / hq
      let q := rotateRow w (a.pos r) (headRow t dh heads (a.base + r) h)
      let old := cached.map fun p => ((d.headVector k p.1 layer kv p.2 true).1, (d.headVector k p.1 layer kv p.2 false).1)
      let new := steps.map fun s =>
        (rotateRow w (a.pos s) (headRow t dh heads (a.base + s) (hq + kv)), headRow t dh heads (a.base + s) (hq + plHkv w + kv))
      attendHead (fun i => pick (span * h + i)) scale q (old ++ new) dh).flatten

/-- The saturations of dequantising the cached keys and values of a column, once each. -/
def Dev.attendSats (d : Dev) (k layer : Nat) (a : AttendCol) : Nat :=
  sumOf ((a.cached.filterMap fun c => d.tokenPlace k a.pages c).map fun p =>
    sumOf ((List.range (plHkv (d.pool k))).map fun h =>
      (d.headVector k p.1 layer h p.2 true).2 + (d.headVector k p.1 layer h p.2 false).2))

/-- The saturations of converting a column's rotated queries, and with FUSED its rotated keys, to BF16, once each (R48, R428). -/
def rotationSats (o : OpCtx) (w : Nat) (t : Tensor) (a : AttendCol) : Nat :=
  let hq := dcP o.word 29 22
  let fused := dcPb o.word 20
  let rotated := hq + if fused then plHkv w else 0
  sumOf (((List.range a.step).filter fun r => !a.padding r).map fun r => sumOf ((List.range rotated).map fun h =>
    rotateSats w (a.pos r) (headRow t (plDh w) (if fused then hq + 2 * plHkv w else hq) (a.base + r) h)))

/-- ATTEND. Which of a pool's layers it reads is stated nowhere: a free choice (log entry 21). -/
def opAttend (_c : Ctx) (d : Dev) (o : OpCtx) : OpResult × Dev :=
  let k := o.poolSlot
  let w := d.pool k
  let (t, d) := d.inputD o 0
  match d.openTable o 1 (some (dimAt t.dims 2)) false with
  | (st, cols, d) =>
    if st != stOk then (.stops st, d)
    else
      let (win, d) := d.input o 2
      let views := d.attendCols k cols win (tabGetD o.desc [] o.run.views)
      let hq := dcP o.word 29 22
      let (layer, d) := (d.viewsSeen k views).choose (plLayers w)
      let rows := (views.map fun a => (List.range a.step).map fun r => (a, r)).flatten
      let span := rows.foldl (fun m (e : AttendCol × Nat) => max m (hq * (plDh w + 4) * (e.1.n + e.1.step + 1) * 2)) 1
      let (pick, d) := d.pick (span * rows.length)
      let out := (rows.mapIdx fun i e => d.attendRow (fun j => pick (span * i + j)) o layer t e.1 e.2).flatten
      let empty := (rows.filter fun e => !e.1.padding e.2 && e.1.cached.isEmpty && (e.1.seesStep (dcPb o.word 20) (dcPb o.word 21) e.2).isEmpty).length
      let d := d.modPool k fun s => { s with emptyRows := satAdd 64 s.emptyRows empty }
      let sats := sumOf (views.map fun a => d.attendSats k layer a + rotationSats o w t a)
      let (v, cs, d) := d.writeOut o (dcOut o.word 0) [plDh w, hq, rows.length, 1] (out.map ofF32)
      (.done (o.put 0 v) (cs.plus ⟨sats, 0⟩), d)

/-- ATTEND. -/
def execAttend (capsule desc : Nat) (s : State) : Out := devStep (runOpCode 0x18 opAttend capsule desc) s

/-! ### KV_APPEND (R432–R437) -/

/-- The rows that a column appends. -/
def Column.appended (c : Column) : List Nat :=
  if c.accepted then (c.rows.take c.append).map Int.toNat else List.range c.step

/-- Page sizes to try for new tokens (R437): the smallest allowed size that is at least a number, held to the largest, then the smaller ones. -/
def Dev.sizesFor (d : Dev) (k n : Nat) : List Nat :=
  let l := (List.range 13).filter (d.sizeAllowed k)
  let s := (l.find? fun s => decide (n ≤ 2 ^ s)).getD (l.getLastD 4)
  (l.filter fun x => decide (x ≤ s)).reverse

/-- New pages for tokens of a claimed sequence, from token `t` on; none where no page can be had (R436, R437). -/
def Dev.addPages (d : Dev) (capsule k q base t left : Nat) : Nat → Bool × Dev
  | 0 => (left == 0, d)
  | fuel + 1 =>
    if left = 0 then (true, d)
    else match d.claim? capsule k q with
      | none => (false, d)
      | some c =>
        if 56 ≤ c.basePages + c.pages.length then (false, d)
        else match d.getPage k (d.sizesFor k (max base left)) with
          | (none, d) => (false, d)
          | (some (s, p), d) =>
            let d := d.putPage k p (pageHeader s 1 (plRealm (d.pool k)) t)
            let d := d.putSeqPage k q (c.basePages + c.pages.length) p
            let d := d.modClaim capsule k q fun c => { c with pages := c.pages ++ [p] }
            Dev.addPages d capsule k q base (t + 2 ^ s) (left - 2 ^ s) fuel

/-- Room in the last published page of a sequence, from its FILL on (R436). -/
def Dev.lastRoom (d : Dev) (k q : Nat) : Nat :=
  match (d.seqPageList k q).getLast? with
  | some p => let h := d.page k p; 2 ^ pgSize h - pgFill h
  | none => 0

/-- Slots for the tokens that an instance appends to a sequence: taken by its first KV_APPEND, found by the others. -/
def Dev.stage (d : Dev) (capsule k q n : Nat) : Bool × Dev :=
  match d.claim? capsule k q with
  | none => (false, d)
  | some c =>
    if c.appended != 0 then (true, d)
    else
      let room := min (d.lastRoom k q) n
      let (ok, d) := d.addPages capsule k q c.base (c.base + room) (n - room) 57
      (ok, d.modClaim capsule k q fun c => { c with appended := n })

/-- A vector quantised per block of 32 (R435): its codes and exponents as numbers, and what the counters gain. -/
def quantiseHead (w : Nat) (xs : List Nat) : Nat × Nat × Counts :=
  let f := plFmt' w
  let bs := chunks 32 (xs.length + 1) (xs.map (decodeFloat .bf16))
  let ses := bs.map fun b => autoExponent f.qmax (largestFinite b)
  let rs := (bs.mapIdx fun i b => b.map (quantise f (ses.getD i 0))).flatten
  (packElems f (rs.map fun r => unsigned f.width r.1), ofElems 1 (ses.map (unsigned 8)), rs.foldl (fun k r => k.plus r.2) .none)

/-- One token's key and value of a head stored in its page at a layer. -/
def Dev.putToken (d : Dev) (k : Nat) (pages : List Nat) (layer head t : Nat) (key value : List Nat) : Counts × Dev :=
  let w := d.pool k
  match d.tokenPlace k pages t with
  | none => (.none, d)
  | some (p, i) =>
    let (kc, ke, vc, ve) := vectorAt w (pgSize (d.page k p)) layer head i
    let a := d.pageData k p
    let (c1, e1, n1) := quantiseHead w key
    let (c2, e2, n2) := quantiseHead w value
    (n1.plus n2, (((d.t1Put (a + kc) (plCS w) c1).t1Put (a + ke) (plSB w) e1).t1Put (a + vc) (plCS w) c2).t1Put (a + ve) (plSB w) e2)

/-- The tokens of one column stored at a layer. -/
def Dev.appendColumn (d : Dev) (o : OpCtx) (kt vt : Tensor) (cols : List Column) (b : Nat) (c : Column) : Counts × Dev :=
  let k := o.poolSlot
  let w := d.pool k
  let dh := plDh w
  let fused := dcPb o.word 24
  let hq := dcP o.word 32 25
  let heads := if fused then hq + 2 * plHkv w else plHkv w
  match d.claim? o.cap.order k c.seq with
  | none => (.none, d)
  | some cl =>
    let pages := d.seqPageList k c.seq ++ cl.pages
    let work := (c.appended.mapIdx fun j r => (List.range (plHkv w)).map fun h => (j, r, h)).flatten
    work.foldl (fun (s : Counts × Dev) e =>
      let (j, r, h) := e
      let row := firstRow cols b + r
      let given := headRow kt dh heads row (if fused then hq + h else h)
      let key := rotateRow w (cl.base + j) given
      let value := headRow vt dh heads row (if fused then hq + plHkv w + h else h)
      let (n, d) := s.2.putToken k pages (dcP o.word 23 16) h (cl.base + j) key value
      (s.1.plus (n.plus ⟨rotateSats w (cl.base + j) given, 0⟩), d)) (.none, d)

/-- Slots staged for every column, in order. -/
def Dev.stageAll (d : Dev) (capsule k : Nat) : List Column → Bool × Dev
  | [] => (true, d)
  | c :: l =>
    match d.stage capsule k c.seq c.appended.length with
    | (false, d) => (false, d)
    | (true, d) =>
      let d : Dev := if c.accepted then d.modClaim capsule k c.seq fun x => { x with pending := some (unsigned 32 c.bonus) } else d
      Dev.stageAll d capsule k l

/-- KV_APPEND. -/
def opKvAppend (_c : Ctx) (d : Dev) (o : OpCtx) : OpResult × Dev :=
  let k := o.poolSlot
  let (kt, d) := d.inputD o 0
  let (vt, d) := d.inputD o 1
  match d.openTable o 2 (some (dimAt kt.dims 2)) true with
  | (st, cols, d) =>
    if st != stOk then (.stops st, d)
    else match d.stageAll o.cap.order k cols with
      | (false, d) => (.stops stNoSpace, d)
      | (true, d) =>
        let (n, d) := (cols.mapIdx fun b c => (b, c)).foldl (fun (s : Counts × Dev) e =>
          let (n, d) := s.2.appendColumn o kt vt cols e.1 e.2
          (s.1.plus n, d)) (.none, d)
        (.done [] n, d)

/-- KV_APPEND. -/
def execKvAppend (capsule desc : Nat) (s : State) : Out := devStep (runOpCode 0x51 opKvAppend capsule desc) s

/-! ### VERIFY_TREE BUILD (R440, R441) -/

/-- A node of a draft tree as it grows. -/
structure TreeNode where
  token : Nat
  parent : Nat
  depth : Nat
  draft : Nat
  endDraft : Nat
deriving DecidableEq, Repr

/-- The child of a node with a token. -/
def childOf (nodes : List TreeNode) (u t : Nat) : Option Nat :=
  (List.range nodes.length).find? fun i => i != 0 && match nodes[i]? with | some n => n.parent == u && n.token == t | none => false

/-- The walk of a draft along the tree as far as it goes: the node reached and the tokens left. -/
def followDraft (nodes : List TreeNode) : Nat → List Nat → Nat × List Nat
  | u, [] => (u, [])
  | u, t :: l => match childOf nodes u t with | some c => followDraft nodes c l | none => (u, t :: l)

/-- New nodes for the tokens left of a draft, under node u. -/
def growDraft (d : Nat) (nodes : List TreeNode) : Nat → List Nat → List TreeNode × Nat
  | u, [] => (nodes, u)
  | u, t :: l =>
    let n : TreeNode := ⟨t, u, ((nodes[u]?).map fun x => x.depth).getD 0 + 1, d, 0xFF⟩
    growDraft d (nodes ++ [n]) nodes.length l

/-- One draft added, or left out (R441). -/
def addDraft (s : List TreeNode × Nat) (d : Nat) (draft : List Nat) : List TreeNode × Nat :=
  if draft.isEmpty then (s.1, s.2 + 1)
  else
    let (u, rest) := followDraft s.1 0 draft
    if 64 < s.1.length - 1 + rest.length then (s.1, s.2 + 1)
    else
      let (nodes, u) := growDraft d s.1 u rest
      (nodes.modify u fun n => if n.endDraft = 0xFF then { n with endDraft := d } else n, s.2)

/-- A tree from its root token and drafts, with the drafts left out. -/
def buildTree (root : Nat) (drafts : List (List Nat)) : List TreeNode × Nat :=
  (drafts.mapIdx fun i t => (i, t)).foldl (fun s e => addDraft s e.1 e.2) ([⟨root, 0, 0, 0, 0xFF⟩], 0)

/-- The word of a tree node. -/
def TreeNode.word (n : TreeNode) : Nat := n.token + n.parent * 2 ^ 32 + n.depth * 2 ^ 40 + n.draft * 2 ^ 48 + n.endDraft * 2 ^ 56

/-- A draft's tokens up to its first negative one. -/
def draftTokens (l : List Nat) : List Nat := l.takeWhile fun t => decide (t < 2 ^ 31)

/-- The drafts of a candidate list (R440): rows of TABLE; one served the default row has no token. -/
def Dev.listDrafts (d : Dev) (t : Nat) : List Cand → Nat × List (List Nat) × Dev
  | [] => (stOk, [], d)
  | e :: l =>
    let (st, f, bs, d) := d.readRow t (d.tableState t).epoch (e.1 % 2 ^ 32)
    if st != stOk then (st, [], d)
    else
      let d := d.countServed t 1 f
      let (st, r, d) := Dev.listDrafts d t l
      (st, (if f = .present then draftTokens (toElems 4 8 (ofLE bs)) else []) :: r, d)

/-- A built tree stored in its sequence record. -/
def Dev.storeTree (d : Dev) (k q : Nat) (nodes : List TreeNode) (left : Nat) : Dev :=
  let d := (nodes.mapIdx fun i n => (i, n)).foldl (fun d e => d.t1Put (d.seqAt k q + 256 + 8 * e.1) 8 e.2.word) d
  let h := d.seqHead k q
  let d := d.putSeqHead k q (setBits (setBits (setBits h 39 39 1) 55 48 (nodes.length - 1)) 63 56 left)
  d.modPool k fun s => { s with draftsLeft := satAdd 64 s.draftsLeft left }

/-- The trees of the columns, in order. -/
def Dev.buildAll (d : Dev) (k : Nat) : List (Column × List (List Nat)) → Option (List Nat) × Dev
  | [] => (some [], d)
  | (c, drafts) :: l =>
    let root := sqPending (d.seqHead k c.seq)
    if root = 0xFFFFFFFF then (none, d)
    else
      let (nodes, left) := buildTree root drafts
      match Dev.buildAll (d.storeTree k c.seq nodes left) k l with
      | (some r, d) => (some (nodes.map (fun n => n.token) ++ List.replicate (65 - nodes.length) 0xFFFFFFFF ++ r), d)
      | (none, d) => (none, d)

/-- VERIFY_TREE with MODE 0. -/
def opTreeBuild (_c : Ctx) (d : Dev) (o : OpCtx) : OpResult × Dev :=
  let k := o.poolSlot
  match d.openTable o 1 none true with
  | (st, cols, d) =>
    if st != stOk then (.stops st, d)
    else
      let (t, d) := d.inputD o 0
      let slot := dcP o.word 47 32 - 0x2000
      if dcPb o.word 17 && (cols.length != 1 || !d.tableServes slot) then (.stops (if cols.length != 1 then stBadArg else stBusy), d)
      else
        let (st, drafts, d) := if dcPb o.word 17 then
            let (st, l, d) := d.listDrafts slot (((listEntries t).take 64).filter fun e => e.1 != emptyHandle)
            (st, [l], d)
          else (stOk, (chunks 512 (t.elems.length + 1) t.elems).map fun b => (chunks 8 65 b).map draftTokens, d)
        if st != stOk then (.stops st, d)
        else match d.buildAll k (cols.mapIdx fun b c => (c, drafts.getD b [])) with
          | (none, d) => (.stops stBadArg, d)
          | (some els, d) => (o.answer ⟨[65, cols.length, 1, 1], els⟩, d)

/-- VERIFY_TREE_BUILD. -/
def execVerifyTreeBuild (capsule desc : Nat) (s : State) : Out :=
  devStep (runOp (fun w => dcOp w == 0x50 && !dcPb w 16) false opTreeBuild capsule desc) s

/-! ### VERIFY_TREE ACCEPT (R442–R444) -/

/-- The highest non-NaN logit of a row, the lowest token between equals. -/
def argmax (row : List Nat) : Option Nat :=
  (List.range row.length).foldl (fun best i =>
    let x := row.getD i f32NaN
    if f32IsNaN x then best
    else match best with
      | none => some i
      | some b => if f32Lt (row.getD b f32NaN) x then some i else best) none

/-- The child that a walk takes from node u (R443). -/
def nextChild (nodes : List Nat) (count : Nat) (constrained : Bool) (row : List Nat) (u : Nat) : Option Nat :=
  let kids := (List.range (count + 1)).filter fun i => i != 0 && tnParent (nth nodes i) == u
  if constrained then
    let score (i : Nat) : Nat := row.getD (tnToken (nth nodes i)) f32NaN
    kids.foldl (fun best i => match best with
      | none => some i
      | some b => if f32Lt (score b) (score i) || (f32IsNaN (score b) && !f32IsNaN (score i)) then some i else best) none
  else match argmax row with
    | some t => kids.find? fun i => tnToken (nth nodes i) == t
    | none => none

/-- The log-probability that one more node adds, in FP32. -/
def logProb (pick : Nat → Nat) (row : List Nat) (t : Nat) : Nat :=
  let m := rowMax row
  f32Sub (f32Sub (row.getD t f32NaN) m) (fnLog (f32SumBy pick (row.map fun x => fnExp (f32Sub x m))))

/-- The walk of R443 from node u: the rows after it, and the log-probability. -/
def acceptWalk (pick : Nat → Nat → Nat) (nodes : List Nat) (count : Nat) (constrained : Bool) (logits : Nat → List Nat) :
    Nat → Nat → Nat → List Nat × Nat
  | 0, _, lp => ([], lp)
  | fuel + 1, u, lp =>
    match nextChild nodes count constrained (logits u) u with
    | none => ([], lp)
    | some c =>
      let (rows, lp) := acceptWalk pick nodes count constrained logits fuel c (f32Add lp (logProb (pick u) (logits u) (tnToken (nth nodes c))))
      (c :: rows, lp)

/-- A column after ACCEPT (R444). -/
def Dev.acceptColumn (d : Dev) (pick : Nat → Nat) (o : OpCtx) (lt : List Nat) (v : Nat) (cols : List Column) (b : Nat) (c : Column) : List Nat :=
  let k := o.poolSlot
  let h := d.seqHead k c.seq
  let nodes := (List.range 65).map (d.treeNode k c.seq)
  let logits (u : Nat) : List Nat := (lt.drop ((firstRow cols b + u) * v)).take v
  let (path, lp) := acceptWalk (fun u i => pick (2 * v * u + i)) nodes (sqNodes h) (dcPb o.word 18) logits 8 0 0
  let rows := 0 :: path
  let u := rows.getLastD 0
  let minus : Nat := 0xFFFFFFFF
  let leaf := tnEnd (nth nodes u)
  [c.seq, c.step, c.flags - (if c.tree then 2 else 0) ||| 4, rows.length] ++ rows ++ List.replicate (9 - rows.length) minus ++
    [(argmax (logits u)).getD minus, if leaf = 0xFF then minus else leaf, lp]

/-- VERIFY_TREE with MODE 1. -/
def opTreeAccept (_c : Ctx) (d : Dev) (o : OpCtx) : OpResult × Dev :=
  let k := o.poolSlot
  let (lt, d) := d.inValuesD o 0
  let v := dimAt lt.1 0
  match d.openTable o 1 (some (volumeOf (lt.1.drop 1))) true with
  | (st, cols, d) =>
    if st != stOk then (.stops st, d)
    else if cols.any fun c => !c.tree || !sqTree (d.seqHead k c.seq) then (.stops stBadArg, d)
    else
      let (pick, d) := d.pick (130 * v * cols.length)
      let (logits, n) := f32Values (o.inFmt 0) lt.2
      let out := cols.mapIdx fun b c => d.acceptColumn (fun i => pick (130 * v * b + i)) o logits v cols b c
      let d := d.modPool k fun s => { s with accepted := satAdd 64 s.accepted (sumOf (out.map fun e => nth e 3 - 1)) }
      (.done (o.put 0 ⟨[16, cols.length, 1, 1], out.flatten⟩) n, d)

/-- VERIFY_TREE_ACCEPT. -/
def execVerifyTreeAccept (capsule desc : Nat) (s : State) : Out :=
  devStep (runOp (fun w => dcOp w == 0x50 && dcPb w 16) false opTreeAccept capsule desc) s

end Sys2Proof.Machine
end

