-- ==== Sys2Proof/Machine/BankDecode.lean ====
section
/-! DEFINITION. The bank engine's instruction words: fields, opcodes, and which words an ABI admits (R171, R172, R177, R207). -/

namespace Sys2Proof.Machine

/-- OP of a bank instruction (R171). -/
def biOp (w : Nat) : Nat := bits w 31 26
/-- D of a bank instruction. -/
def biD (w : Nat) : Nat := bits w 25 23
/-- A of a bank instruction. -/
def biA (w : Nat) : Nat := bits w 22 20
/-- B of a bank instruction. -/
def biB (w : Nat) : Nat := bits w 19 17
/-- M of a bank instruction. -/
def biM (w : Nat) : Nat := bits w 16 12
/-- IMM of a bank instruction. -/
def biImm (w : Nat) : Nat := bits w 11 0

/-- What an opcode uses of its word (*Bank engine instruction set*): D, A, B, the mask of M bits, the mask of IMM bits, and whether IMM is
a TGT. Fields not used are reserved. -/
structure BankForm where
  d : Bool
  a : Bool
  b : Bool
  m : Nat
  imm : Nat
  tgt : Bool
deriving DecidableEq, Repr

/-- The form of each opcode of ABI 3; none for a reserved opcode (R172). SETX uses D and IMM23, so no bit of it is reserved. -/
def bankForm : Nat → Option BankForm
  | 0x00 => some ⟨false, false, false, 0, 0, false⟩
  | 0x01 => some ⟨false, false, false, 0, 0, false⟩
  | 0x02 => some ⟨false, true, false, 0, 0x7FF, true⟩
  | 0x03 => some ⟨false, false, false, 3, 0x7FF, true⟩
  | 0x04 => some ⟨false, false, false, 0, 0, false⟩
  | 0x05 => some ⟨true, true, true, 31, 0xFFF, false⟩
  | 0x06 => some ⟨true, true, true, 1, 0xFFF, false⟩
  | 0x07 => some ⟨false, true, true, 3, 0, false⟩
  | 0x08 => some ⟨true, true, false, 0, 3, false⟩
  | 0x09 => some ⟨true, true, false, 0, 0x3F, false⟩
  | 0x10 => some ⟨false, true, false, 0, 0, false⟩
  | 0x11 => some ⟨true, false, false, 3, 0, false⟩
  | 0x12 => some ⟨true, true, false, 0, 7, false⟩
  | 0x13 => some ⟨false, true, false, 0, 0, false⟩
  | 0x14 => some ⟨false, true, false, 0, 0, false⟩
  | 0x15 => some ⟨true, false, false, 0, 0, false⟩
  | 0x16 => some ⟨false, true, false, 0, 0, false⟩
  | 0x20 => some ⟨true, true, true, 15, 0, false⟩
  | 0x21 => some ⟨false, true, true, 8, 0, false⟩
  | 0x22 => some ⟨false, true, true, 8, 0, false⟩
  | 0x23 => some ⟨false, true, true, 31, 0, false⟩
  | 0x24 => some ⟨true, false, false, 1, 0, false⟩
  | 0x25 => some ⟨false, false, false, 0, 0, false⟩
  | 0x26 => some ⟨false, false, false, 3, 0, false⟩
  | 0x30 => some ⟨false, true, false, 3, 0, false⟩
  | 0x31 => some ⟨false, true, true, 0, 0x7FF, true⟩
  | 0x32 => some ⟨false, true, true, 0, 0, false⟩
  | 0x33 => some ⟨true, false, false, 1, 3, false⟩
  | 0x34 => some ⟨false, true, false, 0, 0, false⟩
  | 0x38 => some ⟨false, false, false, 0, 0, false⟩
  | 0x39 => some ⟨false, true, false, 1, 0, false⟩
  | 0x3A => some ⟨true, false, false, 1, 0, false⟩
  | 0x3B => some ⟨false, true, false, 0, 0x3F, false⟩
  | 0x3C => some ⟨true, false, false, 0, 0, false⟩
  | _ => none

/-- The opcodes that ABI 2 reserves (*ABI 2 differences*, R207). -/
def abi2Reserved (op : Nat) : Bool :=
  op ∈ [0x08, 0x09, 0x13, 0x14, 0x23, 0x26, 0x33, 0x34, 0x3B, 0x3C]

/-- Reserved values of used fields: M[1:0] = 3 of BR and CMPX, the IMM −32 of SHX, M[0] of a streamed DOT (then 0), M[1] of CMPTH
under ABI 2 (R172, R207). -/
def bankValueOk (abi w : Nat) : Bool :=
  let m := biM w
  match biOp w with
  | 0x03 | 0x07 => m % 4 != 3
  | 0x09 => biImm w != 0x20
  | 0x23 => !(bit m 0 && bit m 1)
  | 0x30 => abi != 2 || !(bit m 1)
  | _ => true

/-- Does an ABI admit the word: a defined opcode, no reserved bit set, no reserved value (R177)? An ADDX that takes IMM leaves B unused,
and one that takes B leaves IMM unused. -/
def bankWordOk (abi w : Nat) : Bool :=
  match bankForm (biOp w) with
  | none => false
  | some f =>
    let immForm := biOp w == 0x06 && bit w 12
    !(abi == 2 && abi2Reserved (biOp w)) &&
    (f.d || biD w == 0) && (f.a || biA w == 0) && ((f.b && !immForm) || biB w == 0) &&
    (biM w &&& (31 - f.m)) == 0 &&
    (biImm w &&& (0xFFF - (if biOp w == 0x06 && !immForm then 0 else f.imm))) == 0 && bankValueOk abi w

/-- TGT of a word whose opcode carries one. -/
def bankTarget (w : Nat) : Option Nat :=
  match bankForm (biOp w) with
  | some f => if f.tgt then some (biImm w % 2048) else none
  | none => none

/-- Does the sequence end as R177 asks: END, or a BR that is always taken? -/
def bankLastOk (w : Nat) : Bool := biOp w == 0x01 || (biOp w == 0x03 && biM w % 4 == 0)

/-- Does the word use the chain (SEND, RECV)? -/
def bankUsesChain (w : Nat) : Bool := biOp w == 0x39 || biOp w == 0x3A

/-- Does the word use the engine bus (BUSX, BUSR)? -/
def bankUsesBus (w : Nat) : Bool := biOp w == 0x3B || biOp w == 0x3C

end Sys2Proof.Machine
end

