-- ==== Sys2Proof/Machine/Buffers.lean ====
section
/-! DEFINITION. The buffers of a capsule: device addresses (LOC 0), or the submitter's memory or message (LOC 1; R577, R606). -/

namespace Sys2Proof.Machine

/-- Bits [hi:lo] of a capsule. -/
def Capsule.field (cap : Capsule) (hi lo : Nat) : Nat := bits cap.raw hi lo

/-- RESULT of a capsule that ends before its work (*Completion results*): of an update, record 0 is the lowest one that does not hold
ST_OK, or 0xFFFF stands where it has no records. -/
def emptyResult (cap : Capsule) : Nat := if cap.opcode = 0x10 ∧ cap.field 271 256 = 0 then 0xFFFF else 0

/-- What reading a buffer of a capsule would answer. -/
def Dev.bufStatus (d : Dev) (cap : Capsule) (loc addr len : Nat) : Nat × Dev :=
  if loc = 0 then d.checkRead cap.realm addr len else (stOk, d)

/-- What writing a buffer of a capsule would answer. -/
def Dev.bufWriteStatus (d : Dev) (cap : Capsule) (loc addr len : Nat) : Nat × Dev :=
  if loc = 0 then d.checkWrite cap.realm addr len else (stOk, d)

/-- An advisory non-fatal error logged under AER at a function of a port (R581). -/
def Dev.logAdvisory (d : Dev) (p n : Nat) : Dev :=
  d.modPort p fun k => { k with advisory := if k.advisory.contains n then k.advisory else n :: k.advisory }

/-- Bytes of a capsule's buffer: a checked read of T1 or T2, host memory of the submitting function, or the message's data segments. A read
of host memory that fails gives ST_BAD_ARG, and the port logs it (R581). -/
def Dev.bufRead (d : Dev) (cap : Capsule) (loc addr len : Nat) : Nat × List Byte × Dev :=
  if loc = 0 then d.readAt cap.realm addr len
  else match cap.src with
    | .host p n _ _ _ =>
      if 0 < len ∧ Config.hostReadFails cap.order addr then (stBadArg, [], d.logAdvisory p n) else (stOk, d.hostRead p n addr len, d)
    | .fabric _ _ data => (stOk, leBytes len (data >>> (8 * addr)), d)

/-- Bytes written into a capsule's buffer: those of a host pass its port's egress (R552), and a message's are kept for its COMPLETION. -/
def Dev.bufWrite (c : Ctx) (d : Dev) (cap : Capsule) (loc addr : Nat) (bs : List Byte) : Nat × Dev :=
  if loc = 0 then d.writeAt c cap.realm addr bs
  else match cap.src with
    | .host p n _ _ _ => (stOk, d.postHost p n cap.realm cap.cls addr bs)
    | .fabric .. => (stOk, d.modCapsule cap.order fun k => { k with outData := memPutBytes k.outData addr bs })

end Sys2Proof.Machine
end

