-- ==== Sys2Proof/Machine/Crypto.lean ====
section
/-! DEFINITION. The Keep's standard functions: SHAKE256 and SHA3-512 (FIPS 202), X448 (RFC 7748), Ed448 with an empty context (RFC 8032). -/

namespace Sys2Proof.Machine

/-! ### The sponge of FIPS 202

Its 1,600 bits are one number: five planes of 320 bits, each of five lanes of 64, lane (x, y) at bit 64 × (x + 5 × y). -/

/-- A string of `n` bits turned: what passes its top by `k` places comes in at the bottom. -/
def turn (n k s : Nat) : Nat := let t := s <<< k; t >>> n + t % 2 ^ n

/-- The plane whose lane x is lane x + k of a plane. -/
def ahead (k plane : Nat) : Nat := turn 320 (320 - 64 * k) plane

/-- A number of lanes put together, the first lowest. -/
def lanes (f : Nat → Nat) (n : Nat) : Nat := (List.range n).foldr (fun x s => f x + s <<< 64) 0

/-- Theta: each plane takes the parities of the columns on both sides of its own. -/
def mixColumns (s : Nat) : Nat :=
  let sums := (List.range 5).foldl (fun p y => p ^^^ byteField s (40 * y) 40) 0
  let each := ahead 4 sums ^^^ lanes (fun x => turn 64 1 (byteField (ahead 1 sums) (8 * x) 8)) 5
  s ^^^ (List.range 5).foldl (fun p y => p + each <<< (320 * y)) 0

/-- Rho and pi in one walk: step `t` carries lane (x, y) to (y, 2x + 3y), turned by the t-th triangular number; lane (0, 0) stays. -/
def carryLanes (s : Nat) : Nat → Nat → Nat → Nat
  | 0, _, _ => byteField s 0 8
  | n + 1, x, y =>
    let z := (2 * x + 3 * y) % 5
    let t := 24 - n
    turn 64 (t * (t + 1) / 2 % 64) (byteField s (8 * (x + 5 * y)) 8) <<< (64 * (y + 5 * z)) + carryLanes s n y z

/-- Chi: a bit flips where the next lane of its plane has 0 and the one after has 1. -/
def bendPlanes (s : Nat) : Nat :=
  (List.range 5).foldl (fun r y =>
    let p := byteField s (40 * y) 40
    r + (p ^^^ (ahead 2 p ^^^ (ahead 1 p &&& ahead 2 p))) <<< (320 * y)) 0

/-- Iota: the shift register with the polynomial x^8 + x^6 + x^5 + x^4 + 1 flips bits 2^j − 1 of lane (0, 0), from bit j on. -/
def flipBits : Nat → Nat → Nat → Nat × Nat
  | 0, g, s => (g, s)
  | n + 1, g, s =>
    flipBits n (if g < 128 then 2 * g else 2 * g ^^^ 0x171) (if g % 2 = 1 then s ^^^ 2 ^ (2 ^ (6 - n) - 1) else s)

/-- The permutation, from `n` rounds before its end, with the register at `g`. -/
def permute : Nat → Nat → Nat → Nat
  | 0, _, s => s
  | n + 1, g, s => let r := flipBits 7 g (bendPlanes (carryLanes (mixColumns s) 24 1 0)); permute n r.1 r.2

/-- What the sponge holds once `n` blocks of `rate` bytes of a message have gone in. -/
def absorb (rate message : Nat) : Nat → Nat
  | 0 => 0
  | n + 1 => permute 24 1 (absorb rate message n ^^^ byteField message (rate * n) rate)

/-- `n` blocks out of the sponge, as one little-endian number. -/
def squeeze (rate : Nat) : Nat → Nat → Nat
  | 0, _ => 0
  | n + 1, s => byteField s 0 rate + squeeze rate n (permute 24 1 s) <<< (8 * rate)

/-- The first output bytes of a byte string under a rate and a suffix; the last bit of the last block is set as well. -/
def spongeOf (rate suffix outBytes inBytes input : Nat) : Nat :=
  let n := inBytes / rate + 1
  let message := byteField input 0 inBytes + suffix <<< (8 * inBytes) + 1 <<< (8 * rate * n - 1)
  byteField (squeeze rate ((outBytes + rate - 1) / rate) (absorb rate message n)) 0 outBytes

/-- SHAKE256: output bytes of a byte string, both as little-endian numbers. -/
def shake256 (outBytes inBytes input : Nat) : Nat := spongeOf 136 0x1F outBytes inBytes input

/-- The SHA3-512 digest. -/
def sha3Digest (inBytes input : Nat) : Nat := spongeOf 72 0x06 64 inBytes input

/-! ### The field of both curves -/

/-- p = 2^448 − 2^224 − 1. -/
def p448 : Nat := 2 ^ 448 - 2 ^ 224 - 1

/-- A power modulo p, by the low `n` bits of the exponent. -/
def powP : Nat → Nat → Nat → Nat
  | 0, _, _ => 1
  | n + 1, x, e => (if e % 2 = 1 then x * powP n (x * x % p448) (e / 2) else powP n (x * x % p448) (e / 2)) % p448

/-- The inverse modulo p. -/
def invP (x : Nat) : Nat := powP 448 x (p448 - 2)

/-- A difference modulo p of reduced values. -/
def subP (x y : Nat) : Nat := (x + p448 - y % p448) % p448

/-! ### X448 -/

/-- The ladder of RFC 7748 over the low bits of the scalar, highest first: x2, z2, x3, z3. -/
def ladder448 (k u : Nat) : Nat → Nat × Nat × Nat × Nat → Nat × Nat × Nat × Nat
  | 0, s => s
  | t + 1, (x2, z2, x3, z3) =>
    let swap := k.testBit t
    let (a2, b2, a3, b3) := if swap then (x3, z3, x2, z2) else (x2, z2, x3, z3)
    let a := (a2 + b2) % p448
    let aa := a * a % p448
    let b := subP a2 b2
    let bb := b * b % p448
    let e := subP aa bb
    let da := subP a3 b3 * a % p448
    let cb := (a3 + b3) * b % p448
    let s := (da + cb) % p448
    let f := subP da cb
    let n2 := aa * bb % p448
    let m2 := e * ((aa + 39081 * e) % p448) % p448
    let n3 := s * s % p448
    let m3 := u * (f * f % p448) % p448
    ladder448 k u t (if swap then (n3, m3, n2, m2) else (n2, m2, n3, m3))

/-- The scalar that 56 bytes name. -/
def scalar448 (k : Nat) : Nat := k % 2 ^ 447 / 4 * 4 + 2 ^ 447

/-- X448. -/
def x448 (secret peer : Nat) : Nat :=
  let u := peer % 2 ^ 448 % p448
  let (x, z, _, _) := ladder448 (scalar448 secret) u 448 (1, 0, u, 1)
  x * invP z % p448

/-! ### Ed448 -/

/-- A point in projective coordinates. -/
structure EdPoint where
  x : Nat
  y : Nat
  z : Nat
deriving DecidableEq, Repr

/-- The curve x² + y² = 1 − 39081 x² y² added: RFC 8032, section 5.2.4. -/
def edAdd (p q : EdPoint) : EdPoint :=
  let a := p.z * q.z % p448
  let b := a * a % p448
  let c := p.x * q.x % p448
  let d := p.y * q.y % p448
  let e := subP 0 (39081 * (c * d % p448) % p448)
  let f := subP b e
  let g := (b + e) % p448
  let h := (p.x + p.y) * (q.x + q.y) % p448
  ⟨a * f % p448 * subP (subP h c) d % p448, a * g % p448 * subP d c % p448, f * g % p448⟩

/-- A multiple of a point, by the low `n` bits of the scalar. -/
def edMul : Nat → Nat → EdPoint → EdPoint
  | 0, _, _ => ⟨0, 1, 1⟩
  | n + 1, k, p => let r := edMul n (k / 2) (edAdd p p); if k % 2 = 1 then edAdd p r else r

/-- The base point. -/
def edBase : EdPoint :=
  ⟨224580040295924300187604334099896036246789641632564134246125461686950415467406032909029192869357953282578032075146446173674602635247710,
   298819210078481492676017930443930673437544040154080242095928241372331506189835876003536878655418784733982303233503462500531545062832660, 1⟩

/-- The order of the base point. -/
def edOrder : Nat := 2 ^ 446 - 13818066809895115352007386748515426880336692474882178609894547503885

/-- A point's 57 bytes: y, and the sign of x in the last bit. -/
def edEncode (p : EdPoint) : Nat :=
  let i := invP p.z
  p.y * i % p448 + p.x * i % p448 % 2 * 2 ^ 455

/-- The point that 57 bytes name, if they name one. -/
def edDecode (w : Nat) : Option EdPoint :=
  let y := w % 2 ^ 455
  let sign := w / 2 ^ 455 % 2
  let yy := y * y % p448
  let u := subP yy 1
  let v := subP (subP 0 (39081 * yy % p448)) 1
  let r := u * u % p448 * u % p448 * v % p448 * powP 446 (u * u % p448 * u % p448 * u % p448 * u % p448 * (v * v % p448 * v % p448) % p448) ((p448 - 3) / 4) % p448
  if p448 ≤ y then none
  else if v * (r * r % p448) % p448 != u then none
  else if r = 0 ∧ sign = 1 then none
  else some ⟨if r % 2 = sign then r else p448 - r, y, 1⟩

/-- SHAKE256 of 114 bytes over dom4 with an empty context and a byte string. -/
def edHash (len message : Nat) : Nat := shake256 114 (10 + len) (0x3834346445676953 + message % 2 ^ (8 * len) * 2 ^ 80)

/-- The secret scalar and the prefix of a 57-byte seed. -/
def edSecret (seed : Nat) : Nat × Nat :=
  let h := shake256 114 57 seed
  (scalar448 (h % 2 ^ 448), h / 2 ^ 456)

/-- The public key of a seed. -/
def ed448Public (seed : Nat) : Nat := edEncode (edMul 448 (edSecret seed).1 edBase)

/-- The signature of a message of `len` bytes with a seed's key: 114 bytes. -/
def ed448Sign (seed len message : Nat) : Nat :=
  let (s, pre) := edSecret seed
  let m := message % 2 ^ (8 * len)
  let r := edHash (57 + len) (pre + m * 2 ^ 456) % edOrder
  let rb := edEncode (edMul 448 r edBase)
  let k := edHash (114 + len) (rb + ed448Public seed * 2 ^ 456 + m * 2 ^ 912) % edOrder
  rb + (r + k * s) % edOrder * 2 ^ 456

/-- Do two points name the same one? -/
def edEqual (p q : EdPoint) : Bool := p.x * q.z % p448 == q.x * p.z % p448 && p.y * q.z % p448 == q.y * p.z % p448

/-- Does a signature of a message of `len` bytes verify under a public key? -/
def ed448Verifies (publicKey len message signature : Nat) : Bool :=
  let rb := signature % 2 ^ 456
  let s := signature / 2 ^ 456 % 2 ^ 456
  match edDecode (publicKey % 2 ^ 456), edDecode rb with
  | some a, some r =>
    let k := edHash (114 + len) (rb + publicKey % 2 ^ 456 * 2 ^ 456 + message % 2 ^ (8 * len) * 2 ^ 912) % edOrder
    decide (s < edOrder) && edEqual (edMul 3 4 (edMul 448 s edBase)) (edMul 3 4 (edAdd r (edMul 448 k a)))
  | _, _ => false

end Sys2Proof.Machine
end

