-- ==== Sys2Proof/Machine/Cipher.lean ====
section
/-! DEFINITION. The Keep's block cipher: AES-256 (FIPS 197) its XTS mode (IEEE 1619), under which a volume's blocks are stored
(R500), and AES key wrap (RFC 3394), under which its keys are kept (R649). -/

namespace Sys2Proof.Machine

/-! ### Bytes as polynomials over GF(2), modulo x^8 + x^4 + x^3 + x + 1 -/

/-- A byte times x. -/
def byteDouble (a : Nat) : Nat := if a < 128 then 2 * a else 2 * a ^^^ 0x11B

/-- A byte times another, `n` bits of which are left. -/
def byteMul : Nat → Nat → Nat → Nat
  | 0, _, _ => 0
  | n + 1, a, b => (if b % 2 = 1 then a else 0) ^^^ byteMul n (byteDouble a) (b / 2)

/-- a^(2^n − 1), which over n = 7 squares to the inverse of a (of 0: 0). -/
def byteOnes : Nat → Nat → Nat
  | 0, _ => 1
  | n + 1, a => let r := byteOnes n a; byteMul 8 (byteMul 8 r r) a

/-- The S-box: the inverse, with each bit flipped by four others, and 0x63. -/
def subByte (a : Nat) : Nat :=
  let r := byteOnes 7 a
  let v := byteMul 8 r r
  let turned (k : Nat) : Nat := v * 2 ^ k % 256 + v * 2 ^ k / 256
  v ^^^ turned 1 ^^^ turned 2 ^^^ turned 3 ^^^ turned 4 ^^^ 0x63

/-! ### Words of four bytes and blocks of sixteen, the first byte lowest -/

/-- A number from its bytes. -/
def ofBytes (l : List Nat) : Nat := l.foldr (fun b r => b + 256 * r) 0

/-- The S-box on each of four bytes. -/
def subWord (w : Nat) : Nat := ofBytes ((List.range 4).map fun i => subByte (byteField w i 1))

/-- The key schedule, the last word first: with `n` words to come, word i is word i − 8 with the word before it, which is turned and substituted
at each eighth word (where the round constant comes in) and substituted at the fourth after it. -/
def keyWords : Nat → Nat → Nat → List Nat → List Nat
  | 0, _, _, ws => ws
  | n + 1, i, rc, ws =>
    let last := ws.headD 0
    let t := if i % 8 = 0 then subWord (last / 256 + last % 256 * 2 ^ 24) ^^^ rc else if i % 8 = 4 then subWord last else last
    keyWords n (i + 1) (if i % 8 = 0 then byteDouble rc else rc) ((ws.getD 7 0 ^^^ t) :: ws)

/-- The 15 round keys of a 256-bit key. -/
def roundKeys (key : Nat) : List Nat :=
  let ws := (keyWords 52 8 1 ((List.range 8).map fun i => byteField key (4 * (7 - i)) 4)).reverse
  (List.range 15).map fun r => (List.range 4).foldr (fun i s => ws.getD (4 * r + i) 0 + 2 ^ 32 * s) 0

/-- The bytes of a block substituted, and row r of its four columns turned by r places. -/
def subRows (s : Nat) : List Nat := (List.range 16).map fun i => subByte (byteField s ((i + 4 * (i % 4)) % 16) 1)

/-- A column of four bytes: each becomes twice itself and three times the next, with the two others. -/
def mixBytes (l : List Nat) : List Nat :=
  (List.range 16).map fun i =>
    let at_ (k : Nat) : Nat := l.getD (i / 4 * 4 + (i + k) % 4) 0
    byteDouble (at_ 0) ^^^ byteDouble (at_ 1) ^^^ at_ 1 ^^^ at_ 2 ^^^ at_ 3

/-- The rounds of a block under its remaining keys; the last mixes no columns. -/
def aesRounds : Nat → List Nat → Nat
  | s, [] => s
  | s, [k] => ofBytes (subRows s) ^^^ k
  | s, k :: ks => aesRounds (ofBytes (mixBytes (subRows s)) ^^^ k) ks

/-- AES-256 of a block of 16 bytes under its round keys. -/
def aesBlock (keys : List Nat) (block : Nat) : Nat := aesRounds (block ^^^ keys.headD 0) keys.tail

/-! ### XTS -/

/-- The blocks of a data unit, each between two additions of its mask, and each mask x times the one before in GF(2^128). -/
def xtsBlocks (keys : List Nat) (data : Nat) : Nat → Nat → Nat → Nat
  | 0, _, _ => 0
  | n + 1, i, mask =>
    (aesBlock keys (byteField data (16 * i) 16 ^^^ mask) ^^^ mask) +
      2 ^ 128 * xtsBlocks keys data n (i + 1) (if mask < 2 ^ 127 then 2 * mask else (2 * mask) % 2 ^ 128 ^^^ 0x87)

/-- AES-256-XTS of a data unit of `n` blocks under a key pair, the data key in its low 256 bits, and a tweak. -/
def aesXts (n pair tweak data : Nat) : Nat :=
  xtsBlocks (roundKeys (pair % 2 ^ 256)) data n 0 (aesBlock (roundKeys (pair / 2 ^ 256 % 2 ^ 256)) (tweak % 2 ^ 128))

/-! ### Key wrap -/

/-- The steps of RFC 3394 from step `t` on, `n` of them left, over eight registers of 8 bytes, with the register that the step takes in front. -/
def wrapSteps (keys : List Nat) : Nat → Nat → Nat → List Nat → Nat × List Nat
  | 0, _, a, l => (a, l)
  | n + 1, t, a, l =>
    let b := aesBlock keys (a + l.headD 0 * 2 ^ 64)
    wrapSteps keys n (t + 1) (b % 2 ^ 64 ^^^ t * 2 ^ 56) (l.tail ++ [b / 2 ^ 64])

/-- The 72 bytes of a 64-byte secret wrapped under a key. -/
def keyWrap (key secret : Nat) : Nat :=
  let r := wrapSteps (roundKeys key) 48 1 0xA6A6A6A6A6A6A6A6 ((List.range 8).map fun i => byteField secret (8 * i) 8)
  r.1 + 2 ^ 64 * r.2.foldr (fun x s => x + 2 ^ 64 * s) 0

/-- The unique device secret, which no interface reads out (R647). -/
def uniqueSecret : Nat := Config.keepKey 0 % 2 ^ 256

/-- The storage key of a life-cycle state (*Key derivations*). -/
def storageKey (lifeCycle : Nat) : Nat := shake256 32 34 (uniqueSecret + 5 * 2 ^ 256 + lifeCycle % 256 * 2 ^ 264)

/-- A volume's key pair, of a draw of the generator (R499). -/
def freshPair (r : Nat) : Nat := Config.keepKey (r + 1) % 2 ^ 512

end Sys2Proof.Machine
end

