-- ==== Sys2Proof/Machine/Flash.lean ====
section
/-! DEFINITION. Flash: profiles, blocks and slots, the translation map, reads, page programs, collection, spare and health (12_flash). -/

namespace Sys2Proof.Machine

/-! ### Profiles and geometry (R486, R487, R491, R493, R511) -/

/-- The media profile that a channel group selects. -/
def Dev.profile (d : Dev) (g : Nat) : Nat := d.cfg (0x2820 + d.cfg 0x2810 (g + 1)) 0
/-- CELL. -/
def mpCell (p : Nat) : Nat := bits p 1 0
/-- MODE. -/
def mpMode (p : Nat) : Nat := bits p 3 2
/-- RATE. -/
def mpRate (p : Nat) : Nat := bits p 23 8
/-- PLANES. -/
def mpPlanes (p : Nat) : Nat := bits p 26 24
/-- WORDLINES. -/
def mpWordlines (p : Nat) : Nat := bits p 47 32
/-- BLOCKS. -/
def mpBlocks (p : Nat) : Nat := bits p 63 48
/-- CES. -/
def mpCes (p : Nat) : Nat := bits p 67 64
/-- LUNS. -/
def mpLuns (p : Nat) : Nat := bits p 71 68
/-- SPARE. -/
def mpSpare (p : Nat) : Nat := bits p 87 72
/-- RETRIES. -/
def mpRetries (p : Nat) : Nat := bits p 156 152
/-- RATED_PE. -/
def mpRated (p : Nat) : Nat := bits p 175 160

/-- Slots per page, S (R511). -/
def pageSlots (p : Nat) : Nat := (mpCell p + 2) * mpPlanes p * 4
/-- Data slots of a block. -/
def blockSlots (p : Nat) : Nat := (mpWordlines p - 1) * pageSlots p

/-- The worst read of a profile in µs (R493). -/
def worstRead (p : Nat) : Nat :=
  if mpCell p = 0 ∨ mpRate p = 0 then 0 else
    bits p 151 136 + (mpRetries p + 2) * bits p 103 88 + ceilDiv ((mpRetries p + 1) * (4096 + mpSpare p / 4)) (mpRate p) + 13

/-- The state of a LUN (0x2802); absent before enumeration. -/
def Dev.lunState (d : Dev) (lun : Nat) : Nat := tabGetD lun 1 d.flash.luns
/-- The LUNs in service of a channel. -/
def Dev.channelLuns (d : Dev) (ch : Nat) : List Nat := ((List.range 32).map (32 * ch + ·)).filter fun n => d.lunState n == 0
/-- The LUNs in service of a channel group. -/
def Dev.groupLuns (d : Dev) (g : Nat) : List Nat := ((List.range 128).map (128 * g + ·)).filter fun n => d.lunState n == 0
/-- Is a channel group in service (R490)? -/
def Dev.flashGroupUp (d : Dev) (g : Nat) : Bool := !(d.groupLuns g).isEmpty
/-- The channels of a mask of groups that have a LUN in service. -/
def Dev.maskChannels (d : Dev) (mask : Nat) : List Nat :=
  (List.range 64).filter fun ch => bit mask (ch / 4) && !(d.channelLuns ch).isEmpty

/-- A flash block; free and never erased where it is not listed. -/
def Dev.fblock (d : Dev) (k : Nat) : FlashBlock := tabGetD k .fresh d.flash.blocks
/-- A flash block changed. -/
def Dev.modBlock (d : Dev) (k : Nat) (f : FlashBlock → FlashBlock) : Dev :=
  d.setFlash { d.flash with blocks := tabMod k .fresh f d.flash.blocks }
/-- The listed blocks of a channel group's LUNs in service. -/
def Dev.groupBlocks (d : Dev) (g : Nat) : Tab FlashBlock :=
  d.flash.blocks.filter fun e => lunGroup (blockLun e.1) == g && d.lunState (blockLun e.1) == 0
/-- Blocks in service of a group: those of its LUNs in service that are not retired. -/
def Dev.blocksInService (d : Dev) (g : Nat) : Nat :=
  (d.groupLuns g).length * mpBlocks (d.profile g) - ((d.groupBlocks g).filter fun e => e.2.state == .retired).length
/-- The root blocks of a group: the first two good blocks of its lowest LUN in service (R519). They hold no other slots. -/
def Dev.rootBlocks (d : Dev) (g : Nat) : List Nat :=
  match (d.groupLuns g).head? with
  | some l => (((List.range (mpBlocks (d.profile g))).map (blockKey l)).filter fun k => (d.fblock k).state != .retired).take 2
  | none => []
/-- Free blocks of a group. -/
def Dev.blocksFree (d : Dev) (g : Nat) : Nat :=
  (d.groupLuns g).length * mpBlocks (d.profile g) - ((d.groupBlocks g).filter fun e => e.2.state != .free).length -
    ((d.rootBlocks g).filter fun k => (d.fblock k).state == .free).length

/-- The erase counts of a group's blocks in service: least, greatest, sum (the mean is their sum over the number of blocks). -/
def Dev.eraseCounts (d : Dev) (g : Nat) : Nat × Nat × Nat :=
  let l := ((d.groupBlocks g).filter fun e => e.2.state != .retired).map fun e => e.2.erases
  let lo := if l.length < d.blocksInService g then 0 else (l.foldl min (l.headD 0))
  (lo, l.foldl max 0, sumOf l)

/-! ### Volumes (R496–R499) -/

/-- The descriptor of volume slot v. -/
def Dev.volumeDesc (d : Dev) (v : Nat) : Nat := d.cfg (0x2880 + v) 1
/-- GROUPS of a volume descriptor. -/
def vlGroups (w : Nat) : Nat := bits w 31 16
/-- CAPACITY of a volume descriptor. -/
def vlCapacity (w : Nat) : Nat := bits w 79 32
/-- A volume; absent where the slot holds none. -/
def Dev.volume (d : Dev) (v : Nat) : Volume := tabGetD v .absent d.flash.volumes
/-- A volume changed. -/
def Dev.modVolume (d : Dev) (v : Nat) (f : Volume → Volume) : Dev := d.setFlash { d.flash with volumes := tabUpdate v f d.flash.volumes }
/-- Does a handle name an active volume of a realm? -/
def Dev.volumeByHandle (d : Dev) (realm handle : Nat) : Option Nat :=
  let v := handle - 0x4000
  if 0x4000 ≤ handle ∧ v < 64 ∧ ((d.volume v).state = 1 ∨ (d.volume v).state = 2) ∧ (d.volume v).realm = realm then some v else none

/-- The volume that a request names for a capsule of a realm accepted at an instant: one being removed serves the capsules that were accepted by
the commit instant (R499). -/
def Dev.volumeFor (d : Dev) (realm handle acceptedAt : Nat) : Option Nat :=
  let v := handle - 0x4000
  if 0x4000 ≤ handle ∧ v < 64 ∧ (d.volume v).state = 3 ∧ (d.volume v).realm = realm ∧ acceptedAt ≤ (d.volume v).removedAt then some v
  else d.volumeByHandle realm handle

/-- The blocks held back as collection reserve among `b` blocks and `l` LUNs in service (R497). -/
def reserve (b l : Nat) : Nat := max (4 * l) (ceilDiv (7 * b) 100)
/-- The groups of a mask. -/
def maskGroups (mask : Nat) : List Nat := bitsSet 16 mask
/-- Blocks and LUNs in service of a mask. -/
def Dev.maskBlocks (d : Dev) (mask : Nat) : Nat × Nat :=
  (sumOf ((maskGroups mask).map d.blocksInService), sumOf ((maskGroups mask).map fun g => (d.groupLuns g).length))
/-- The usable slots of a mask (R497). -/
def Dev.usableSlots (d : Dev) (mask : Nat) : Nat :=
  let (b, l) := d.maskBlocks mask
  (b - reserve b l) * blockSlots (d.profile ((maskGroups mask).headD 0))
/-- The spare of a mask (R535), in blocks. -/
def Dev.spareOf (d : Dev) (mask : Nat) : Nat :=
  let (b, l) := d.maskBlocks mask
  let cap := sumOf ((d.flash.volumes.filter fun e => e.2.groups == mask && e.2.state != 3).map fun e => e.2.capacity)
  b - ceilDiv cap (max (blockSlots (d.profile ((maskGroups mask).headD 0))) 1) - reserve b l
/-- The mask of the volumes that lie in a group, 0 for none. -/
def Dev.groupMask (d : Dev) (g : Nat) : Nat := ((d.flash.volumes.find? fun e => bit e.2.groups g).map fun e => e.2.groups).getD 0

/-- The masks of the active volumes. -/
def Dev.masks (d : Dev) : List Nat := distinct (d.flash.volumes.map fun e => e.2.groups)

/-- The volumes of a mask in one state pass to another. -/
def Dev.moveVolumes (d : Dev) (mask was state : Nat) : Dev :=
  d.setFlash { d.flash with volumes := d.flash.volumes.map fun (e : Nat × Volume) =>
    (e.1, if e.2.groups = mask ∧ e.2.state = was then { e.2 with state := state } else e.2) }

/-- Volumes whose mask has no spare left become read-only, and each group of the mask is logged (R535, R538). -/
def Dev.checkSpare (c : Ctx) (d : Dev) : Dev :=
  d.masks.foldl (fun d m =>
    if d.spareOf m != 0 || !(d.flash.volumes.any fun e => e.2.groups == m && e.2.state == 1) then d
    else (maskGroups m).foldl (fun d g => d.event c 0x0506 3 0 g 0 0) (d.moveVolumes m 1 2)) d

/-- After a commit that changes volumes: a mask that a volume has left is writable again where it has spare, and the spare that the health event
compares with is that of this commit (R535, R538). -/
def Dev.volumesCommitted (c : Ctx) (d : Dev) (removed : List Nat) : Dev :=
  let d := removed.foldl (fun d m => if d.spareOf m = 0 then d else d.moveVolumes m 2 1) d
  (d.setFlash { d.flash with spareAt := d.masks.foldl (fun t m => tabSet m (d.spareOf m) t) d.flash.spareAt }).checkSpare c

/-! ### Health (R538) -/

/-- One media sample added to a group's last 24 h. -/
def Dev.sample (c : Ctx) (d : Dev) (g words bitsFixed work failures : Nat) : Dev :=
  let keep := (tabGetD g [] d.flash.samples).filter fun (x : MediaSample) => decide (c.now < x.time + 24 * 3600 * 1000 * msTicks)
  d.setFlash { d.flash with samples := tabSet g (⟨c.now, words, bitsFixed, work, failures⟩ :: keep) d.flash.samples }

/-- A measure as a fraction, compared with a threshold in percent (or per 10^6): crossed, and back past the re-arming point. A rising
measure re-arms below 90 % of the threshold; a falling one above the threshold, which it must pass anyway before it can fall again. -/
def crossing (falling : Bool) (num den scale threshold : Nat) : Bool × Bool :=
  if falling then (decide (num * scale ≤ threshold * den), decide (threshold * den < num * scale))
  else (decide (threshold * den ≤ num * scale), decide (10 * (num * scale) < 9 * (threshold * den)))

/-- One health event of a group: logged with its measure once per crossing. -/
def Dev.healthOne (c : Ctx) (d : Dev) (g code level measure : Nat) (test : Bool × Bool) : Dev :=
  let key := 32 * g + 2 * (code - 0x501) + level
  let on := d.flash.crossed.contains key
  if test.1 && !on then
    (d.setFlash { d.flash with crossed := key :: d.flash.crossed }).event c code (if level = 0 then 1 else 3) 0 g measure 0
  else if test.2 && on then d.setFlash { d.flash with crossed := d.flash.crossed.filter (· != key) }
  else d

/-- The health events of a group looked at (R538). -/
def Dev.health (c : Ctx) (d : Dev) (g : Nat) : Dev :=
  let m := d.groupMask g
  let s : List MediaSample := (tabGetD g [] d.flash.samples).filter fun (x : MediaSample) => decide (c.now < x.time + 24 * 3600 * 1000 * msTicks)
  let (_, _, total) := d.eraseCounts g
  let measures : List (Nat × Bool × Nat × Nat × Nat) :=
    (if m != 0 then [(0x0501, true, d.spareOf m, tabGetD m 0 d.flash.spareAt, 100)] else []) ++
    [(0x0502, false, total, d.blocksInService g * mpRated (d.profile g), 100),
     (0x0503, false, sumOf (s.map fun x => x.bits), sumOf (s.map fun x => x.words) * Config.correctionCapacity (mpSpare (d.profile g)), 100),
     (0x0504, false, sumOf (s.map fun x => x.failures), sumOf (s.map fun x => x.work), 1000000)]
  measures.foldl (fun d e =>
    let (code, falling, num, den, scale) := e
    if den = 0 then d
    else [0, 1].foldl (fun d l => d.healthOne c g code l (num * scale / den) (crossing falling num den scale (d.cfg 0x2860 (2 * (code - 0x501) + l + 1)))) d) d

/-! ### The map (R501, R505, R508, R518) -/

/-- The key of a logical block in the map. -/
def mapKey (v lba : Nat) : Nat := v * 2 ^ 48 + lba
/-- Where a logical block lies. -/
def Dev.mapped (d : Dev) (v lba : Nat) : Option MapEntry := tabGet (mapKey v lba) d.flash.map
/-- A logical block mapped. -/
def Dev.putMap (d : Dev) (v lba : Nat) (e : MapEntry) : Dev := d.setFlash { d.flash with map := tabSet (mapKey v lba) e d.flash.map }
/-- A logical block unmapped. -/
def Dev.unmapBlock (d : Dev) (v lba : Nat) : Dev := d.setFlash { d.flash with map := tabDel (mapKey v lba) d.flash.map }

/-- A block's slots still to be programmed, with the capsules that wait for them: those of its outstanding programs, then those of its open page
buffer. -/
def Dev.unprogrammed (d : Dev) (k : Nat) : List (FlashSlot × Option Nat) :=
  (d.flash.ops.filterMap fun o => match o.use with
    | .program l => if o.block = k then some l else none
    | _ => none).flatten ++
  ((d.flash.opens ++ d.flash.collect).filterMap fun (e : Nat × OpenBlock) => if e.2.block = k then some e.2.buffer else none).flatten

/-- Every slot of a block, programmed or not, in order. -/
def Dev.slotsIn (d : Dev) (k : Nat) : List FlashSlot := (d.fblock k).slots ++ (d.unprogrammed k).map (·.1)

/-- Slot i of a block. -/
def Dev.slotAt (d : Dev) (k i : Nat) : Option FlashSlot := (d.slotsIn k)[i]?

/-- What an unmapped block reads as: zeros, or where slots of it remain on the media any of them or zeros (R501, R508). -/
def Dev.unmappedData (d : Dev) (v lba : Nat) : Nat × Dev :=
  let key := (d.volume v).key
  let old := (d.flash.blocks.map fun (e : Nat × FlashBlock) =>
    (e.2.slots.filter fun s => s.kind == 0 && s.volume == v && s.lba == lba && s.key == key).map fun s => s.data).flatten
  if old.isEmpty then (0, d) else let (i, d) := d.choose (old.length + 1); ((0 :: old).getD i 0, d)

/-- What looking up a block for a read answers: its data at once, an operation on the media, or the status that ends the request. -/
inductive Lookup where
  | data (x : Nat)
  | media (block index : Nat)
  | unreadable
deriving DecidableEq, Repr

/-- A read of a volume ends with ST_MEDIA (0x2880.08). -/
def Dev.mediaError (d : Dev) (v : Nat) : Dev := d.modVolume v fun k => { k with mediaErrors := satAdd 64 k.mediaErrors 1 }

/-- A logical block looked up for a read: a slot that is not programmed yet is served from where it waits (R513). -/
def Dev.lookup (d : Dev) (v lba : Nat) : Lookup × Dev :=
  match d.mapped v lba with
  | none => let (x, d) := d.unmappedData v lba; (.data x, d)
  | some .unreadable => (.unreadable, d.mediaError v)
  | some (.parked n) => (.data (((d.flash.parked.find? fun e => e.1.seq == n).map fun e => e.1.data).getD 0), d)
  | some (.at_ k i) =>
    if i < (d.fblock k).slots.length then (.media k i, d)
    else (.data (((d.slotAt k i).map fun s => s.data).getD 0), d)

/-- The tweak of a logical block (R500): LBA in [47:0], the volume slot in [53:48], the realm in [63:56]. -/
def FlashSlot.tweak (s : FlashSlot) : Nat := s.lba % 2 ^ 48 + s.volume % 64 * 2 ^ 48 + s.realm % 256 * 2 ^ 56

/-- The 4,096 bytes that the media hold of a slot: data under the volume's key pair (R500). -/
def Dev.mediaBytes (d : Dev) (s : FlashSlot) : Nat :=
  (if s.kind = 0 then aesXts 256 (d.volume s.volume).pair s.tweak s.data else s.data) % 2 ^ 32768

/-- The record beside a slot (*Page out-of-band record*, R514). -/
def oobRecord (stored lba realm kind seq volume : Nat) : Nat :=
  let low := lba % 2 ^ 48 + realm % 256 * 2 ^ 48 + kind * 2 ^ 56 + seq % 2 ^ 64 * 2 ^ 64 + volume % 64 * 2 ^ 128
  low + crc32c 4124 (stored + low * 2 ^ 32768) * 2 ^ 224

/-- A slot's codeword: its stored bytes and its record. -/
def Dev.codeword (d : Dev) (s : FlashSlot) : Nat × Nat :=
  let x := d.mediaBytes s
  (x, oobRecord x s.lba s.realm s.kind s.seq s.volume)

/-- The 12-byte entries of a summary, as one number (R516). -/
def BlockSummary.entryBytes (s : BlockSummary) : Nat :=
  ofElems 12 (s.entries.map fun e => e.1 % 2 ^ 48 + e.2.1 * 2 ^ 48 + e.2.2 % 2 ^ 32 * 2 ^ 64)

/-- The summary on a block's last page: the 64-byte header (*Block summary header*), then the entries. -/
def BlockSummary.page (s : BlockSummary) : Nat :=
  1 + s.realm % 256 * 2 ^ 8 + s.volume % 64 * 2 ^ 16 + s.baseSeq % 2 ^ 64 * 2 ^ 64 + s.entries.length * 2 ^ 128 + s.erases * 2 ^ 160 +
    crc32c (12 * s.entries.length) s.entryBytes * 2 ^ 192 + s.entryBytes * 2 ^ 512

/-- The codewords of a block's last page of n slots. -/
def BlockSummary.codewords (s : BlockSummary) (n : Nat) : List (Nat × Nat) :=
  (List.range n).map fun i => let x := byteField s.page (4096 * i) 4096; (x, oobRecord x 0 s.realm 2 0 s.volume)

/-- The page of a slot. -/
def Dev.pageOf (d : Dev) (k i : Nat) : Nat := i / max (pageSlots (d.profile (lunGroup (blockLun k)))) 1

/-- What the device issues for an operation as it puts it on a LUN; reads are issued as their LUN serves them. -/
def Dev.commandsOf (d : Dev) (use : OpFor) (block : Nat) : List Onfi :=
  match use with
  | .program l => [.program block (d.pageOf block (d.slotsIn block).length) (l.map fun e => d.codeword e.1), .readStatusEnhanced]
  | .summary s =>
    let p := d.profile (lunGroup (blockLun block))
    [.program block (mpWordlines p - 1) (s.codewords (pageSlots p)), .readStatusEnhanced]
  | .erase => [.erase block, .readStatusEnhanced]
  | _ => []

/-- An operation put on a LUN; a C0 read ends an Oculus slice of its channel (R495, R697). -/
def Dev.startOp (d : Dev) (use : OpFor) (block index : Nat) (c0 : Bool) : Dev :=
  let l := d.commandsOf use block
  let d := d.setFlash { d.flash with ops := d.flash.ops ++ [⟨d.flash.nextOp, use, block, index, 0, 0, c0⟩], nextOp := d.flash.nextOp + 1 }
  let d := d.onfi (blockLun block) l
  let d := if c0 then d.abortSlice (· == 576 + lunChannel (blockLun block)) else d
  d.serveLun (blockLun block)

/-- An operation is over, and its LUN goes on. -/
def Dev.dropOp (d : Dev) (n : Nat) : Dev :=
  let e := d.setFlash { d.flash with ops := d.flash.ops.filter fun o => o.number != n }
  match d.flashOp? n with
  | some o => if o.isRead then e.lunGoesOn (blockLun o.block) else e.serveLun (blockLun o.block)
  | none => e

/-! ### Page buffers and programs (R512–R517, R536) -/

/-- The free blocks of a group on the LUNs listed that have the lowest erase count; the root blocks are none of them (R519). -/
def Dev.freshBlocks (d : Dev) (g : Nat) (luns : List Nat) : List Nat :=
  let roots := d.rootBlocks g
  let all := (luns.map fun l => (List.range (mpBlocks (d.profile g))).map fun b => blockKey l b).flatten
  let free := all.filter fun k => (d.fblock k).state == .free && !roots.contains k
  let lo := (free.map fun k => (d.fblock k).erases).foldl min ((free.head?.map fun k => (d.fblock k).erases).getD 0)
  free.filter fun k => (d.fblock k).erases == lo

/-- The open blocks of writes, by volume and channel, or those of collection, by volume and group (R512). -/
def Dev.buffers (d : Dev) (collect : Bool) : Tab OpenBlock := if collect then d.flash.collect else d.flash.opens
/-- The key of an open block of a volume. -/
def bufferKey (collect : Bool) (v block : Nat) : Nat :=
  if collect then 16 * v + lunGroup (blockLun block) else 64 * v + lunChannel (blockLun block)
/-- The open blocks of writes or of collection replaced. -/
def Dev.withBuffers (d : Dev) (collect : Bool) (t : Tab OpenBlock) : Dev :=
  if collect then d.setFlash { d.flash with collect := t } else d.setFlash { d.flash with opens := t }
/-- An open block noted. -/
def Dev.setBuffer (d : Dev) (collect : Bool) (key : Nat) (o : OpenBlock) : Dev := d.withBuffers collect (tabSet key o (d.buffers collect))
/-- A block is open no longer. -/
def Dev.dropBuffer (d : Dev) (block : Nat) : Dev :=
  let keep (t : Tab OpenBlock) : Tab OpenBlock := t.filter fun (e : Nat × OpenBlock) => e.2.block != block
  d.setFlash { d.flash with opens := keep d.flash.opens, collect := keep d.flash.collect }

/-- A free block becomes an open one of a volume. -/
def Dev.takeBlock (d : Dev) (k v : Nat) (collect : Bool) : Dev :=
  d.modBlock k fun b => { b with state := .opened, volume := v, slots := [], collecting := collect, summary := none }

/-- Where a volume may open a block of a group: for writes on a channel where it has none open (R512). -/
def Dev.openLuns (d : Dev) (collect : Bool) (v g : Nat) : List Nat :=
  (d.groupLuns g).filter fun l => collect || (tabGet (64 * v + lunChannel l) d.flash.opens).isNone

/-- A free block opened for a volume: one of the group's with the lowest erase count; which of several is unspecified (R536). -/
def Dev.openBlock (d : Dev) (collect : Bool) (v g : Nat) : Option Nat × Dev :=
  let l := d.freshBlocks g (d.openLuns collect v g)
  if l.isEmpty then (none, d)
  else
    let (i, d) := d.choose l.length
    (some (l.getD i 0), d.takeBlock (l.getD i 0) v collect)

/-- The system's blocks, which hold the KIND 4 slots of a checkpoint (R519). -/
def Dev.systemBlocks (d : Dev) : List Nat := (d.flash.blocks.filter fun e => e.2.volume == 64 && e.2.state == .closed).map (·.1)

/-- A block's erase begins (R527). -/
def Dev.beginErase (d : Dev) (k : Nat) : Dev := (d.modBlock k fun b => { b with state := .erasing }).startOp .erase k 0 false

/-- Before a program or an erase: the root records say CLEAN no longer (R520), and the checkpoint's blocks are erased. -/
def Dev.rootDirty (d : Dev) : Dev :=
  if d.flash.rootClean then d.systemBlocks.foldl Dev.beginErase (d.setFlash { d.flash with rootClean := false }) else d

/-- A block erased in the background or by collection (R527): the operation begins. -/
def Dev.startErase (d : Dev) (k : Nat) : Dev := d.rootDirty.beginErase k

/-- The filler that ends a page of a volume (R514). -/
def fillerSlot (v : Nat) (realm : Nat) : FlashSlot := ⟨1, v, 0, 0, 0, 0, realm⟩

/-- A program of a page begins: the rest of the page is filler. -/
def Dev.startProgram (d : Dev) (block : Nat) (l : List (FlashSlot × Option Nat)) : Dev :=
  let v := (d.fblock block).volume
  let s := pageSlots (d.profile (lunGroup (blockLun block)))
  d.rootDirty.startOp (.program (l ++ List.replicate (s - l.length) (fillerSlot v (d.volume v).realm, none))) block 0 false

/-- An open block's page buffer is programmed. -/
def Dev.programPage (d : Dev) (key : Nat) (o : OpenBlock) (collect : Bool) : Dev :=
  (d.setBuffer collect key { o with buffer := [] }).startProgram o.block o.buffer

/-- The lowest sequence number in a block's slots, for BASE_SEQ; filler has none. -/
def baseSeq (l : List FlashSlot) : Nat :=
  let l := (l.filter fun s => s.kind != 1).map fun s => s.seq
  l.foldl min (l.headD 0)

/-- The summary of a block whose data pages are whole (R516). -/
def FlashBlock.summarise (b : FlashBlock) (realm : Nat) : BlockSummary :=
  ⟨realm, b.volume, baseSeq b.slots, b.erases, b.slots.map fun s => (s.lba, s.kind, s.seq - baseSeq b.slots)⟩

/-- An open block is closed early: its page buffer and then filler in every data page that remains; its summary follows them (R517). -/
def Dev.closeBlock (d : Dev) (key : Nat) (o : OpenBlock) (collect : Bool) : Dev :=
  let d : Dev := if o.buffer.isEmpty then d else d.programPage key o collect
  let d := (d.dropBuffer o.block).modBlock o.block fun b => { b with state := .closing }
  let p := d.profile (lunGroup (blockLun o.block))
  (List.range ((blockSlots p - (d.slotsIn o.block).length) / max (pageSlots p) 1)).foldl (fun d _ => d.startProgram o.block []) d

/-- Can an open block take no slot with a sequence number: all its data slots are taken, or the number lies too far from BASE_SEQ (R517)? -/
def Dev.blockFull (d : Dev) (o : OpenBlock) (seq : Nat) : Bool :=
  let l := d.slotsIn o.block
  decide (blockSlots (d.profile (lunGroup (blockLun o.block))) ≤ l.length) || (!l.isEmpty && decide (2 ^ 32 - 1 < seq - baseSeq l))

/-- The open block for a slot of a volume, at a channel for writes or at a group for collection; one is opened where there is none. -/
def Dev.bufferFor (d : Dev) (collect : Bool) (v place : Nat) : Option (Nat × OpenBlock) × Dev :=
  let key := if collect then 16 * v + place else 64 * v + place
  match tabGet key (d.buffers collect) with
  | some o => (some (key, o), d)
  | none => match d.openBlock collect v (if collect then place else place / 4) with
    | (some k, d) => (some (bufferKey collect v k, ⟨k, [], 0⟩), d)
    | (none, d) => (none, d)

/-- A slot put into the page buffer of an open block of its volume, at a channel for writes or at a group for collection; the place it took, and
whether its page is now full and being programmed. None where no block is free. -/
def Dev.placeSlot (c : Ctx) (d : Dev) (collect : Bool) (place : Nat) (slot : FlashSlot) (cap : Option Nat) : Option (Nat × Nat × Bool) × Dev :=
  let key := if collect then 16 * slot.volume + place else 64 * slot.volume + place
  let d : Dev := match tabGet key (d.buffers collect) with
    | some o => if d.blockFull o slot.seq then d.closeBlock key o collect else d
    | none => d
  match d.bufferFor collect slot.volume place with
  | (none, d) => (none, d)
  | (some (key, o), d) =>
    let i := (d.slotsIn o.block).length
    let o : OpenBlock := { o with buffer := o.buffer ++ [(slot, cap)], firstAt := if o.buffer.isEmpty then c.now else o.firstAt }
    let d := d.setBuffer collect key o
    let page := decide (pageSlots (d.profile (lunGroup (blockLun o.block))) ≤ o.buffer.length)
    (some (o.block, i, page), if page then d.programPage key o collect else d)

/-- The next sequence number (R515). -/
def Dev.nextSeq (d : Dev) : Nat × Dev := (d.flash.seq, d.setFlash { d.flash with seq := d.flash.seq + 1 })

/-! ### Writes (R506, R507, R512, R524) -/

/-- Is a group at its write stall (R524)? -/
def Dev.stalled (d : Dev) (g : Nat) : Bool := decide (d.blocksFree g * 100 ≤ d.cfg 0x2850 2 * d.blocksInService g)

/-- The channel that a volume's next slot goes to: the one whose page buffer is in use, else a free choice (R512). -/
def Dev.writeChannel (d : Dev) (v : Nat) : Nat × Dev :=
  match d.flash.opens.find? fun (e : Nat × OpenBlock) => e.1 / 64 == v && !e.2.buffer.isEmpty with
  | some e => (e.1 % 64, d)
  | none =>
    let l := d.maskChannels (d.volume v).groups
    let (i, d) := d.choose l.length
    (l.getD i 0, d)

/-- The channel after a channel in a mask's rotation. -/
def nextChannel (l : List Nat) (ch : Nat) : Nat := ((l.find? fun x => decide (ch < x)).getD (l.headD 0))

/-- One block written: its slot in a page buffer, the map on it; none where the write has to wait for collection. -/
def Dev.writeBlock (c : Ctx) (d : Dev) (order v lba data ch : Nat) : Option Nat × Dev :=
  if d.stalled (ch / 4) then (none, d)
  else
    let (seq, e) := d.nextSeq
    match e.placeSlot c false ch ⟨0, v, lba, seq, (d.volume v).key, data, (d.volume v).realm⟩ (some order) with
    | (none, _) => (none, d)
    | (some (k, i, page), e) =>
      (some (if page then nextChannel (e.maskChannels (e.volume v).groups) ch else ch),
        (e.putMap v lba (.at_ k i)).modVolume v fun x => { x with written := satAdd 64 x.written 1 })

/-- The request of a VOLUME capsule (R502). -/
def Capsule.request (cap : Capsule) : Nat := cap.field 383 128
/-- OP, VOLUME, LBA, COUNT, LOC, ADDR of a volume request. -/
def vrOp (r : Nat) : Nat := bits r 7 0
/-- VOLUME. -/
def vrVolume (r : Nat) : Nat := bits r 31 16
/-- LBA. -/
def vrLba (r : Nat) : Nat := bits r 79 32
/-- COUNT. -/
def vrCount (r : Nat) : Nat := bits r 127 96
/-- LOC. -/
def vrLoc (r : Nat) : Nat := bits r 129 128
/-- ADDR. -/
def vrAddr (r : Nat) : Nat := bits r 255 192

/-- A capsule ends with a status and the blocks it has completed as its result. -/
def Dev.endVolume (c : Ctx) (d : Dev) (order status : Nat) : Dev :=
  match d.capsule? order with
  | some cap => d.endPlain c order status 0 cap.blocks
  | none => d

/-- A volume request has everything it waited for: it ends with ST_OK. -/
def Dev.volumeDone (c : Ctx) (d : Dev) (order : Nat) : Dev :=
  match d.capsule? order with
  | some cap => if cap.opcode = 0x11 ∧ cap.pending = 0 then d.endVolume c order stOk else d
  | none => d

/-- The data of the logical blocks of a WRITE, all read from its buffer before any of them is written (R506). -/
def Dev.writeData (d : Dev) (cap : Capsule) : List Nat → Nat × List Nat × Dev
  | [] => (stOk, [], d)
  | i :: l =>
    match d.bufRead cap (vrLoc cap.request) (vrAddr cap.request + 4096 * i) 4096 with
    | (0, bs, d) => match Dev.writeData d cap l with
      | (st, rest, d) => (st, ofLE bs :: rest, d)
    | (st, _, d) => (st, [], d)

/-- The blocks of a WRITE from a logical block on put into page buffers; where collection holds the group back the rest waits (R524). -/
def Dev.writeFrom (c : Ctx) (d : Dev) (order v lba ch : Nat) : List Nat → Dev
  | [] => d
  | x :: l =>
    match d.writeBlock c order v lba x ch with
    | (some ch, d) => Dev.writeFrom c d order v (lba + 1) ch l
    | (none, d) => d.setFlash { d.flash with waiting := d.flash.waiting ++ [(order, v, lba, ch, x :: l)] }

/-- Writes that waited for collection go on (R524). -/
def Dev.resumeWrites (c : Ctx) (d : Dev) : Dev :=
  d.flash.waiting.foldl (fun d (order, v, lba, ch, l) => d.writeFrom c order v lba ch l) (d.setFlash { d.flash with waiting := [] })

/-! ### Collection and wear levelling (R524–R527, R537) -/

/-- Does slot i of a block hold the newest version of its logical block, or the mark that it is unreadable (R525, R531)? -/
def Dev.validSlot (d : Dev) (k i : Nat) (s : FlashSlot) : Bool :=
  (s.kind == 0 || s.kind == 3) && s.key == (d.volume s.volume).key &&
  match d.mapped s.volume s.lba with
  | some (.at_ b j) => b == k && j == i
  | some .unreadable => !d.flash.blocks.any fun e => e.2.slots.any fun t => t.volume == s.volume && t.lba == s.lba && t.key == s.key && decide (s.seq < t.seq)
  | some (.parked _) => false
  | none => false

/-- The indices of a block's valid slots. -/
def Dev.validSlots (d : Dev) (k : Nat) : List Nat :=
  (((d.fblock k).slots.mapIdx fun i s => (i, s)).filter fun e => d.validSlot k e.1 e.2).map (·.1)

/-- A copy of a block's valid slots begins: the slots are read (R525). -/
def Dev.startCopyOf (d : Dev) (k : Nat) (wear retire : Bool) : Dev :=
  let l := d.validSlots k
  let n := d.flash.nextCopy
  let d := d.setFlash { d.flash with nextCopy := n + 1, copies := d.flash.copies ++ [⟨n, k, wear, retire, l, [], false⟩] }
  l.foldl (fun d i => d.startOp (.copyRead n i) k i false) d

/-- The closed blocks of a group's volumes that no copy has as its source. -/
def Dev.idleClosed (d : Dev) (g : Nat) : Tab FlashBlock :=
  (d.groupBlocks g).filter fun e => e.2.state == .closed && decide (e.2.volume < 64) && !d.flash.copies.any fun x => x.source == e.1

/-- Collection on a group whose free blocks are below the start level (R524); one copy at a time, and none during a shutdown. -/
def Dev.collectGroup (d : Dev) (g : Nat) : Dev :=
  if d.flash.shutdown || d.flash.mapState != 2 || (d.flash.copies.any fun x => lunGroup (blockLun x.source) == g) ||
    decide (d.cfg 0x2850 1 * d.blocksInService g ≤ d.blocksFree g * 100) then d
  else
    let before (a b : Nat × Nat × Nat) : Bool := decide (a.2.1 < b.2.1) || (a.2.1 == b.2.1 && decide (a.2.2 < b.2.2))
    match (sortBy before ((d.idleClosed g).map fun e => (e.1, (d.validSlots e.1).length, baseSeq e.2.slots))).head? with
    | some (k, _) => d.startCopyOf k false false
    | none => d

/-- Wear levelling of a group (R537): the closed block with the lowest erase count moves once the spread exceeds the limit, and again until
the spread has fallen below 90 % of it. -/
def Dev.levelGroup (d : Dev) (g : Nat) : Dev :=
  let (lo, hi, _) := d.eraseCounts g
  let limit := d.cfg 0x2850 3
  let due : Bool := if d.flash.levelling.contains g then decide (limit * 90 ≤ (hi - lo) * 100) else decide (limit < hi - lo)
  let others := d.flash.levelling.filter (· != g)
  if d.flash.shutdown || d.flash.copies.any fun x => lunGroup (blockLun x.source) == g then d
  else if !due then d.setFlash { d.flash with levelling := others }
  else match (sortBy (fun (a b : Nat × FlashBlock) => decide (a.2.erases < b.2.erases)) (d.idleClosed g)).head? with
    | some e =>
      let d := d.startCopyOf e.1 true false
      d.setFlash { d.flash with wearMoves := satAdd 64 d.flash.wearMoves 1, levelling := g :: others }
    | none => d

/-- The free blocks of a group that have been used and have the highest erase count among the free, for a wear move (R537). -/
def Dev.wornBlocks (d : Dev) (g : Nat) : List Nat :=
  let free := (d.groupBlocks g).filter fun e => e.2.state == .free && !(d.rootBlocks g).contains e.1
  let hi := (free.map fun e => e.2.erases).foldl max 0
  (free.filter fun e => e.2.erases == hi).map (·.1)

/-- A wear move's copies go onto a free block with the highest erase count: it is opened, and the volume's open block of collection on the group
is closed for it (R512, R537; log entry 131). -/
def Dev.openWorn (d : Dev) (v g : Nat) : Dev :=
  let l := d.wornBlocks g
  if l.isEmpty then d
  else
    let (i, d) := d.choose l.length
    let d : Dev := match tabGet (16 * v + g) d.flash.collect with
      | some o => d.closeBlock (16 * v + g) o true
      | none => d
    (d.takeBlock (l.getD i 0) v true).setBuffer true (16 * v + g) ⟨l.getD i 0, [], 0⟩

/-- A copy changed. -/
def Dev.modFlashCopy (d : Dev) (n : Nat) (f : FlashCopy → FlashCopy) : Dev :=
  d.setFlash { d.flash with copies := d.flash.copies.map fun x => if x.number = n then f x else x }

/-- A slot of a copy put into a collection page with a new sequence number (R525, R531); it stays to be copied where no block is free for it. -/
def Dev.copySlot (c : Ctx) (d : Dev) (x : FlashCopy) (i : Nat) (s : FlashSlot) : Dev :=
  let g := lunGroup (blockLun x.source)
  let e : Dev := if x.wear && x.placed.isEmpty then d.openWorn s.volume g else d
  let (seq, e) := e.nextSeq
  let t : FlashSlot := if d.mapped s.volume s.lba = some .unreadable then { s with seq := seq, kind := 3, data := 0 } else { s with seq := seq }
  match e.placeSlot c true g t none with
  | (none, _) => d
  | (some (k, j, _), e) =>
    (e.setFlash { e.flash with copied := satAdd 64 e.flash.copied 1 }).modFlashCopy x.number fun y =>
      { y with left := y.left.filter (· != i), placed := y.placed ++ [(i, k, j)] }

/-- The slots of copies that have still to be copied, and that no read is under way for, are read (R525). -/
def Dev.resumeCopies (d : Dev) : Dev :=
  d.flash.copies.foldl (fun d x => x.left.foldl (fun d i =>
    if d.flash.ops.any fun o => o.use == .copyRead x.number i then d else d.startOp (.copyRead x.number i) x.source i false) d) d

/-- What copies that have not verified placed in a block is copied again, into another (R529). -/
def Dev.redoCopies (d : Dev) (k : Nat) : Dev :=
  (d.setFlash { d.flash with copies := d.flash.copies.map fun x =>
    if x.verified then x
    else { x with left := x.left ++ (x.placed.filter fun p => p.2.1 == k).map (·.1), placed := x.placed.filter fun p => p.2.1 != k } }).resumeCopies

/-! ### A LUN fails (R534) -/

/-- A slot of a failed program put into another block of its volume, on any channel of its mask (R532). -/
def Dev.placeAny (c : Ctx) (d : Dev) (s : FlashSlot) (cap : Option Nat) : Option (Nat × Nat) × Dev :=
  let (ch, d) := d.writeChannel s.volume
  (ch :: d.maskChannels (d.volume s.volume).groups).foldl (fun r h => match r with
    | (some p, d) => (some p, d)
    | (none, d) => match d.placeSlot c false h s cap with
      | (some (k, i, _), e) => (some (k, i), e)
      | (none, _) => (none, d)) (none, d)

/-- A slot of a failed program finds its new place, and the map with it where it still named the slot; it waits where no block is free. -/
def Dev.replaceSlot (c : Ctx) (d : Dev) (was : MapEntry) (s : FlashSlot) (cap : Option Nat) : Dev :=
  let stays := d.mapped s.volume s.lba == some was
  match d.placeAny c s cap with
  | (some (k, i), d) => if stays then d.putMap s.volume s.lba (.at_ k i) else d
  | (none, d) =>
    let d := d.setFlash { d.flash with parked := d.flash.parked ++ [(s, cap)] }
    if stays then d.putMap s.volume s.lba (.parked s.seq) else d

/-- Slots that waited for a free block are placed (R532). -/
def Dev.resumeParked (c : Ctx) (d : Dev) : Dev :=
  d.flash.parked.foldl (fun d e => d.replaceSlot c (.parked e.1.seq) e.1 e.2) (d.setFlash { d.flash with parked := [] })

/-- A block in which a program failed is given up: the slots of its outstanding programs and of its page buffer go into other blocks (R532), and
those that collection placed there are copied again (R529). -/
def Dev.giveUp (c : Ctx) (d : Dev) (k : Nat) : Dev :=
  let n := (d.fblock k).slots.length
  let l := if (d.fblock k).collecting then [] else (d.unprogrammed k).mapIdx fun i e => (n + i, e)
  let d := (d.setFlash { d.flash with ops := d.flash.ops.filter fun o => o.block != k || o.programmed.isNone }).dropBuffer k
  let d := (d.modBlock k fun b => { b with state := .closed }).redoCopies k
  l.foldl (fun d e => if e.2.1.kind = 1 then d else d.replaceSlot c (.at_ k e.1) e.2.1 e.2.2) d

/-- A LUN leaves service: what the map names on its media is unreadable, what was still to be programmed there goes elsewhere, and the reads on it
end (R534). W1 of the event is the LUN (log entry 132). -/
def Dev.lunFails (c : Ctx) (d : Dev) (lun : Nat) : Dev :=
  let d := d.setFlash { d.flash with
    luns := tabSet lun 4 d.flash.luns
    map := d.flash.map.map fun (e : Nat × MapEntry) => match e.2 with
      | .at_ k i => if blockLun k = lun ∧ i < (d.fblock k).slots.length then (e.1, .unreadable) else e
      | _ => e
    copies := d.flash.copies.filter fun x => blockLun x.source != lun
    ops := d.flash.ops.filter fun o => blockLun o.block != lun || (match o.use with | .read .. => true | .program _ => true | _ => false) }
  let blocks := distinct (((d.flash.opens ++ d.flash.collect).map fun (e : Nat × OpenBlock) => e.2.block) ++
    (d.flash.ops.filterMap fun o => o.programmed.map fun _ => o.block) ++
    (d.flash.copies.map fun x => x.placed.map fun p => p.2.1).flatten) |>.filter fun k => blockLun k == lun
  let d := blocks.foldl (fun d k => d.giveUp c k) d
  let readers := distinct (d.flash.ops.filterMap fun o => match o.use with
    | .read cap desc v _ => if blockLun o.block = lun then some (cap, desc, v) else none
    | _ => none)
  let d := d.event c 0x0505 3 0 (lunGroup lun) lun 0
  let d := readers.foldl (fun d r => (d.mediaError r.2.2).endReader c r.1 r.2.1) d
  (d.setFlash { d.flash with ops := d.flash.ops.filter fun o => blockLun o.block != lun }).checkSpare c

/-- An operation of a LUN ended well, or failed; the eighth failure in succession takes the LUN out of service (R534). -/
def Dev.lunResult (c : Ctx) (d : Dev) (lun : Nat) (ok : Bool) : Dev :=
  if ok then d.setFlash { d.flash with failures := tabDel lun d.flash.failures }
  else
    let n := tabGetD lun 0 d.flash.failures + 1
    let d := d.setFlash { d.flash with failures := tabSet lun n d.flash.failures }
    if n < 8 || d.lunState lun != 0 then d else d.lunFails c lun

/-- A block is retired (R529, R532, R533). -/
def Dev.retire (c : Ctx) (d : Dev) (k : Nat) : Dev :=
  ((d.modBlock k fun b => { b with state := .retired }).checkSpare c).health c (lunGroup (blockLun k))

/-! ### Volumes come and go (R499) -/

/-- A volume made active: a fresh XTS key pair, an empty map (R499). -/
def Dev.addVolume (d : Dev) (v realm groups capacity : Nat) : Dev :=
  let (r, d) := d.draw
  let k := d.flash.nextKey
  let d := d.setFlash { d.flash with
    nextKey := k + 1
    volumes := tabSet v ⟨1, realm, groups, capacity, k, 0, 0, 0, 0, 0, freshPair r, none⟩ d.flash.volumes }
  d.setNor { d.nor with volumeKeys := tabSet v (keyWrap (storageKey d.keep.lifeCycle) (freshPair r)) d.nor.volumeKeys }

/-- A volume's key is destroyed: its map, buffers, reads and key go, and its blocks are erased. A descriptor that became active meanwhile takes
the slot now (log entry 131). -/
def Dev.destroyVolume (c : Ctx) (d : Dev) (v : Nat) : Dev :=
  let next := (d.volume v).next
  let own (k : Nat) : Bool := (d.fblock k).volume == v && (d.fblock k).state != .free && (d.fblock k).state != .retired
  let d := d.setFlash { d.flash with
    map := d.flash.map.filter fun (e : Nat × MapEntry) => e.1 / 2 ^ 48 != v
    opens := d.flash.opens.filter fun (e : Nat × OpenBlock) => e.1 / 64 != v
    collect := d.flash.collect.filter fun (e : Nat × OpenBlock) => e.1 / 16 != v
    ops := d.flash.ops.filter fun o => !own o.block
    copies := d.flash.copies.filter fun x => !own x.source
    parked := d.flash.parked.filter fun e => e.1.volume != v
    volumes := tabDel v d.flash.volumes }
  let d := d.setNor { d.nor with volumeKeys := tabDel v d.nor.volumeKeys }
  let d := ((d.flash.blocks.map (·.1)).filter own).foldl (fun d k => if d.lunState (blockLun k) = 0 then d.startErase k else d) d
  match next with
  | some (realm, groups, capacity) => (d.addVolume v realm groups capacity).volumesCommitted c []
  | none => d

end Sys2Proof.Machine
end

