-- ==== Sys2Proof/Machine/PlanShapes.lean ====
section
/-! DEFINITION. Which formats, shapes and scale bindings each operator accepts (plan load reasons 0x08 and 0x09, R248). -/

namespace Sys2Proof.Machine

/-! ### Objects named by handles -/

/-- What a kind of object an operator's P[15:0] names: 1 index, 2 table, 3 KV pool, 4 volume, 0 none. -/
def handleKind (op : Nat) : Nat :=
  if op = 0x30 ∨ op = 0x31 ∨ op = 0x32 ∨ op = 0x34 then 1
  else if op = 0x20 ∨ op = 0x21 ∨ op = 0x33 then 2
  else if op = 0x18 ∨ op = 0x50 ∨ op = 0x51 then 3
  else if op = 0x25 then 4 else 0

/-- Does a handle name an active object of a kind of a realm? -/
def Dev.handleOk (d : Dev) (realm kind handle : Nat) : Bool :=
  match kind with
  | 1 => (d.indexOf realm handle).isSome
  | 2 => (d.tableOf realm handle).isSome
  | 3 => (d.poolOf realm handle).isSome
  | 4 => (d.volumeByHandle realm handle).isSome
  | _ => true

/-- The handles that a descriptor names, with their kinds. -/
def descHandles (w : Nat) : List (Nat × Nat) :=
  (if handleKind (dcOp w) = 0 then [] else [(handleKind (dcOp w), dcP w 15 0)]) ++
    (if dcOp w = 0x50 ∧ !dcPb w 16 ∧ dcPb w 17 then [(2, dcP w 47 32)] else [])

/-! ### Operands by operator (*Operators*) -/

/-- The number of input slots that an operator lists. -/
def opInputs (op : Nat) : Nat :=
  if op = 0x10 ∨ op = 0x11 ∨ op = 0x1A ∨ op = 0x35 ∨ op = 0x36 ∨ op = 0x42 then 8
  else if op = 0x15 ∨ op = 0x18 ∨ op = 0x51 then 3
  else if op = 0x12 ∨ op = 0x13 ∨ op = 0x17 ∨ op = 0x1C ∨ op = 0x21 ∨ op = 0x31 ∨ op = 0x32 ∨ op = 0x33 ∨ op = 0x34 ∨ op = 0x50 then 2
  else if op = 0x41 then 0 else 1

/-- The number of output slots that an operator lists. -/
def opOutputs (op : Nat) : Nat :=
  if op = 0x21 ∨ op = 0x42 ∨ op = 0x43 ∨ op = 0x51 then 0
  else if op = 0x16 ∨ op = 0x19 ∨ op = 0x1B ∨ op = 0x32 ∨ op = 0x35 ∨ op = 0x36 ∨ op = 0x37 then 2 else 1

/-- The input slots that must name a tensor. A fusing MERGE without IN0 or IN1 is left to reason 0x08 (R356). -/
def requiredInputs (w : Nat) : List Nat :=
  let op := dcOp w
  if op = 0x41 ∨ op = 0x42 then []
  else if op = 0x11 then [0, 1, 3]
  else if op = 0x36 ∧ dcPb w 19 then []
  else if op = 0x51 then [0, 1, 2]
  else if op = 0x10 ∨ op = 0x12 ∨ op = 0x13 ∨ op = 0x15 ∨ op = 0x17 ∨ op = 0x18 ∨ op = 0x1C ∨ op = 0x21 ∨ op = 0x31 ∨ op = 0x32 ∨
    op = 0x34 ∨ op = 0x50 then [0, 1] else [0]

/-- The output slots that must name a tensor: those that *Operators* lists without 'optional', among them OUT1 of QUANT with AUTO (R222).
A COLLECT's OUT0 exists at the root only. -/
def requiredOutputs (w : Nat) : List Nat :=
  let op := dcOp w
  if opOutputs op = 0 ∨ op = 0x44 then []
  else if (op = 0x19 ∧ dcPb w 1) ∨ op = 0x1B ∨ op = 0x32 ∨ inRange 0x35 0x37 op then [0, 1] else [0]

/-! ### Helpers -/

/-- Dimensions filled up to four. -/
def dims4 (l : List Nat) : List Nat := (List.range 4).map (dimAt l)

/-- What a check of shapes works on: the device, the plan, the dimensions of each tensor, and a descriptor. -/
structure ShapeCtx where
  d : Dev
  im : DictVal
  realm : Nat
  dims : Nat → List Nat
  w : Nat

/-- Is input i named? -/
def ShapeCtx.has (x : ShapeCtx) (i : Nat) : Bool := dcIn x.w i != noOperand
/-- Is output j named? -/
def ShapeCtx.hasOut (x : ShapeCtx) (j : Nat) : Bool := dcOut x.w j != noOperand
/-- Dimensions of input i. -/
def ShapeCtx.inDims (x : ShapeCtx) (i : Nat) : List Nat := dims4 (x.dims (dcIn x.w i))
/-- Dimensions of output j. -/
def ShapeCtx.outDims (x : ShapeCtx) (j : Nat) : List Nat := dims4 (x.dims (dcOut x.w j))
/-- Format code of input i. -/
def ShapeCtx.inFmt (x : ShapeCtx) (i : Nat) : Nat := tnFmtCode (imTensor x.im (dcIn x.w i))
/-- Format code of output j. -/
def ShapeCtx.outFmt (x : ShapeCtx) (j : Nat) : Nat := tnFmtCode (imTensor x.im (dcOut x.w j))
/-- Elements beyond the innermost dimension. -/
def rowsOf (dims : List Nat) : Nat := volumeOf (dims.drop 1)

/-- Dimensions that a result has as output: [t, 2, d] for a descriptor bound to an expert (R228). -/
def ShapeCtx.placed (x : ShapeCtx) (dims : List Nat) : List Nat :=
  if dcExpertValid x.w then [dimAt dims 0, 2, dimAt (x.dims (dcOut (imDesc x.im (dcRoute x.w)) 0)) 1, 1] else dims4 dims

/-- Does output j have the dimensions of a result? A descriptor bound to an expert works on t rows, or on the two slots of each. -/
def ShapeCtx.outIs (x : ShapeCtx) (j : Nat) (dims : List Nat) : Bool :=
  !x.hasOut j || (x.outDims j == x.placed dims &&
    (!dcExpertValid x.w ||
      let t := dimAt (x.dims (dcOut (imDesc x.im (dcRoute x.w)) 0)) 1
      rowsOf (dims4 dims) == t || rowsOf (dims4 dims) == 2 * t))

/-- Does output 0 have the format that P[3:0] names? -/
def ShapeCtx.fmtMatches (x : ShapeCtx) : Bool := dcP x.w 3 0 == x.outFmt 0

/-- INT8 or Q8. -/
def isByte (f : Nat) : Bool := f == 2 || f == 0xB
/-- INT4 or Q4. -/
def isNibble (f : Nat) : Bool := f == 1 || f == 0xA
/-- E4M3 or E5M2. -/
def isFp8 (f : Nat) : Bool := f == 5 || f == 6

/-- *Matrix unit combinations*: whether a pair is accepted, dense or 2:4 (R113). -/
def matrixPair (sp : Bool) (a w : Nat) : Bool :=
  (isByte a && isByte w) || (isFp8 a && isFp8 w) || (a == 7 && w == 7) || (a == 8 && w == 8) ||
    (!sp && ((isByte a && isNibble w) || (isNibble a && isNibble w) || (a == 8 && (w == 0xA || w == 0xB))))

/-- Is a tensor's shape and format that of a candidate list (R316)? -/
def listShaped (fmt : Nat) (dims : List Nat) : Bool :=
  fmt == 4 && dimAt dims 0 == 4 && decide (4 ≤ dimAt dims 1) && dimAt dims 2 == 1 && dimAt dims 3 == 1

/-- Is tensor t a candidate list? The DIM1 of one that streams limits nothing (R319). -/
def ShapeCtx.isList (x : ShapeCtx) (t : Nat) : Bool :=
  let dims := dims4 (x.dims t)
  listShaped (tnFmtCode (imTensor x.im t)) (if streamingList x.im t then dims.set 1 (max 4 (dimAt dims 1)) else dims)
/-- Is input i a candidate list? -/
def ShapeCtx.inList (x : ShapeCtx) (i : Nat) : Bool := x.isList (dcIn x.w i)
/-- Is output j a candidate list? -/
def ShapeCtx.outList (x : ShapeCtx) (j : Nat) : Bool := x.isList (dcOut x.w j)
/-- Is output j, where it is named, a result record (R317)? -/
def ShapeCtx.outRecord (x : ShapeCtx) (j : Nat) : Bool := !x.hasOut j || (x.outFmt j == 4 && x.outDims j == [16, 1, 1, 1])

/-- The descriptor that writes input i, as its word. -/
def ShapeCtx.writer (x : ShapeCtx) (i : Nat) : Option Nat := (producer x.im (dcIn x.w i)).map (imDesc x.im)

/-- The order of the scores that a descriptor writes: true where lower is better, for SCAN, GRAPH_STEP and RERANK_EXACT (R313). -/
def ShapeCtx.orderOf (x : ShapeCtx) (w : Nat) : Option Bool :=
  if dcOp w = 0x31 ∨ dcOp w = 0x32 then (x.d.indexOf x.realm (dcP w 15 0)).map fun i => ixLower (x.d.index i)
  else if dcOp w = 0x34 then some (dcP w 19 16 == 0) else none

/-- Does a tensor come from another through FILTERs (R313)? -/
def throughFilter (im : DictVal) (src : Nat) : Nat → Nat → Bool
  | 0, t => t == src
  | fuel + 1, t => t == src || match producer im t with
    | some i => dcOp (imDesc im i) == 0x33 && throughFilter im src fuel (dcIn (imDesc im i) 0)
    | none => false

/-! ### Panels (R461, R462) -/

/-- Bytes of a panel of a tensor under a blocking, whose reader takes `k` elements along K in a pass; none where the blocking is reserved or its
reader does not accept the format. -/
def panelBytes (blocking fmt k : Nat) (dims : List Nat) : Option Nat :=
  let width := ((Fmt.ofCode fmt).map Fmt.width).getD 8
  let row := ceilDiv (dimAt dims 0 * width) 8
  let matrix := isByte fmt || isNibble fmt || isFp8 fmt || fmt == 7 || fmt == 8
  match blocking with
  | 0 => some (ceilDiv (volumeOf dims * width) 8)
  | 1 => some (rowsOf dims * (ceilDiv row 64 * 64))
  | 2 | 3 => if matrix then some (ceilDiv (dimAt dims 0) k * ceilDiv (rowsOf dims) 32 * (32 * k * width / 8)) else none
  | 4 => if matrix && !isNibble fmt then some (ceilDiv (dimAt dims 0) 32 * ceilDiv (rowsOf dims) 32 * (32 * 32 * width / 8 + 256)) else none
  | 5 => if listShaped fmt dims then some (16 * dimAt dims 1) else none
  | _ => none

/-- Do the descriptors that read a tensor take it in a blocking: what is blocked for the matrix unit as an operand of that unit, in the slot that the
blocking is for, and a candidate list as one (R462)? The formats that each of them accepts are its own check. -/
def blockingRead (im : DictVal) (blocking t : Nat) : Bool :=
  (readersOf im t).all fun r =>
    let op := dcOp r.1
    match blocking with
    | 2 => (op != 0x10 && op != 0x11) || r.2 == 0
    | 3 => (op != 0x10 && op != 0x11) || (op == 0x10 && r.2 == 1)
    | 4 => op == 0x11 && r.2 == 1
    | 5 => op == 0x33 || op == 0x34 || inRange 0x35 0x37 op
    | _ => true

/-- Is the address of a constant in T1 or T2 that a panel moves a multiple of 4 KiB? -/
def panelAligned (w : Nat) : Bool := tnKind w != 2 || tnOffset w % 4096 == 0

/-! ### Formats and shapes (reason 0x08) -/

/-- The matrix operators (R113, R116, R118). The weights of a sparse activation have A's K, or A's K padded to a multiple of 64 (DESIGN CHOICE,
log entry 111). -/
def ShapeCtx.matrixOk (x : ShapeCtx) (sp : Bool) : Bool :=
  let a := x.inDims 0
  let b := x.inDims 1
  let n := dimAt b 1
  let ka := dimAt a 0
  let kw := if sp then 2 * dimAt b 0 else dimAt b 0
  let bindA := tnScale (imTensor x.im (dcIn x.w 0))
  let bindW := tnScale (imTensor x.im (dcIn x.w 1))
  let single := kConstant bindA ka && kConstant bindW (dimAt b 0)
  matrixPair sp (x.inFmt 0) (x.inFmt 1) && dimAt b 2 == 1 && dimAt b 3 == 1 &&
  (if sp then kw % 4 == 0 && (kw == ka || kw == ceilDiv ka 64 * 64) &&
      volumeOf (x.inDims 3) == n * (dimAt b 0 / 2) && isNibble (x.inFmt 3)
    else ka == kw) &&
  (!x.has 2 || x.inDims 2 == [n, 1, 1, 1]) && x.fmtMatches &&
  (x.outFmt 0 != 4 || (single && (isByte (x.inFmt 0) || isNibble (x.inFmt 0)))) && x.outIs 0 (a.set 0 n)

/-- Elementwise operators of two inputs: they broadcast. -/
def ShapeCtx.pairOk (x : ShapeCtx) : Bool :=
  let a := x.inDims 0
  let b := x.inDims 1
  ((List.range 4).all fun i => dimAt a i == dimAt b i || dimAt a i == 1 || dimAt b i == 1) && x.fmtMatches && x.outIs 0 (broadcastDims a b)

/-- QUANT: the code format, the shape, and with AUTO the scale tensor. -/
def ShapeCtx.quantOk (x : ShapeCtx) : Bool :=
  let a := x.inDims 0
  x.outFmt 0 == (if dcPb x.w 0 then 0xB else 0xA) && x.outIs 0 a &&
  (!dcPb x.w 1 || (x.outFmt 1 == 2 && x.outIs 1 (a.set 0 (dimAt a 0 / 2 ^ (dcP x.w 4 2 + 4)))))

/-- GATHER (R396). -/
def ShapeCtx.gatherOk (x : ShapeCtx) : Bool :=
  x.inFmt 0 == 4 && decide (volumeOf (x.inDims 0) ≤ 2 ^ 20) &&
  match x.d.tableOf x.realm (dcP x.w 15 0) with
  | none => true
  | some t =>
    let w := x.d.table t
    x.outFmt 0 == tbFmtCode w && dimAt (x.outDims 0) 0 == tbElems w &&
    (if dcExpertValid x.w then x.outIs 0 [tbElems w, volumeOf (x.inDims 0), 1, 1] else rowsOf (x.outDims 0) == volumeOf (x.inDims 0)) &&
    (!(tbFmt w).isCode || tnScale (imTensor x.im (dcOut x.w 0)) == tbScale w)

/-- SCATTER (R401). -/
def ShapeCtx.scatterOk (x : ShapeCtx) : Bool :=
  x.inFmt 0 == 4 &&
  match x.d.tableOf x.realm (dcP x.w 15 0) with
  | none => true
  | some t =>
    let w := x.d.table t
    x.inFmt 1 == tbFmtCode w && dimAt (x.inDims 1) 0 == tbElems w && rowsOf (x.inDims 1) == volumeOf (x.inDims 0) &&
    (dcP x.w 17 16 == 3 || tbFmtCode w == 3 || tbFmtCode w == 4 || tbFmtCode w == 7 || tbFmtCode w == 8 || tbFmtCode w == 9)

/-- SCAN (R313). -/
def ShapeCtx.scanOk (x : ShapeCtx) : Bool :=
  x.inFmt 1 == 4 && dimAt (x.inDims 1) 0 == 4 && x.outList 0 && decide (dcP x.w 18 16 < imSeqs x.im) &&
  (if dcPb x.w 40 then dcP x.w 39 32 == 0 else dcP x.w 39 32 % 2 == 0) &&
  (match x.writer 1 with
    | some p => (dcOp p == 0x30 || dcOp p == 0x32) && dcP p 15 0 == dcP x.w 15 0
    | none => false) &&
  (let s := imDesc x.im (dcP x.w 31 20)
   decide (dcP x.w 31 20 < imDescs x.im) && dcOp s == 0x35 &&
   ((dcIns s).any fun p => throughFilter x.im (dcOut x.w 0) (imDescs x.im) p.2) &&
   match x.d.indexOf x.realm (dcP x.w 15 0) with
   | some i => let w := x.d.index i
               ixKind w == 1 && dimAt (x.inDims 0) 0 == ixDim w && volumeOf (x.inDims 0) == ixDim w && dcPb s 17 == ixLower w
   | none => true)

/-- PROBE (R313). -/
def ShapeCtx.probeOk (x : ShapeCtx) : Bool :=
  let n := dcP x.w 27 16
  inRange 1 4096 n && (dcP x.w 43 28 == 0 || inRange n 16384 (dcP x.w 43 28)) && x.outFmt 0 == 4 && x.outDims 0 == [4, n + 1, 1, 1] &&
  match x.d.indexOf x.realm (dcP x.w 15 0) with
  | some i => ixKind (x.d.index i) == 1 && volumeOf (x.inDims 0) == ixDim (x.d.index i)
  | none => true

/-- GRAPH_STEP (R309, R312, R313): OUT1 is a cell list for an IVF index, a candidate list for a graph index. -/
def ShapeCtx.graphOk (x : ShapeCtx) : Bool :=
  let f := x.inDims 1
  dcP x.w 18 16 == 0 && decide (1 ≤ dcP x.w 27 20) && x.inFmt 1 == 4 && x.outFmt 0 == 4 && dimAt f 0 == 4 &&
  inRange 8194 (8193 + 4096) (dimAt f 1) && dimAt f 2 == 1 && dimAt f 3 == 1 && x.outDims 0 == f &&
  match x.d.indexOf x.realm (dcP x.w 15 0) with
  | some i =>
    volumeOf (x.inDims 0) == ixDim (x.d.index i) && (!x.hasOut 1 ||
      if ixKind (x.d.index i) = 1 then
        x.outFmt 1 == 4 && dimAt (x.outDims 1) 0 == 4 && decide (2 ≤ dimAt (x.outDims 1) 1) && rowsOf (x.outDims 1) == dimAt (x.outDims 1) 1
      else x.outList 1)
  | none => true

/-- FILTER (R313). -/
def ShapeCtx.filterOk (x : ShapeCtx) : Bool :=
  x.inList 0 && x.outList 0 && (dcP x.w 21 19 != 7 || x.has 1) && (!x.has 1 || (x.inFmt 1 == 4 && inRange 1 4096 (volumeOf (x.inDims 1)))) &&
  match x.d.tableOf x.realm (dcP x.w 15 0) with
  | some t => decide (4 * (dcP x.w 18 16 + 1) ≤ tbRS (x.d.table t))
  | none => true

/-- RERANK_EXACT (R305, R313). -/
def ShapeCtx.rerankOk (x : ShapeCtx) : Bool :=
  let m := dcP x.w 19 16
  x.inList 0 && x.outList 0 && decide (m ≤ 3) &&
  (m != 3 || (x.inFmt 1 == 4 && dimAt (x.inDims 1) 0 == 2 && inRange 1 1024 (rowsOf (x.inDims 1)))) &&
  match x.d.indexOf x.realm (dcP x.w 15 0) with
  | some i => let w := x.d.index i
              if m = 3 then ixSparse w != 0 else ixVolume w != 0 && volumeOf (x.inDims 1) == ixDim w
  | none => true

/-- SELECT and MERGE (R313, R356, R239). -/
def ShapeCtx.selectOk (x : ShapeCtx) : Bool :=
  let k := dcP x.w 16 0
  let fusing := dcOp x.w == 0x36 && dcPb x.w 19
  decide (k ≤ 65536) && (imVersion x.im != 3 || (decide (k ≤ 1024) && !dcPb x.w 18 && !fusing)) &&
  ((dcIns x.w).all fun p => x.inList p.1) && x.outList 0 && decide (4 + k ≤ dimAt (x.outDims 0) 1) && x.outRecord 1 &&
  (!fusing || (x.has 0 && x.has 1 && (dcIns x.w).length == 2)) &&
  (dcIns x.w).all fun p => match x.writer p.1 with
    | none => true
    | some v =>
      (match x.orderOf v with | some o => o == dcPb x.w 17 | none => true) &&
      (!(dcOp v == 0x35 || dcOp v == 0x36) || (dcPb v 17 == dcPb x.w 17 && dcPb v 18 == dcPb x.w 18))

/-- COLLECT (R261, R349, R356): SUM and MAX take FP32 or INT32. -/
def ShapeCtx.collectOk (x : ShapeCtx) : Bool :=
  let m := dcP x.w 25 16
  let op := dcP x.w 37 36
  let a := x.inDims 0
  inRange 1 512 m && decide (dcP x.w 35 26 < m) && (op % 2 == 0 || x.inFmt 0 == 9 || x.inFmt 0 == 4) && (!x.hasOut 0 || x.outFmt 0 == x.inFmt 0) &&
  (if op = 0 then (match x.writer 0 with | some v => dcOp v == 0x35 || dcOp v == 0x36 | none => false) && (!x.hasOut 0 || x.outDims 0 == a)
    else if op = 2 then !x.hasOut 0 || volumeOf (x.outDims 0) == m * volumeOf a
    else x.outIs 0 a)

/-- Is a tensor a page table (R424), of B columns? -/
def pageTable (fmt : Nat) (dims : List Nat) : Bool :=
  fmt == 4 && dimAt dims 0 == 16 && inRange 1 256 (dimAt dims 1) && dimAt dims 2 == 1 && dimAt dims 3 == 1

/-- ATTEND (R426). -/
def ShapeCtx.attendOk (x : ShapeCtx) : Bool :=
  let h := dcP x.w 29 22
  let a := x.inDims 0
  let b := dimAt (x.inDims 1) 1
  (dcP x.w 19 16 == 7 || dcP x.w 19 16 == 8 || dcP x.w 19 16 == 9) && x.outFmt 0 == dcP x.w 19 16 &&
  x.inFmt 0 == 8 && pageTable (x.inFmt 1) (x.inDims 1) && (!x.has 2 || (x.inFmt 2 == 4 && x.inDims 2 == [2, b, 1, 1])) && decide (1 ≤ h) &&
  match x.d.poolOf x.realm (dcP x.w 15 0) with
  | none => true
  | some k =>
    let w := x.d.pool k
    h % max (plHkv w) 1 == 0 && dimAt a 0 == plDh w && dimAt a 1 == (if dcPb x.w 20 then h + 2 * plHkv w else h) && dimAt a 3 == 1 &&
    x.outDims 0 == [plDh w, h, dimAt a 2, 1]

/-- KV_APPEND (R432). -/
def ShapeCtx.appendOk (x : ShapeCtx) : Bool :=
  let h := dcP x.w 32 25
  x.inFmt 0 == 8 && x.inFmt 1 == 8 && pageTable (x.inFmt 2) (x.inDims 2) && (dcPb x.w 24 || h == 0) &&
  match x.d.poolOf x.realm (dcP x.w 15 0) with
  | none => true
  | some k =>
    let w := x.d.pool k
    let heads := if dcPb x.w 24 then h + 2 * plHkv w else plHkv w
    let fits (dims : List Nat) : Bool := dimAt dims 0 == plDh w && dimAt dims 1 == heads && dimAt dims 3 == 1
    decide (dcP x.w 23 16 < plLayers w) && fits (x.inDims 0) && fits (x.inDims 1) && dimAt (x.inDims 0) 2 == dimAt (x.inDims 1) 2

/-- VERIFY_TREE (R440, R442): TABLE is 0 where the drafts come from IN0. -/
def ShapeCtx.verifyOk (x : ShapeCtx) : Bool :=
  let b := dimAt (x.inDims 1) 1
  pageTable (x.inFmt 1) (x.inDims 1) &&
  if dcPb x.w 16 then
    (x.inFmt 0 == 9 || x.inFmt 0 == 8) && x.outFmt 0 == 4 && x.outDims 0 == [16, b, 1, 1]
  else
    x.outFmt 0 == 4 && x.outDims 0 == [65, b, 1, 1] &&
    (if dcPb x.w 17 then
      b == 1 && x.inList 0 &&
      (match x.d.tableOf x.realm (dcP x.w 47 32) with
        | some t => tbFmtCode (x.d.table t) == 4 && tbElems (x.d.table t) == 8
        | none => true)
    else dcP x.w 47 32 == 0 && x.inFmt 0 == 4 && x.inDims 0 == [8, 64, b, 1])

/-- Are a descriptor's formats and shapes accepted by its operator, over given dimensions (reason 0x08, R248)? A
function of ACT and a condition of BRANCH_IF that no table lists are not (DESIGN CHOICE, log entry 126). -/
def ShapeCtx.ok (x : ShapeCtx) : Bool :=
  let a := x.inDims 0
  let n := dimAt a 0
  match dcOp x.w with
  | 0x10 => x.matrixOk false
  | 0x11 => x.matrixOk true
  | 0x12 | 0x13 => x.pairOk
  | 0x14 => decide (dcP x.w 7 4 ≤ 7) && (dcP x.w 7 4 != 7 || decide (dcP x.w 11 8 < imFns x.im)) && x.fmtMatches && x.outIs 0 a
  | 0x15 => x.inDims 1 == [n, 1, 1, 1] && (!x.has 2 || x.inDims 2 == [n, 1, 1, 1]) && x.fmtMatches && x.outIs 0 a
  | 0x16 => x.fmtMatches && x.outIs 0 a && x.outIs 1 (a.set 0 2)
  | 0x17 =>
    let r := dcP x.w 15 4
    r % 2 == 0 && inRange 2 4094 r && decide (r ≤ n) && x.inFmt 1 == 4 && rowsOf a % max (volumeOf (x.inDims 1)) 1 == 0 && x.fmtMatches && x.outIs 0 a
  | 0x18 => x.attendOk
  | 0x19 => x.quantOk
  | 0x1A => (x.inFmt 0 == 0xA || x.inFmt 0 == 0xB) && x.fmtMatches && x.outIs 0 a
  | 0x1B =>
    inRange 1 64 (dcP x.w 6 0) && dcP x.w 6 0 == n && x.outFmt 0 == 4 && x.outDims 0 == [2, rowsOf a, 1, 1] &&
      (!x.hasOut 1 || (x.outFmt 1 == 9 && x.outDims 1 == [2, rowsOf a, 1, 1]))
  | 0x1C =>
    dimAt a 1 == 2 && x.inFmt 1 == 9 && volumeOf (x.inDims 1) == rowsOf a && x.fmtMatches && x.outIs 0 [n, rowsOf a / 2, 1, 1]
  | 0x20 => x.gatherOk
  | 0x21 => x.scatterOk
  | 0x22 => x.fmtMatches && x.outIs 0 a
  | 0x23 | 0x24 =>
    let p := dcP x.w 4 0
    let t0 := imTensor x.im (if dcOp x.w = 0x23 then dcOut x.w 0 else dcIn x.w 0)
    let far := imTensor x.im (if dcOp x.w = 0x23 then dcIn x.w 0 else dcOut x.w 0)
    inRange 12 20 p && (match panelBytes (dcP x.w 9 5) (x.inFmt 0) (readerK x.im (dcOut x.w 0)) a with | some b => decide (b ≤ 2 ^ p) | none => false) &&
      tnTier t0 == 0 && decide (tnKind t0 < 3) && panelAligned far && blockingRead x.im (dcP x.w 9 5) (dcOut x.w 0) && x.outFmt 0 == x.inFmt 0 && x.outIs 0 a
  | 0x25 =>
    x.inFmt 0 == 4 && n == 2 && fmtBytes (tnFmt (imTensor x.im (dcOut x.w 0))) (volumeOf (x.outDims 0)) == 4096 * rowsOf a
  | 0x30 => x.probeOk
  | 0x31 => x.scanOk
  | 0x32 => x.graphOk
  | 0x33 => x.filterOk
  | 0x34 => x.rerankOk
  | 0x35 | 0x36 => x.selectOk
  | 0x37 => x.inList 0 && x.outList 0 && decide (dimAt a 1 ≤ dimAt (x.outDims 0) 1) && x.outRecord 1
  | 0x40 => decide (dcP x.w 2 0 ≤ 5) && x.outFmt 0 == 4 && volumeOf (x.outDims 0) == 1
  | 0x41 => x.outFmt 0 == 4 && x.outDims 0 == [2, 1, 1, 1]
  | 0x44 => x.collectOk
  | 0x50 => x.verifyOk
  | 0x51 => x.appendOk
  | _ => true

/-- Does the descriptor name no operand beyond those its operator lists? -/
def noExtraOperands (w : Nat) : Bool :=
  ((dcIns w).all fun p => decide (p.1 < opInputs (dcOp w))) && (dcOuts w).all fun p => decide (p.1 < opOutputs (dcOp w))

/-- R439: the KV_APPENDs of a pool name every layer once, read one page table, and always run. -/
def Dev.appendsOk (d : Dev) (realm : Nat) (im : DictVal) (w : Nat) : Bool :=
  dcOp w != 0x51 || match d.poolOf realm (dcP w 15 0) with
    | none => true
    | some k =>
      let ws := ((List.range (imDescs im)).map (imDesc im)).filter fun v => dcOp v == 0x51 && dcP v 15 0 == dcP w 15 0
      ((List.range (plLayers (d.pool k))).all fun l => (ws.filter fun v => dcP v 23 16 == l).length == 1) &&
        ws.length == plLayers (d.pool k) && ws.all fun v => dcIn v 2 == dcIn w 2 && !dcGuarded v && !dcExpertValid v

/-! ### Scale bindings (reason 0x09) -/

/-- The operand slot that holds the scale tensor of a streamed binding, where the operator gives one (R735). -/
def scaleSlotOk (w : Nat) (out : Bool) (slot : Nat) : Bool :=
  let op := dcOp w
  if out then op == 0x19 && dcPb w 1
  else (op == 0x10 && inRange 3 7 slot) || (op == 0x11 && inRange 4 7 slot) || (op == 0x1A && inRange 1 7 slot)

/-- The tier of a tensor, as far as a plan tells: that of an external tensor comes with each capsule's addresses (log entry 102). -/
def tierOf (im : DictVal) (t : Nat) : Option Nat := if tnKind (imTensor im t) < 3 then some (tnTier (imTensor im t)) else none

/-- May two tensors lie in one tier? -/
def tiersMeet (im : DictVal) (t u : Nat) : Bool :=
  match tierOf im t, tierOf im u with
  | some a, some b => a == b
  | _, _ => true

/-- Is a scale tensor's record that of R53: INT8, the data's shape with AXIS divided by the block, in the data's tier? -/
def ShapeCtx.scaleShapeOk (x : ShapeCtx) (data scale : Nat) : Bool :=
  let b := tnScale (imTensor x.im data)
  let dims := dims4 (x.dims data)
  let s := imTensor x.im scale
  scale != noOperand && tnFmtCode s == 2 && tiersMeet x.im data scale &&
    dims4 (x.dims scale) == dims.set (bindAxis b) (dimAt dims (bindAxis b) / 2 ^ bindBlock b)

/-- The binding of one operand of a descriptor (R50–R53, R55, R735); `k` is the elements of a pass where the operand is a matrix
operand, whose AXIS 0 is K (R114). -/
def ShapeCtx.bindingOk (x : ShapeCtx) (t : Nat) (out : Bool) (k : Option Nat) : Bool :=
  let r := imTensor x.im t
  let b := tnScale r
  if !(tnFmt r).isCode then b == 0
  else
    let dims := dims4 (x.dims t)
    let axis := bindAxis b
    let setLen := match gatherTable x.im t with
      | some tb => (setOf (x.d.cfg (0x3120 + tb) 0x11) 0).length
      | none => (imSet x.im (bindSet b)).length
    bindOk b && bindFits b (dimAt dims axis) setLen && (bindSrc b != 1 || (gatherTable x.im t).isSome || decide (bindSet b < imSets x.im)) &&
    (bindSrc b != 2 ||
      (if out then scaleSlotOk x.w true 0 && axis == 0 && bindBlock b == dcP x.w 4 2 + 4 && x.scaleShapeOk t (dcOut x.w 1)
        else scaleSlotOk x.w false (bindSet b) && x.scaleShapeOk t (dcIn x.w (bindSet b)))) &&
    match k with
    | none => true
    | some n => axis != 0 || (bindSrc b != 1 && (bindSrc b != 2 || decide (n ≤ 2 ^ bindBlock b)))

/-- The binding of a tensor, whatever descriptors name it: what R50–R52 ask of the word alone. -/
def ShapeCtx.unnamedOk (x : ShapeCtx) (t : Nat) : Bool :=
  let r := imTensor x.im t
  let b := tnScale r
  if !(tnFmt r).isCode then b == 0
  else (gatherTable x.im t).isSome ||
    (bindOk b && bindFits b (dimAt (dims4 (x.dims t)) (bindAxis b)) (imSet x.im (bindSet b)).length &&
      (bindSrc b != 1 || decide (bindSet b < imSets x.im)))

/-- The bindings of all operands of a descriptor. A QUANT with AUTO writes a streamed OUT0 (R222). -/
def ShapeCtx.bindingsOk (x : ShapeCtx) : Bool :=
  let op := dcOp x.w
  let k := if op = 0x10 then kPerPass (tnFmt (imTensor x.im (dcIn x.w 0))) (tnFmt (imTensor x.im (dcIn x.w 1))) else 32
  ((dcIns x.w).all fun p => x.bindingOk p.2 false (if (op = 0x10 ∨ op = 0x11) ∧ p.1 < 2 then some k else none)) &&
  ((dcOuts x.w).all fun p => x.bindingOk p.2 true none) &&
  (op != 0x19 || !dcPb x.w 1 || bindSrc (tnScale (imTensor x.im (dcOut x.w 0))) == 2)

end Sys2Proof.Machine
end

