-- ==== Sys2Proof/Machine/PlanLoad.lean ====
section
/-! DEFINITION. Loading and unloading plans: the checks of *Plan load results* in ascending order, placement, reservation, handles (R230–R246). -/

namespace Sys2Proof.Machine

/-- What a load answers: status, reason, failing item, assigned handle. -/
structure LoadResult where
  status : Nat
  reason : Nat
  item : Nat
  handle : Nat
deriving DecidableEq, Repr

/-! ### Reasons 0x01 and 0x02: the image and its ranges -/

/-- Does a section of the image end inside it? A section of no bytes does. -/
def sectionFits (im : DictVal) (off len : Nat) : Bool := len == 0 || decide (off + len ≤ im.len)

/-- Reason 0x01. -/
def imageFits (im : DictVal) : Bool :=
  decide (128 + 8 * imGroups im ≤ im.len) && (imVersion im == 3 || imVersion im == 4) &&
  sectionFits im (imDescOff im) (64 * imDescs im) && sectionFits im (imTensorOff im) (32 * imTensors im) &&
  ((List.range (imSeqs im)).all fun i => decide (imSeqAt im i + 8 + 4 * sqLength (imSeqHead im i) ≤ im.len)) &&
  ((List.range (imSets im)).all fun i =>
    let n := byteField im.num (imSetAt im i) 2
    inRange 1 4096 n && decide (imSetAt im i + 4 + n ≤ im.len)) &&
  sectionFits im (imFnOff im) (4104 * imFns im) && sectionFits im (imConstOff im) (imConstBytes im) &&
  (List.range (imTensors im)).all fun t =>
    let w := imTensor im t
    tnKind w != 1 || decide (tnOffset w + fmtBytes (tnFmt w) (volumeOf (tnDims w)) ≤ imConstBytes im)

/-- Reason 0x02: header and plan group fields in their ranges, section offsets aligned. -/
def headerRanges (im : DictVal) : Bool :=
  inRange 1 4096 (imDescs im) && inRange 1 16384 (imTensors im) && inRange 1 16 (imGroups im) && decide (imArgs im ≤ 64) &&
  inRange 1 256 (imInflight im) && decide (imSeqs im ≤ 8) && decide (imFns im ≤ 16) && decide (imSets im ≤ 64) &&
  imDescOff im % 64 == 0 && imTensorOff im % 32 == 0 && imSeqOff im % 8 == 0 && imSetOff im % 8 == 0 && imFnOff im % 8 == 0 &&
  imConstOff im % 64 == 0 &&
  (List.range (imGroups im)).all fun g =>
    let r := imGroup im g
    inRange 1 36 (pgClocks r) && (if pgResidency r = 2 then decide (1 ≤ pgWindow r) else pgWindow r == 0)

/-- Are the member counts of all COLLECTs in their range (*Zero values* of 08: reason 0x02)? -/
def collectRanges (im : DictVal) : Bool :=
  (List.range (imDescs im)).all fun i => dcOp (imDesc im i) != 0x44 || inRange 1 512 (dcP (imDesc im i) 25 16)

/-! ### Reason 0x03: reserved fields and values -/

/-- Bits [hi:lo] as a mask. -/
def span (hi lo : Nat) : Nat := 2 ^ (hi + 1) - 2 ^ lo

/-- The parameter bits that an operator lists in a format version (*Operators*, *Version 3 differences*). -/
def paramBits (version w : Nat) : Nat :=
  match dcOp w with
  | 0x10 | 0x11 | 0x12 | 0x13 | 0x16 | 0x1A | 0x1C | 0x22 => span 3 0
  | 0x14 => span 11 0
  | 0x15 => span 4 0 + span 63 32
  | 0x17 => span 15 0 + span 63 32
  | 0x18 => span 29 0 + span 63 32
  | 0x19 => if version = 3 then span 0 0 else if dcPb w 1 then span 4 0 else span 1 0
  | 0x1B => span 6 0
  | 0x20 | 0x25 => span 15 0
  | 0x21 => span 17 0
  | 0x23 | 0x24 => span 9 0
  | 0x30 => span 43 0 + span 95 64
  | 0x31 => span 40 0
  | 0x32 => span 18 0 + span 27 20
  | 0x33 => span 22 0 + span 63 32
  | 0x34 => span 19 0
  | 0x35 => if version = 3 then span 17 0 else span 18 0
  | 0x36 => if version = 3 then span 17 0 else span 19 0 + span 127 64
  | 0x37 => span 17 17
  | 0x40 => span 3 0 + span 63 32
  | 0x41 => span 1 0
  | 0x43 | 0x44 => span 37 0
  | 0x50 => span 18 0 + span 47 32
  | 0x51 => span 32 0
  | _ => 0

/-- Is an opcode defined in a format version (R219, R239)? -/
def opDefined (version op : Nat) : Bool :=
  (inRange 0x10 0x1C op || inRange 0x20 0x25 op || inRange 0x30 0x37 op || inRange 0x40 0x44 op || op == 0x50 || op == 0x51) &&
  !(version == 3 && (op == 0x50 || op == 0x51 || op == 0x1B || op == 0x1C))

/-- The format code that an operator's parameters hold; one that is not reserved where they hold none (R30). -/
def paramFmt (w : Nat) : Nat :=
  match dcOp w with
  | 0x10 | 0x11 | 0x12 | 0x13 | 0x14 | 0x15 | 0x16 | 0x17 | 0x1A | 0x1C | 0x22 => dcP w 3 0
  | 0x18 => dcP w 19 16
  | _ => 4

/-- Are a descriptor's reserved fields 0, and the fields whose valid bit is 0? A reserved opcode's parameters are left to reason 0x04. -/
def descReserved (version w : Nat) : Bool :=
  bits w 127 66 == 0 && (dcGuarded w || dcGuard w == 0) && (dcAfterValid w || dcAfter w == 0) &&
  (dcExpertValid w || (dcExpert w == 0 && dcRoute w == 0)) &&
  (version != 3 || (bits w 34 22 == 0 && bits w 65 39 == 0)) &&
  (!opDefined version (dcOp w) ||
    ((dcP w 191 0 ||| paramBits version w) == paramBits version w && (Fmt.ofCode (paramFmt w)).isSome))

/-- Are a tensor record's reserved fields and values absent? A DIM, ARG, LAYER, GROUP, OFFSET or TIER that the field map has at 1 or 0 and that
is not used is no reserved field, and no reason of *Plan load results* names it (DESIGN CHOICE, log entry 112). -/
def tensorReserved (version t : Nat) : Bool :=
  bits t 31 30 == 0 && decide (tnKind t ≤ 4) && tnTier t != 3 && (Fmt.ofCode (tnFmtCode t)).isSome &&
  bits (tnScale t) 31 24 == 0 && bindSrc (tnScale t) != 3 && bindAxis (tnScale t) != 3 && (version != 3 || tnLayer t == 0)

/-- Reason 0x03. -/
def reservedAbsent (im : DictVal) : Bool :=
  let v := imVersion im
  bits im.num 127 104 == 0 && bits im.num 575 544 == 0 && bits im.num 1023 704 == 0 &&
  ((List.range (imGroups im)).all fun g =>
    let r := imGroup im g
    bits r 63 17 == 0 && pgResidency r != 3 && (v != 3 || pgResidency r != 2)) &&
  ((List.range (imSets im)).all fun i => byteField im.num (imSetAt im i + 2) 2 == 0) &&
  ((List.range (imTensors im)).all fun t => tensorReserved v (imTensor im t)) &&
  (List.range (imDescs im)).all fun i => descReserved v (imDesc im i)

/-! ### Reasons 0x04 to 0x0B: descriptors -/

/-- The first descriptor that fails a check. -/
def firstBad (im : DictVal) (ok : Nat → Nat → Bool) : Option Nat := (List.range (imDescs im)).find? fun i => !ok i (imDesc im i)

/-- Do a descriptor's operands stand (reason 0x05): existing tensors, none required missing, no constant or external input written, no
external output read? -/
def operandsOk (im : DictVal) (w : Nat) : Bool :=
  ((requiredInputs w).all fun i => dcIn w i != noOperand) &&
  ((requiredOutputs w).all fun j => dcOut w j != noOperand) &&
  ((dcIns w).all fun p => decide (p.2 < imTensors im) && tnKind (imTensor im p.2) != 4) &&
  (dcOuts w).all fun p => decide (p.2 < imTensors im) && (tnKind (imTensor im p.2) == 0 || tnKind (imTensor im p.2) == 4)

/-- The descriptors that write tensor t, one entry for each output that names it. -/
def writersOf (im : DictVal) (t : Nat) : List Nat :=
  ((List.range (imDescs im)).map fun i => (((dcOuts (imDesc im i)).filter fun p => p.2 == t).map fun _ => i)).flatten

/-- Does a tensor meet R215, and name an argument slot where it is external? -/
def tensorOk (im : DictVal) (t : Nat) : Bool :=
  let w := imTensor im t
  (if tnKind w = 0 ∨ tnKind w = 4 then (writersOf im t).length == 1 else true) &&
  (if tnKind w = 3 ∨ tnKind w = 4 then decide (tnArg w < imArgs im) else true)

/-- The descriptor at fault for a tensor: the second one that writes it, or else the first that names it. -/
def namerOf (im : DictVal) (t : Nat) : Nat :=
  (writersOf im t)[1]?.getD <| ((List.range (imDescs im)).find? fun i => (dcIns (imDesc im i) ++ dcOuts (imDesc im i)).any fun p => p.2 == t).getD 0

/-- Reason 0x05: the failing descriptor. -/
def badOperands (im : DictVal) : Option Nat :=
  match firstBad im (fun _ w => operandsOk im w) with
  | some i => some i
  | none => ((List.range (imTensors im)).find? fun t => !tensorOk im t).map (namerOf im)

/-- Reason 0x06: the failing descriptor. -/
def badReferences (im : DictVal) : Option Nat :=
  let n := imDescs im
  match firstBad im (fun i w =>
      (!dcGuarded w || (decide (dcGuard w < n) && dcOp (imDesc im (dcGuard w)) == 0x40)) &&
      (!dcAfterValid w || (decide (dcAfter w < n) && dcAfter w != i)) &&
      (!dcExpertValid w || (decide (dcRoute w < n) && dcOp (imDesc im (dcRoute w)) == 0x1B)) && decide (dcGroup w < imGroups im)) with
  | some i => some i
  | none => ((List.range (imTensors im)).find? fun t =>
      let w := imTensor im t
      tnTier w == 0 && decide (tnKind w ≤ 2) && decide (imGroups im ≤ tnGroup w)).map (namerOf im)

/-- The descriptors left when those with no edge from one left are taken away, again and again. -/
def peel (im : DictVal) : Nat → List Nat → List Nat
  | 0, l => l
  | fuel + 1, l =>
    let rest := l.filter fun i => (edgesInto im i).any fun j => l.contains j
    if rest.length = l.length then l else peel im fuel rest

/-- Reason 0x07: a descriptor that a cycle holds back. -/
def cyclic (im : DictVal) : Option Nat := (peel im (imDescs im) (List.range (imDescs im))).head?

/-- The check of shapes and bindings at load works on the records' dimensions. -/
def loadShape (d : Dev) (im : DictVal) (realm w : Nat) : ShapeCtx := ⟨d, im, realm, fun t => tnDims (imTensor im t), w⟩

/-- Reason 0x08: the failing descriptor. -/
def Dev.badShape (d : Dev) (im : DictVal) (realm : Nat) : Option Nat :=
  firstBad im fun _ w => noExtraOperands w && (loadShape d im realm w).ok && d.appendsOk realm im w

/-- Reason 0x09: the failing descriptor. A tensor that no descriptor names is checked too, and counts for descriptor 0 (log entry 23). -/
def Dev.badBinding (d : Dev) (im : DictVal) (realm : Nat) : Option Nat :=
  match firstBad im fun _ w => (loadShape d im realm w).bindingsOk with
  | some i => some i
  | none => ((List.range (imTensors im)).find? fun t => !(loadShape d im realm 0).unnamedOk t).map (namerOf im)

/-- The SCANs of a sequence. -/
def scansOf (im : DictVal) (q : Nat) : List Nat :=
  (List.range (imDescs im)).filter fun i => dcOp (imDesc im i) == 0x31 && dcP (imDesc im i) 18 16 == q

/-- The stacks and regions that a sequence's SCANs work on: the stripes of their indexes. -/
def Dev.sequenceTargets (d : Dev) (im : DictVal) (realm q : Nat) : List (Nat × Nat) :=
  ((scansOf im q).map fun i => match d.indexOf realm (dcP (imDesc im i) 15 0) with
    | none => []
    | some x =>
      let w := d.index x
      ((List.range (ixStripes w)).map fun k =>
        let t := ixStripe w k
        (stripeIndices (ixStripeLog w) t).map fun b =>
          (stripeStack t, (regionOfIndex (regionsBy d.cfg (stripeStack t)) b).getD 0)).flatten).flatten

/-- Does a bank sequence meet R177? -/
def Dev.sequenceOk (d : Dev) (im : DictVal) (realm q : Nat) : Bool :=
  let h := imSeqHead im q
  let n := sqLength h
  let words := (List.range n).map (imSeqWord im q)
  let targets := d.sequenceTargets im realm q
  (sqAbi h == 3 || sqAbi h == 2) && inRange 1 (if sqAbi h = 2 then 1024 else 2048) n &&
  h == sqAbi h + n * 2 ^ 16 + (if sqChain h then 2 ^ 28 else 0) + (if sqBus h then 2 ^ 29 else 0) &&
  (words.all fun w => bankWordOk (sqAbi h) w && (match bankTarget w with | some t => decide (t < n) | none => true)) &&
  bankLastOk (words.getLastD 0) && sqChain h == words.any bankUsesChain && sqBus h == words.any bankUsesBus &&
  (targets.all fun t => (!sqChain h || rgExchange t.2 == 1) && (!sqBus h || rgExchange t.2 == 2)) &&
  (sqAbi h != 2 || (d.cfg (0x2E00 + realm) 0x0A != 0 && targets.all fun t => d.cfg 0x2405 (t.1 + 1) == 1))

/-- Reason 0x0A: the first SCAN of a sequence that fails. -/
def Dev.badSequence (d : Dev) (im : DictVal) (realm : Nat) : Option Nat :=
  ((List.range (imSeqs im)).find? fun q => !d.sequenceOk im realm q).map fun q => (scansOf im q).headD 0

/-- Reason 0x0B: a handle that names no active object of the realm. -/
def Dev.badHandle (d : Dev) (im : DictVal) (realm : Nat) : Option Nat :=
  firstBad im fun _ w => (descHandles w).all fun h => d.handleOk realm h.1 h.2

/-! ### Reasons 0x0C and 0x0D: constants -/

/-- Is a piece of T1 allotted to the realm, though still lent (R476)? -/
def Dev.allottedButLent (d : Dev) (realm a : Nat) : Bool :=
  inT1 a && (tabGet (96 * (a / stackBytes) + a % stackBytes / gib) d.tiers.lent).isSome &&
    ownerBy d.cfg (fun _ => false) (a / stackBytes) (a % stackBytes / gib) == some realm

/-- The first byte of a constant outside the realm's windows; a GiB still lent that is allotted to the realm does not count. -/
def Dev.outsideAt (d : Dev) (realm a len : Nat) : Option Nat :=
  if len = 0 then none else (piecesOf a len).find? fun p => d.pieceStatus realm p == stViolation && !d.allottedButLent realm p

/-- Reason 0x0C: the constant, and its first byte outside. -/
def Dev.badConstant (d : Dev) (im : DictVal) (realm : Nat) : Option (Nat × Nat) :=
  (List.range (imTensors im)).findSome? fun t =>
    if tnKind (imTensor im t) = 2 then (d.outsideAt realm (tnOffset (imTensor im t)) (tensorBytes im t)).map fun a => (t, a) else none

/-- The constants that a plan group's descriptors read. -/
def groupConstants (im : DictVal) (g : Nat) : List Nat :=
  distinct (((List.range (imDescs im)).filter fun i => dcGroup (imDesc im i) == g).map fun i =>
    ((dcIns (imDesc im i)).map (·.2)).filter fun t => tnKind (imTensor im t) == 1 || tnKind (imTensor im t) == 2).flatten

/-- The layers of a plan group's constants. -/
def groupLayers (im : DictVal) (g : Nat) : List Nat := distinct ((groupConstants im g).map fun t => tnLayer (imTensor im t))

/-- Reason 0x0D: the failing plan group. -/
def badResidency (im : DictVal) : Option Nat :=
  (List.range (imGroups im)).find? fun g =>
    let r := pgResidency (imGroup im g)
    if r = 1 then (groupConstants im g).any fun t => tnTier (imTensor im t) != 0
    else if r = 2 then
      let l := groupLayers im g
      (l.any fun x => decide (l.length ≤ x)) ||
        (List.range (imGroups im)).any fun k => k != g && (groupConstants im k).any fun t => (groupConstants im g).contains t
    else false

/-! ### Reason 0x0E: placement -/

/-- The quarter die of a clock group (R19, R22): its place in the 6 × 6 grid of clock groups. -/
def groupQuarter (c : Nat) : Nat := c % 6 / 3 + 2 * (c / 6 / 3)

/-- Steps between two clock groups of the grid. -/
def groupDistance (a b : Nat) : Nat :=
  (max (a / 6) (b / 6) - min (a / 6) (b / 6)) + (max (a % 6) (b % 6) - min (a % 6) (b % 6))

/-- The clock groups that loaded plans use, and those that an EXCLUSIVE plan group keeps, as masks of bits. -/
def Dev.groupsInUse (d : Dev) (exclusiveOnly : Bool) : Nat :=
  d.plans.plans.foldl (fun m e =>
    (List.range (imGroups e.2.image)).foldl (fun m g =>
      if exclusiveOnly && !pgExclusive (imGroup e.2.image g) then m else m ||| nth e.2.binding g) m) 0

/-- The clock groups taken for a plan group among candidates: those it prefers first, then the nearest to the lowest-numbered one taken
(log entry 23). -/
def takeGroups (place : Nat) (cand : List Nat) : Nat → List Nat → List Nat
  | 0, l => l
  | n + 1, l =>
    let rest := cand.filter fun c => !l.contains c
    let pref := rest.filter fun c => bit place (groupQuarter c)
    let far (c : Nat) : Nat := match sortBy (fun a b => decide (a < b)) l with | [] => 0 | a :: _ => groupDistance a c
    match (if pref.isEmpty then sortBy (fun a b => decide (far a < far b)) rest else pref) with
    | [] => l
    | c :: _ => takeGroups place cand n (l ++ [c])

/-- A set of numbers as a mask of bits. -/
def maskOf (l : List Nat) : Nat := l.foldl (fun m c => m ||| 2 ^ c) 0

/-- The clock groups of every plan group in turn, or the plan group for which the realm owns too few free ones. -/
def placeGroups (im : DictVal) (own : List Nat) : Nat → Nat → List Nat → Nat ⊕ List Nat
  | _, _, [] => .inr []
  | used, excl, g :: gs =>
    let r := imGroup im g
    let cand := own.filter fun c => !bit (if pgExclusive r then used else excl) c
    if cand.length < pgClocks r then .inl g
    else
      let m := maskOf (takeGroups (pgPlace r) cand (pgClocks r) [])
      match placeGroups im own (used ||| m) (if pgExclusive r then excl ||| m else excl) gs with
      | .inl g => .inl g
      | .inr l => .inr (m :: l)

/-- The binding of a plan to the clock groups of its realm that are not being cleared (R637). -/
def Dev.placePlan (d : Dev) (im : DictVal) (realm : Nat) : Nat ⊕ List Nat :=
  let own := (List.range 36).filter fun c => bit (d.cfg (0x2E00 + realm) 2) c
  placeGroups im own (d.groupsInUse false) (d.groupsInUse true) (List.range (imGroups im))

/-- The sequence-store segments of a sequence (R178). -/
def sequenceSegments (im : DictVal) (q : Nat) : Nat := ceilDiv (sqLength (imSeqHead im q)) 256

/-- The plans of a realm. -/
def Dev.plansOf (d : Dev) (realm : Nat) : List (Nat × Plan) := d.plans.plans.filter fun e => e.2.realm == realm

/-- Do the device's and the realm's limits admit one plan more with its segments (R234, R634)? -/
def Dev.planLimitsOk (d : Dev) (im : DictVal) (realm : Nat) : Bool :=
  let limits := d.cfg (0x2E00 + realm) 7
  let held := sumOf ((d.plansOf realm).map fun e => sumOf (e.2.segments.map fun s => s.2.2))
  decide (d.plans.plans.length < 1024) && decide ((d.plansOf realm).length < elem limits 2 0) &&
    decide (held + sumOf ((List.range (imSeqs im)).map (sequenceSegments im)) ≤ elem limits 2 5)

/-! ### Reason 0x0F: storage (R233, R243, R244; log entry 23) -/

/-- Scratchpad bytes that a plan group needs: pinned constants, window buffers, and the T0 working tensors of MAX_INFLIGHT instances. -/
def groupScratch (im : DictVal) (g : Nat) : Nat :=
  let r := pgResidency (imGroup im g)
  let tensors (p : Nat → Bool) : Nat :=
    sumOf (((List.range (imTensors im)).filter fun t => p (imTensor im t) && !streamingList im t).map (tensorBytes im))
  let working := imInflight im * tensors fun w => tnKind w == 0 && tnTier w == 0 && tnGroup w == g
  let pinned := if r = 1 then sumOf ((groupConstants im g).map fun t => ceilDiv (layoutBits (pinnedLayout im g t) (tnFmt (imTensor im t)).width) 8) else 0
  let layer (l : Nat) : Nat := sumOf (((groupConstants im g).filter fun t => tnLayer (imTensor im t) == l).map (tensorBytes im))
  let window := if r = 2 then pgWindow (imGroup im g) * ((groupLayers im g).map layer).foldl max 0 else 0
  working + pinned + window

/-- Scratchpad bytes that a plan takes of clock group c: each plan group's need is spread evenly over its clock groups. -/
def scratchOf (im : DictVal) (binding : List Nat) (c : Nat) : Nat :=
  sumOf ((List.range (imGroups im)).map fun g =>
    if bit (nth binding g) c then ceilDiv (groupScratch im g) (max 1 (bitsSet 36 (nth binding g)).length) else 0)

/-- The plan group for which some clock group's 16 scratchpads of 2 MiB do not suffice. -/
def Dev.badScratch (d : Dev) (im : DictVal) (binding : List Nat) : Option Nat :=
  let full := (List.range 36).filter fun c =>
    decide (2 ^ 25 < scratchOf im binding c + sumOf (d.plans.plans.map fun e => scratchOf e.2.image e.2.binding c))
  (List.range (imGroups im)).find? fun g => full.any fun c => bit (nth binding g) c && decide (0 < groupScratch im g)

/-- T1 bytes that a plan's working tensors of tier T1 or T2 take; nothing holds a streaming list (R319). -/
def planT1 (im : DictVal) : Nat :=
  imInflight im * sumOf (((List.range (imTensors im)).filter fun t =>
    tnKind (imTensor im t) == 0 && inRange 1 2 (tnTier (imTensor im t)) && !streamingList im t).map (tensorBytes im))

/-- Bytes of a realm's INTERLEAVED memory (R458). -/
def Dev.interleavedBytes (d : Dev) (realm : Nat) : Nat :=
  gib * sumOf ((List.range 32).map fun s => ((List.range 96).filter fun g =>
    match regionOfOffset (regionsBy d.cfg s) (g * gib) with
    | some w => rgMode w == 1 && d.t1Owner (s * stackBytes + g * gib) == some realm
    | none => false).length)

/-- The stacks on which a realm has BANK_LINEAR regions. -/
def Dev.linearStacks (d : Dev) (realm : Nat) : List Nat :=
  (List.range 32).filter fun s => (regionsBy d.cfg s).any fun w => rgMode w == 2 && rgRealm w == realm

/-- Does a plan hold segments in the sequence stores of a stack: one of its load, or one on which its realm has BANK_LINEAR regions now
(R178)? -/
def Dev.storesOn (d : Dev) (p : Plan) (s : Nat) : Bool := p.stores.contains s || (d.linearStacks p.realm).contains s

/-- The segments, as (first, count), that plans hold on any of some stacks. -/
def Dev.segmentsOn (d : Dev) (at_ : List Nat) : List (Nat × Nat) :=
  ((d.plans.plans.filter fun e => at_.any (d.storesOn e.2)).map fun e => e.2.segments.map (·.2)).flatten

/-- A place for `n` consecutive segments of the 8 among those taken. -/
def segmentPlace (taken : List (Nat × Nat)) (n : Nat) : Option Nat :=
  (List.range 8).find? fun f => decide (f + n ≤ 8) && taken.all fun t => decide (t.1 + t.2 ≤ f) || decide (f + n ≤ t.1)

/-- Segments for the sequences in turn (R178); none where no place is free. -/
def takeSegments (im : DictVal) (taken : List (Nat × Nat)) : List Nat → Option (List (Nat × Nat × Nat))
  | [] => some []
  | q :: qs =>
    let n := sequenceSegments im q
    match segmentPlace taken n with
    | none => none
    | some f => (takeSegments im ((f, n) :: taken) qs).map fun l => (q, f, n) :: l

/-- Does a plan name a GiB that is allotted to the realm but still lent (R476)? -/
def Dev.needsLent (d : Dev) (im : DictVal) (realm : Nat) : Bool :=
  (List.range (imTensors im)).any fun t =>
    tnKind (imTensor im t) == 2 && decide (0 < tensorBytes im t) &&
      (piecesOf (tnOffset (imTensor im t)) (tensorBytes im t)).any (d.allottedButLent realm)

/-- Does a plan need a GiB that is being cleared (R460): for a constant at an address, or because without it the INTERLEAVED memory that its realm has
left does not hold the working tensors? -/
def Dev.needsCleared (d : Dev) (im : DictVal) (realm held : Nat) : Bool :=
  let filling := (d.scrubs.filter fun s => s.1 == 1 && d.t1Owner (s.2 / 96 * stackBytes + s.2 % 96 * gib) == some realm).length
  (decide (0 < planT1 im) && decide (d.interleavedBytes realm < held + planT1 im + gib * filling)) ||
  (List.range (imTensors im)).any fun t =>
    let a := tnOffset (imTensor im t)
    let n := tensorBytes im t
    tnKind (imTensor im t) == 2 && decide (0 < n) && (d.beingCleared a n ||
      (inT2 a && (cutAt 65536 a n).any fun p => (d.cacheGibAt realm p.1).any fun g => d.scrubs.contains (1, g)))

/-- The reservation under R233: the sequence-store segments, or the failing group. -/
def Dev.reservePlan (d : Dev) (im : DictVal) (realm : Nat) (binding : List Nat) : Nat ⊕ List (Nat × Nat × Nat) :=
  match d.badScratch im binding with
  | some g => .inl g
  | none =>
    let held := sumOf ((d.plansOf realm).map fun e => planT1 e.2.image)
    if (decide (0 < planT1 im) && decide (d.interleavedBytes realm < held + planT1 im)) || d.needsLent im realm || d.needsCleared im realm held then .inl 0
    else match takeSegments im (d.segmentsOn (d.linearStacks realm)) (List.range (imSeqs im)) with
      | some l => .inr l
      | none => .inl 0

/-! ### The load -/

/-- The first check of *Plan load results* that an image fails, as (reason, status, item, refused address); or the binding and the segments
that it gets (R231). -/
def Dev.checkPlan (d : Dev) (im : DictVal) (realm : Nat) : (Nat × Nat × Nat × Nat) ⊕ (List Nat × List (Nat × Nat × Nat)) :=
  let bad (reason item : Nat) : (Nat × Nat × Nat × Nat) ⊕ (List Nat × List (Nat × Nat × Nat)) := .inl (reason, stBadPlan, item, 0)
  if !imageFits im then bad 1 0
  else if !(headerRanges im && collectRanges im) then bad 2 0
  else if !reservedAbsent im then bad 3 0
  else match firstBad im (fun _ w => opDefined (imVersion im) (dcOp w)) with
  | some i => bad 4 i
  | none => match badOperands im with
  | some i => bad 5 i
  | none => match badReferences im with
  | some i => bad 6 i
  | none => match cyclic im with
  | some i => bad 7 i
  | none => match d.badShape im realm with
  | some i => bad 8 i
  | none => match d.badBinding im realm with
  | some i => bad 9 i
  | none => match d.badSequence im realm with
  | some i => bad 0x0A i
  | none => match d.badHandle im realm with
  | some _ => bad 0x0B 0
  | none => match d.badConstant im realm with
  | some (t, a) => .inl (0x0C, stViolation, t, a)
  | none => match badResidency im with
  | some g => bad 0x0D g
  | none =>
    if !d.planLimitsOk im realm then .inl (0x0E, stBusy, 0, 0)
    else match d.placePlan im realm with
    | .inl g => .inl (0x0E, stBusy, g, 0)
    | .inr binding => match d.reservePlan im realm binding with
      | .inl g => .inl (0x0F, stBusy, g, 0)
      | .inr segs => .inr (binding, segs)

/-- The next plan handle (R232): the count rises from 1, and goes on after 0xFFFF from the lowest free handle; a handle still in use is
passed over. -/
def Plans.freshHandle (p : Plans) : Nat :=
  if !p.wrapped then p.nextHandle
  else
    let h := tabFresh p.plans p.nextHandle 1025
    if h ≤ 0xFFFF then h else tabFresh p.plans 1 1025

/-- The tiles in service of the clock groups that a binding gives a plan group. -/
def Dev.boundTiles (d : Dev) (binding : List Nat) (g : Nat) : List Nat :=
  (List.range 576).filter fun n => bit (nth binding g) (tileGroup n) && !(tabGetD n Tile.reset d.tiles.tiles).fenced

/-- The copies of the T0 constants that pinned groups hold in scratchpad from load to unload (R243), by 16,384 × group + tensor: each in its
reader's blocking, its blocks dealt out to the group's tiles in turn (DESIGN CHOICE, log entry 130). -/
def Dev.pinConstants (d : Dev) (im : DictVal) (realm : Nat) (binding : List Nat) : Tab (List (Nat × List Nat)) × Dev :=
  (((List.range (imGroups im)).filter fun g => pgResidency (imGroup im g) == 1).map fun g =>
    (groupConstants im g).map fun t => (g, t)).flatten.foldl (fun (l, d) (g, t) =>
      let w := imTensor im t
      let tiles := d.boundTiles binding g
      let (v, d) : Nat × Dev :=
        if tnKind w = 1 then (byteField im.num (imConstOff im + tnOffset w) (tensorBytes im t), d)
        else let (bs, d) := d.rawRead realm (tnOffset w) (tensorBytes im t); (ofLE bs, d)
      let blocks := fillPanel (pinnedLayout im g t) (unpack (tnFmt w) (volumeOf (tnDims w)) v)
      (tabSet (16384 * g + t) (blocks.mapIdx fun i b => (tiles.getD (i % max 1 tiles.length) 0, b)) l, d)) ([], d)

/-- A plan load (R230–R238): every check in ascending order; what fails reserves nothing. A refused address of reason 0x0C is kept for its
record (R737). -/
def Dev.loadPlan (d : Dev) (realm : Nat) (im : DictVal) : LoadResult × Dev :=
  match d.checkPlan im realm with
  | .inl (reason, status, item, a) => (⟨status, reason, item, 0⟩, d.noteRefusal status a 0)
  | .inr (binding, segs) =>
    let h := d.plans.freshHandle
    let (pinned, d) := d.pinConstants im realm binding
    let p : Plan := ⟨realm, imVersion im, 1, im, binding, segs, d.linearStacks realm, 0, 0, 0, [0, 0, 0, 0], [], 0, [], pinned, false, []⟩
    (⟨stOk, 0, 0, h⟩, d.setPlans { d.plans with
      plans := tabSet h { p with floors := d.floorsOf p } d.plans.plans
      nextHandle := if h = 0xFFFF then 1 else h + 1
      wrapped := d.plans.wrapped || h == 0xFFFF })

/-! ### The unload (R236) -/

/-- An unload asked for by a realm (0: the device): the plan refuses new capsules; a handle that is free, unloading or another realm's gives
ST_BAD_PLAN (0x3304.00, R237). -/
def Dev.unloadPlan (d : Dev) (realm handle : Nat) : Nat × Dev :=
  match d.plan? handle with
  | none => (stBadPlan, d)
  | some p =>
    if p.state = 2 ∨ (realm != 0 ∧ p.realm != realm) then (stBadPlan, d)
    else (stOk, d.modPlan handle fun p => { p with state := 2 })

/-- Has every accepted RUN capsule of a plan ended? -/
def Dev.planIdle (d : Dev) (handle : Nat) : Bool :=
  !(d.capsules.live.any fun k => k.opcode == 1 && k.plan == handle) && !(d.plans.runs.any fun r => r.plan == handle)

/-- The plan's storage, segments and handle are free again. -/
def Dev.freePlan (d : Dev) (handle : Nat) : Dev :=
  (d.setPlans { d.plans with
    plans := tabDel handle d.plans.plans
    layers := d.plans.layers.filter fun e => e.1 / 4096 != handle }).setTraffic { d.traffic with flashWaves := tabDel handle d.traffic.flashWaves }

/-- PLAN_UNLOAD_COMPLETE: once the last accepted instance has completed, the plan is gone and the capsules that asked complete (R236, R238). -/
def doPlanUnloadComplete (plan : Nat) (c : Ctx) (d : Dev) : Dev :=
  match d.plan? plan with
  | none => d
  | some p =>
    if p.state != 2 || !d.planIdle plan then d
    else p.unloadWaiters.foldl (fun d k => d.endPlain c k stOk 0 0) (d.freePlan plan)

/-- PLAN_UNLOAD_COMPLETE. -/
def execPlanUnloadComplete (plan : Nat) (s : State) : Out := devStep (doPlanUnloadComplete plan) s

end Sys2Proof.Machine
end

