-- ==== Sys2Proof/Machine/Rerank.lean ====
section
/-! DEFINITION. Reads of flash by plans: FETCH_FLASH and RERANK_EXACT with its original cache (07_vector_search, 12_flash). -/

namespace Sys2Proof.Machine

/-! ### Blocks asked for and blocks that come (R304, R510) -/

/-- The wait of a capsule's descriptor. -/
def Dev.wait? (d : Dev) (capsule desc : Nat) : Option FlashWait :=
  d.search.waits.find? fun w => w.capsule == capsule && w.desc == desc

/-- A block's data put into every wait of a capsule that asks for it. -/
def Dev.gotBlock (d : Dev) (capsule v lba x : Nat) : Dev :=
  d.setSearch { d.search with waits := d.search.waits.map fun w =>
    if w.capsule = capsule ∧ (v, lba) ∈ w.blocks ∧ !(w.data.any fun e => e.1 == v && e.2.1 == lba) then
      { w with data := (v, lba, x) :: w.data } else w }

/-- Has every block of a wait come? -/
def FlashWait.complete (w : FlashWait) : Bool := w.blocks.all fun b => w.data.any fun e => e.1 == b.1 && e.2.1 == b.2

/-- A block's data in a wait. -/
def FlashWait.block (w : FlashWait) (v lba : Nat) : Nat :=
  ((w.data.find? fun e => e.1 == v && e.2.1 == lba).map fun e => e.2.2).getD 0

/-- The distinct blocks of a wait asked for, one charge each before its read is issued; blocks that another read of the instance has brought
or asked for are not read again (R304). The first refusal ends it; so does a channel that no route joins to the operation's tile (R16, R138,
R141). The reads of an index's originals are counted with it. -/
def Dev.askBlocks (c : Ctx) (d : Dev) (o : OpCtx) (index : Option Nat) : List (Nat × Nat) → Nat × List Nat × Dev
  | [] => (stOk, [], d)
  | (v, lba) :: l =>
    match d.search.waits.findSome? fun w =>
        if w.capsule = o.cap.order then (w.data.find? fun e => e.1 == v && e.2.1 == lba).map fun e => e.2.2 else none with
    | some x => Dev.askBlocks c (d.gotBlock o.cap.order v lba x) o index l
    | none =>
      if d.flash.ops.any fun p => match p.use with | .read k _ v' lba' => k == o.cap.order && v' == v && lba' == lba | _ => false then
        Dev.askBlocks c d o index l
      else match d.charge o.cap.order 2 1 with
        | (false, d) => (stBudget, [], d)
        | (true, d) =>
          let d := d.modVolume v fun k => { k with read := satAdd 64 k.read 1 }
          let d : Dev := match index with
            | some x => d.modIndex x fun s => { s with flashReads := satAdd 64 s.flashReads 1 }
            | none => d
          match d.lookup v lba with
          | (.unreadable, d) => (stMedia, [], d)
          | (.data x, d) => Dev.askBlocks c (d.gotBlock o.cap.order v lba x) o index l
          | (.media k i, d) =>
            match (d.slotOf o.cap.order o.desc).bind fun s => d.unroutable (flashRouter (lunChannel (blockLun k))) (tileRouter (s.1 / 64)) with
            | some l => (stFault, [], d.logUnroutable c o.cap.realm l)
            | none =>
            let (st, luns, d) := Dev.askBlocks c (d.startOp (.read o.cap.order (some o.desc) v lba) k i (o.cap.cls == 0)) o index l
            (st, blockLun k :: luns, d)

/-- The most reads that fall on one LUN (R560). -/
def mostOnOne (luns : List Nat) : Nat := ((distinct luns).map fun n => (luns.filter (· == n)).length).foldl max 0

/-- A wait begun for a descriptor, its blocks asked for. The reads on one LUN count for n_F where the descriptor is on the longest path (R560). -/
def Dev.beginWait (c : Ctx) (d : Dev) (o : OpCtx) (index : Option Nat) (blocks : List (Nat × Nat)) (sources : List Original) : Nat × Dev :=
  let d := d.setSearch { d.search with waits := d.search.waits ++ [⟨o.cap.order, o.desc, blocks, [], sources⟩] }
  let (st, luns, d) := d.askBlocks c o index blocks
  (st, if (longestPath o.plan.image).descs.contains o.desc then
      d.modRun o.cap.order fun r => { r with flashPerLun := tabSet o.desc (mostOnOne luns) r.flashPerLun }
    else d)

/-! ### FETCH_FLASH (R510) -/

/-- The volume slot that P[15:0] names. -/
def OpCtx.volumeSlot (o : OpCtx) : Nat := dcP o.word 15 0 - 0x4000

/-- The logical blocks that a tensor names: two INT32 elements each, the low half first (R214). -/
def blockNumbers (t : Tensor) : List Nat :=
  (List.range (t.elems.length / 2)).map fun i => nth t.elems (2 * i) + nth t.elems (2 * i + 1) * 2 ^ 32

/-- A FETCH_FLASH whose blocks have all come: the blocks in the order asked for, 4,096 bytes each. -/
def fetchDone (d : Dev) (o : OpCtx) (w : FlashWait) : OpResult × Dev :=
  let (ix, d) := d.inputD o 0
  let bytes := ((blockNumbers ix).map fun lba => toElems 1 4096 (w.block o.volumeSlot lba)).flatten
  let f := o.outFmt 0
  (o.answer ⟨o.outDims 0, unpack f (volumeOf (o.outDims 0)) (ofElems 1 bytes)⟩, d)

/-- FETCH_FLASH: each distinct block is charged and read; one beyond the volume's capacity cannot be read. -/
def opFetchFlash (c : Ctx) (d : Dev) (o : OpCtx) : OpResult × Dev :=
  let v := o.volumeSlot
  if d.flash.mapState != 2 then (.stops stBusy, d)
  else
    let (ix, d) := d.inputD o 0
    let blocks := distinct (blockNumbers ix)
    if blocks.any fun b => decide ((d.volume v).capacity ≤ b) then (.stops stMedia, d)
    else
      let (st, d) := d.beginWait c o none (blocks.map fun b => (v, b)) []
      if st != stOk then (.stops st, d)
      else match d.wait? o.cap.order o.desc with
        | some w => if w.complete then fetchDone d o w else (.waits, d)
        | none => (.waits, d)

/-- FETCH_FLASH. -/
def execFetchFlash (capsule desc : Nat) (s : State) : Out := devStep (runOpCode 0x25 opFetchFlash capsule desc) s

/-! ### The original cache (R283–R285) -/

/-- The address of cache tag n. -/
def tagAt (w n : Nat) : Nat := ixCacheAddr w + 16 * n
/-- The address of data slot n. -/
def cacheDataAt (w n : Nat) : Nat := ixCacheAddr w + ceilDiv (16 * ixCacheSlots w) 4096 * 4096 + n * ixOB w

/-- A cached original, where the tag holds the handle and is valid; a hit sets REF. -/
def Dev.cachedOriginal (d : Dev) (w slot handle : Nat) : Option Nat × Dev :=
  let t := d.t1Num (tagAt w slot) 16
  if slot < ixCacheSlots w ∧ bits t 63 0 = handle ∧ bit t 64 then
    (some (d.t1Num (cacheDataAt w slot) (ixOB w)), (d.t1Seen (cacheDataAt w slot) (ixOB w)).t1Put (tagAt w slot) 16 (setBits t 65 65 1))
  else (none, d)

/-- The sweep: the first slot from the pointer on with REF = 0, REFs cleared as it passes. -/
def Dev.sweep (d : Dev) (x w : Nat) : Nat → Nat × Dev
  | 0 => ((d.indexState x).sweep % max (ixCacheSlots w) 1, d)
  | fuel + 1 =>
    let n := (d.indexState x).sweep % max (ixCacheSlots w) 1
    let d := d.modIndex x fun s => { s with sweep := (n + 1) % max (ixCacheSlots w) 1 }
    let t := d.t1Num (tagAt w n) 16
    if bit t 65 then Dev.sweep (d.t1Put (tagAt w n) 16 (setBits t 65 65 0)) x w fuel else (n, d)

/-- An original read from flash put into the cache (R284), if the locator slot still names it. -/
def Dev.fillCache (d : Dev) (x w handle lba offset s data : Nat) : Dev :=
  let id := handleId handle
  let v := d.locator w id s
  if ixCacheSlots w = 0 ∨ !osValid v ∨ osVersion v ≠ handleVersion handle ∨ osLba v ≠ lba ∨ osOffset v * 32 ≠ offset ∨ osResident v then d
  else
    let (n, d) := d.sweep x w (ixCacheSlots w + 1)
    let old := d.t1Num (tagAt w n) 16
    let oldId := handleId (bits old 63 0)
    let d : Dev := if bit old 64 && hasId w oldId then
        [0, 1].foldl (fun d k =>
          let l := d.locator w oldId k
          if osResident l && osSlot l == n then d.putLocator w oldId k (setBits l 17 17 0) else d) d
      else d
    let d := d.t1Put (cacheDataAt w n) (ixOB w) data
    let d := d.t1Put (tagAt w n) 16 (handle + 2 ^ 64)
    d.putLocator w id s (setBits (setBits (d.locator w id s) 63 32 n) 17 17 1)

/-! ### RERANK_EXACT (R302–R306) -/

/-- Where a candidate's original is (R303). -/
def Dev.sourceOf (d : Dev) (x w handle : Nat) : Original × Dev :=
  match d.locatorOf w (handleId handle) (handleVersion handle) with
  | none => (.stale, d)
  | some s =>
    let v := d.locator w (handleId handle) s
    let d := d.t1Seen (locatorAt w (handleId handle)) 32
    let (hit, d) := if osResident v then d.cachedOriginal w (osSlot v) handle else (none, d)
    match hit with
    | some o => (.atHand o, d.modIndex x fun k => { k with cacheHits := satAdd 64 k.cacheHits 1 })
    | none => (.inFlash (osLba v) (osOffset v * 32) s, d)

/-- The blocks of an original. -/
def originalBlocks (w : Nat) : Original → List (Nat × Nat)
  | .inFlash lba _ _ => (List.range (ceilDiv (ixOB w) 4096)).map fun i => (ixVolume w - 0x4000, lba + i)
  | _ => []

/-- The exact dense score of an original's bytes (*Metrics*); the formats of originals convert into FP32 exactly (R265). -/
def exactScore (w metric : Nat) (pick : Nat → Nat) (q : List Nat) (original : Nat) : Nat :=
  let o := (unpack (ixOrigFmt w) (ixDim w) original).map fun r => toF32Bits (ixOrigFmt w) (decodeFloat (ixOrigFmt w) r)
  let n := 2 * ixDim w + 2
  match metric with
  | 0 => distSq pick q o
  | 1 => dotOf pick q o
  | _ => f32Quot (ofF32 (dotOf pick q o)) (ofF32 (f32Mul (normOf (fun i => pick (n + i)) q) (normOf (fun i => pick (2 * n + i)) o)))

/-- The bytes of an original that has come from flash. -/
def FlashWait.original (k : FlashWait) (w lba offset : Nat) : Nat :=
  (ofElems 4096 ((List.range (ceilDiv (ixOB w) 4096)).map fun i => k.block (ixVolume w - 0x4000) (lba + i))) >>> (8 * offset) % 2 ^ (8 * ixOB w)

/-- A dense RERANK_EXACT whose blocks have all come: the scores, and the originals read put into the cache. -/
def rerankDone (d : Dev) (o : OpCtx) (k : FlashWait) : OpResult × Dev :=
  let x := o.indexSlot
  let w := d.index x
  let metric := dcP o.word 19 16
  let (l, d) := d.inputD o 0
  let ((q, k0), d) := d.queryOf o 1
  let h := listHead l
  let es := (listEntries l).zip k.sources
  let span := 6 * ixDim w + 6
  let (pick, d) := d.pick (span * es.length)
  let score (i : Nat) (data : Nat) : Nat := exactScore w metric (fun j => pick (span * i + j)) q data
  let out := es.mapIdx fun i e =>
    if e.1.1 = emptyHandle then emptyCand
    else (e.1.1, match e.2 with
      | .stale => f32NaN
      | .atHand data => score i data
      | .inFlash lba off _ => score i (k.original w lba off))
  let d := es.foldl (fun d e => match e.2 with
    | .inFlash lba off s => d.fillCache x w e.1.1 lba off s (k.original w lba off)
    | _ => d) d
  (.done (o.put 0 (listTensor (Header.raw es.length (metric == 0) h.dup h.nan) out (dimAt (o.outDims 0) 1 - 4))) k0, d)

/-- The sources of candidates looked up in order. -/
def Dev.sourcesOf (d : Dev) (x w : Nat) : List Cand → List Original × Dev
  | [] => ([], d)
  | e :: l =>
    let (s, d) := if e.1 = emptyHandle then (.stale, d) else d.sourceOf x w e.1
    let (r, d) := Dev.sourcesOf d x w l
    (s :: r, d)

/-- Are terms strictly ascending? -/
def ascending : List Nat → Bool
  | a :: b :: l => decide (a < b) && ascending (b :: l)
  | _ => true

/-- The score of a sparse row (R306): NaN where its count is too large or its terms do not ascend. -/
def sparseScore (pick : Nat → Nat) (query : List (Nat × Nat)) (row : List Byte) : Nat :=
  let v := ofLE row
  let m := byteField v 0 2
  let terms := (List.range m).map fun i => (byteField v (4 + 8 * i) 4, byteField v (8 + 8 * i) 4)
  if row.length < 4 + 8 * m ∨ !ascending (terms.map (·.1)) then f32NaN
  else f32SumBy pick (query.filterMap fun t => (terms.find? fun e => e.1 == t.1).map fun e => f32Mul t.2 e.2)

/-- The sparse scores of candidates. -/
def Dev.sparseScores (d : Dev) (t : Nat) (query : List (Nat × Nat)) (pick : Nat → Nat → Nat) : Nat → List Cand → Nat × List Cand × Dev
  | _, [] => (stOk, [], d)
  | i, e :: l =>
    if e.1 = emptyHandle then
      let (st, r, d) := Dev.sparseScores d t query pick (i + 1) l
      (st, emptyCand :: r, d)
    else
      let (st, row, d) := d.lookupRow t (e.1 % 2 ^ 32)
      if st != stOk then (st, [], d)
      else
        let (st, r, d) := Dev.sparseScores d t query pick (i + 1) l
        (st, (e.1, sparseScore (pick i) query row) :: r, d)

/-- RERANK_EXACT with metric 3 (R305). -/
def rerankSparse (d : Dev) (o : OpCtx) : OpResult × Dev :=
  let w := d.index o.indexSlot
  let t := ixSparse w - 0x2000
  let (l, d) := d.inputD o 0
  let (q, d) := d.inputD o 1
  let query := (chunks 2 (q.elems.length + 1) q.elems).map fun p => (nth p 0, nth p 1)
  if query.isEmpty || decide (1024 < query.length) || !ascending (query.map (·.1)) then (.stops stBadArg, d)
  else if !d.tableServes t then (.stops stBusy, d)
  else
    let es := listEntries l
    let span := 2 * query.length + 2
    let (pick, d) := d.pick (span * es.length)
    let (st, out, d) := d.sparseScores t query (fun i j => pick (span * i + j)) 0 es
    if st != stOk then (.stops st, d)
    else
      let h := listHead l
      (o.answer (listTensor (Header.raw es.length false h.dup h.nan) out (dimAt (o.outDims 0) 1 - 4)), d)

/-- RERANK_EXACT. -/
def opRerankExact (c : Ctx) (d : Dev) (o : OpCtx) : OpResult × Dev :=
  let x := o.indexSlot
  let w := d.index x
  if !d.indexServes x then (.stops stBusy, d)
  else
    let (l, d0) := d.inputD o 0
    if dimAt (o.outDims 0) 1 - 4 < (listEntries l).length then (.stops stBadArg, d0)
    else if dcP o.word 19 16 = 3 then rerankSparse d0 o
    else
      let (sources, d) := d0.sourcesOf x w (listEntries l)
      let blocks := distinct ((sources.map (originalBlocks w)).flatten)
      if !blocks.isEmpty && d.flash.mapState != 2 then (.stops stBusy, d)
      else
        let stale := ((listEntries l).zip sources).filter fun e => e.1.1 != emptyHandle && e.2 == .stale
        let d := d.modIndex x fun s => { s with
          stale := satAdd 64 s.stale stale.length }
        let (st, d) := d.beginWait c o (some x) blocks sources
        if st != stOk then (.stops st, d)
        else match d.wait? o.cap.order o.desc with
          | some k => if k.complete then rerankDone d o k else (.waits, d)
          | none => (.waits, d)

/-- RERANK_EXACT. -/
def execRerankExact (capsule desc : Nat) (s : State) : Out := devStep (runOpCode 0x34 opRerankExact capsule desc) s

/-- A block of a capsule's descriptor has come: the descriptors whose waits it completes have their results. -/
def Dev.blockArrived (c : Ctx) (d : Dev) (capsule v lba x : Nat) : Dev :=
  let open_ := (d.search.waits.filter fun w => w.capsule == capsule && !w.complete).map fun w => w.desc
  let d := d.gotBlock capsule v lba x
  open_.foldl (fun d i => match d.wait? capsule i with
    | some w => if w.complete then
        d.lateFinish c capsule i fun d o => if dcOp o.word = 0x25 then fetchDone d o w else rerankDone d o w
      else d
    | none => d) d

end Sys2Proof.Machine
end

