-- ==== Sys2Proof/Machine/Updates.lean ====
section
/-! DEFINITION. Live updates of indexes: insert, delete, upsert, retirement, consolidation, and the update capsule (09_updates_and_tables). -/

namespace Sys2Proof.Machine

/-! ### Update records and position words (R359, R364, R365) -/

/-- OP of an update record. -/
def urOp (r : Nat) : Nat := bits r 7 0
/-- OBJECT. -/
def urObject (r : Nat) : Nat := bits r 31 16
/-- CELL. -/
def urCell (r : Nat) : Nat := bits r 63 32
/-- HANDLE. -/
def urHandle (r : Nat) : Nat := bits r 127 64
/-- LBA. -/
def urLba (r : Nat) : Nat := bits r 175 128
/-- OFFSET. -/
def urOffset (r : Nat) : Nat := bits r 182 176
/-- LOC. -/
def urLoc (r : Nat) : Nat := bits r 185 184
/-- DATA. -/
def urData (r : Nat) : Nat := bits r 255 192

/-- Does a record have a reserved OP, or a reserved field or a field marked 0 that is not 0 (R360)? -/
def recordBad (r : Nat) : Bool :=
  let op := urOp r
  bits r 15 8 != 0 || bit r 183 || bits r 191 186 != 0 || bits r 511 256 != 0 || decide (2 ≤ urLoc r) ||
  !(op == 1 || op == 2 || op == 3 || op == 0x10) ||
  ((op == 2 || op == 0x10) && (urCell r != 0 || urLba r != 0 || urLoc r != 0 || urData r != 0)) ||
  (op == 0x10 && bits (urHandle r) 63 32 != 0)

/-- The address of an identifier's position word. -/
def Dev.positionAt (d : Dev) (x w id : Nat) : Nat := d.cfg (0x3060 + x) 1 + 8 * (id - ixIdBase w)
/-- The position word of an identifier. -/
def Dev.position (d : Dev) (x w id : Nat) : Nat := d.t1Num (d.positionAt x w id) 8
/-- BANK. -/
def pwBank (p : Nat) : Nat := bits p 14 0
/-- SLOT. -/
def pwSlot (p : Nat) : Nat := bits p 25 15
/-- ENTRY. -/
def pwEntry (p : Nat) : Nat := bits p 33 26
/-- LIVE. -/
def pwLive (p : Nat) : Bool := bit p 34
/-- USED. -/
def pwUsed (p : Nat) : Bool := bit p 35
/-- VERSION. -/
def pwVersion (p : Nat) : Nat := bits p 63 48
/-- A position word. -/
def positionWord (bank slot entry : Nat) (live : Bool) (version : Nat) : Nat :=
  bank + slot * 2 ^ 15 + entry * 2 ^ 26 + b2n live * 2 ^ 34 + 2 ^ 35 + version * 2 ^ 48

/-! ### Segments of a cell -/

/-- The segments of a cell, as (bank, slot), those with a capacity. -/
def Dev.cellSegments (d : Dev) (w c : Nat) : List (Nat × Nat) :=
  ((cellBanks w c).map fun b => ((d.chain w c b).filter fun j => sgCap (d.seg b j) != 0).map fun j => (b, j)).flatten

/-- Entries of a segment whose tombstone bit is 0. -/
def Dev.liveEntries (d : Dev) (bank j : Nat) : List Nat :=
  (List.range (sgCount (d.seg bank j))).filter fun i => !d.tombstoned bank j i

/-- Live entries of a cell in a bank. -/
def Dev.liveIn (d : Dev) (w c bank : Nat) : Nat :=
  sumOf (((d.chain w c bank).filter fun j => sgCap (d.seg bank j) != 0).map fun j => (d.liveEntries bank j).length)

/-- FREE_ROW of a bank. -/
def Dev.freeRow (d : Dev) (bank : Nat) : Nat := d.bankNum bank 8 4

/-- Is a directory slot of the banks of cell c's stripe the primary slot of a cell (R276)? -/
def primaryOf (w c j : Nat) : Bool := decide (j * ixStripes w + c % ixStripes w < ixCount w)

/-- Is a directory slot of a bank of cell c's stripe free: no segment, no cell's primary slot, and none that a move still holds (R382)? -/
def Dev.slotFree (d : Dev) (x w c bank j : Nat) : Bool :=
  sgCap (d.seg bank j) == 0 && !primaryOf w c j && !d.updates.moves.any fun m => m.index == x && m.bank == bank && m.slot == j

/-- May a cell's primary slot of a bank take a segment: no segment stands in it or hangs behind it (log entry 116)? -/
def Dev.primaryFree (d : Dev) (x w c bank : Nat) : Bool :=
  let j := primarySlot w c
  sgCap (d.seg bank j) == 0 && sgNext (d.seg bank j) == 0xFFFFFFFF &&
    !d.updates.moves.any fun m => m.index == x && m.bank == bank && m.slot == j

/-- Rows for a segment in a bank: those that consolidation freed, else the next ones (R385). -/
def Dev.rowsFor (d : Dev) (x w bank : Nat) : Option (Nat × Dev) :=
  match d.updates.freed.find? fun f => f.index == x && f.bank == bank && decide (ixSegRows w ≤ f.rows) with
  | some f => some (f.row, d.setUpdates { d.updates with freed := d.updates.freed.erase f })
  | none =>
    let r := d.freeRow bank
    if r + ixSegRows w ≤ 131072 then some (r, d.putBank bank 8 4 (r + ixSegRows w)) else none

/-- A free handle array of an index: one given back, else the next. -/
def Dev.takeArray (d : Dev) (x w : Nat) : Option (Nat × Dev) :=
  let s := d.indexState x
  match s.freeArrays with
  | a :: l => some (a, d.modIndex x fun s => { s with freeArrays := l })
  | [] => if s.nextArray < ixArrays w then some (s.nextArray, d.modIndex x fun s => { s with nextArray := s.nextArray + 1 }) else none

/-- A slot for a new segment of a cell in a bank: the primary slot where it is free and allowed, else a free one; which is unspecified. -/
def Dev.takeSlot (d : Dev) (x w c bank : Nat) (primary : Bool) : Option Nat × Dev :=
  if primary && d.primaryFree x w c bank then (some (primarySlot w c), d)
  else
    let l := (List.range 2048).filter (d.slotFree x w c bank)
    if l.isEmpty then (none, d) else let (i, d) := d.choose l.length; (some (l.getD i 0), d)

/-- A new segment's header (R369, R371). -/
def newHeader (w c bank j row array next : Nat) (primary tail : Bool) : Nat :=
  let code := 1024 * row
  code + tombAt j * 2 ^ 64 + (code + ceilDiv (ixSegCap w * ixCS w) 1024 * 1024) * 2 ^ 96 + ixSegCap w * 2 ^ 128 + b2n primary * 2 ^ 140 +
    b2n tail * 2 ^ 141 + ((stripeMember (ixStripeLog w) (ixCellStripe w c) bank).getD 0) * 2 ^ 144 + next * 2 ^ 160 + c * 2 ^ 192 + array * 2 ^ 224

/-- Storage for a new segment in a bank: slot, row and handle array; none where the member has no room (R368). -/
def Dev.takeStorage (d : Dev) (x w c bank : Nat) (primary : Bool) : Option (Nat × Nat × Nat) × Dev :=
  match d.takeSlot x w c bank primary with
  | (none, _) => (none, d)
  | (some j, d1) =>
    match d1.rowsFor x w bank with
    | none => (none, d)
    | some (row, d2) =>
      match d2.takeArray x w with
      | none => (none, d)
      | some (a, d3) => (some (j, row, a), d3)

/-- SLOTS_USED and the cell's SEGMENTS counted. -/
def Dev.countSegment (d : Dev) (w c bank : Nat) (up : Bool) : Dev :=
  let n := d.bankNum bank 12 4
  let d := d.putBank bank 12 4 (if up then n + 1 else n - 1)
  let v := d.cell w c
  d.putCell w c (setBits v 127 96 (if up then clSegments v + 1 else clSegments v - 1))

/-- The tail segment of a cell in a bank. -/
def Dev.tailOf (d : Dev) (w c bank : Nat) : Option Nat :=
  (d.chain w c bank).find? fun j => let h := d.seg bank j; sgTail h && !sgSealed h && sgCap h != 0

/-- A tail segment opened for a cell in a bank (R371): tombstone column, header, then TAIL off and NEXT in the previous tail's header. Where a
consolidation has left no tail, NEXT goes into the chain's last header (DESIGN CHOICE, log entry 116). -/
def Dev.openSegment (d : Dev) (x w c bank : Nat) : Option Nat × Dev :=
  match d.takeStorage x w c bank true with
  | (none, d) => (none, d)
  | (some (j, row, a), d) =>
    let before := match d.tailOf w c bank with
      | some t => some t
      | none => (d.chain w c bank).getLast?
    let primary := decide (j = primarySlot w c)
    let d := (d.putBank bank (tombAt j) 32 0).putSeg bank j (newHeader w c bank j row a 0xFFFFFFFF primary true)
    let d : Dev := match before with
      | some t => if primary then d else d.putSeg bank t (setBits (setBits (d.seg bank t) 141 141 0) 191 160 j)
      | none => d
    (some j, d.countSegment w c bank true)

/-- A place for one entry in a bank: the tail segment with room, or a new one. -/
def Dev.roomIn (d : Dev) (x w c bank : Nat) : Option Nat × Dev :=
  match d.tailOf w c bank with
  | some j => if sgCount (d.seg bank j) < sgCap (d.seg bank j) then (some j, d) else d.openSegment x w c bank
  | none => d.openSegment x w c bank

/-- The first member of the cell's stripe that can take the entry (R368). -/
def Dev.memberFor (d : Dev) (x w c : Nat) : List Nat → Option (Nat × Nat) × Dev
  | [] => (none, d)
  | m :: l =>
    let bank := stripeBank (ixStripeLog w) (ixCellStripe w c) m
    match d.roomIn x w c bank with
    | (some j, d) => (some (bank, j), d)
    | (none, _) => Dev.memberFor d x w c l

/-! ### Quantising a vector (R370) -/

/-- Code, block exponents and counts of a vector, with the exponent of each element. -/
def Dev.quantiseVector (d : Dev) (x w : Nat) (xs : List Num) : Nat × List Int × (Nat → Int) × Counts :=
  let f := ixFmt w
  let blocks := chunks (2 ^ bindBlock (ixScale w)) (xs.length + 1) xs
  let ses := if bindSrc (ixScale w) = 2 then blocks.map fun b => autoExponent f.qmax (largestFinite b) else []
  let se := d.codeSE x w fun b => unsigned 8 (ses.getD b 0)
  let rs := xs.mapIdx fun i v => quantise f (se i) v
  (packElems f (rs.map fun r => unsigned f.width r.1), ses, se, rs.foldl (fun k r => k.plus r.2) .none)

/-! ### Copies of an entry (R383) -/

/-- The copies of an entry that scans may meet: itself, and its source or destination while a switched move is not unlinked. -/
def Dev.copiesOf (d : Dev) (x w : Nat) (p : Nat × Nat × Nat) : List (Nat × Nat × Nat) :=
  match d.updates.moves.find? fun m => m.index == x && m.stage == .switched && m.toBank == p.1 && m.toSlot == p.2.1 with
  | none => [p]
  | some m =>
    let h := d.entryHandle w (d.seg p.1 p.2.1) p.2.2
    let src := d.seg m.bank m.slot
    p :: ((List.range (sgCount src)).filter fun i => d.entryHandle w src i == h).map fun i => (m.bank, m.slot, i)

/-- A tombstone bit set, by a masked write, and counted in its cell once. -/
def Dev.setTombstone (d : Dev) (w : Nat) (p : Nat × Nat × Nat) : Dev :=
  if d.tombstoned p.1 p.2.1 p.2.2 then d
  else
    let c := sgCell (d.seg p.1 p.2.1)
    let d := d.putBank p.1 (tombAt p.2.1) 32 (d.bankNum p.1 (tombAt p.2.1) 32 + 2 ^ p.2.2)
    d.putCell w c (setBits (d.cell w c) 63 32 (clTomb (d.cell w c) + 1))

/-! ### INSERT and UPSERT (R367, R372, R376) -/

/-- The cell a vector goes to where the record leaves it to the device (R367); none where the walk reaches none. -/
def Dev.chooseCell (d : Dev) (w : Nat) (q : List Nat) : Option Nat × Dev :=
  let span := 8 * ixDim w
  let (pick, d) := d.pick (span * (ixCount w + 1))
  match d.walkCells w 16 (fun c => d.centroidScore w (fun i => pick (span * c + i)) q c) (fun _ d => (true, d)) with
  | (some s, d) => (s.list.head?.map (·.1), d)
  | (none, d) => (none, d)

/-- The writes of R372 for an entry of a cell in a segment. -/
def Dev.writeEntry (d : Dev) (x w c bank j r handle : Nat) (xs : List Num) (radius : Nat) : Dev :=
  let (code, ses, _, _) := d.quantiseVector x w xs
  let v := d.cell w c
  let d := d.putCell w c (setBits v 95 64 (f32Max (clRadius v) radius))
  let h := d.seg bank j
  let i := sgCount h
  let (pick, d) := d.pick (2 * ixDim w)
  let vec := (dequantCode w (d.codeSE x w fun b => unsigned 8 (ses.getD b 0)) code).1
  let d := d.putBank bank (sgCode h + i * ixCS w) (ixCS w) code
  let d := d.putBank bank (sgNorm h + 4 * i) 4 (dotOf pick vec vec)
  let d := if ixSB w = 0 then d else d.putBank bank (sgScale h + i * ixSB w) (ixSB w) (ofElems 1 (ses.map (unsigned 8)))
  let d := d.t1Put (handleAt w (sgHandles h) i) 8 handle
  let id := handleId handle
  let s := if !osValid (d.locator w id 0) then 0 else 1
  let d := d.putLocator w id s (handleVersion handle + 2 ^ 16 + urLba r * 2 ^ 64 + urOffset r * 2 ^ 112)
  let d := d.t1Put (d.positionAt x w id) 8 (positionWord bank j i true (handleVersion handle))
  let d := d.putSeg bank j (setBits h 63 32 (i + 1))
  d.putCell w c (setBits (d.cell w c) 31 0 (clVectors (d.cell w c) + 1))

/-- Does the record's original lie where it may (R360)? -/
def Dev.originalBad (d : Dev) (w r : Nat) : Bool :=
  ixVolume w != 0 &&
  (decide ((d.volume (ixVolume w - 0x4000)).capacity < urLba r + ceilDiv (ixOB w) 4096) ||
   (if ixOB w ≤ 4096 then decide (4096 < urOffset r * 32 + ixOB w) else urOffset r != 0))

/-- INSERT, or UPSERT, of a vector: its status. -/
def Dev.insertRecord (c : Ctx) (d : Dev) (cap : Capsule) (x w r : Nat) : Nat × Dev :=
  let handle := urHandle r
  let id := handleId handle
  let pos := d.position x w id
  let v := handleVersion handle
  if (pwUsed pos && decide (v ≤ pwVersion pos)) || (urOp r == 1 && pwLive pos) then (stBadArg, d)
  else
    let (st, bs, d) := d.bufRead cap (urLoc r) (urData r) (ixOB w)
    if st != stOk then (st, d)
    else
      let xs := (unpack (ixOrigFmt w) (ixDim w) (ofLE bs))
      let q := xs.map fun e => toF32Bits (ixOrigFmt w) (decodeFloat (ixOrigFmt w) e)
      let (cell, d) := if urCell r = 0xFFFFFFFF then d.chooseCell w q else (some (urCell r), d)
      match cell with
      | none => (stBadArg, d)
      | some cell =>
        if d.originalBad w r then (stBadArg, d)
        else
          let s := ixStripeLog w
          let m := clVectors (d.cell w cell) % 2 ^ s
          match d.memberFor x w cell ((List.range (2 ^ s)).map fun i => (m + i) % 2 ^ s) with
          | (none, d) => (stNoSpace, d)
          | (some (bank, j), d) =>
            let nums := xs.map (decodeFloat (ixOrigFmt w))
            let (code, ses, _, k) := d.quantiseVector x w nums
            let (vec, k1) := dequantCode w (d.codeSE x w fun b => unsigned 8 (ses.getD b 0)) code
            let (pick, d) := d.pick (2 * ixDim w)
            let radius := fnSqrt (distSq pick (d.centroid w cell) vec)
            let old := if pwLive pos then d.copiesOf x w (pwBank pos, pwSlot pos, pwEntry pos) else []
            let oldCell := sgCell (d.seg (pwBank pos) (pwSlot pos))
            let d := d.writeEntry x w cell bank j r handle nums radius
            let d := d.setUpdates { d.updates with passes := d.updates.passes.map fun p =>
              if p.index = x ∧ p.cell = cell then { p with radius := f32Max p.radius radius } else p }
            let d : Dev := if old.isEmpty then d else d.setUpdates { d.updates with
              pending := d.updates.pending ++ [⟨x, id, pwVersion pos, old, oldCell, c.now, none⟩] }
            (stOk, d.modIndex x fun t => { t with
              inserts := if old.isEmpty then satAdd 64 t.inserts 1 else t.inserts
              upserts := if old.isEmpty then t.upserts else satAdd 64 t.upserts 1
              saturations := satAdd 64 t.saturations (k.sat + k1.sat)
              nans := satAdd 64 t.nans k.nan })

/-- DELETE (R374, R375): its status. -/
def Dev.deleteRecord (c : Ctx) (d : Dev) (x w r : Nat) : Nat × Dev :=
  let id := handleId (urHandle r)
  let pos := d.position x w id
  if !pwLive pos then (stOk, d)
  else if handleVersion (urHandle r) != pwVersion pos then (stBadArg, d)
  else
    let here := d.copiesOf x w (pwBank pos, pwSlot pos, pwEntry pos)
    let cell := sgCell (d.seg (pwBank pos) (pwSlot pos))
    let mine (p : PendingUpdate) : Bool := p.index == x && p.id == id && p.since.isNone
    let all := here ++ ((d.updates.pending.filter mine).map fun p => p.places).flatten
    let d := all.foldl (fun d p => d.setTombstone w p) d
    let d := d.t1Put (d.positionAt x w id) 8 (setBits pos 34 34 0)
    let d := d.setUpdates { d.updates with
      pending := (d.updates.pending.map fun p => if mine p then { p with since := some c.now } else p) ++
        [⟨x, id, pwVersion pos, here, cell, c.now, some c.now⟩] }
    (stOk, d.modIndex x fun t => { t with deletes := satAdd 64 t.deletes 1 })

/-- ROW_DELETE (R404): its status. -/
def Dev.rowDeleteRecord (c : Ctx) (d : Dev) (realm r : Nat) : Nat × Dev :=
  match d.tableOf realm (urObject r) with
  | none => (stBadArg, d)
  | some t =>
    if !d.tableServes t then (stBusy, d)
    else if tbRows (d.table t) ≤ bits (urHandle r) 31 0 then (stBadArg, d)
    else d.replaceRow c t (bits (urHandle r) 31 0) none

/-- Can an update clock group take no work now: its scratchpads are being cleared, or every tile of it is fenced (R364, R637, R158)? -/
def Dev.groupHeld (d : Dev) (g : Nat) : Bool :=
  d.scrubs.contains (2, g) || ((List.range 576).filter fun n => tileGroup n == g).all fun n => (tabGetD n Tile.reset d.tiles.tiles).fenced

/-- A record of an index waits (R379): its identifier has an update not yet retired, or too many updates are (a pending tombstone's
is one of them); or the clock group that it runs on takes no work (R364). -/
def Dev.recordWaits (d : Dev) (x r : Nat) : Bool :=
  let mine := d.updates.pending.filter fun p => p.index == x
  (urOp r != 2 && mine.any fun p => p.id == handleId (urHandle r)) ||
  decide (65536 ≤ mine.length) || d.groupHeld (d.cfg (0x3060 + x) 2)

/-- One record: applied or failed with its status (R360), or `none` where it waits. -/
def Dev.applyRecord (c : Ctx) (d : Dev) (cap : Capsule) (r : Nat) : Option Nat × Dev :=
  let done (p : Nat × Dev) : Option Nat × Dev := (some p.1, p.2)
  if recordBad r then (some stBadArg, d)
  else if urOp r = 0x10 then done (d.rowDeleteRecord c cap.realm r)
  else match d.indexOf cap.realm (urObject r) with
    | none => (some stBadArg, d)
    | some x =>
      let w := d.index x
      let g := d.cfg (0x3060 + x) 2
      if ixKind w = 2 ∨ d.cfg (0x3060 + x) 1 = 0 ∨ g = 0xFF ∨ d.groupOwner g ≠ cap.realm then (some stBadArg, d)
      else if (d.indexState x).state = 1 then (some stBusy, d)
      else if (urOp r != 2 && decide (ixCount w ≤ urCell r) && urCell r != 0xFFFFFFFF) || !hasId w (handleId (urHandle r)) then (some stBadArg, d)
      else if d.recordWaits x r then (none, d)
      else if urOp r = 2 then done (d.deleteRecord c x w r)
      else done (d.insertRecord c cap x w r)

/-! ### The update capsule (R358, R362, R363) -/

/-- What a record's order depends on: its object and its identifier or row. -/
def recordKey (r : Nat) : Nat × Nat := (urObject r, if urOp r = 0x10 then urHandle r else handleId (urHandle r))

/-- A status byte written. -/
def Dev.putStatus (c : Ctx) (d : Dev) (order i st : Nat) : Dev :=
  match d.capsule? order, d.updates.jobs.find? fun j => j.capsule == order with
  | some cap, some j =>
    let d := (d.bufWrite c cap j.loc (j.statusAddr + i) (leBytes 1 st)).2
    d.setUpdates { d.updates with jobs := d.updates.jobs.map fun k =>
      if k.capsule = order then { k with status := tabSet i st k.status } else k }
  | _, _ => d

/-- A record applied or failed: its status is known, and written once its writes are acknowledged (R155). -/
def Dev.noteApplied (c : Ctx) (d : Dev) (order i st : Nat) : Dev :=
  let d := d.hear c (some (order, i))
  d.setUpdates { d.updates with jobs := d.updates.jobs.map fun j =>
    if j.capsule = order then { j with applied := tabSet i st j.applied } else j }

/-- The statuses written of a capsule's records whose writes are all acknowledged. -/
def Dev.settleRecords (c : Ctx) (d : Dev) (order : Nat) : Dev :=
  match d.updates.jobs.find? fun j => j.capsule == order with
  | none => d
  | some j =>
    let ready := j.applied.filter fun e => !d.unacknowledged order e.1
    let d := d.setUpdates { d.updates with jobs := d.updates.jobs.map fun k =>
      if k.capsule = order then { k with applied := k.applied.filter fun e => d.unacknowledged order e.1 } else k }
    ready.foldl (fun d e => (d.putStatus c order e.1 e.2).hear c (some (order, 0xFFFF))) d

/-- The records not yet done, in batch order; one that waits holds those behind it that name the same object's same entry. -/
def Dev.runRecords (c : Ctx) (d : Dev) (order : Nat) : List (Nat × Nat) → List (Nat × Nat) → Dev
  | [], _ => d
  | (i, r) :: l, held =>
    if held.contains (recordKey r) then Dev.runRecords c d order l held
    else match d.capsule? order with
      | none => d
      | some cap =>
        match (d.setFillWait false).applyRecord c cap r with
        | (some st, e) =>
          if e.fillWait then Dev.runRecords c d order l (recordKey r :: held)
          else Dev.runRecords c (e.noteApplied c order i st) order l held
        | (none, d) => Dev.runRecords c (d.setFillWait false) order l (recordKey r :: held)

/-- An update capsule whose status bytes have all been written, and acknowledged, completes (R155, R363). -/
def Dev.finishJob (c : Ctx) (d : Dev) (order : Nat) : Dev :=
  match d.updates.jobs.find? fun j => j.capsule == order with
  | none => d
  | some j =>
    if decide (j.status.length < j.records.length) || d.unacknowledged order 0xFFFF then d
    else
      let bad := j.status.find? fun e => e.2 != stOk
      let applied := (j.status.filter fun e => e.2 == stOk).length
      d.endPlain c order ((bad.map fun e => e.2).getD stOk) 0 (((bad.map fun e => e.1).getD 0xFFFF) + applied * 2 ^ 16)

/-- The records of an update capsule that wait are tried, and it completes if that was all. -/
def Dev.runJob (c : Ctx) (d : Dev) (order : Nat) : Dev :=
  match d.updates.jobs.find? fun j => j.capsule == order with
  | none => d
  | some j =>
    let left := (j.records.mapIdx fun i r => (i, r)).filter fun e => (tabGet e.1 j.status).isNone && (tabGet e.1 j.applied).isNone
    ((d.runRecords c order left []).settleRecords c order).finishJob c order

/-- Every update capsule looked at again. -/
def Dev.runJobs (c : Ctx) (d : Dev) : Dev := (d.updates.jobs.map fun j => j.capsule).foldl (fun d k => d.runJob c k) (d.hear c none)

/-- An UPDATE capsule's own work, after its ingress and metering: the batch is read, the status array must be writable. -/
def Dev.startUpdate (c : Ctx) (d : Dev) (order : Nat) : Dev :=
  match d.capsule? order with
  | none => d
  | some cap =>
    let n := cap.field 271 256
    let batch := cap.field 191 128
    if 4096 < n ∨ batch % 64 ≠ 0 then d.endPlain c order stBadArg 0 (emptyResult cap)
    else if n = 0 then d.endPlain c order stOk 0 0xFFFF
    else
      let (st, d) := d.bufWriteStatus cap (cap.field 275 274) (cap.field 255 192) n
      if st != stOk then d.endPlain c order st 0 (emptyResult cap)
      else match d.bufRead cap (cap.field 273 272) batch (64 * n) with
        | (0, bs, d) =>
          let job : UpdateJob := ⟨order, toElems 64 n (ofLE bs), [], cap.field 255 192, cap.field 275 274, []⟩
          if d.fillWait then d else (d.setUpdates { d.updates with jobs := d.updates.jobs ++ [job] }).runJob c order
        | (st, _, d) => d.endPlain c order st 0 (emptyResult cap)

/-- The deadline of an update capsule: the records that have not applied fail with ST_DEADLINE (R360, R363). -/
def Dev.expireJob (c : Ctx) (d : Dev) (order : Nat) : Dev :=
  match d.updates.jobs.find? fun j => j.capsule == order with
  | none => d.endPlain c order stDeadline 0 (((d.capsule? order).map emptyResult).getD 0)
  | some j =>
    let left := (List.range j.records.length).filter fun i => (tabGet i j.status).isNone && (tabGet i j.applied).isNone
    (left.foldl (fun d i => (d.putStatus c order i stDeadline).hear c (some (order, 0xFFFF))) d).finishJob c order

/-! ### Waits (R377, R378, R736) -/

/-- Does a plan name an index in a PROBE, SCAN, GRAPH_STEP or RERANK_EXACT? -/
def planNamesIndex (im : DictVal) (x : Nat) : Bool :=
  (List.range (imDescs im)).any fun i =>
    let w := imDesc im i
    (dcOp w == 0x30 || dcOp w == 0x31 || dcOp w == 0x32 || dcOp w == 0x34) && dcP w 15 0 == 0x1000 + x

/-- Is an instance still in flight that was accepted before an instant and whose plan names an index? -/
def Dev.earlierInstance (d : Dev) (x at_ : Nat) : Bool :=
  d.capsules.live.any fun k => k.opcode == 1 && decide (k.acceptedAt ≤ at_ + 1) &&
    match d.plan? k.plan with | some p => planNamesIndex p.image x | none => false

/-- Is a tombstone that a pending update has set still to be acknowledged by its bank (R155)? -/
def Dev.tombstoneDue (d : Dev) (p : PendingUpdate) : Bool :=
  p.places.any fun q => ((tabGet (tombAt q.2.1 / 1024) (d.bank q.1).shadow).isSome)

/-- TOMBSTONE_SET: the old version's tombstone, once no earlier instance is left. -/
def doTombstoneSet (index id : Nat) (c : Ctx) (d : Dev) : Dev :=
  match d.updates.pending.find? fun p => p.index == index && p.id == id && p.since.isNone with
  | none => d
  | some p =>
    if d.earlierInstance index p.publish then d
    else
      let d := p.places.foldl (fun d q => d.setTombstone (d.index index) q) d
      (d.setUpdates { d.updates with pending := d.updates.pending.map fun q =>
        if q.index = index ∧ q.id = id ∧ q.since = none then { q with since := some c.now } else q }).runJobs c

/-- TOMBSTONE_SET. -/
def execTombstoneSet (index id : Nat) (s : State) : Out := devStep (doTombstoneSet index id) s

/-- The updates of an identifier that meet a test retire: VALID of the old version's locator slot is cleared (R378). -/
def Dev.retireUpdates (c : Ctx) (d : Dev) (index id : Nat) (test : Nat → Bool) : Bool × Dev :=
  let due (p : PendingUpdate) : Bool := p.index == index && p.id == id && !d.tombstoneDue p &&
    (match p.since with | some t => test t | none => false)
  let l := d.updates.pending.filter due
  let w := d.index index
  let d := l.foldl (fun d p => match d.locatorOf w id p.version with
    | some s => d.putLocator w id s (setBits (d.locator w id s) 16 16 0)
    | none => d) d
  (!l.isEmpty, (d.setUpdates { d.updates with pending := d.updates.pending.filter fun p => !due p }).runJobs c)

/-- RETIREMENT: no instance accepted before the tombstone or delete instant is left. -/
def execRetirement (index id : Nat) (s : State) : Out :=
  devStep (fun c d => (d.retireUpdates c index id fun t => !d.earlierInstance index t).2) s

/-- RETIREMENT_WAIT_LIMIT: the limit has run from that instant; counted as early (R378). -/
def doRetirementWaitLimit (index id : Nat) (c : Ctx) (d : Dev) : Dev :=
  let n := (d.updates.pending.filter fun p => p.index == index && p.id == id && !d.tombstoneDue p &&
    (match p.since with | some t => decide (t + d.cfg (0x3060 + index) 3 * msTicks ≤ c.now) | none => false)).length
  let (_, d) := d.retireUpdates c index id fun t => decide (t + d.cfg (0x3060 + index) 3 * msTicks ≤ c.now)
  d.modIndex index fun s => { s with early := satAdd 64 s.early n }

/-- RETIREMENT_WAIT_LIMIT. -/
def execRetirementWaitLimit (index id : Nat) (s : State) : Out := devStep (doRetirementWaitLimit index id) s

/-! ### Consolidation (R381–R385) -/

/-- Is a segment due for consolidation: asked for, or by its tombstones, or by its cell's imbalance (R381)? -/
def Dev.segmentDue (d : Dev) (x w bank j : Nat) : Bool :=
  let h := d.seg bank j
  let c := sgCell h
  let th := d.cfg (0x3060 + x) 4
  let lim := d.cfg (0x3060 + x) 5
  let live := (cellBanks w c).map (d.liveIn w c)
  (d.updates.passes.any fun p => p.index == x && p.cell == c && p.left.contains (bank, j)) ||
  (th != 0 && !sgTail h && decide (0 < sgCount h) && decide (th * sgCount h ≤ 100 * (sgCount h - (d.liveEntries bank j).length))) ||
  (lim != 0 && decide (lim * sumOf live < 100 * live.length * live.foldl max 0))

/-- Does a record of any index of an update clock group wait (R381)? -/
def Dev.groupBusy (d : Dev) (g : Nat) : Bool :=
  d.updates.jobs.any fun j => (j.records.mapIdx fun i r => (i, r)).any fun e =>
    (tabGet e.1 j.status).isNone && inRange 0x1000 0x103F (urObject e.2) && d.cfg (0x2060 + urObject e.2) 2 == g

/-- May the index consolidate now: a group is set and takes work, no record of it waits, no move is under way (R381)? -/
def Dev.mayConsolidate (d : Dev) (x : Nat) : Bool :=
  d.cfg (0x3060 + x) 2 != 0xFF && d.groupOwner (d.cfg (0x3060 + x) 2) == ixRealm (d.index x) && !d.groupBusy (d.cfg (0x3060 + x) 2) && !d.groupHeld (d.cfg (0x3060 + x) 2) &&
  !d.updates.moves.any fun m => m.index == x

/-- One live entry copied to entry k of a new segment: code, norm, exponents, handle. -/
def Dev.copyEntry (d : Dev) (w sb j tb tj i k : Nat) : Dev :=
  let h := d.seg sb j
  let t := d.seg tb tj
  let d := d.putBank tb (sgCode t + k * ixCS w) (ixCS w) (d.bankNum sb (sgCode h + i * ixCS w) (ixCS w))
  let d := d.putBank tb (sgNorm t + 4 * k) 4 (d.bankNum sb (sgNorm h + 4 * i) 4)
  let d := if ixSB w = 0 then d else d.putBank tb (sgScale t + k * ixSB w) (ixSB w) (d.bankNum sb (sgScale h + i * ixSB w) (ixSB w))
  d.t1Put (handleAt w (sgHandles t) k) 8 (d.entryHandle w h i)

/-- A moved entry's position word or pending tombstone follows it (R382). -/
def Dev.moveReferences (d : Dev) (x w sb j tb tj i k : Nat) : Dev :=
  let handle := d.entryHandle w (d.seg sb j) i
  let id := handleId handle
  let pos := d.position x w id
  let d : Dev := if pwLive pos && pwBank pos == sb && pwSlot pos == j && pwEntry pos == i then
      d.t1Put (d.positionAt x w id) 8 (positionWord tb tj k true (pwVersion pos)) else d
  d.setUpdates { d.updates with pending := d.updates.pending.map fun p =>
    if p.index = x ∧ (sb, j, i) ∈ p.places then { p with places := p.places ++ [(tb, tj, k)] } else p }

/-- CONSOLIDATION_MOVE: seal, copy and switch of one segment. -/
def doConsolidationMove (index bank slot : Nat) (c : Ctx) (d : Dev) : Dev :=
  let w := d.index index
  let h := d.seg bank slot
  if ixKind w != 1 || !ixHasBank w bank || sgCap h == 0 || sgSealed h || !d.mayConsolidate index || !d.segmentDue index w bank slot then d
  else
    let cell := sgCell h
    let banks := cellBanks w cell
    let least := (banks.map (d.liveIn w cell)).foldl min (d.liveIn w cell (banks.headD 0))
    let cands := banks.filter fun b => d.liveIn w cell b == least
    let (n, d1) := d.choose cands.length
    let tb := cands.getD n 0
    match d1.takeStorage index w cell tb false with
    | (none, _) => d
    | (some (tj, row, a), d) =>
      let live := d.liveEntries bank slot
      let d := d.putSeg bank slot (setBits (setBits h 142 142 1) 141 141 0)
      let primary := primarySlot w cell
      let d := (d.putBank tb (tombAt tj) 32 0).putSeg tb tj (newHeader w cell tb tj row a 0xFFFFFFFF false false)
      let d := (live.mapIdx fun k i => (k, i)).foldl (fun d e => d.copyEntry w bank slot tb tj e.2 e.1) d
      let d := d.putSeg tb tj (setBits (setBits (d.seg tb tj) 63 32 live.length) 191 160 (sgNext (d.seg tb primary)))
      let d := d.putSeg tb primary (setBits (d.seg tb primary) 191 160 tj)
      let d := (live.mapIdx fun k i => (k, i)).foldl (fun d e => d.moveReferences index w bank slot tb tj e.2 e.1) d
      let d := d.countSegment w cell tb true
      let v := d.cell w cell
      let d := d.putCell w cell (setBits (setBits v 31 0 (clVectors v + live.length)) 159 128 (clGen v + 1))
      let d := d.setUpdates { d.updates with moves := d.updates.moves ++ [⟨index, cell, bank, slot, tb, tj, .switched, c.now, 0⟩] }
      let d := d.modIndex index fun s => { s with moved := satAdd 64 s.moved 1 }
      -- a pass over the cell
      let (pick, d) := d.pick (2 * ixDim w)
      let far := (live.map fun i => fnSqrt (distSq pick (d.centroid w cell) (d.entryVector index w bank h i).1)).foldl f32Max 0
      let d := d.setUpdates { d.updates with passes := d.updates.passes.map fun p =>
        if p.index = index ∧ p.cell = cell then { p with left := p.left.filter (· != (bank, slot)), radius := f32Max p.radius far } else p }
      match d.updates.passes.find? fun p => p.index == index && p.cell == cell && p.left.isEmpty with
      | none => d
      | some p =>
        let d := d.putCell w cell (setBits (d.cell w cell) 95 64 p.radius)
        let d := banks.foldl (fun d b => d.putBank b 16 4 ((d.bankNum b 16 4 + 1) % 2 ^ 32)) d
        d.setUpdates { d.updates with passes := d.updates.passes.filter fun q => !(q.index == index && q.cell == cell) }

/-- CONSOLIDATION_MOVE. -/
def execConsolidationMove (index bank slot : Nat) (s : State) : Out := devStep (hearing (doConsolidationMove index bank slot)) s

/-- SEGMENT_UNLINK: after the grace from the switch the source leaves its chain (R382). -/
def doSegmentUnlink (index : Nat) (c : Ctx) (d : Dev) : Dev :=
  match d.updates.moves.find? fun m => m.index == index && m.stage == .switched with
  | none => d
  | some m =>
    if d.earlierInstance index m.since then d
    else
      let w := d.index index
      let h := d.seg m.bank m.slot
      let tombs := sgCount h - (d.liveEntries m.bank m.slot).length
      let d : Dev := if m.slot = primarySlot w m.cell then d.putSeg m.bank m.slot (setBits (setBits h 136 128 0) 63 32 0)
        else match (d.chain w m.cell m.bank).find? fun j => sgNext (d.seg m.bank j) == m.slot with
          | some j => d.putSeg m.bank j (setBits (d.seg m.bank j) 191 160 (sgNext h))
          | none => d
      let v := d.cell w m.cell
      let d := d.putCell w m.cell (setBits (setBits (setBits v 31 0 (clVectors v - sgCount h)) 63 32 (clTomb v - tombs)) 127 96 (clSegments v - 1))
      d.setUpdates { d.updates with
        moves := d.updates.moves.map fun x => if x.index = index then { x with stage := .unlinked, since := c.now, header := h } else x
        pending := d.updates.pending.map fun p =>
          if p.index = index then { p with places := p.places.filter fun q => !(q.1 == m.bank && q.2.1 == m.slot) } else p }

/-- SEGMENT_UNLINK. -/
def execSegmentUnlink (index : Nat) (s : State) : Out := devStep (hearing (doSegmentUnlink index)) s

/-- SEGMENT_FREE: after a second grace the source's rows, slot and handle array are free (R382, R385). -/
def doSegmentFree (index : Nat) (_c : Ctx) (d : Dev) : Dev :=
  match d.updates.moves.find? fun m => m.index == index && m.stage == .unlinked with
  | none => d
  | some m =>
    if d.earlierInstance index m.since then d
    else
      let w := d.index index
      let h := d.seg m.bank m.slot
      let row := sgCode h / 1024
      let d := d.putSeg m.bank m.slot (if m.slot = primarySlot w m.cell then setBits (setBits h 140 140 0) 136 128 0 else sgCode h)
      let n := d.bankNum m.bank 12 4
      let d := d.putBank m.bank 12 4 (n - 1)
      let d := d.setUpdates { d.updates with
        moves := d.updates.moves.filter fun x => x.index != index
        freed := d.updates.freed ++ [⟨index, m.bank, m.slot, row, ixSegRows w⟩] }
      d.modIndex index fun s => { s with freed := satAdd 64 s.freed 1, freeArrays := s.freeArrays ++ [sgHandles h] }

/-- SEGMENT_FREE. -/
def execSegmentFree (index : Nat) (s : State) : Out := devStep (hearing (doSegmentFree index)) s

/-- CONSOLIDATION_START's effect: a pass over a cell, or over every cell that has a segment (R381). A segment that is being moved already is
not moved again. -/
def Dev.startPasses (d : Dev) (x value : Nat) : Nat × Dev :=
  let w := d.index x
  if ixKind w != 1 then (stBadArg, d)
  else if value != 0xFFFFFFFF && decide (ixCount w ≤ value) then (stConfigReject, d)
  else
    let cells := if value = 0xFFFFFFFF then List.range (ixCount w) else [value]
    let new : List CellPass := (cells.map fun c => (⟨x, c, (d.cellSegments w c).filter fun p => !sgSealed (d.seg p.1 p.2), 0⟩ : CellPass)).filter fun p => !p.left.isEmpty
    (stOk, d.setUpdates { d.updates with
      passes := (d.updates.passes.filter fun p => !(p.index == x && cells.contains p.cell)) ++ new })

/-! ### Formatting (R269, R391, R417) -/

/-- The header of a cell's primary slot with no segment. -/
def emptyPrimary (w c bank : Nat) : Nat :=
  tombAt (primarySlot w c) * 2 ^ 64 + 2 ^ 140 + ((stripeMember (ixStripeLog w) (ixCellStripe w c) bank).getD 0) * 2 ^ 144 +
    0xFFFFFFFF * 2 ^ 160 + c * 2 ^ 192

/-- A range of T1 zeroed. -/
def Dev.t1Zero (d : Dev) (a n : Nat) : Dev := d.t1Write a (List.replicate n 0)

/-- One bank of a stripe formatted: directory and tombstones zeroed, its header and its cells' primary headers written. -/
def Dev.formatBank (d : Dev) (x w i m : Nat) : Dev :=
  let bank := stripeBank (ixStripeLog w) (ixStripe w i) m
  let d := d.setMem (memZero d.mem (bankKey bank 0x400) 0x20000)
  let d := d.putBank bank 0 32 (0x1000 + x + i * 2 ^ 16 + m * 2 ^ 32 + 129 * 2 ^ 64)
  ((List.range (ixCount w)).filter fun c => c % ixStripes w == i).foldl (fun d c => d.putSeg bank (primarySlot w c) (emptyPrimary w c bank)) d

/-- An index formatted: it loads (R269, R365). -/
def Dev.formatIndex (d : Dev) (x : Nat) : Dev :=
  let w := d.index x
  let d : Dev := if ixKind w = 1 then
      let d := ((List.range (ixStripes w)).map fun i => (List.range (2 ^ ixStripeLog w)).map fun m => (i, m)).flatten.foldl
        (fun d p => d.formatBank x w p.1 p.2) d
      d.t1Zero (ixCell w) (64 * ixCount w)
    else d
  let d := d.t1Zero (ixLocator w) (32 * ixIdLimit w)
  let d := d.t1Zero (ixCacheAddr w) (16 * ixCacheSlots w)
  let d : Dev := if d.cfg (0x3060 + x) 1 = 0 then d else d.t1Zero (d.cfg (0x3060 + x) 1) (8 * ixIdLimit w)
  d.modIndex x fun s => { s with state := 2 }

/-- A table formatted: it serves (R391). -/
def Dev.formatTable (c : Ctx) (d : Dev) (t : Nat) : Dev :=
  let w := d.table t
  let r := tbRealm w
  let d := (List.range (tbRows w + 1)).foldl (fun d i => d.rawWrite c r (tbHome w + i * tbRB w) (leBytes 8 0)) d
  let d := d.rawWrite c r (tbHome w + 64) (d.defaultRow t)
  let d := d.t1Zero (tbCacheAddr w) (64 * tbCacheRows w)
  d.modTable t fun s => { s with state := 2 }

/-- A sequence record written afresh, every field at its reset value (*Sequence record*, *Tree node*). -/
def Dev.freshSequence (d : Dev) (k q : Nat) : Dev :=
  let d := d.t1Zero (d.seqAt k q) 2048
  let d := (d.putSeqHead k q (0xFFFFFFFF * 2 ^ 64)).t1Put (d.seqAt k q + 32) 224 (2 ^ 1792 - 1)
  (List.range 65).foldl (fun d i => d.t1Put (d.seqAt k q + 256 + 8 * i) 8 (0xFF * 2 ^ 56)) d

/-- A KV pool formatted: it serves (R417). -/
def Dev.formatPool (d : Dev) (k : Nat) : Dev :=
  let w := d.pool k
  let d := d.t1Zero (plArea w + plHeads w) (64 * plGranules w)
  let d := if plService w then d.t1Zero (plArea w + plKeys w) (32 * 2 ^ plKeyLog w) else d
  let d := (List.range (plSeqs w)).foldl (fun d q => d.freshSequence k q) d
  d.modPool k fun s => { s with state := 2, keys := [] }

end Sys2Proof.Machine
end

