-- ==== Sys2Proof/Machine/BankState.lean ====
section
/-! DEFINITION. A bank's sequence and its controller: windows, rows, steps, records, waits, the ends of sequences (R166–R211). -/

namespace Sys2Proof.Machine

/-! ### Places on a stack (R162, R168, R200) -/

/-- The engine group of a bank: 2^GROUP_LOG2 die positions; single banks without exchange. -/
def Dev.groupLog (d : Dev) (bank : Nat) : Nat :=
  match d.bankRegion bank with
  | some w => if rgExchange w = 0 then 0 else rgGroup w
  | none => 0

/-- The die position of a bank: e = 2·pc + (b mod 2). -/
def diePos (bank : Nat) : Nat := 2 * (bank % 768 / 24) + bank % 2

/-- The bank of the same core die at a die position. -/
def atDiePos (bank e : Nat) : Nat := globalBank (bank / 768) (e / 2) (bank % 24 / 2 * 2 + e % 2)

/-- The banks of a bank's engine group, in the order of their die positions. -/
def Dev.groupBanks (d : Dev) (bank : Nat) : List Nat :=
  let g := 2 ^ d.groupLog bank
  (List.range g).map fun i => atDiePos bank (diePos bank / g * g + i)

/-- The bank of the group at a member number, if there is one. -/
def Dev.groupMember (d : Dev) (bank i : Nat) : Option Nat := (d.groupBanks bank)[i]?

/-- The neighbour of a bank on its chain, inside its group: towards e − 1, or e + 1. -/
def Dev.neighbour (d : Dev) (bank : Nat) (up : Bool) : Option Nat :=
  let e := diePos bank
  if up then (d.groupBanks bank).find? fun b => diePos b == e + 1
  else (d.groupBanks bank).find? fun b => diePos b + 1 == e

/-! ### Ordinary accesses at a bank (R191–R193, R203) -/

/-- An access served: bytes written, or read and sent to who asked. -/
def Dev.serveAccess (d : Dev) (bank : Nat) (a : OrdAccess) : Dev :=
  let d := d.spendUnits (bank / 768) (rowUnits a.addr a.len)
  match a.data with
  | some bs => d.t1Store a.addr bs
  | none => d.send (.readData a.source a.sourceId a.addr (d.t1Read a.addr a.len))

/-- Nanoseconds since an instant. -/
def Ctx.nsSince (c : Ctx) (t : Nat) : Nat := 10 * (c.now - t)

/-- Has the preemption timeout of a bank in PIM_EXCLUSIVE run (R193)? -/
def Dev.preempted (c : Ctx) (d : Dev) (bank : Nat) : Bool :=
  let b := d.bank bank
  let capsule := ((b.run.bind fun r => d.trigger? r.trigger).map fun t => t.capsule).getD 0
  (!b.accesses.isEmpty || b.quiet.any fun q => q.heard) && decide (d.cfgFor capsule 0x240A 0 ≤ c.nsSince b.firstWait)

/-- Tombstones that a bank acknowledges now are set from now on (R155, R375, R376). -/
def Dev.restamp (c : Ctx) (d : Dev) (bank : Nat) : Dev :=
  let rows := (d.bank bank).shadow
  if rows.isEmpty then d
  else d.setUpdates { d.updates with pending := d.updates.pending.map fun p =>
    if p.since.isSome && p.places.any fun q => q.1 == bank && (tabGet (tombAt q.2.1 / 1024) rows).isSome then { p with since := some c.now } else p }

/-- Refresh and ordinary accesses at a boundary (R189 steps 1 and 2): what the bank's state lets through. A boundary at which something
came between is counted once (0x2441.03); an expiry of R193 is counted as it is found. -/
def Dev.serveBank (c : Ctx) (d : Dev) (bank : Nat) : Dev :=
  let b := d.bank bank
  let expiry := b.state == .pimExclusive && !b.expired && d.preempted c bank
  let lets := b.state != .pimExclusive || b.expired || expiry
  let served : List OrdAccess := if lets then b.accesses else []
  let quiet : List QuietAccess := if lets then b.quiet else []
  let between : Bool := b.refreshes != 0 || !served.isEmpty || !quiet.isEmpty
  let d := if lets then d.restamp c bank else d
  let d := served.foldl (fun d a => d.serveAccess bank a) (quiet.foldl (fun d q => d.spendUnits (bank / 768) q.units) d)
  let d := d.modBank bank fun b => { b with
    refreshes := 0
    accesses := if lets then [] else b.accesses
    quiet := if lets then [] else b.quiet
    shadow := if lets then [] else b.shadow
    expired := if lets then false else b.expired
    preemptions := if expiry then satAdd 64 b.preemptions 1 else b.preemptions
    suspensions := match b.run with
      | some r => if r.counted || !between then b.suspensions else satAdd 64 b.suspensions 1
      | none => b.suspensions
    run := b.run.map fun r => { r with counted := r.counted || between } }
  if quiet.isEmpty then d else d.runJobs c

/-! ### Steps (R188, R203) -/

/-- A bank's run changed. -/
def Dev.modBankRun (d : Dev) (bank : Nat) (f : BankRun → BankRun) : Dev := d.modBank bank fun b => { b with run := b.run.map f }

/-- Units that a step has used. -/
def BankRun.used (r : BankRun) : Nat := (if r.row.isSome then 8 else 0) + r.columns

/-- The window of the governor that an instant lies in (R204): windows start at multiples of 100 ticks. -/
def windowOf (t : Nat) : Nat := t / 100

/-- A step ends: its row is closed, and the units that it did not use return to the window that granted it (R188, R203). -/
def Dev.closeStep (c : Ctx) (d : Dev) (bank : Nat) : Dev :=
  match (d.bank bank).run with
  | none => d
  | some r =>
    if !r.inStep then d
    else
      let s := bank / 768
      let d : Dev := if d.governed s && windowOf r.grantedAt == windowOf c.now then
        d.modStack s fun k => { k with remaining := k.remaining + ((40 - r.used : Nat) : Int) } else d
      d.modBankRun bank fun r => { r with inStep := false, row := none, columns := 0 }

/-! ### Records (R186, R187) -/

/-- Room for records in a channel's result buffer. -/
def resultRoom : Nat := 128

/-- The result buffer of a bank's channel. -/
def resultKey (bank : Nat) : Nat := 16 * (bank / 768) + bank % 768 / 48

/-- Is a channel's result buffer full? -/
def Dev.resultFull (d : Dev) (bank : Nat) : Bool := decide (resultRoom ≤ (tabGetD (resultKey bank) [] d.banks.results).length)

/-- An accumulator value as a score: FP32, times 2^TH_SE, saturating above as R42 says. -/
def scoreOf (t : Trigger) (x : Word) : Nat × Bool :=
  let v := if t.accFp then x.toNat else f32OfInt (signed 32 x.toNat)
  encodeFloat .fp32 true ((ofF32 v).scale t.thSE)

/-- Has an engine anything to send: an entry of TB, or a count? -/
def Engine.hasRecord (e : Engine) : Bool :=
  !e.tb.isEmpty || decide (0 < e.offered + e.abandoned + e.tombstoned + e.evicted + e.nan + e.movedIn + e.movedOut)

/-- A record put at the end of a channel's buffer. -/
def Dev.pushRecord (d : Dev) (bank : Nat) (r : ResultRecord) : Dev :=
  d.setBanks { d.banks with results := tabMod (resultKey bank) [] (· ++ [r]) d.banks.results }

/-- An engine's top buffer and counts sent as one record. -/
def Dev.sendRecord (d : Dev) (bank : Nat) (t : Trigger) (e : Engine) : Dev :=
  let scores := e.tb.map fun x => scoreOf t x.1
  let d := d.pushRecord bank {
    capsule := t.capsule, desc := t.desc, stack := bank / 768, bank := bank % 768, fp := t.accFp, fault := false, tag := t.tag,
    movedIn := e.movedIn, offered := e.offered, abandoned := e.abandoned, tombstoned := e.tombstoned, evicted := e.evicted,
    nan := e.nan, movedOut := e.movedOut, entries := (scores.map (·.1)).zip (e.tb.map (·.2)) }
  d.modBankRun bank fun r => { r with engine := { e with
    tb := [], offered := 0, abandoned := 0, tombstoned := 0, evicted := 0, nan := 0, movedIn := 0, movedOut := 0,
    sat := e.sat + (scores.filter (·.2)).length } }

/-! ### The instruction a bank is at, and what it waits for (R188, R199, R201) -/

/-- The word of a run's sequence at its program counter; a NOP where the plan is gone. -/
def Dev.wordAt (d : Dev) (t : Trigger) (pc : Nat) : Nat :=
  match d.plan? t.plan with
  | some p => if pc < sqLength (imSeqHead p.image t.sequence) then imSeqWord p.image t.sequence pc else 0
  | none => 0

/-- Registers that a receive queue takes. -/
def rxRoom : Nat := 2

/-- Is a bank's receive queue full: from e − 1, from e + 1, or from the bus? -/
def Bank.rxFull (b : Bank) (which : Nat) : Bool :=
  decide (rxRoom ≤ (match which with | 0 => b.rxLow | 1 => b.rxHigh | _ => b.rxBus).length)

/-- Would the instruction at a run's program counter have to wait for another engine or for buffer space? -/
def Dev.mustWait (d : Dev) (bank : Nat) (t : Trigger) (r : BankRun) : Bool :=
  let w := d.wordAt t r.pc
  let b := d.bank bank
  match biOp w with
  | 0x01 => r.engine.hasRecord && d.resultFull bank
  | 0x04 => r.inBar
  | 0x38 => d.resultFull bank
  | 0x39 => (match d.neighbour bank (bit w 12) with | some n => (d.bank n).rxFull (if bit w 12 then 0 else 1) | none => false)
  | 0x3A => (d.neighbour bank (bit w 12)).isSome && (if bit w 12 then b.rxHigh else b.rxLow).isEmpty
  | 0x3B => (match d.groupMember bank (biImm w) with | some n => (d.bank n).rxFull 2 | none => false)
  | 0x3C => b.rxBus.isEmpty
  | _ => false

/-! ### BAR (R201) -/

/-- Does a member of a group no longer hold up a BAR of a trigger: it has reached one, or its sequence has ended? -/
def Dev.barReached (d : Dev) (t : Trigger) (bank : Nat) : Bool :=
  let b := d.bank bank
  !t.left.contains (bank % 768) ||
  (match b.run with | some r => r.trigger == t.order && r.inBar | none => false) ||
  (match b.saved with | some r => r.trigger == t.order && r.inBar | none => false)

/-- A group whose members have all reached a BAR, or ended, goes on. -/
def Dev.tryBar (d : Dev) (trigger bank : Nat) : Dev :=
  match d.trigger? trigger with
  | none => d
  | some t =>
    let l := d.groupBanks bank
    if l.all (d.barReached t) then
      let go (r : BankRun) : BankRun := if r.trigger = trigger ∧ r.inBar then { r with inBar := false, pc := r.pc + 1 } else r
      l.foldl (fun d b => d.modBank b fun b => { b with run := b.run.map go, saved := b.saved.map go }) d
    else d

/-! ### The end of a sequence (R190, R193, R209) -/

/-- A trigger that has ended: its SCAN goes on, or ends with the status of a fault (R209). -/
def Dev.triggerOver (c : Ctx) (d : Dev) (t : Trigger) : Dev :=
  if t.status != stOk then d.stopRun c t.capsule t.status t.desc else d.scanAdvance c t.capsule t.desc

/-- A bank's run leaves it: the saved sequence comes back, to be restored (R196), or the bank returns to MEM and serves what waits (R190,
R193). -/
def Dev.vacate (c : Ctx) (d : Dev) (bank : Nat) : Dev :=
  let d := d.closeStep c bank
  let b := d.bank bank
  match b.saved with
  | some r =>
    let shared := match d.trigger? r.trigger with
      | some t => !(t.excl && ((d.bankRegion bank).map rgExcl).getD false)
      | none => true
    d.modBank bank fun b => { b with
      run := some { r with restoring := true, inStep := false }, saved := none,
      state := if shared then .pimShared else .pimExclusive }
  | none => (d.modBank bank fun b => { b with run := none, state := .mem, expired := false }).serveBank c bank

/-- A sequence ends on its bank: its saturations are counted (R36, R37, R68), its trigger may be over. -/
def Dev.endSequence (c : Ctx) (d : Dev) (bank : Nat) : Dev :=
  match (d.bank bank).run with
  | none => d
  | some r =>
    let d := d.vacate c bank
    match d.trigger? r.trigger with
    | none => d
    | some t =>
      let d := ((d.countRun r).leaveBank t.order bank).tryBar t.order bank
      if (d.trigger? t.order).isNone then (d.triggerOver c { t with left := [] }).tryFinish c t.capsule else d

/-- The causes of a fault, as event 0x0302 gives them: in the order of R209. -/
inductive FaultCause where
  | column | window | exchange | laneType
deriving DecidableEq, Repr

/-- The number of a cause. -/
def FaultCause.code : FaultCause → Nat
  | .column => 0 | .window => 1 | .exchange => 2 | .laneType => 3

/-- The status with which a fault ends its SCAN (R209). -/
def FaultCause.status : FaultCause → Nat
  | .window => stViolation | .laneType => stBadPlan | _ => stFault

/-- The violation record of a trigger's bank (R643): the memory controller's, with the bank and the bank address. -/
def Dev.violateBank (c : Ctx) (d : Dev) (t : Trigger) (bank addr : Nat) : Dev :=
  let op := ((d.plan? t.plan).map fun p => dcOp (imDesc p.image t.desc)).getD 0
  let tag := ((d.capsule? t.capsule).map fun k => k.tag).getD 0
  d.violate c t.realm 3 bank op 2 tag addr t.plan t.desc

/-- The record of a faulting bank in its channel's buffer, which ends its sequence; while the buffer is full it waits as EMIT does (R187,
R209). -/
def Dev.endFailed (c : Ctx) (d : Dev) (bank : Nat) (t : Trigger) : Dev :=
  if d.resultFull bank then (d.modBankRun bank fun r => { r with failed := true }).closeStep c bank
  else (d.pushRecord bank {
      capsule := t.capsule, desc := t.desc, stack := bank / 768, bank := bank % 768, fp := t.accFp, fault := true, tag := t.tag, movedIn := 0,
      offered := 0, abandoned := 0, tombstoned := 0, evicted := 0, nan := 0, movedOut := 0, entries := [] }).endSequence c bank

/-- A sequence ends with a fault (R209): a record with FAULT, but for a cancelled run (R198), the event, and the status that ends the SCAN
once the trigger's other banks have run to their end. -/
def Dev.faultSequence (c : Ctx) (d : Dev) (bank addr : Nat) (cause : FaultCause) : Dev :=
  match (d.bank bank).run with
  | none => d
  | some r =>
    match d.trigger? r.trigger with
    | none => d
    | some t =>
      let d := d.event c 0x0302 2 t.realm bank addr cause.code
      let d : Dev := if cause = .window then d.violateBank c t bank addr else d
      let d := d.modTrigger t.order fun t => { t with status := if t.status = stOk then cause.status else t.status }
      let d := d.modBank bank fun b => { b with faults := satAdd 32 b.faults 1 }
      if r.cancelled then d.endSequence c bank else d.endFailed c bank t

end Sys2Proof.Machine
end

