-- ==== Sys2Proof/Machine/BankEngine.lean ====
section
/-! DEFINITION. The bank engine's instructions (R170–R176, R184–R187, R199–R201, R732, R740). -/

namespace Sys2Proof.Machine

/-! ### Issuing an instruction -/

/-- The word of an instruction (*Bank instruction*). -/
def bankWord (op d a b m imm : Nat) : Nat := op * 2 ^ 26 + d * 2 ^ 23 + a * 2 ^ 20 + b * 2 ^ 17 + m * 2 ^ 12 + imm

/-- A modifier bit. -/
def mbit (b : Bool) (i : Nat) : Nat := if b then 2 ^ i else 0

/-- A bank's engine issues an instruction: it does so where its sequence is in a step and stands at exactly that word. -/
def issue (bank word : Nat) (f : Ctx → Dev → Trigger → BankRun → Dev) (c : Ctx) (d : Dev) : Dev :=
  match (d.bank bank).run with
  | none => d
  | some r =>
    match d.trigger? r.trigger with
    | none => d
    | some t => if r.inStep && !r.restoring && d.wordAt t r.pc == word then f c d t r else d

/-- The engine of a bank changed, and the next instruction. -/
def Dev.proceedWith (d : Dev) (bank : Nat) (f : BankRun → BankRun) : Dev := d.modBankRun bank fun r => { f r with pc := r.pc + 1 }

/-- An instruction that changes only the engine. -/
def issueOn (bank word : Nat) (f : Trigger → Engine → Engine) : Ctx → Dev → Dev :=
  issue bank word fun _ d t _ => d.proceedWith bank fun r => { r with engine := f t r.engine }

/-- An instruction that goes to TGT where a test holds, and changes the engine. -/
def issueBranch (bank word tgt : Nat) (taken : Engine → Bool) (f : Engine → Engine) : Ctx → Dev → Dev :=
  issue bank word fun _ d _ _ => d.modBankRun bank fun r => { r with
    engine := f r.engine, pc := if taken r.engine then tgt else r.pc + 1 }

/-- A scalar register written. -/
def Engine.setX (e : Engine) (i : RegNo) (v : Word) : Engine := { e with x := e.x.set i v }

/-- A vector register written. -/
def Engine.setV (e : Engine) (i : RegNo) (v : BitVec 512) : Engine := { e with v := e.v.set i v }

/-- A scalar register. -/
def Engine.xr (e : Engine) (i : RegNo) : Word := e.x.get i

/-- A vector register. -/
def Engine.vr (e : Engine) (i : RegNo) : BitVec 512 := e.v.get i

/-- Lane `i` of a vector register: 16 bits. -/
def lane (v : BitVec 512) (i : Nat) : Nat := elem v.toNat 2 i

/-- A vector register of 32 lanes. -/
def ofLanes (l : List Nat) : BitVec 512 := BitVec.ofNat 512 (ofElems 2 l)

/-- Half `h` of a vector register. -/
def halfOf (v : BitVec 512) (h : Bool) : BitVec 256 := v.extractLsb' (if h then 256 else 0) 256

/-- A vector register with half `h` replaced. -/
def setHalf (v : BitVec 512) (h : Bool) (x : BitVec 256) : BitVec 512 :=
  if h then x ++ halfOf v false else halfOf v true ++ x

/-! ### Control and scalar instructions -/

/-- NOP. -/
def execBankNop (bank : Nat) (s : State) : Out := devStep (issueOn bank (bankWord 0x00 0 0 0 0 0) fun _ e => e) s

/-- LOOP: Xc is signed, as CMPX takes it. -/
def execLoop (bank : Nat) (a : RegNo) (tgt : BitVec 11) (s : State) : Out :=
  let more (e : Engine) : Bool := (1 : Word).slt (e.xr a)
  devStep (issueBranch bank (bankWord 0x02 0 a 0 0 tgt.toNat) tgt.toNat more
    fun e => e.setX a (if more e then e.xr a - 1 else 0)) s

/-- BR. -/
def execBr (bank : Nat) (m : BitVec 2) (tgt : BitVec 11) (s : State) : Out :=
  devStep (issueBranch bank (bankWord 0x03 0 0 0 m.toNat tgt.toNat) tgt.toNat
    (fun e => m == 0 || (m == 1 && e.p) || (m == 2 && !e.p)) id) s

/-- SETX. -/
def execSetx (bank : Nat) (d : RegNo) (imm : BitVec 23) (s : State) : Out :=
  devStep (issueOn bank (0x05 * 2 ^ 26 + d * 2 ^ 23 + imm.toNat) fun _ e => e.setX d (imm.signExtend 32)) s

/-- ADDX. -/
def execAddx (bank : Nat) (d a b : RegNo) (immForm : Bool) (imm : BitVec 12) (s : State) : Out :=
  devStep (issueOn bank (bankWord 0x06 d a b (mbit immForm 0) imm.toNat) fun _ e =>
    e.setX d (e.xr a + (if immForm then imm.signExtend 32 else e.xr b))) s

/-- CMPX. -/
def execCmpx (bank : Nat) (a b : RegNo) (m : BitVec 2) (s : State) : Out :=
  devStep (issueOn bank (bankWord 0x07 0 a b m.toNat 0) fun _ e =>
    { e with p := if m = 0 then e.xr a == e.xr b else if m = 1 then (e.xr a).slt (e.xr b) else (e.xr a).sle (e.xr b) }) s

/-- EXTB. -/
def execExtb (bank : Nat) (d a : RegNo) (imm : BitVec 2) (s : State) : Out :=
  devStep (issueOn bank (bankWord 0x08 d a 0 0 imm.toNat) fun _ e =>
    e.setX d (((e.xr a).extractLsb' (8 * imm.toNat) 8).signExtend 32)) s

/-- SHX. -/
def execShx (bank : Nat) (d a : RegNo) (imm : BitVec 6) (s : State) : Out :=
  devStep (issueOn bank (bankWord 0x09 d a 0 0 imm.toNat) fun _ e =>
    e.setX d (if imm.msb then (e.xr a).sshiftRight (-imm).toNat else e.xr a <<< imm.toNat)) s

/-- SETQP. -/
def execSetqp (bank : Nat) (a : RegNo) (s : State) : Out :=
  devStep (issueOn bank (bankWord 0x16 0 a 0 0 0) fun _ e => { e with qp := (e.xr a).toNat % 4096 }) s

/-! ### The fetch port (R163, R174, R175, R192, R208, R732) -/

/-- What a column access comes to: the column's 32 bytes, or nothing now because the step or the sequence has ended. -/
inductive Fetched where
  | data (x : BitVec 256)
  | stopped
deriving DecidableEq, Repr

/-- One column access of a bank's sequence, at a bank address with bits [4:0] zero, with what the on-die code found. An access to another row
than the open one ends the step, and the instruction issues again in the next (R188). A row's bytes are those at its activation, without what
a step boundary has not yet let through (R192). -/
def Dev.column (c : Ctx) (d : Dev) (bank a ecc : Nat) : Fetched × Dev :=
  match (d.bank bank).run with
  | none => (.stopped, d)
  | some r =>
    match d.trigger? r.trigger with
    | none => (.stopped, d)
    | some t =>
      if a < t.winLo ∨ t.winHi < a + 32 then (.stopped, d.faultSequence c bank (a % 2 ^ 27) .window)
      else if ecc = 2 then (.stopped, d.faultSequence c bank a .column)
      else
        let another : Bool := match r.row with | some (n, _) => n != a / 1024 | none => false
        if another || decide (32 ≤ r.columns) then (.stopped, d.closeStep c bank)
        else
          let kept := (tabGet (a / 1024) (d.bank bank).shadow).getD (memNum d.mem (bankKey bank (a / 1024 * 1024)) 1024)
          let bytes := (r.row.map (·.2)).getD kept
          let d := d.modBankRun bank fun r => { r with row := some (a / 1024, bytes), columns := r.columns + 1 }
          let d : Dev := if ecc = 1 then d.modBank bank fun b => { b with corrected := satAdd 32 b.corrected 1 } else d
          (.data (BitVec.ofNat 256 (byteField bytes (a % 1024) 32)), d)

/-- A step whose 32nd column access has been made ends after it (R188). -/
def Dev.afterColumns (c : Ctx) (d : Dev) (bank : Nat) : Dev :=
  match (d.bank bank).run with
  | some r => if r.inStep && decide (32 ≤ r.columns) then d.closeStep c bank else d
  | none => d

/-- Columns of the stream fetched into its queue while it has room. -/
def Dev.fillStream (c : Ctx) (d : Dev) (bank : Nat) (found : Nat → Nat) : Nat → Dev
  | 0 => d
  | fuel + 1 =>
    match (d.bank bank).run with
    | none => d
    | some r =>
      if !r.inStep || r.engine.streamLeft == 0 || decide (8 ≤ r.engine.stream.length) then d
      else
        match d.column c bank r.engine.cp (found fuel) with
        | (.stopped, d) => d
        | (.data x, d) =>
          let d := d.modBankRun bank fun r => { r with engine := { r.engine with
            stream := r.engine.stream ++ [x], streamLeft := r.engine.streamLeft - 1, cp := (r.engine.cp + 32) % 2 ^ 27 } }
          Dev.fillStream c d bank found fuel

/-- The fetch port goes on with the stream as far as the queue has room, at once (log entry 114). What the on-die code finds in the first
column is the command's operand where it has one, and otherwise a free value, as it is for each further column (R208). -/
def Dev.streamOn (c : Ctx) (d : Dev) (bank : Nat) (first : Option Nat) : Dev :=
  match (d.bank bank).run with
  | none => d
  | some r =>
    if r.engine.streamLeft == 0 || decide (8 ≤ r.engine.stream.length) then d
    else
      let (pick, d) := d.pick 8
      (d.fillStream c bank (fun k => match first with | some e => if k = 7 then e else pick k % 3 | none => pick k % 3) 8).afterColumns c bank

/-- An instruction of the fetch port that waits for an earlier stream to have fetched all its columns (R174). -/
def issueAfterStream (bank word : Nat) (f : Ctx → Dev → BankRun → Dev) : Ctx → Dev → Dev :=
  issue bank word fun c d _ r => if r.engine.streamLeft == 0 then (f c d r).afterColumns c bank else d.streamOn c bank none

/-- SETCP. -/
def execSetcp (bank : Nat) (a : RegNo) (s : State) : Out :=
  devStep (issueAfterStream bank (bankWord 0x10 0 a 0 0 0) fun _ d _ =>
    d.proceedWith bank fun r => { r with engine := { r.engine with cp := (r.engine.xr a).toNat % 2 ^ 27 / 32 * 32 } }) s

/-- FETCH. -/
def execFetch (bank : Nat) (d : RegNo) (half inc : Bool) (ecc : Nat) (s : State) : Out :=
  devStep (issueAfterStream bank (bankWord 0x11 d 0 0 (mbit half 0 + mbit inc 1) 0) fun c dev r =>
    match dev.column c bank r.engine.cp ecc with
    | (.stopped, dev) => dev
    | (.data x, dev) => dev.proceedWith bank fun r =>
        let e := r.engine.setV d (setHalf (r.engine.vr d) half x)
        { r with engine := { e with cp := if inc then (e.cp + 32) % 2 ^ 27 else e.cp } }) s

/-- FETCHX. -/
def execFetchx (bank : Nat) (d a : RegNo) (imm : BitVec 3) (ecc : Nat) (s : State) : Out :=
  devStep (issue bank (bankWord 0x12 d a 0 0 imm.toNat) fun c dev _ r =>
    match dev.column c bank ((r.engine.xr a).toNat / 32 * 32) ecc with
    | (.stopped, dev) => dev
    | (.data x, dev) =>
      (dev.proceedWith bank fun r => { r with engine := r.engine.setX d (x.extractLsb' (32 * imm.toNat) 32) }).afterColumns c bank) s

/-- STRM: a new stream from CP, whose columns are fetched from now on (R174, R732). -/
def execStrm (bank : Nat) (a : RegNo) (ecc : Nat) (s : State) : Out :=
  devStep (issueAfterStream bank (bankWord 0x13 0 a 0 0 0) fun c d _ =>
    (d.proceedWith bank fun r => { r with engine := { r.engine with streamLeft := (r.engine.xr a).toNat } }).streamOn c bank (some ecc)) s

/-- The columns that SSKIP discards: the excess of the count has no effect. -/
def Engine.skip (e : Engine) (n : Nat) : Engine :=
  let more := min (n - e.stream.length) e.streamLeft
  { e with stream := e.stream.drop n, streamLeft := e.streamLeft - more, cp := (e.cp + 32 * more) % 2 ^ 27 }

/-- SSKIP: columns are discarded from the stream's queue and from what it has not yet fetched, which then goes on. -/
def execSskip (bank : Nat) (a : RegNo) (s : State) : Out :=
  devStep (issue bank (bankWord 0x14 0 a 0 0 0) fun c d _ _ =>
    (d.proceedWith bank fun r => { r with engine := r.engine.skip (r.engine.xr a).toNat }).streamOn c bank none) s

/-! ### The query (R176) -/

/-- `n` query elements from QP on: those at or beyond the query's length read 0. -/
def Trigger.elements (t : Trigger) (qp n : Nat) : List Nat := (List.range n).map fun i => nth t.query (qp + i)

/-- QLD. -/
def execQld (bank : Nat) (d : RegNo) (s : State) : Out :=
  devStep (issueOn bank (bankWord 0x15 d 0 0 0 0) fun t e =>
    { e.setV d (ofLanes (t.elements e.qp 32)) with qp := (e.qp + 32) % 4096 }) s

/-! ### Lanes (R36, R37, R41–R43, R172, R176, R740) -/

/-- The codes of a column: 64 Q4 or 32 Q8, element 0 in the lowest bits (R31), as signed numbers (R39). -/
def codesOf (x : BitVec 256) (q8 : Bool) : List Int :=
  if q8 then (List.range 32).map fun i => signed 8 (elem x.toNat 1 i)
  else (List.range 64).map fun i => signed 4 (bits x.toNat (4 * i + 3) (4 * i))

/-- A shift that a register holds. Beyond ±400 every result is the same as at ±400: it saturates, or is zero. -/
def shiftOf (x : Word) : Int := (clampInt (-400) 400 (signed 32 x.toNat)).1

/-- A code dequantised to a lane of 16 bits, and whether it saturated (R41–R43). -/
def dequantLane (bf16 : Bool) (d : Int) (code : Int) : Nat × Bool :=
  if bf16 then dequantFloat .bf16 code d
  else let (v, s) := dequantInt (-32768) 32767 code d; (unsigned 16 v, s)

/-- The value of a lane of an accumulator's type: INT16 as an integer, BF16 as FP32 bits. -/
def laneF32 (x : Nat) : Nat := x * 2 ^ 16

/-- ACC + a × b of one lane, and whether it saturated: INT32 saturates (R36), FP32 is fused (R34). -/
def macLane (fp : Bool) (acc : Word) (a b : Nat) : Word × Bool :=
  if fp then (BitVec.ofNat 32 (f32Fma (laneF32 a) (laneF32 b) acc.toNat), false)
  else let (v, s) := sat32 (signed 32 acc.toNat + signed 16 a * signed 16 b); (BitVec.ofInt 32 v, s)

/-- ACC + (a − b)² of one lane. In FP32 the difference is rounded before it is squared (DESIGN CHOICE, log entry 37). -/
def ssaLane (fp : Bool) (acc : Word) (a b : Nat) : Word × Bool :=
  if fp then
    let x := f32Sub (laneF32 a) (laneF32 b)
    (BitVec.ofNat 32 (f32Fma x x acc.toNat), false)
  else
    let x := signed 16 a - signed 16 b
    let (v, s) := sat32 (signed 32 acc.toNat + x * x); (BitVec.ofInt 32 v, s)

/-- One accumulation of 32 lanes, with its saturations counted. -/
def Engine.accumulate (e : Engine) (f : Word → Nat → Nat → Word × Bool) (a b : List Nat) : Engine :=
  let r := (List.range 32).map fun i => f (e.acc.toArray.getD i 0) (nth a i) (nth b i)
  { e with
    acc := Vector.ofFn fun i => (r.getD i.val (0, false)).1
    sat := e.sat + (r.filter (·.2)).length }

/-- The lanes of a vector register. -/
def lanesOf (v : BitVec 512) : List Nat := toElems 2 32 v.toNat

/-- DQ. -/
def execDq (bank : Nat) (d a b : RegNo) (half part q8 bf16 : Bool) (s : State) : Out :=
  devStep (issueOn bank (bankWord 0x20 d a b (mbit half 0 + mbit part 1 + mbit q8 2 + mbit bf16 3) 0) fun _ e =>
    let codes := codesOf (halfOf (e.vr a) half) q8
    let codes := if part && !q8 then codes.drop 32 else codes.take 32
    let r := codes.map (dequantLane bf16 (shiftOf (e.xr b)))
    { e.setV d (ofLanes (r.map (·.1))) with sat := e.sat + (r.filter (·.2)).length }) s

/-- An accumulating instruction: a lane type that differs from ACC makes no accumulation and ends the sequence with a fault (R740). -/
def issueAcc (bank word : Nat) (bf16 : Bool) (f : Bool → Engine → Engine) : Ctx → Dev → Dev :=
  issue bank word fun c d t r =>
    if t.accFp != bf16 then d.faultSequence c bank (r.engine.cp % 2 ^ 27) .laneType
    else d.proceedWith bank fun r => { r with engine := f t.accFp r.engine }

/-- MAC. -/
def execMac (bank : Nat) (a b : RegNo) (bf16 : Bool) (s : State) : Out :=
  devStep (issueAcc bank (bankWord 0x21 0 a b (mbit bf16 3) 0) bf16 fun fp e =>
    e.accumulate (macLane fp) (lanesOf (e.vr a)) (lanesOf (e.vr b))) s

/-- SSA. -/
def execSsa (bank : Nat) (a b : RegNo) (bf16 : Bool) (s : State) : Out :=
  devStep (issueAcc bank (bankWord 0x22 0 a b (mbit bf16 3) 0) bf16 fun fp e =>
    e.accumulate (ssaLane fp) (lanesOf (e.vr a)) (lanesOf (e.vr b))) s

/-- DOT's accumulation of a column's codes against query elements from QP: 32 codes at a time, code j in lane j mod 32. SSA takes the query
element first: (q − c)². -/
def Engine.dot (e : Engine) (t : Trigger) (bf16 square : Bool) (shift : Int) (codes : List Int) : Engine :=
  let r := codes.map (dequantLane bf16 shift)
  let q := t.elements e.qp codes.length
  let f := if square then ssaLane t.accFp else macLane t.accFp
  let e := { e with sat := e.sat + (r.filter (·.2)).length, qp := (e.qp + codes.length) % 4096 }
  (List.range (codes.length / 32)).foldl (fun e k =>
    e.accumulate f ((q.drop (32 * k)).take 32) (((r.map (·.1)).drop (32 * k)).take 32)) e

/-- DOT: codes of a register's half, or of the stream queue's head column, for which it waits while the queue is empty (R174); the room that it
makes there takes the stream's next column. -/
def execDot (bank : Nat) (a b : RegNo) (half stream q8 bf16 square : Bool) (ecc : Nat) (s : State) : Out :=
  devStep (issue bank (bankWord 0x23 0 a b (mbit half 0 + mbit stream 1 + mbit q8 2 + mbit bf16 3 + mbit square 4) 0) fun c d t r =>
    if t.accFp != bf16 then d.faultSequence c bank (r.engine.cp % 2 ^ 27) .laneType
    else if !stream then
      d.proceedWith bank fun r =>
        let e := r.engine.dot t bf16 square (shiftOf (r.engine.xr b)) (codesOf (halfOf (r.engine.vr a) half) q8)
        { r with engine := e }
    else
      match r.engine.stream with
      | [] => d.streamOn c bank (some ecc)
      | x :: rest =>
        (d.proceedWith bank fun r =>
          let e : Engine := { r.engine with stream := rest }
          { r with engine := e.dot t bf16 square (shiftOf (e.xr b)) (codesOf x q8) }).streamOn c bank (some ecc)) s

/-- CLRA. -/
def execClra (bank : Nat) (s : State) : Out :=
  devStep (issueOn bank (bankWord 0x25 0 0 0 0 0) fun _ e => { e with acc := Vector.replicate 32 0 }) s

/-- The sum of the 32 lanes: INT32 saturates and is counted (R36), FP32 in an order left open (R64). -/
def laneSum (fp : Bool) (pick : Nat → Nat) (acc : Vector Word 32) : Nat × Bool :=
  let l := acc.toList
  if fp then (f32SumBy pick (l.map BitVec.toNat), false)
  else let (v, s) := sat32 ((l.map fun x => signed 32 x.toNat).foldl (· + ·) 0); (unsigned 32 v, s)

/-- RED. -/
def execRed (bank : Nat) (d : RegNo) (clear : Bool) (s : State) : Out :=
  devStep (issue bank (bankWord 0x24 d 0 0 (mbit clear 0) 0) fun _ dev t r =>
    let (pick, dev) := dev.pick 64
    let (v, sat) := laneSum t.accFp pick r.engine.acc
    dev.proceedWith bank fun r =>
      let e := r.engine.setX d (BitVec.ofNat 32 v)
      { r with engine := { e with acc := if clear then Vector.replicate 32 0 else e.acc, sat := e.sat + (if sat then 1 else 0) } }) s

/-! ### Thresholds (R184) -/

/-- The worst entry of TB: its last. -/
def Engine.tbWorst (e : Engine) : Option Word := e.tb.getLast?.map (·.1)

/-- Is an accumulator value strictly worse than another? A NaN is never so. -/
def strictlyWorse (t : Trigger) (a b : Word) : Bool :=
  if t.accFp then (if t.lowerBetter then f32Lt b.toNat a.toNat else f32Lt a.toNat b.toNat)
  else if t.lowerBetter then b.slt a else a.slt b

/-- Entries that TB holds: 32, or 16 in ABI 2 (R207). -/
def Trigger.tbSize (t : Trigger) : Nat := if t.abi = 2 then 16 else 32

/-- The threshold of CHK and CMPTH: TH, or with tb and a full TB the better of TH and TB's worst entry. -/
def Engine.threshold (t : Trigger) (tb : Bool) (e : Engine) : Word :=
  match (if tb && e.tb.length == t.tbSize then e.tbWorst else none) with
  | some w => if strictlyWorse t e.th w then w else e.th
  | none => e.th

/-- CHK: the sum is not held to 32 bits before it is compared. -/
def execChk (bank : Nat) (count tb : Bool) (s : State) : Out :=
  devStep (issue bank (bankWord 0x26 0 0 0 (mbit count 0 + mbit tb 1) 0) fun _ dev t r =>
    let (pick, dev) := dev.pick 64
    let th := r.engine.threshold t tb
    let worse : Bool :=
      if t.accFp then strictlyWorse t (BitVec.ofNat 32 (laneSum true pick r.engine.acc).1) th
      else
        let v := (r.engine.acc.toList.map fun x => signed 32 x.toNat).foldl (· + ·) 0
        if t.lowerBetter then decide (signed 32 th.toNat < v) else decide (v < signed 32 th.toNat)
    dev.proceedWith bank fun r => { r with engine := { r.engine with
      p := worse, abandoned := r.engine.abandoned + (if worse && count then 1 else 0) } }) s

/-- CMPTH. -/
def execCmpth (bank : Nat) (a : RegNo) (count tb : Bool) (s : State) : Out :=
  devStep (issueOn bank (bankWord 0x30 0 a 0 (mbit count 0 + mbit tb 1) 0) fun t e =>
    let worse := strictlyWorse t (e.xr a) (e.threshold t tb)
    { e with p := !worse, abandoned := e.abandoned + (if worse && count then 1 else 0) }) s

/-- TSKIP. -/
def execTskip (bank : Nat) (a b : RegNo) (tgt : BitVec 11) (s : State) : Out :=
  let dead (e : Engine) : Bool := (e.vr a).toNat.testBit ((e.xr b).toNat % 512)
  devStep (issueBranch bank (bankWord 0x31 0 a b 0 tgt.toNat) tgt.toNat dead
    fun e => { e with tombstoned := e.tombstoned + (if dead e then 1 else 0) }) s

/-! ### The local top buffer (R185) -/

/-- Are two scores equal: neither strictly worse? -/
def sameScore (t : Trigger) (a b : Word) : Bool := !strictlyWorse t a b && !strictlyWorse t b a

/-- An entry put into TB, best first; its place among equal scores is left open. -/
def tbInsert (t : Trigger) (k : Nat) (e : Word × Nat) (l : List (Word × Nat)) : List (Word × Nat) :=
  let ahead := (l.filter fun x => strictlyWorse t e.1 x.1).length
  let same := (l.filter fun x => sameScore t e.1 x.1).length
  let at_ := ahead + k % (same + 1)
  l.take at_ ++ e :: l.drop at_

/-- One score offered to TB: NaN counted, inserted where there is room, and otherwise one worst entry of the entries and the offer evicted;
`k` and `j` choose among equals. -/
def Engine.offer (e : Engine) (t : Trigger) (k j : Nat) (x : Word × Nat) : Engine :=
  if t.accFp && f32IsNaN x.1.toNat then { e with nan := e.nan + 1 }
  else if e.tb.length < t.tbSize then { e with tb := tbInsert t k x e.tb }
  else
    match e.tbWorst with
    | none => { e with evicted := e.evicted + 1 }
    | some w =>
      let worst := (e.tb.filter fun y => sameScore t y.1 w).length
      let rest (i : Nat) : List (Word × Nat) := e.tb.eraseIdx (e.tb.length - 1 - i % max worst 1)
      if strictlyWorse t x.1 w then { e with evicted := e.evicted + 1 }
      else if sameScore t x.1 w && j % (worst + 1) == worst then { e with evicted := e.evicted + 1 }
      else { e with tb := tbInsert t k x (rest j), evicted := e.evicted + 1 }

/-- TOPINS. -/
def execTopins (bank : Nat) (a b : RegNo) (s : State) : Out :=
  devStep (issue bank (bankWord 0x32 0 a b 0 0) fun _ d t _ =>
    let (pick, d) := d.pick 2
    d.proceedWith bank fun r =>
      let e := r.engine
      let nan := t.accFp && f32IsNaN (e.xr a).toNat
      let counted : Engine := { e with offered := e.offered + (if nan then 0 else 1) }
      { r with engine := counted.offer t (pick 0) (pick 1) (e.xr a, (e.xr b).toNat) }) s

/-- TOPRD: the scores of empty entries are free values. -/
def execToprd (bank : Nat) (d : RegNo) (imm : BitVec 2) (move : Bool) (s : State) : Out :=
  devStep (issue bank (bankWord 0x33 d 0 0 (mbit move 0) imm.toNat) fun _ dev _ _ =>
    let (pick, dev) := dev.pick 8
    dev.proceedWith bank fun r =>
      let e := r.engine
      let read := (e.tb.drop (8 * imm.toNat)).take 8
      let words := (List.range 8).map fun i =>
        match read[i]? with
        | some x => x.1.toNat + x.2 % 2 ^ 32 * 2 ^ 32
        | none => pick i % 2 ^ 32 + 0xFFFFFFFF * 2 ^ 32
      let e' := e.setV d (BitVec.ofNat 512 (ofElems 8 words))
      { r with engine := if move then { e' with
          tb := e.tb.take (8 * imm.toNat) ++ e.tb.drop (8 * imm.toNat + 8), movedOut := e.movedOut + read.length } else e' }) s

/-- TOPINSV: entries with offset 0xFFFF_FFFF are empty; one with a NaN score counts in NAN and not in MOVED_IN, so that OFFERED + MOVED_IN =
N + EVICTED + MOVED_OUT stays true (R185). -/
def execTopinsv (bank : Nat) (a : RegNo) (s : State) : Out :=
  devStep (issue bank (bankWord 0x34 0 a 0 0 0) fun _ d t _ =>
    let (pick, d) := d.pick 16
    d.proceedWith bank fun r =>
      let e := (List.range 8).foldl (fun (e : Engine) i =>
        let w := elem (e.vr a).toNat 8 i
        let x : Word × Nat := (BitVec.ofNat 32 w, w / 2 ^ 32)
        if x.2 = 0xFFFFFFFF then e
        else
          let counted : Engine := { e with movedIn := e.movedIn + (if t.accFp && f32IsNaN x.1.toNat then 0 else 1) }
          counted.offer t (pick (2 * i)) (pick (2 * i + 1)) x) r.engine
      { r with engine := e }) s

/-! ### Records, the end, exchange (R186, R199–R201) -/

/-- EMIT of a bank engine: it waits while the channel's buffer is full. A cancelled run emits no record (R198). -/
def execEngineEmit (bank : Nat) (s : State) : Out :=
  devStep (issue bank (bankWord 0x38 0 0 0 0 0) fun c d t r =>
    if r.cancelled then d.proceedWith bank id
    else if d.resultFull bank then d.closeStep c bank
    else (d.sendRecord bank t r.engine).proceedWith bank id) s

/-- END: an implicit EMIT where TB or a count is not zero, but for a cancelled run; then the sequence is over. -/
def execBankEnd (bank : Nat) (s : State) : Out :=
  devStep (issue bank (bankWord 0x01 0 0 0 0 0) fun c d t r =>
    if r.cancelled || !r.engine.hasRecord then d.endSequence c bank
    else if d.resultFull bank then d.closeStep c bank
    else (d.sendRecord bank t r.engine).endSequence c bank) s

/-- BAR: the last member to reach it does not wait. -/
def execBar (bank : Nat) (s : State) : Out :=
  devStep (issue bank (bankWord 0x04 0 0 0 0 0) fun c d t r =>
    if r.inBar then d
    else
      let d := (d.modBankRun bank fun r => { r with inBar := true }).tryBar t.order bank
      match (d.bank bank).run with
      | some r => if r.inBar then d.closeStep c bank else d
      | none => d) s

/-- A register put into a bank's receive queue: from e − 1 (0), from e + 1 (1), or from the bus (2). -/
def Dev.receiveReg (d : Dev) (bank which : Nat) (v : BitVec 512) : Dev :=
  d.modBank bank fun b => match which with
    | 0 => { b with rxLow := b.rxLow ++ [v] }
    | 1 => { b with rxHigh := b.rxHigh ++ [v] }
    | _ => { b with rxBus := b.rxBus ++ [v] }

/-- A register sent to a member's queue: a place outside the group is a fault (R200) with CP as its address (DESIGN CHOICE,
log entry 81), a full queue makes the sender wait (R199). -/
def Dev.sendReg (c : Ctx) (d : Dev) (bank : Nat) (r : BankRun) (target : Option Nat) (which : Nat) (v : BitVec 512) : Dev :=
  match target with
  | none => d.faultSequence c bank (r.engine.cp % 2 ^ 27) .exchange
  | some n => if (d.bank n).rxFull which then d.closeStep c bank else (d.receiveReg n which v).proceedWith bank id

/-- SEND. -/
def execSend (bank : Nat) (a : RegNo) (dir : Bool) (s : State) : Out :=
  devStep (issue bank (bankWord 0x39 0 a 0 (mbit dir 0) 0) fun c d _ r =>
    d.sendReg c bank r (d.neighbour bank dir) (if dir then 0 else 1) (r.engine.vr a)) s

/-- RECV: a neighbour outside the group is a fault, with CP as its address (DESIGN CHOICE, log entry 81); an empty queue makes the receiver wait. -/
def execRecv (bank : Nat) (d : RegNo) (dir : Bool) (s : State) : Out :=
  devStep (issue bank (bankWord 0x3A d 0 0 (mbit dir 0) 0) fun c dev _ r =>
    if (dev.neighbour bank dir).isNone then dev.faultSequence c bank (r.engine.cp % 2 ^ 27) .exchange
    else match (if dir then (dev.bank bank).rxHigh else (dev.bank bank).rxLow) with
      | [] => dev.closeStep c bank
      | v :: rest =>
        let dev := dev.modBank bank fun b => if dir then { b with rxHigh := rest } else { b with rxLow := rest }
        dev.proceedWith bank fun r => { r with engine := r.engine.setV d v }) s

/-- BUSX. -/
def execBusx (bank : Nat) (a : RegNo) (imm : BitVec 6) (s : State) : Out :=
  devStep (issue bank (bankWord 0x3B 0 a 0 0 imm.toNat) fun c d _ r =>
    d.sendReg c bank r (d.groupMember bank imm.toNat) 2 (r.engine.vr a)) s

/-- BUSR. -/
def execBusr (bank : Nat) (d : RegNo) (s : State) : Out :=
  devStep (issue bank (bankWord 0x3C d 0 0 0 0) fun c dev _ _ =>
    match (dev.bank bank).rxBus with
    | [] => dev.closeStep c bank
    | v :: rest =>
      (dev.modBank bank fun b => { b with rxBus := rest }).proceedWith bank fun r => { r with engine := r.engine.setV d v }) s

end Sys2Proof.Machine
end

