-- ==== Sys2Proof/Machine/BankControl.lean ====
section
/-! DEFINITION. The memory controller: triggers, query slots, sequence starts, step boundaries, the governor, refresh, ordinary accesses,
C0 yield, clearing (R180–R206, R455–R460, R637). -/

namespace Sys2Proof.Machine

/-! ### TRIGGER (R179–R182, R288, R294, R295) -/

/-- The global banks that a trigger names. -/
def Trigger.banks (t : Trigger) : List Nat :=
  ((bitsSet 32 t.pcMask).map fun pc => (bitsSet 24 t.bankMask).map fun b => globalBank t.stack pc b).flatten

/-- The trigger record of a row of a SCAN's cell list (*SCAN trigger fields*). -/
def Dev.scanTrigger (c : Ctx) (d : Dev) (o : OpCtx) (s : ScanRun) (row : Nat) : Trigger :=
  let w := d.index s.index
  let cell := (s.cells.getD (row - 1) (0, 0, 0)).1
  let stripe := ixCellStripe w cell
  let fp := dcPb o.word 40
  let thSE := signed 8 (dcP o.word 39 32)
  let lower := ixLower w
  let se : Int := if bindSrc (ixScale w) = 0 then bindSE (ixScale w) else 0
  let q := dcP o.word 18 16
  let t : Trigger := {
    order := d.banks.nextTrigger, capsule := s.capsule, desc := s.desc, stack := stripeStack stripe, entry := 0, tag := row,
    pcMask := maskOf (stripePcs (ixStripeLog w) stripe), bankMask := maskOf (stripeIndices (ixStripeLog w) stripe),
    excl := dcPb o.word 19, lowerBetter := lower, accFp := fp, cls := o.cap.cls, realm := o.cap.realm, thSE := thSE,
    qlen := ixDim w / 32, arg0 := 0x400 + 32 * primarySlot w cell, arg1 := unsigned 32 (se - scanRef o.word),
    winLo := 0x400, winHi := 0x8000000, plan := o.run.plan, sequence := q, abi := sqAbi (imSeqHead o.plan.image q), query := s.query,
    th := BitVec.ofNat 32 (match s.threshold with | some x => accThreshold fp lower thSE x | none => accWorst fp lower),
    since := c.now, holding := false, granted := false, left := [], status := stOk }
  { t with left := t.banks.map (· % 768) }

/-- The status that refuses a trigger, if any (R180). -/
def Dev.triggerRefusal (d : Dev) (t : Trigger) : Option Nat :=
  let outside (b : Nat) : Bool := match d.bankRegion b with | some w => rgMode w != 2 || rgRealm w != t.realm | none => true
  let im := (d.plan? t.plan).map fun p => p.image
  if t.banks.any outside then some stViolation
  else if 2 ^ 27 < t.winHi || (im.any fun i => decide (sqLength (imSeqHead i t.sequence) ≤ t.entry)) ||
      (t.abi == 2 && d.governed t.stack) || t.banks.any (fun b => (d.groupBanks b).any fun m => !t.banks.contains m) then some stBadPlan
  else none

/-- Does work of a capsule wait at a block for the earlier generation's (R90)? -/
def Dev.heldAt (d : Dev) (kind number capsule : Nat) : Bool :=
  match d.holdOn kind number with
  | some h => decide (h.since ≤ capsule)
  | none => false

/-! ### Query slots (R182) -/

/-- Slots of 2 KiB that a trigger's query takes. -/
def Trigger.slots (t : Trigger) : Nat := ceilDiv t.qlen 32

/-- May a trigger take a slot: it is free, it is not the C0 slot for another class, and it is held for no earlier trigger? -/
def Dev.querySlotFree (d : Dev) (t : Trigger) (key : Nat) : Bool :=
  (tabGet key d.banks.querySlots).isNone && (t.cls == 0 || (key % 8 != 7 &&
    match tabGet key d.banks.heldSlots with | some h => decide (t.order ≤ h) | none => true))

/-- The first run of slots of a pseudo-channel that a trigger may take. -/
def Dev.slotRun (d : Dev) (t : Trigger) (pc : Nat) : Option (List Nat) :=
  (((List.range (9 - t.slots)).map fun i => (List.range t.slots).map fun j => 8 * (32 * t.stack + pc) + i + j).find?
    fun l => l.all (d.querySlotFree t))

/-- A trigger's slots given to it, where it has them in all its pseudo-channels. -/
def Dev.grantSlots (d : Dev) (t : Trigger) : Dev :=
  let runs := (bitsSet 32 t.pcMask).map (d.slotRun t)
  if runs.any Option.isNone then d
  else
    let keys := (runs.filterMap id).flatten
    let d := d.setBanks { d.banks with
      querySlots := keys.foldl (fun q k => tabSet k t.order q) d.banks.querySlots
      heldSlots := d.banks.heldSlots.filter fun e => e.2 != t.order }
    d.modTrigger t.order fun t => { t with granted := true, holding := false }

/-- The waiting triggers of a stack served with slots: C0 first, then in acceptance order (R182). -/
def Dev.shareSlots (d : Dev) (stack : Nat) : Dev :=
  let waiting := d.banks.triggers.filter fun t => t.stack == stack && !t.granted
  ((waiting.filter fun t => t.cls == 0) ++ waiting.filter fun t => t.cls != 0).foldl (fun d t => d.grantSlots t) d

/-- A trigger accepted: queued at each of its banks (R181); with no bank named it is over at once. -/
def Dev.acceptTrigger (c : Ctx) (d : Dev) (t : Trigger) : Dev :=
  let d := d.modScan t.capsule t.desc fun s => { s with rows := s.rows ++ [t.tag], triggered := s.triggered + 1 }
  if t.banks.isEmpty then d.scanAdvance c t.capsule t.desc
  else
    let d := d.setBanks { d.banks with triggers := d.banks.triggers ++ [t], nextTrigger := t.order + 1 }
    (t.banks.foldl (fun d b => d.modBank b fun k => { k with queue := k.queue ++ [t.order] }) d).shareSlots t.stack

/-- TRIGGER: the SCAN hands over the trigger of the first row offered (R293). A full queue, or a stack held for an earlier generation (R90),
stalls it; then the cell is looked at once more (R294). -/
def doTrigger (capsule desc tag : Nat) (c : Ctx) (d : Dev) : Dev :=
  match d.scanRun? capsule desc, d.opCtx capsule desc with
  | some s, some o =>
    if s.offers.head? != some tag then d
    else d.under capsule fun d =>
      let w := d.index s.index
      let s' := { s with offers := s.offers.drop 1 }
      let t := d.scanTrigger c o s tag
      if d.heldAt 0 t.stack capsule || t.banks.any (fun b => decide (8 ≤ (d.bank b).queue.length)) then d
      else if prunes (ixLower w) (ixSlack w) s.threshold (s.cells.getD (tag - 1) (0, 0, 0)).2.1 then
        (d.modScan capsule desc fun _ => { s' with skipped := s.skipped + 1 }).scanAdvance c capsule desc
      else match d.triggerRefusal t with
        | some st => (if st = stViolation then d.violateBank c t ((t.banks).headD 0) t.winLo else d).stopRun c capsule st desc
        | none => match d.unroutable (tileRouter (d.tileFor capsule desc)) (stackRouter t.stack) with
          | some l => (d.logUnroutable c o.cap.realm l).endRun c capsule stFault desc
          | none => (d.modScan capsule desc fun _ => s').acceptTrigger c t
  | _, _ => d

/-- TRIGGER. -/
def execTrigger (capsule desc tag : Nat) (s : State) : Out := devStep (doTrigger capsule desc tag) s

/-- QUERY_SLOT_GRANT. -/
def execQuerySlotGrant (stack : Nat) (s : State) : Out := devStep (fun _ d => d.shareSlots stack) s

/-- QUERY_SLOT_HOLD: a non-C0 trigger that has waited 10 µs for slots. -/
def doQuerySlotHold (trigger : Nat) (c : Ctx) (d : Dev) : Dev :=
  d.modTrigger trigger fun t =>
    if t.cls != 0 && !t.granted && decide (t.since + 10 * usTicks ≤ c.now) then { t with holding := true } else t

/-- QUERY_SLOT_HOLD. -/
def execQuerySlotHold (trigger : Nat) (s : State) : Out := devStep (doQuerySlotHold trigger) s

/-! ### SEQUENCE_START (R170, R181, R190) -/

/-- The waiting trigger that a bank would start: with its slots, C0 first, then the earliest accepted. -/
def Dev.nextTrigger (d : Dev) (bank : Nat) : Option Trigger :=
  let l := (d.bank bank).queue.filterMap d.trigger? |>.filter fun t => t.granted
  match l.find? fun t => t.cls == 0 with
  | some t => some t
  | none => l.head?

/-- The engine at a sequence's start (R170). -/
def startEngine (t : Trigger) (bank : Nat) : Engine :=
  { Engine.reset with
    x := ((Engine.reset.x.set 0 (BitVec.ofNat 32 t.arg0)).set 1 (BitVec.ofNat 32 t.arg1)).set 2 (BitVec.ofNat 32 (bank % 768))
    cp := t.winLo / 32 * 32
    th := t.th }

/-- A sequence put on a bank. Registers that a sequence yielding to a C0 sequence had received and not read stay in the bank's queues (DESIGN
CHOICE, log entry 83). -/
def Dev.startOn (c : Ctx) (d : Dev) (t : Trigger) (bank : Nat) : Dev :=
  let excl := t.excl && ((d.bankRegion bank).map rgExcl).getD false
  d.modBank bank fun b => { b with
    queue := b.queue.filter fun k => k != t.order
    run := some { trigger := t.order, engine := startEngine t bank, pc := t.entry, inStep := false, columns := 0, row := none,
                  began := c.now, inBar := false, cancelled := false, restoring := false, grantedAt := 0, counted := false, failed := false }
    state := if excl then .pimExclusive else .pimShared
    rxLow := if b.saved.isSome then b.rxLow else []
    rxHigh := if b.saved.isSome then b.rxHigh else []
    rxBus := if b.saved.isSome then b.rxBus else [] }

/-- A free bank starts its next trigger together with the banks of its group, when all of them are free; a bank with a saved sequence is free
for C0 triggers only (R196). -/
def Dev.startNext (c : Ctx) (d : Dev) (bank : Nat) : Dev :=
  match d.nextTrigger bank with
  | none => d
  | some t =>
    let l := d.groupBanks bank
    let ready (b : Nat) : Bool :=
      (d.bank b).run.isNone && (t.cls == 0 || (d.bank b).saved.isNone) && (d.nextTrigger b).map (·.order) == some t.order
    if l.all ready then l.foldl (fun d b => d.startOn c t b) d else d

/-- SEQUENCE_START. -/
def execSequenceStart (bank : Nat) (s : State) : Out := devStep (fun c d => d.startNext c bank) s

/-! ### Grants and step starts (R189, R196, R203–R206) -/

/-- Does a bank's sequence yield now: it is not C0, it has run for the yield time, nothing is saved, and a C0 trigger waits (R196, R197)? -/
def Dev.yields (c : Ctx) (d : Dev) (bank : Nat) : Bool :=
  let b := d.bank bank
  match b.run with
  | none => false
  | some r =>
    match d.trigger? r.trigger with
    | none => false
    | some t =>
      t.cls != 0 && !r.cancelled && !r.restoring && !r.failed && b.saved.isNone && decide (d.cfgFor t.capsule 0x240B 0 ≤ c.nsSince r.began) &&
        (b.queue.filterMap d.trigger?).any fun q => q.cls == 0 && q.granted

/-- The class in which a bank's next step is granted: C0 for a save step (R196). -/
def Dev.stepClass (c : Ctx) (d : Dev) (bank : Nat) : Nat :=
  if d.yields c bank then 0
  else match (d.bank bank).run.bind fun r => d.trigger? r.trigger with
    | some t => t.cls
    | none => 8

/-- The stream of a sequence whose step has begun goes on. -/
def Dev.stepStream (c : Ctx) (d : Dev) (bank : Nat) : Dev :=
  if ((d.bank bank).run.map fun r => r.inStep).getD false then d.streamOn c bank none else d

/-- A step that has its grant: a save step, after which the C0 sequence runs; a restore step; or the sequence's next step, in which its stream
goes on. The save and restore steps use all their 40 units. -/
def Dev.takeStep (c : Ctx) (d : Dev) (bank : Nat) : Dev :=
  let d := d.modStack (bank / 768) fun k => { k with waiting := k.waiting.filter fun b => b != bank }
  if d.yields c bank then
    (d.modBank bank fun b => { b with
      saved := b.run.map fun r => { r with counted := false }, run := none, state := .mem,
      steps := satAdd 64 b.steps 1, yields := satAdd 64 b.yields 1 }).startNext c bank
  else
    (d.modBank bank fun b => { b with
      steps := satAdd 64 b.steps 1
      run := b.run.map fun r =>
        if r.restoring then { r with restoring := false, counted := false }
        else { r with inStep := true, columns := 0, row := none, grantedAt := c.now, counted := false } }).stepStream c bank

/-- Do the trigger rules let a pseudo-channel start a step now (R205)? -/
def Dev.rulesAllow (c : Ctx) (d : Dev) (stack pc : Nat) : Bool :=
  let starts := tabGetD pc [] (d.stack stack).starts
  let now := 10 * c.now
  let last : Bool := match starts with | t :: _ => decide (t + d.stackCfg stack 0x2409 ≤ now) | [] => true
  let count := d.stackCfg stack 0x2408
  let window : Bool := match starts[count - 1]? with | some t => decide (t + d.stackCfg stack 0x2407 ≤ now) | none => true
  last && window

/-- May a bank start a step now? -/
def Dev.mayStart (c : Ctx) (d : Dev) (bank : Nat) : Bool :=
  let s := bank / 768
  if d.governed s then decide (40 ≤ (d.stack s).remaining)
  else !(d.stack s).hot && d.rulesAllow c s (bank % 768 / 24)

/-- A step start paid for: 40 units of the window (R203), or one more start of the pseudo-channel (R205). -/
def Dev.payStep (c : Ctx) (d : Dev) (bank : Nat) : Dev :=
  let s := bank / 768
  if d.governed s then d.modStack s fun k => { k with remaining := k.remaining - 40 }
  else d.modStack s fun k => { k with starts := tabMod (bank % 768 / 24) [] (fun l => (10 * c.now :: l).take 32) k.starts }

/-- A step asked for at a boundary: started, or held for a later window or by the trigger rules (0x2411). One that waits already goes on
waiting; one that newly asks may start within the window before those that wait for the next (DESIGN CHOICE, log entry 82). -/
def Dev.askStep (c : Ctx) (d : Dev) (bank : Nat) : Dev :=
  if (d.stack (bank / 768)).waiting.contains bank then d
  else if d.mayStart c bank then (d.payStep c bank).takeStep c bank
  else d.modStack (bank / 768) fun k => { k with waiting := k.waiting ++ [bank], delayed := satAdd 64 k.delayed 1 }

/-- Does a bank's sequence wait at a boundary only to end: cancelled (R198), or with the record of its fault to come (R209)? -/
def Dev.stopping (d : Dev) (bank : Nat) : Bool := ((d.bank bank).run.map fun r => r.cancelled || r.failed).getD false

/-- A sequence that a boundary ends: a cancelled one without a record, a failed one with the record of its fault. -/
def Dev.stopSequence (c : Ctx) (d : Dev) (bank : Nat) : Dev :=
  match (d.bank bank).run with
  | none => d
  | some r =>
    match r.cancelled, d.trigger? r.trigger with
    | false, some t => d.endFailed c bank t
    | _, _ => d.endSequence c bank

/-- The waiting steps of a stack granted while they may start: C0 first, then in order of waiting (R204). A cancelled sequence gets no
further step and ends (R198). -/
def Dev.grantWaiting (c : Ctx) (d : Dev) (stack : Nat) (which : Nat → Bool) : Dev :=
  let l := (d.stack stack).waiting.filter which
  let wants (b : Nat) : Bool := decide (d.stepClass c b < 8) && !d.stopping b
  let stops := l.filter d.stopping
  let d := d.modStack stack fun k => { k with waiting := k.waiting.filter fun b => !which b || wants b }
  let l := l.filter wants
  stops.foldl (fun d b => d.stopSequence c b) <|
  ((l.filter fun b => d.stepClass c b == 0) ++ l.filter fun b => d.stepClass c b != 0).foldl
    (fun d b => if d.mayStart c b then (d.payStep c b).takeStep c b else d) d

/-- A sequence at a boundary: refresh and accesses, then a cancelled or failed one ends (R198, R209), and any other asks for its next step or
for its yield unless it waits for another engine or for buffer space. -/
def Dev.boundary (c : Ctx) (d : Dev) (bank : Nat) : Dev :=
  let d := (d.closeStep c bank).serveBank c bank
  match (d.bank bank).run with
  | none => d
  | some r =>
    match d.trigger? r.trigger with
    | none => d.vacate c bank
    | some t =>
      if r.cancelled || r.failed then d.stopSequence c bank
      else if d.mustWait bank t r && !d.yields c bank && !r.restoring then d
      else d.askStep c bank

/-- STEP_BOUNDARY: a step that is open ends (R188). A bank with a saved sequence and nothing to run begins its restore. -/
def doStepBoundary (bank : Nat) (c : Ctx) (d : Dev) : Dev :=
  let b := d.bank bank
  if b.run.isNone && b.saved.isSome && !((b.queue.filterMap d.trigger?).any fun t => t.cls == 0 && t.granted) then
    (d.vacate c bank).boundary c bank
  else d.boundary c bank

/-- STEP_BOUNDARY. -/
def execStepBoundary (bank : Nat) (s : State) : Out := devStep (doStepBoundary bank) s

/-- C0_YIELD: a sequence at its boundary asks for its save step, ahead of its own next step; one in a step yields at its end. -/
def doC0Yield (bank : Nat) (c : Ctx) (d : Dev) : Dev :=
  match (d.bank bank).run with
  | none => d
  | some r =>
    if r.inStep || !d.yields c bank then d
    else (d.modStack (bank / 768) fun k => { k with waiting := k.waiting.filter fun b => b != bank }).askStep c bank

/-- C0_YIELD. -/
def execC0Yield (bank : Nat) (s : State) : Out := devStep (doC0Yield bank) s

/-! ### The governor and the trigger rules (R202–R206) -/

/-- Thermal hold of a stack (R206): in TIMING_RULE from 90 °C until below 88 °C. -/
def Dev.thermalHold (d : Dev) (s hottest : Nat) : Dev :=
  d.modStack s fun k =>
    { k with hot := !d.governed s && decide ((if k.hot then 880 else 900) ≤ hottest) }

/-- GOVERNOR_WINDOW: at a multiple of 100 ticks, in GOVERNOR mode, the budget of the window from the hottest core die, and the grants. -/
def doGovernorWindow (stack : Nat) (temps : List Nat) (c : Ctx) (d : Dev) : Dev :=
  if c.now % 100 ≠ 0 ∨ (d.stack stack).state = 1 ∨ (d.stack stack).state = 2 ∨ (d.stack stack).state = 3 then d
  else
    let hottest := temps.foldl max 0
    let d := d.modStack stack fun k => { k with temps := temps }
    if !d.governed stack then d.thermalHold stack hottest
    else
      let b := governorBudget (d.stackCfg stack 0x2406) hottest
      (((d.modStack stack fun k => { k with lastBudget := k.budget, budget := b, remaining := b }).thermalHold stack hottest)).grantWaiting c
        stack fun _ => true

/-- GOVERNOR_WINDOW. -/
def execGovernorWindow (stack : Nat) (temps : List Nat) (s : State) : Out := devStep (doGovernorWindow stack temps) s

/-- TRIGGER_RULES_RELEASE: the waiting steps of a pseudo-channel that the rules let start. -/
def doTriggerRulesRelease (stack pc : Nat) (c : Ctx) (d : Dev) : Dev :=
  if d.governed stack then d else d.grantWaiting c stack fun b => b % 768 / 24 == pc

/-- TRIGGER_RULES_RELEASE. -/
def execTriggerRulesRelease (stack pc : Nat) (s : State) : Out := devStep (doTriggerRulesRelease stack pc) s

/-! ### Refresh (R194) -/

/-- REFRESH_DUE: issued at once but for an open step, at whose end it comes; a bank never carries more than 8. -/
def doRefreshDue (bank : Nat) (c : Ctx) (d : Dev) : Dev :=
  let d' := d.modBank bank fun b => { b with refreshes := b.refreshes + 1 }
  match (d.bank bank).run with
  | some r => if r.inStep && decide ((d.bank bank).refreshes < 8) then d' else (d'.closeStep c bank).serveBank c bank
  | none => d'.serveBank c bank

/-- REFRESH_DUE. -/
def execRefreshDue (bank : Nat) (s : State) : Out := devStep (doRefreshDue bank) s

/-! ### Ordinary accesses (R191–R193, R455, R456, R458, R460, R277, R643) -/

/-- An access at its bank's controller: queued behind an open step or an exclusive sequence, and otherwise served. -/
def Dev.bankAccess (c : Ctx) (d : Dev) (bank : Nat) (a : OrdAccess) : Dev :=
  let d := d.modBank bank fun b => { b with accesses := b.accesses ++ [a], firstWait := if b.waits then b.firstWait else c.now }
  match (d.bank bank).run with
  | some r => if r.inStep then d else d.serveBank c bank
  | none => d.serveBank c bank

/-- The pieces of an access, cut at multiples of 256 bytes: each lies in one row of one bank (R166, R167). -/
def accessPieces (a : OrdAccess) : List OrdAccess :=
  (cutAt 256 a.addr a.len).map fun p =>
    { a with addr := p.1, len := p.2, data := a.data.map fun bs => (bs.drop (p.1 - a.addr)).take p.2 }

/-- The bank of a T1 address. -/
def Dev.bankOf (d : Dev) (a : Nat) : Nat := ((d.t1Key a).getD 0) / 2 ^ 27

/-- Is what an access reaches still being cleared (R460, R637)? -/
def Dev.accessScrubbed (d : Dev) (a : OrdAccess) : Bool :=
  inT1 a.addr && (accessPieces a).any fun p => d.scrubs.contains (0, d.bankOf p.addr) || d.scrubs.contains (1, p.addr / stackBytes * 96 + p.addr % stackBytes / gib)

/-- A single-bit error in one of the columns that a read takes, counted at the column's bank (R208). -/
def Dev.countColumn (d : Dev) (a : OrdAccess) (column : Nat) : Dev :=
  if a.data.isNone && decide (column * 32 < a.addr % 32 + a.len) then
    d.modBank (d.bankOf (a.addr / 32 * 32 + column * 32)) fun b => { b with corrected := satAdd 32 b.corrected 1 }
  else d

/-- An access that its window lets through: T2 through the realm's cache, T1 at its banks. Errors are corrected in the columns named (R208). -/
def Dev.routeAccess (c : Ctx) (d : Dev) (a : OrdAccess) (corrected : List Nat) : Dev :=
  let wait (d : Dev) : Dev := d.setTiers { d.tiers with waitingAccesses := d.tiers.waitingAccesses ++ [(a, corrected)] }
  if inT2 a.addr then
    let (waits, d) := d.heldUp a.realm a.addr a.len
    if waits then wait d
    else match a.data with
      | some bs => d.t2Write c a.realm a.addr bs
      | none =>
        let hit := corrected.filter fun i => decide (i * 32 < a.addr % 32 + a.len)
        let (bs, d) := (d.correctCache a.realm a.addr hit.length).t2Read a.realm a.addr a.len
        d.send (.readData a.source a.sourceId a.addr bs)
  else if d.accessScrubbed a then wait d
  else
    let d := corrected.foldl (fun d i => d.countColumn a i) d
    (accessPieces a).foldl (fun d p => d.bankAccess c (d.bankOf p.addr) p) d

/-- An access refused: its capsule ends with the status, and ST_VIOLATION leaves its record (R643). -/
def Dev.refuseAccess (c : Ctx) (d : Dev) (a : OrdAccess) (st : Nat) : Dev :=
  let cap := a.capsule.bind d.capsule?
  let run := a.capsule.bind d.run?
  let d : Dev := if st = stViolation then
      d.violate c a.realm a.source a.sourceId 0 d.refused.2 ((cap.map fun k => k.tag).getD 0) d.refused.1
        ((run.map fun r => r.plan).getD 0) 0xFFFF
    else d
  match a.capsule with
  | none => d
  | some k => if run.isSome then d.stopRun c k st 0x10000 else d.finishPlain c k st 0 0

/-- ORDINARY_ACCESS. An address in T0, which R23 gives to tiles and the panel mover alone, is refused like one outside the windows (DESIGN CHOICE,
log entry 84). -/
def doOrdinaryAccess (a : OrdAccess) (corrected : List Nat) (c : Ctx) (d : Dev) : Dev :=
  let work (d : Dev) : Dev :=
    let (st, d) := match a.data with | some _ => d.checkWrite a.realm a.addr a.len | none => d.checkRead a.realm a.addr a.len
    if st = stOk then d.routeAccess c a corrected else d.refuseAccess c a st
  match a.capsule with
  | some k => d.under k work
  | none => work d

/-- ORDINARY_ACCESS. -/
def execOrdinaryAccess (a : OrdAccess) (corrected : List Nat) (s : State) : Out := devStep (doOrdinaryAccess a corrected) s

/-- PREEMPTION_TIMEOUT: an exclusive sequence is suspended at its next boundary. -/
def doPreemptionTimeout (bank : Nat) (c : Ctx) (d : Dev) : Dev :=
  let b := d.bank bank
  if b.state != .pimExclusive || b.expired || !d.preempted c bank then d
  else
    let d := d.modBank bank fun b => { b with expired := true, preemptions := satAdd 64 b.preemptions 1 }
    match b.run with
    | some r => if r.inStep then d else d.serveBank c bank
    | none => d

/-- PREEMPTION_TIMEOUT. -/
def execPreemptionTimeout (bank : Nat) (s : State) : Out := devStep (doPreemptionTimeout bank) s

end Sys2Proof.Machine
end

