-- ==== Sys2Proof/Machine/Sessions.lean ====
section
/-! DEFINITION. Sessions of the dictionary, their responses, and messages received from the fabric (R101–R106, R605, R731). -/

namespace Sys2Proof.Machine

/-! ### Sessions -/

/-- An open session of a path by its number. -/
def Dev.session? (d : Dev) (path number : Nat) : Option Session :=
  d.dict.sessions.find? fun s => s.path == path && s.number == number

/-- A session changed. -/
def Dev.modSession (d : Dev) (path number : Nat) (f : Session → Session) : Dev :=
  d.setDict { d.dict with sessions := d.dict.sessions.map fun s => if s.path = path ∧ s.number = number then f s else s }

/-- A session closed; its drafts go with it (R93). -/
def Dev.dropSession (d : Dev) (path number : Nat) : Dev :=
  (d.setDict { d.dict with sessions := d.dict.sessions.filter fun s => !(s.path == path && s.number == number) }).setTiers { d.tiers with
    flushes := d.tiers.flushes.filter fun f => !(f.path == path && f.number == number) }

/-- Is a session under keys: from its protected OPEN on (R655)? -/
def Session.keyed (s : Session) : Bool := s.proofPending || s.isProtected

/-- The header and payload of a message of a session as one number (*Dictionary access header*). -/
def wireMessage (s : Session) (op seq status flags idx sub seg len payload : Nat) : Nat :=
  s.version + op * 2 ^ 8 + s.number * 2 ^ 16 + seq % 65536 * 2 ^ 32 + status * 2 ^ 48 + flags * 2 ^ 56 + idx * 2 ^ 64 + sub * 2 ^ 80 +
    seg / 65536 % 256 * 2 ^ 88 + len * 2 ^ 96 + seg % 65536 * 2 ^ 112 + payload % 2 ^ (8 * len) * 2 ^ 128

/-- The tag of a session's message: client to device in direction 0, device to client in direction 1 (R655); 0 where the session has no keys
(R102). -/
def Session.tagOf (s : Session) (direction counter message : Nat) : Nat :=
  if s.keyed then Config.gcmTag (s.sessionKey / 2 ^ (256 * direction) % 2 ^ 256) (direction + counter % 2 ^ 64 * 2 ^ 32) message % 2 ^ 128 else 0

/-- A response with the tag of the session that it goes to. -/
def Session.sealed (s : Session) (r : Response) : Response :=
  { r with tag := s.tagOf 1 s.msgOut (wireMessage s 0x20 r.seq r.status (b2n r.last) r.idx r.sub 0 r.len r.num) }

/-- A response sent by a path to a session number, under the session's keys where it has some. -/
def Dev.transmit (d : Dev) (path number : Nat) (r : Response) : Dev :=
  match d.session? path number with
  | some s => (d.modSession path number fun t => { t with msgOut := t.msgOut + b2n t.keyed }).send (.response path number (s.sealed r))
  | none => d.send (.response path number r)

/-- A response sent to a session's client and kept for a repeated request (R104); a mailbox's control word is cleared (R106). -/
def Dev.respond (d : Dev) (path number : Nat) (r : Response) : Dev :=
  let keep (s : Session) : Session := if s.lastSeq = some (r.seq % 65536) then { s with lastResponse := some (s.sealed r) } else s
  let d := d.modSession path number keep
  let d : Dev := if path = 1 then d.setDict { d.dict with mailbox := tabSet number 0 d.dict.mailbox } else d
  d.transmit path number r

/-- The response to a request for an entry, with no payload. -/
def Dev.answer (d : Dev) (q : Req) (idx sub status : Nat) : Dev :=
  d.respond q.path q.number ⟨status, q.seq, idx, sub, true, 0, 0, 0⟩

/-! ### Messages from the fabric (R601, R605) -/

/-- A message dropped and counted (R605). -/
def Dev.dropMessage (d : Dev) : Dev := d.setFabric { d.fabric with dropped := satAdd 64 d.fabric.dropped 1 }

/-- Is a version one of AFP's? -/
def afpVersion (v : Nat) : Bool := v == 0x31 || v == 0x30 || v == 0x23

/-- Is a header one of AFP's: a known version, and every reserved field 0, which at AFP 2.3 COLOUR is too (R604, R605)? -/
def afpFormed (h : Afp) : Bool := h.reservedZero && afpVersion h.version && (h.version != 0x23 || h.colour == 0)

/-- A message that arrives by a link: nothing arrives on a link that is down; one that is not formed, or whose sender may not send it, is
dropped and counted (R605). -/
def Dev.receiveFrom (c : Ctx) (d : Dev) (h : Afp) (sender : Bool) (f : Dev → Dev) : Dev :=
  if !(d.link h.link).carries then d
  else
    let d := d.modLink h.link fun l => { l with lastRx := c.now, retry := [] }
    if !afpFormed h || !sender then d.dropMessage else f d

/-- A message of a node that has its identity; one of a fabric-manager type comes from the manager over its authenticated session (R605,
*Zero values*). -/
def Dev.receive (c : Ctx) (d : Dev) (h : Afp) (fromManager : Bool) (f : Dev → Dev) : Dev :=
  d.receiveFrom c h (h.src != 0 && (!fromManager || (h.src == 0xFFFF && d.fabric.fmSession == 1))) f

/-- An acknowledgement of a message to the manager, with the state or generation this node holds (R618). -/
def Dev.ackManager (d : Dev) (h : Afp) (status held : Nat) : Dev := d.afp 0x15 h.src [h.requestId, status, held]

/-! ### Requests and their answers (R607) -/

/-- A request executed once: one seen from its sender within the duplicate window gets the earlier answer again, or nothing while it
runs, and is counted. -/
def Dev.once (c : Ctx) (d : Dev) (h : Afp) (f : Dev → Dev) : Dev :=
  let window := d.cfg 0x2A50 3 * msTicks
  let seen := d.fabric.seen.filter fun s => decide (c.now ≤ s.at_ + window)
  match seen.find? fun s => s.src == h.src && s.requestId == h.requestId with
  | some s =>
    let d := d.setFabric { d.fabric with duplicates := satAdd 64 d.fabric.duplicates 1 }
    match s.answer with
    | some (type :: fields) => d.afpAgain type h.src fields
    | _ => d
  | none => f (d.setFabric { d.fabric with seen := ⟨h.src, h.requestId, c.now, none⟩ :: seen })

/-- The answer to a request, kept for its duplicates. -/
def Dev.reply (d : Dev) (dest requestId type : Nat) (fields : List Nat) : Dev :=
  (d.setFabric { d.fabric with seen := d.fabric.seen.map fun s =>
    if s.src = dest ∧ s.requestId = requestId then { s with answer := some (type :: requestId :: fields) } else s }).afp type dest (requestId :: fields)

end Sys2Proof.Machine
end

