-- ==== Sys2Proof/Machine/Ingress.lean ====
section
/-! DEFINITION. The ingress of capsules: apertures, the fabric, the checks of R579, metering (R542–R551, R571–R579, R606, R612). -/

namespace Sys2Proof.Machine

/-! ### Policers (R544–R549) -/

/-- The policer record of a realm and class. -/
def Dev.policer (d : Dev) (realm cls : Nat) : Nat := d.cfg (0x2D00 + realm) (cls + 1)

/-- 10^8 units of 10^−8 byte make a byte: a bucket filled for one tick gains as many units as its rate has bytes per second. -/
def byteUnits : Nat := 100000000

/-- The buckets of a policer at an instant (R546); full where nothing was metered since the start or the commit (R551). -/
def refill (record now : Nat) : Option Bucket → Bucket
  | none => ⟨bits record 63 32 * byteUnits, bits record 95 64 * byteUnits, now⟩
  | some b =>
    let dt := now - b.last
    let cbs := bits record 63 32 * byteUnits
    let xbs := bits record 95 64 * byteUnits
    let tc := b.tc + bits record 191 128 * dt
    if bits record 1 0 = 1 then ⟨min tc cbs, min (b.te + (tc - cbs)) xbs, now⟩
    else ⟨min tc cbs, min (b.te + bits record 255 192 * dt) xbs, now⟩

/-- A request of `n` units met by the buckets of an active policer: its colour (0 green, 1 yellow, 2 red). -/
def colourBy (record : Nat) (b : Bucket) (n cIn : Nat) : Nat × Bucket :=
  if bits record 1 0 = 1 then
    if cIn = 0 ∧ n ≤ b.tc then (0, { b with tc := b.tc - n })
    else if cIn ≠ 2 ∧ n ≤ b.te then (1, { b with te := b.te - n })
    else (2, b)
  else if cIn = 2 ∨ b.te < n then (2, b)
  else if cIn = 1 ∨ b.tc < n then (1, { b with te := b.te - n })
  else (0, { b with tc := b.tc - n, te := b.te - n })

/-- Has an active policer a rate of 0, so that all its traffic is red (*Zero values*, R99)? -/
def rateless (record : Nat) : Bool :=
  bits record 1 0 != 0 && (bits record 191 128 == 0 || (bits record 1 0 == 2 && bits record 255 192 == 0))

/-- A request metered: its colour (R546, R549). -/
def Dev.meter (c : Ctx) (d : Dev) (realm cls size colour : Nat) : Nat × Dev :=
  let r := d.policer realm cls
  let dead := cls == 0 && d.cfg (0x2C00 + realm) 1 == 0
  if bits r 1 0 = 0 then (if dead then 2 else 0, d)
  else if rateless r then (2, d)
  else
    let (k, b) := colourBy r (refill r c.now (tabGet (flowOf realm cls) d.traffic.buckets)) (size * byteUnits) (if bit r 2 then colour else 0)
    (if dead then 2 else k, d.setTraffic { d.traffic with buckets := tabSet (flowOf realm cls) b d.traffic.buckets })

/-- The class of a re-marked request: the field's, or the class kept, which for C0 is C1. -/
def remark (field cls : Nat) : Nat := if field = 0 then max cls 1 else field

/-- What a colour does to a request (R548): its class, or none where it is dropped. -/
def colourAction (record cls : Nat) : Nat → Option Nat
  | 0 => some cls
  | 1 => some (remark (bits record 6 4) cls)
  | _ => if bit record 3 then some (remark (bits record 10 8) cls) else none

/-- The counter of a realm's metered requests that a colour raises, in the class before marking. -/
def Metered.count (m : Metered) (cls colour : Nat) (dropped : Bool) : Metered :=
  match colour with
  | 0 => { m with green := addAt m.green cls 1 }
  | 1 => { m with yellow := addAt m.yellow cls 1 }
  | _ => if dropped then { m with dropped := addAt m.dropped cls 1 } else { m with remarked := addAt m.remarked cls 1 }

/-- Metering with its colour's action: the resulting class, or none. -/
def Dev.police (c : Ctx) (d : Dev) (realm cls size colour : Nat) : Option Nat × Dev :=
  let (k, d) := d.meter c realm cls size colour
  let a := colourAction (d.policer realm cls) cls k
  (a, d.setTraffic { d.traffic with metered := tabMod realm .reset (fun m => m.count cls k a.isNone) d.traffic.metered })

/-! ### The capsule's format (R576, R577, R579) -/

/-- Is an opcode defined in a capsule version (R582)? -/
def capsuleOp (version op : Nat) : Bool :=
  op == 1 || op == 2 || op == 3 || op == 0x10 || op == 0x11 || (op == 0x12 && version != 2)

/-- Are the reserved bits of a capsule's body 0, and its LOC values 0 or 1? -/
def bodyOk (op raw : Nat) : Bool :=
  let loc (hi : Nat) : Bool := decide (bits raw hi (hi - 1) ≤ 1)
  match op with
  | 0x01 => bits raw 511 194 == 0 && loc 193
  | 0x02 => bits raw 511 258 == 0 && loc 257
  | 0x03 => bits raw 511 128 == 0
  | 0x10 => bits raw 511 276 == 0 && loc 273 && loc 275
  | 0x11 => bits raw 511 384 == 0
  | 0x12 => bits raw 143 138 == 0 && bits raw 151 148 == 0 && bits raw 255 224 == 0 && bits raw 511 448 == 0 && loc 191
  | _ => false

/-- Are the reserved fields of a capsule 0 (reason 0x84)? -/
def formatOk (raw : Nat) : Bool :=
  let v := bits raw 11 8
  let op := bits raw 7 0
  capsuleOp v op && bits raw 15 12 == 0 && bits raw 31 29 == 0 && bits raw 127 96 == 0 &&
    (op == 1 || op == 3 || bits raw 47 32 == 0) && (v != 2 || bits raw 28 27 == 0) && bodyOk op raw

/-- A capsule as it is taken, with the next number. -/
def Dev.newCapsule (c : Ctx) (d : Dev) (src : CapsuleSource) (raw disables cls composition epoch rank : Nat) (members : List Nat) : Capsule × Dev :=
  let v := bits raw 11 8
  let order := d.capsules.next
  let cap : Capsule := {
    order := order, src := src, ringDisables := disables, version := v, opcode := bits raw 7 0, realm := bits raw 23 16, cls := cls,
    cameC0 := cls == 0, plan := bits raw 47 32, tag := bits raw 63 48, deadlineUs := bits raw 95 64 * (if v = 2 then 10 else 1),
    acceptedAt := c.now, raw := raw, stage := .admission, mirrored := false, outData := [], blocks := 0, pending := 0, status := stOk,
    composition := composition, epoch := epoch, ownRank := rank, members := members, cfg := d.dict.cfg }
  (cap, d.setCapsules { live := d.capsules.live ++ [cap], next := order + 1 })

/-- A capsule that fails at ingress: its record, and for ST_VIOLATION the violation record of R737 in the realm that made the access. The members of
its query learn its status (R352, R354), but not from one that its realm does not back. -/
def Dev.refuseCapsule (c : Ctx) (d : Dev) (cap : Capsule) (realm status reason : Nat) : Dev :=
  let d : Dev := match cap.src with
    | .host p _ _ _ _ => d.modPort p fun h => { h with refused := satAdd 64 h.refused 1 }
    | .fabric .. => d
  let d : Dev := if status = stViolation then
      d.violate c realm cap.source.1 cap.source.2 cap.opcode 1 cap.tag 0 cap.plan 0xFFFF
    else (d.endCollectives cap status).dropCollectives cap
  d.deliver c cap (completionRecord c cap status false false reason (emptyResult cap)) []

/-- Is a realm active (R633)? -/
def Dev.realmActive (d : Dev) (r : Nat) : Bool := r != 0 && d.cfg (0x2E00 + r) 1 != 0

/-- The node has ended its start (0x1010.00). -/
def Dev.isOperational (d : Dev) : Bool := d.boot.node == 7
/-- The node runs in MINIMAL mode; ROM recovery is its cause 3 (R676). -/
def Dev.isMinimal (d : Dev) : Bool := d.boot.node == 0x80 || d.boot.node == 0x81

/-- The first failing check of *Capsule ingress checks*, as (status, reason). `bound` is check 0x85; `active` check 0x86. -/
def Dev.ingressCheck (d : Dev) (raw colour : Nat) (quiesced bound active : Bool) : Option (Nat × Nat) :=
  let v := bits raw 11 8
  let realm := bits raw 23 16
  if d.isMinimal then some (stMinimal, 0x81)
  else if !d.isOperational || quiesced then some (stBusy, 0x82)
  else if !(v == 3 || (v == 2 && d.cfg (0x2E00 + realm) 0x0B != 0)) then some (stBadArg, 0x83)
  else if !formatOk raw then some (stBadArg, 0x84)
  else if !bound then some (stViolation, 0x85)
  else if !active then some (stBadArg, 0x86)
  else if colour = 3 then some (stBadArg, 0x87)
  else none

/-! ### Metering and admission (R542) -/

/-- The flow that the Carillon shapes of a realm's class (R557). -/
def classFlow (realm cls : Nat) : Nat := if cls = 0 then realm else capFlow realm cls

/-- The cap of a class of a realm, admissions per second (0x2C00 + r.09). -/
def Dev.classCap (d : Dev) (realm cls : Nat) : Nat := elem (d.cfg (0x2C00 + realm) 9) 4 (cls - 1)

/-- A capsule admitted: its class's flow is shaped (R557), and the C0 capsules behind it wait. -/
def Dev.shapeAdmission (c : Ctx) (d : Dev) (cap : Capsule) : Dev :=
  if cap.cls = 0 then
    match (if cap.opcode = 1 then d.plan? cap.plan else none) with
    | some p => (d.shapeFlow c cap.realm (reservedNs p)).noteWaits c cap.realm
    | none => d
  else
    let k := d.classCap cap.realm cap.cls
    if k = 0 ∨ k = 0xFFFFFFFF then d else d.shapeFlow c (capFlow cap.realm cap.cls) (1000000000 / ((k : Nat) : Rat))

/-- A capsule put into its realm's admission queue in its class (R552); its flow waits for its E. -/
def Dev.queueCapsule (c : Ctx) (d : Dev) (cap : Capsule) : Dev :=
  let d := d.awaitFlow c (classFlow cap.realm cap.cls)
  let t := d.traffic
  let p := (tabGetD cap.realm .reset t.admission).arrive cap.realm cap.cls 1 (d.classWeight cap.realm cap.cls) 1 t.arrivals cap.order
  (d.setTraffic { t with admission := tabSet cap.realm p t.admission, arrivals := t.arrivals + 1 }).noteWaits c cap.realm

/-- The checks of a RUN capsule against its resulting class and its plan (R237, R250, R739). -/
def Dev.runCheck (d : Dev) (cap : Capsule) : Nat :=
  match d.planNamed cap.realm cap.plan with
  | none => stBadPlan
  | some p =>
    if cap.cls = 0 ∧ ((List.range 4).any fun u => imBudget p.image u == 2 ^ 64 - 1) then stBadArg
    else if imArgs p.image ≠ 0 ∧ (bits cap.raw 191 128 % 16 ≠ 0 ∨ bits cap.raw 191 128 = 0) then stBadArg
    else stOk

/-- A new capsule of a composition opens the collectives of its TAG again. -/
def Dev.reopenCollectives (d : Dev) (cap : Capsule) : Dev :=
  if cap.opcode != 1 || cap.composition == 0 then d
  else d.setSearch { d.search with collectives := d.search.collectives.filter fun k =>
    !(k.composition == cap.composition - 1 && k.tag == cap.tag && k.ended) }

/-- An accepted capsule of a composition is mirrored to a shadow (R625): every UPDATE, and the mirror share of the RUNs. -/
def Dev.mirror (c : Ctx) (d : Dev) (cap : Capsule) : Dev :=
  let s := d.fabric.shadow
  if s.role != 2 || cap.composition != s.composition + 1 || cap.mirrored || !(cap.opcode == 0x10 || cap.opcode == 1) then d
  else
    let (k, d) := d.choose 100
    if cap.opcode = 1 ∧ d.cfg 0x2AB0 8 ≤ k then d
    else
      let data := match cap.src with | .fabric _ len data => [len, data] | .host .. => [0, 0]
      let d := d.afp 0x71 s.partner ([cap.order, cap.raw] ++ data)
      d.setFabric { d.fabric with shadow := { d.fabric.shadow with
        awaiting := d.fabric.shadow.awaiting ++ [⟨cap.order, none, [], none, c.now + cap.deadlineUs * usTicks⟩] } }

/-- The root's collectives that miss a contribution when its deadline passes: the capsule is counted once, with the lowest missing rank (R352, R357). A
capsule that still waits to start has contributed nothing itself. -/
def Dev.missCollectives (d : Dev) (cap : Capsule) (run : Option PlanRun) (im : DictVal) : Dev :=
  let missing := (imCollects im).filterMap fun w =>
    let i := ((List.range (imDescs im)).find? fun i => imDesc im i == w).getD 0
    let state := run.bind fun r => tabGet i r.descs
    let complete := state == some .fired || state == some .skipped ||
      (state == some .operated && (run.bind fun r => tabGet (dcOut w 0) r.values).isSome)
    if cap.composition == 0 || dcP w 35 26 != cap.ownRank || complete then none
    else
      let got := (d.collectiveD (cap.composition - 1) (dcP w 15 0) cap.tag).parts.foldl (fun b x => b ||| x.1) 0
      (List.range (dcP w 25 16)).find? fun r => !bit got r || (r == cap.ownRank && state != some .operated)
  match missing.getLast? with
  | none => d
  | some r => (d.countSelect cap.realm fun x => { x with missed := satAdd 64 x.missed 1, lastMissing := r }).noteMissing r

/-- The same for a capsule with no instance. -/
def Dev.missAt (d : Dev) (cap : Capsule) : Dev :=
  match (if cap.opcode = 1 then d.plan? cap.plan else none) with
  | some p => if p.realm = cap.realm then d.missCollectives cap none p.image else d
  | none => d

/-- A root's collective that ends by a member's status or ST_NODE_LOST, counted (0x3310.05). -/
def Dev.countEnded (d : Dev) (realm : Nat) : Dev := d.countSelect realm fun x => { x with ended := satAdd 64 x.ended 1 }

/-- The status with which the other members have ended a capsule's query before it came: a member's, at the root, or the root's (R352, R354); and
whether this node is that root. -/
def Dev.endedEarly (d : Dev) (cap : Capsule) : Option (Nat × Bool) :=
  match (if cap.opcode = 1 ∧ cap.composition ≠ 0 ∧ !cap.mirrored then d.plan? cap.plan else none) with
  | none => none
  | some p => (imCollects p.image).findSome? fun w =>
      let k := d.collectiveD (cap.composition - 1) (dcP w 15 0) cap.tag
      if k.ended || k.status == stOk then none else some (k.status, dcP w 35 26 == cap.ownRank)

/-- A capsule that has its class: dropped where the class admits nothing (R558), expired where its DEADLINE is 0, ended where the members of its
composition have ended its query already (R352, R354), refused where its plan refuses it, and else queued (R542). What it stands for in its composition
begins only here, since a dropped request does no work (R550). -/
def Dev.enterClass (c : Ctx) (d : Dev) (cap : Capsule) : Dev :=
  if cap.cls ≠ 0 ∧ d.classCap cap.realm cap.cls = 0 then d.endPlain c cap.order stPoliced 0 (emptyResult cap)
  else
    let d := (d.reopenCollectives cap).mirror c cap
    if cap.deadlineUs = 0 then (d.missAt cap).endPlain c cap.order stDeadline 0 (emptyResult cap)
    else
      let st := if cap.opcode = 1 then d.runCheck cap else stOk
      if st != stOk then d.endPlain c cap.order st 0 0
      else match d.endedEarly cap with
        | some (st, atRoot) => (if atRoot then d.countEnded cap.realm else d).endPlain c cap.order st 0 0
        | none => d.queueCapsule c cap

/-- A capsule after its ingress checks: metered, re-marked or dropped, and entered in its class. PLAN_UNLOAD and a mirrored capsule are not metered
(R543, R625). -/
def Dev.meterCapsule (c : Ctx) (d : Dev) (cap : Capsule) (size colour : Nat) : Dev :=
  let (k, d) := if cap.opcode = 3 ∨ cap.mirrored then (some cap.cls, d) else d.police c cap.realm cap.cls size colour
  match k with
  | none => d.endPlain c cap.order stPoliced 0 (emptyResult cap)
  | some cls => (d.modCapsule cap.order fun k => { k with cls := cls }).enterClass c { cap with cls := cls }

/-! ### Host functions (R571–R575) -/

/-- Is a port's link up? -/
def Dev.portUp (d : Dev) (p : Nat) : Bool := decide (p < 2) && ((d.port p).link == 2 || (d.port p).link == 3)

/-- Is a function there: the PF, and outside MINIMAL mode VFs 1–63 (R565)? -/
def Dev.fnThere (d : Dev) (p n : Nat) : Bool := d.portUp p && decide (n < 64) && (n == 0 || !d.isMinimal)

/-- An access to a VF shows that the host has enabled it; its binding is then the committed one (R568; log entry 28). -/
def Dev.touchFn (d : Dev) (p n : Nat) : Dev :=
  if n = 0 ∨ (d.fn p n).enabled then d else d.modFn p n fun f => { f with enabled := true, realm := d.cfg (0x1120 + p) n }

/-- Submission apertures and rings of a function: 32 on a PF, 16 on a VF. -/
def aperturesOf (n : Nat) : Nat := if n = 0 then 32 else 16

/-- A write to an aperture page that is no capsule (R573). -/
def Dev.malformed (d : Dev) (p n : Nat) : Dev :=
  ((d.modFn p n fun f => { f with malformed := satAdd 16 f.malformed 1 }).modPort p fun h =>
    { h with malformed := satAdd 64 h.malformed 1 }).errorVector p n

/-- A capsule beyond its aperture's depth (R575). -/
def Dev.overflow (d : Dev) (p n a : Nat) : Dev :=
  ((d.modFn p n fun f => { f with
    overflows := satAdd 16 f.overflows 1
    apertures := tabMod a .reset (fun x => { x with ovf := true }) f.apertures }).modPort p fun h =>
    { h with overflowed := satAdd 64 h.overflowed 1 }).errorVector p n

/-- A capsule accepted from an aperture, checked and metered. -/
def Dev.acceptHost (c : Ctx) (d : Dev) (src : CapsuleSource) (p n a raw : Nat) : Dev :=
  let f := d.fn p n
  let realm := bits raw 23 16
  let k := d.compositionOfRealm realm
  let (cap, d) := d.newCapsule c src raw (f.ring (f.aperture a).ring).disables (bits raw 26 24)
    (match k with | some e => e.1 + 1 | none => 0) (match k with | some e => e.2.epoch | none => 0)
    (match k with | some e => e.2.ownRank | none => 0) (match k with | some e => e.2.members | none => [])
  let d := (d.modFn p n fun f => { f with
    wasQuiesced := false, apertures := tabMod a .reset (fun x => { x with outstanding := x.outstanding + 1 }) f.apertures }).modPort p
      fun h => { h with accepted := satAdd 64 h.accepted 1 }
  let colour := if cap.version = 2 then 0 else bits raw 28 27
  let bound := if n = 0 then d.cfg 0x1104 (p + 1) == 0 else f.realm != 0 && f.realm == realm && d.realmActive realm
  match d.ingressCheck raw colour f.quiesce bound (n != 0 || d.realmActive realm) with
  | some (st, reason) => d.refuseCapsule c cap (if n = 0 then 0 else f.realm) st reason
  | none => d.meterCapsule c cap 64 colour

/-- A write to an aperture page. -/
def Dev.takeHost (c : Ctx) (d : Dev) (src : CapsuleSource) (p n a size : Nat) (aligned : Bool) (raw : Nat) : Dev :=
  if !d.fnThere p n || decide (aperturesOf n ≤ a) then d
  else
    let d := d.touchFn p n
    let x := (d.fn p n).aperture a
    if !x.enable || size != 64 || !aligned then d.malformed p n
    else if 2 ^ x.depthLog2 ≤ x.outstanding then d.overflow p n a
    else d.acceptHost c src p n a raw

/-! ### CAPSULE messages (R606, R612) -/

/-- The bytes of the AFP message that carries a capsule: its payload, the capsule and the data after it, in segments of 8,192 bytes, each with a header
of 32 bytes and a trailer of 4 or, encrypted, 16 (R545, R601). -/
def Dev.afpBytes (d : Dev) (h : Afp) (src : CapsuleSource) : Nat :=
  let payload := match src with | .fabric _ len _ => max h.length (64 + len) | .host .. => h.length
  payload + max 1 (ceilDiv payload 8192) * (32 + (if (d.link h.link).encrypted then 16 else 4))

/-- A capsule of a member served under an epoch, with the metering exchange on the hub link of the port's quarter die (R16). Its own colour field must
not read 0b11 either (R547, R606). -/
def Dev.serveFabric (c : Ctx) (d : Dev) (src : CapsuleSource) (h : Afp) (raw slot epoch rank : Nat) (members : List Nat) : Dev :=
  let own := ((d.composition? slot).map fun k => k.realm).getD 0
  let realm := bits raw 23 16
  let (cap, d) := d.newCapsule c src raw 0 h.cls (slot + 1) epoch rank members
  let colour := if cap.version ≠ 2 ∧ bits raw 28 27 = 3 then 3 else h.colour
  match d.ingressCheck raw colour false (realm == own && members.contains h.src && h.src != 0 && d.realmActive realm) true with
  | some (st, reason) => d.refuseCapsule c cap own st reason
  | none => (d.enqueue (2 + h.link / 8) realm h.cls 16).meterCapsule c cap (d.afpBytes h src) (if h.version = 0x23 then 0 else h.colour)

/-- A CAPSULE that the epoch check turns away: a COMPLETION with the status, and the redirect. -/
def Dev.refuseFabric (c : Ctx) (h : Afp) (raw : Nat) (d : Dev) (status : Nat) (more : List Nat) : Dev :=
  d.reply h.src h.requestId 0x31 ((status + bits raw 63 48 * 2 ^ 16 + bits raw 7 0 * 2 ^ 32 + c.now * 2 ^ 128) :: more)

/-- The epoch check of a CAPSULE, held ones among them when their epoch comes. -/
def Dev.epochCapsule (c : Ctx) (d : Dev) (cmd : Instr) (src : CapsuleSource) (h : Afp) (raw : Nat) : Dev :=
  d.byEpoch c h cmd (Dev.refuseFabric c h raw) fun d s e r m => d.serveFabric c src h raw s e r m

/-- A capsule's row: one whose opcode is the row's own, or is reserved, comes by its aperture or message. -/
def takeCapsule (op : Nat) (cmd : Instr) (src : CapsuleSource) (raw : Nat) (c : Ctx) (d : Dev) : Dev :=
  let o := bits raw 7 0
  if o != op && capsuleOp 3 o then d
  else match src with
    | .host p n a size aligned => d.takeHost c src p n a size aligned raw
    | .fabric h _ _ =>
      if o == 0x12 && h.version == 0x23 then d.dropMessage
      else d.receive c h false fun d => d.once c h fun d => d.epochCapsule c cmd src h raw

end Sys2Proof.Machine
end

