-- ==== Sys2Proof/Machine/Images.lean ====
section
/-! DEFINITION. Firmware images: their signature blocks, their verification, the root keys, and the measurement blocks (R652, R659–R663). -/

namespace Sys2Proof.Machine

/-! ### Image packages (*Image package*) -/

/-- Offset of component c in a package. -/
def FwImage.offset (im : FwImage) (c : Nat) : Nat := byteField im.bytes (8 + 16 * c) 8
/-- Length of component c in a package. -/
def FwImage.length (im : FwImage) (c : Nat) : Nat := byteField im.bytes (16 + 16 * c) 8
/-- The 288 bytes of the *Image signature block* of component c. -/
def FwImage.sig (im : FwImage) (c : Nat) : Nat := byteField im.bytes (im.offset c) 288

/-- KEY_SLOT of a signature block. -/
def sbSlot (w : Nat) : Nat := bits w 18 16
/-- COMPONENT. -/
def sbComponent (w : Nat) : Nat := bits w 26 24
/-- SVN. -/
def sbSvn (w : Nat) : Nat := bits w 38 32
/-- RELEASE. -/
def sbRelease (w : Nat) : Nat := bits w 79 64
/-- LENGTH. -/
def sbLength (w : Nat) : Nat := bits w 191 128
/-- PUBLIC_KEY. -/
def sbKey (w : Nat) : Nat := bits w 711 256
/-- DIGEST. -/
def sbDigest (w : Nat) : Nat := bits w 1279 768
/-- SIGNATURE. -/
def sbSignature (w : Nat) : Nat := bits w 2191 1280

/-- The code of component c, which follows its signature block. -/
def FwImage.code (im : FwImage) (c : Nat) : Nat := byteField im.bytes (im.offset c + 288) (sbLength (im.sig c))

/-- The release of component c; 0 of an image region without a package. -/
def FwImage.release (im : FwImage) (c : Nat) : Nat := if im.len = 0 then 0 else sbRelease (im.sig c)

/-- Has a signature block its format and every reserved field 0 (R659)? -/
def sbFormed (w : Nat) : Bool :=
  bits w 15 0 == 1 && bits w 23 19 == 0 && bits w 31 27 == 0 && bits w 63 39 == 0 && bits w 127 80 == 0 && bits w 255 192 == 0 &&
    bits w 767 712 == 0 && bits w 2303 2192 == 0

/-- Does a package have its format, and component c inside its bytes? -/
def FwImage.formed (im : FwImage) (c : Nat) : Bool :=
  decide (4096 ≤ im.len) && bits im.bytes 15 0 == 1 && bits im.bytes 31 16 == 6 && bits im.bytes 63 32 == 0 && byteField im.bytes 104 3992 == 0 &&
    decide (im.offset c + 288 + im.length c ≤ im.len) && im.length c == sbLength (im.sig c)

/-- The firmware root slots accepted in a life-cycle state (*Life-cycle states*). -/
def acceptedSlots : Nat → List Nat
  | 0 => [6]
  | 1 => [0, 1, 2, 3, 6]
  | 2 => [0, 1, 2, 3, 4, 5]
  | 3 => [0, 1, 2, 3]
  | 4 => [0, 1, 2, 3, 7]
  | _ => []

/-- Root key status of slot k: 0 empty, 1 valid, 2 revoked (0x5C01.02). -/
def Fuses.rootStatus (f : Fuses) (k : Nat) : Nat := if nth f.rootDigests k = 0 then 0 else if bit f.revoked k then 2 else 1

/-- Does component c of an image verify (R659)? -/
def Dev.componentOk (c : Ctx) (d : Dev) (im : FwImage) (n : Nat) : Bool :=
  let w := im.sig n
  im.formed n && sbFormed w && sbComponent w == n && (acceptedSlots d.keep.lifeCycle).contains (sbSlot w) &&
    c.fuses.rootStatus (sbSlot w) == 1 && shake256 64 57 (sbKey w) % 2 ^ 512 == nth c.fuses.rootDigests (sbSlot w) &&
    shake256 64 (sbLength w) (im.code n) % 2 ^ 512 == sbDigest w && ed448Verifies (sbKey w) 160 (w % 2 ^ 1280) (sbSignature w) &&
    decide (nth c.fuses.counters n ≤ sbSvn w) && sbRelease w / 256 == 3

/-- The first of some components of an image that does not verify. -/
def Dev.refusedIn (c : Ctx) (d : Dev) (im : FwImage) (l : List Nat) : Option Nat := l.find? fun n => !d.componentOk c im n

/-- The image region of NOR_A (0) or NOR_B (1). -/
def Dev.image (d : Dev) (n : Nat) : FwImage := d.nor.images.getD n ⟨0, 0, 0⟩

/-- An image region changed. -/
def Dev.modImage (d : Dev) (n : Nat) (f : FwImage → FwImage) : Dev := d.setNor { d.nor with images := listMod n f d.nor.images }

/-! ### Measurement blocks (*Measurement blocks*) -/

/-- A table of dictionary values as one number, for a digest over it: each value with its key and length (DESIGN CHOICE, log entry 3: the
manual does not give the order of the bytes digested). -/
def tabDigestInput : Tab DictVal → Nat × Nat
  | [] => (0, 0)
  | (k, v) :: t =>
    let r := tabDigestInput t
    (7 + v.len + r.1, k % 2 ^ 24 + v.len % 2 ^ 32 * 2 ^ 24 + v.num % 2 ^ (8 * v.len) * 2 ^ 56 + r.2 * 2 ^ (8 * (7 + v.len)))

/-- Length and contents of measurement block n, 1–9. -/
def Dev.measured (c : Ctx) (d : Dev) (n : Nat) : Nat × Nat :=
  if n = 1 then (Config.document 2 0, Config.document 2 1)
  else if n ≤ 7 then
    let im := d.boot.running
    (sbLength (im.sig (n - 2)), im.code (n - 2))
  else if n = 8 then tabDigestInput (d.dict.cfg.filter fun e => !realmEntry (e.1 / 256))
  else (17, d.keep.lifeCycle + ofElems 1 c.fuses.counters * 2 ^ 8 + ofElems 1 ((List.range 8).map c.fuses.rootStatus) * 2 ^ 72)

/-- The SHAKE256-512 digest of measurement block n. -/
def Dev.measurement (c : Ctx) (d : Dev) (n : Nat) : Nat := let m := d.measured c n; shake256 64 m.1 m.2 % 2 ^ 512

end Sys2Proof.Machine
end

