-- ==== Sys2Proof/Machine/Keep.lean ====
section
/-! DEFINITION. The Keep's derived keys, its signatures and fresh randomness (R647–R649, *Key derivations*). -/

namespace Sys2Proof.Machine

/-- The DeviceID public key: that of the seed over the secret and 0x01 (*Key derivations*). -/
def deviceIdPublic : Nat := ed448Public (shake256 57 33 (uniqueSecret + 2 ^ 256))

/-- SVN of component n of the running image. -/
def Dev.svn (d : Dev) (n : Nat) : Nat := sbSvn (d.boot.running.sig n)

/-- CDI_1: over the secret, 0x02, M2, the SVN of component 0 and the life-cycle code (the SVN and the code one byte each: log entry 3). -/
def Dev.cdi1 (c : Ctx) (d : Dev) : Nat :=
  shake256 64 99 (uniqueSecret + 2 * 2 ^ 256 + d.measurement c 2 * 2 ^ 264 + d.svn 0 * 2 ^ 776 + d.keep.lifeCycle * 2 ^ 784) % 2 ^ 512

/-- CDI_2: over CDI_1, 0x04, M3–M7 and the SVNs of components 1–5. -/
def Dev.cdi2 (c : Ctx) (d : Dev) : Nat :=
  let m := (List.range 5).map fun i => d.measurement c (i + 3)
  let v := (List.range 5).map fun i => d.svn (i + 1)
  shake256 64 390 (d.cdi1 c + 4 * 2 ^ 512 + ofElems 64 m * 2 ^ 520 + ofElems 1 v * 2 ^ 3080) % 2 ^ 512

/-- The seed of the L2 Alias key. -/
def Dev.alias2 (c : Ctx) (d : Dev) : Nat := shake256 57 65 (d.cdi2 c + 3 * 2 ^ 512) % 2 ^ 456

/-- An L2 Alias signature over a message of some bytes. -/
def Dev.signAlias2 (c : Ctx) (d : Dev) (len message : Nat) : Nat := ed448Sign (d.alias2 c) len message % 2 ^ 912

/-- Has a health test of the generator failed since the start (R648, 0x5C50.01)? -/
def Dev.generatorFailed (d : Dev) : Bool := d.keep.health != 0

/-- A fresh secret of n bytes from the generator. -/
def Dev.fresh (d : Dev) (n : Nat) : Nat × Dev := let (k, d) := d.draw; (Config.keepKey (k + 1) % 2 ^ (8 * n), d)

/-- An ephemeral X448 key of the device, as secret and public value, and a 32-byte nonce. -/
def Dev.ephemeral (d : Dev) : (Nat × Nat × Nat) × Dev :=
  let (k, d) := d.fresh 56
  let (n, d) := d.fresh 32
  ((k, x448 k 5 % 2 ^ 448, n), d)

/-- The 64 bytes of keys of a handshake: SHAKE256 over the X448 shared secret and T (R655). -/
def handshakeKeys (secret peer t : Nat) : Nat := shake256 64 120 (x448 secret peer % 2 ^ 448 + t * 2 ^ 448) % 2 ^ 512

/-- A SHAKE256-512 digest of a byte string. -/
def digest512 (len input : Nat) : Nat := shake256 64 len input % 2 ^ 512

/-- GENERATOR_HEALTH_FAILURE: requests for fresh randomness fail from now on until the next start, and the critical event is logged
(R648). -/
def doGeneratorHealthFailure (c : Ctx) (d : Dev) : Dev :=
  (d.setKeep { d.keep with health := 1, faults := satAdd 64 d.keep.faults 1 }).event c 0x0802 3 0 0 0 0

/-- GENERATOR_HEALTH_FAILURE. -/
def execGeneratorHealthFailure (s : State) : Out := devStep doGeneratorHealthFailure s

end Sys2Proof.Machine
end

