-- ==== Sys2Proof/Machine/Media.lean ====
section
/-! DEFINITION. What flash answers: reads, programs, erases, copies, timeouts, key destruction, clean shutdown, map load and rebuild (12_flash). -/

namespace Sys2Proof.Machine

/-! ### Volume requests (R503–R508) -/

/-- The first matching row of *Volume request failures* that leaves the map alone; ST_OK where none matches. -/
def Dev.volumeStatus (d : Dev) (cap : Capsule) : Nat × Dev :=
  let r := cap.request
  let op := vrOp r
  if bits r 15 8 != 0 || bits r 95 80 != 0 || bits r 191 130 != 0 || op == 0 || decide (3 < op) || decide (65536 < vrCount r) ||
    decide (2 ≤ vrLoc r) || (op == 3 && (vrLoc r != 0 || vrAddr r != 0)) || vrAddr r % 64 != 0 then (stBadArg, d)
  else match d.volumeFor cap.realm (vrVolume r) cap.acceptedAt with
    | none => (stBadArg, d)
    | some v =>
      if (d.volume v).capacity < vrLba r + vrCount r then (stBadArg, d)
      else
        let (w, d) : Nat × Dev := if op = 3 then (stOk, d) else if op = 2 then d.bufStatus cap (vrLoc r) (vrAddr r) (4096 * vrCount r)
          else d.bufWriteStatus cap (vrLoc r) (vrAddr r) (4096 * vrCount r)
        if w != stOk then (w, d)
        else if d.flash.mapState != 2 then (stBusy, d)
        else if d.flash.shutdown && op != 1 then (stBusy, d)
        else if op = 2 && (d.volume v).state == 2 then (stReadOnly, d)
        else (stOk, d)

/-- One block of a READ looked up: its data written to the buffer, or an operation begun; a status other than ST_OK ends the request. -/
def Dev.readBlock (c : Ctx) (d : Dev) (cap : Capsule) (v i : Nat) : Nat × Dev :=
  let r := cap.request
  let d := d.modVolume v fun k => { k with read := satAdd 64 k.read 1 }
  match d.lookup v (vrLba r + i) with
  | (.unreadable, d) => (stMedia, d)
  | (.data x, d) =>
    let (st, d) := d.bufWrite c cap (vrLoc r) (vrAddr r + 4096 * i) (leBytes 4096 x)
    (st, d.modCapsule cap.order fun k => { k with blocks := k.blocks + 1 })
  | (.media k j, d) =>
    (stOk, (d.startOp (.read cap.order none v (vrLba r + i)) k j (cap.cls == 0)).modCapsule cap.order fun k => { k with pending := k.pending + 1 })

/-- The blocks of a READ, in order, until one cannot be read. -/
def Dev.readBlocks (c : Ctx) (d : Dev) (cap : Capsule) (v : Nat) : List Nat → Nat × Dev
  | [] => (stOk, d)
  | i :: l =>
    let (st, d) := d.readBlock c cap v i
    if st != stOk then (st, d) else Dev.readBlocks c d cap v l

/-- A VOLUME capsule's own work, after its ingress and metering. -/
def Dev.startVolume (c : Ctx) (d : Dev) (order : Nat) : Dev :=
  match d.capsule? order with
  | none => d
  | some cap =>
    let (st, d) := d.volumeStatus cap
    let r := cap.request
    if st != stOk then d.endVolume c order st
    else
      let v := vrVolume r - 0x4000
      if vrCount r = 0 then d.endVolume c order stOk
      else if vrOp r = 1 then
        let (st, d) := d.readBlocks c cap v (List.range (vrCount r))
        if st != stOk then d.endVolume c order st else d.volumeDone c order
      else if vrOp r = 2 then
        match d.writeData cap (List.range (vrCount r)) with
        | (0, data, d) =>
          let (ch, d) := (d.modCapsule order fun k => { k with pending := vrCount r }).writeChannel v
          (maskGroups (d.volume v).groups).foldl Dev.collectGroup (d.writeFrom c order v (vrLba r) ch data)
        | (st, _, d) => d.endVolume c order st
      else
        let d := (List.range (vrCount r)).foldl (fun d i => d.unmapBlock v (vrLba r + i)) d
        (d.modCapsule order fun k => { k with blocks := vrCount r }).endVolume c order stOk

/-! ### FLASH_READ_COMPLETE (R494, R525, R530) -/

/-- Is an operation's channel under an Oculus slice, which requests other than C0 reads wait for (R694, R495)? -/
def Dev.opTested (d : Dev) (operation : Nat) : Bool :=
  match d.flashOp? operation with
  | some o => d.oculus.slice == some (576 + lunChannel (blockLun o.block))
  | none => false

/-- A read has failed at every level: the event names it, and the block is unreadable unless the map has moved on from the slot (R505, R530). -/
def Dev.readFailed (c : Ctx) (d : Dev) (k i v lba : Nat) : Dev :=
  let d : Dev := if d.mapped v lba = some (.at_ k i) then d.putMap v lba .unreadable else d
  d.event c 0x0508 2 (d.volume v).realm (blockLun k + d.pageOf k i * 2 ^ 16) (k % 16384) lba

/-- A read's data reaches what asked for it. -/
def Dev.readGiven (c : Ctx) (d : Dev) (o : FlashOp) (x : FlashSlot) : Dev :=
  match o.use with
  | .read cap (some _) v lba => d.blockArrived c cap v lba x.data
  | .read cap none _ lba =>
    match d.capsule? cap with
    | none => d
    | some k =>
      let r := k.request
      let (st, d) := d.bufWrite c k (vrLoc r) (vrAddr r + 4096 * (lba - vrLba r)) (leBytes 4096 x.data)
      if st != stOk then d.endVolume c cap st
      else (d.modCapsule cap fun k => { k with blocks := k.blocks + 1, pending := k.pending - 1 }).volumeDone c cap
  | .copyRead n i =>
    match d.flash.copies.find? fun y => y.number == n with
    | none => d
    | some y =>
      if d.validSlot o.block i x then d.copySlot c y i x else d.modFlashCopy n fun z => { z with left := z.left.filter (· != i) }
  | _ => d

/-- FLASH_READ_COMPLETE. -/
def doFlashReadComplete (operation : Nat) (decoded : Bool) (corrected : Nat) (c : Ctx) (d : Dev) : Dev :=
  match d.flashOp? operation with
  | none => d
  | some o =>
    let lun := blockLun o.block
    let e := d.serveLun lun
    if (e.served lun).map (·.number) != some operation then d
    else
        let d := e
        let g := lunGroup lun
        match (d.fblock o.block).slots[o.index]? with
        | none => d.dropOp operation
        | some x =>
          if decoded then
            (((((d.dropOp operation).sample c g 1 corrected 0 0).lunResult c lun true).readGiven c o x).health c g)
          else if o.retries < mpRetries (d.profile g) then
            (d.setFlash { d.flash with
              retries := satAdd 64 d.flash.retries 1
              ops := d.flash.ops.map fun p => if p.number = operation then { p with retries := p.retries + 1 } else p }).onfi lun
                [.read o.block o.index (o.retries + 1)]
          else
            let d := d.dropOp operation
            let d : Dev := match o.use with
              | .read cap desc v lba => ((d.readFailed c o.block o.index v lba).mediaError v).endReader c cap desc
              | .copyRead _ _ =>
                if d.validSlot o.block o.index x then (d.readFailed c o.block o.index x.volume x.lba).readGiven c o x
                else d.readGiven c o x
              | _ => d
            (d.lunResult c lun false).health c g

/-- FLASH_READ_COMPLETE. -/
def execFlashReadComplete (operation : Nat) (decoded : Bool) (corrected : Nat) (s : State) : Out :=
  devStep (fun c d => if d.opTested operation then d else doFlashReadComplete operation decoded corrected c d) s

/-! ### PROGRAM_STATUS (R506, R516, R529, R532) -/

/-- A block of a write is programmed: its capsule has one less to wait for. -/
def Dev.blockWritten (c : Ctx) (d : Dev) (cap : Option Nat) : Dev :=
  match cap with
  | none => d
  | some k => (d.modCapsule k fun x => { x with blocks := x.blocks + 1, pending := x.pending - 1 }).volumeDone c k

/-- The valid slots of a failed block move, and it is retired: at once where it has none (R532). -/
def Dev.moveAndRetire (c : Ctx) (d : Dev) (k : Nat) : Dev :=
  if (d.validSlots k).isEmpty then d.retire c k
  else (d.modBlock k fun b => { b with state := .closed }).startCopyOf k false true

/-- A page was programmed: its slots are on the media. Once every data page of its block is, the block is open no longer and its summary is
programmed (R516). -/
def Dev.pageProgrammed (c : Ctx) (d : Dev) (k : Nat) (l : List (FlashSlot × Option Nat)) : Dev :=
  let d := d.modBlock k fun b => { b with slots := b.slots ++ l.map (·.1) }
  let d := l.foldl (fun d e => if e.1.kind = 1 then d else d.modVolume e.1.volume fun v => { v with programmed := satAdd 64 v.programmed 1 }) d
  let d : Dev := if blockSlots (d.profile (lunGroup (blockLun k))) ≤ (d.fblock k).slots.length then
      ((d.dropBuffer k).modBlock k fun b => { b with state := .closing }).startOp
        (.summary ((d.fblock k).summarise (d.volume (d.fblock k).volume).realm)) k 0 false
    else d
  l.foldl (fun d e => d.blockWritten c e.2) d

/-- A program has ended on its LUN. One that failed has its block's other slots put elsewhere and the block moved and retired. -/
def Dev.programEnds (c : Ctx) (d : Dev) (o : FlashOp) (passed : Bool) : Dev :=
  let lun := blockLun o.block
  let g := lunGroup lun
  let d := d.sample c g 0 0 1 (if passed then 0 else 1)
  if passed then
    let d := (d.dropOp o.number).lunResult c lun true
    let d : Dev := match o.use with
      | .program l => d.pageProgrammed c o.block l
      | .summary s => d.modBlock o.block fun b => { b with state := .closed, summary := some s }
      | _ => d
    d.health c g
  else (((((d.giveUp c o.block).lunGoesOn lun).moveAndRetire c o.block).lunResult c lun false)).health c g

/-- PROGRAM_STATUS: the program under way on a LUN ends; one that a read has suspended ends only after it is resumed (R494). -/
def doProgramStatus (operation : Nat) (passed : Bool) (c : Ctx) (d : Dev) : Dev :=
  match d.flashOp? operation with
  | none => d
  | some o =>
    let lun := blockLun o.block
    if o.programmed.isNone || (d.busyOp lun).map (·.number) != some operation || (d.served lun).isSome then d else d.programEnds c o passed

/-- PROGRAM_STATUS. -/
def execProgramStatus (operation : Nat) (passed : Bool) (s : State) : Out :=
  devStep (fun c d => if d.opTested operation then d else doProgramStatus operation passed c d) s

/-! ### ERASE_COMPLETE (R533, R537) -/

/-- A block was erased: it is free. -/
def Dev.blockErased (d : Dev) (k : Nat) : Dev :=
  let d := d.modBlock k fun b => { FlashBlock.fresh with erases := b.erases + 1 }
  d.setFlash { d.flash with erases := satAdd 64 d.flash.erases 1 }

/-- A free block has come: slots, copies and writes that waited for one go on, and the group's collection and wear are looked at. -/
def Dev.blockFreed (c : Ctx) (d : Dev) (g : Nat) : Dev := ((((d.resumeParked c).resumeCopies).resumeWrites c).collectGroup g).levelGroup g

/-- ERASE_COMPLETE: the erase under way on a LUN ends, and its block is free, or retired; one that a read has suspended ends only after it is
resumed (R494). -/
def doEraseComplete (operation : Nat) (passed : Bool) (c : Ctx) (d : Dev) : Dev :=
  match d.flashOp? operation with
  | none => d
  | some o =>
    let lun := blockLun o.block
    let g := lunGroup lun
    if o.use != .erase || (d.busyOp lun).map (·.number) != some operation || (d.served lun).isSome then d
    else
      let d := (d.dropOp operation).sample c g 0 0 1 (if passed then 0 else 1)
      let d : Dev := if passed then d.blockErased o.block else d.retire c o.block
      ((d.lunResult c lun passed).blockFreed c g).health c g

/-- ERASE_COMPLETE. -/
def execEraseComplete (operation : Nat) (passed : Bool) (s : State) : Out :=
  devStep (fun c d => if d.opTested operation then d else doEraseComplete operation passed c d) s

/-! ### COPY_VERIFY and SOURCE_ERASE (R526, R527, R531) -/

/-- Are every destination slot's pages programmed? -/
def Dev.copyProgrammed (d : Dev) (x : FlashCopy) : Bool :=
  x.placed.all fun p => decide (p.2.2 < (d.fblock p.2.1).slots.length)

/-- The map entries that still name a source slot name the copy (R526). -/
def Dev.switchMap (d : Dev) (x : FlashCopy) : Dev :=
  x.placed.foldl (fun d p =>
    match (d.fblock x.source).slots[p.1]? with
    | some s => if d.mapped s.volume s.lba == some (.at_ x.source p.1) then d.putMap s.volume s.lba (.at_ p.2.1 p.2.2) else d
    | none => d) d

/-- COPY_VERIFY: a copy that does not read back is made again. -/
def doCopyVerify (copy : Nat) (readsBack : Bool) (_c : Ctx) (d : Dev) : Dev :=
  match d.flash.copies.find? fun x => x.number == copy with
  | none => d
  | some x =>
    if !x.left.isEmpty || !d.copyProgrammed x || x.verified then d
    else if readsBack then
      (d.switchMap x).setFlash { (d.switchMap x).flash with
        copies := d.flash.copies.map fun y => if y.number = copy then { y with verified := true } else y }
    else (d.setFlash { d.flash with copies := d.flash.copies.filter fun y => y.number != copy }).startCopyOf x.source x.wear x.retire

/-- COPY_VERIFY. -/
def execCopyVerify (copy : Nat) (readsBack : Bool) (s : State) : Out := devStep (doCopyVerify copy readsBack) s

/-- SOURCE_ERASE: once every read of the source is over. A source whose program failed is retired and not erased (R532). -/
def doSourceErase (copy : Nat) (c : Ctx) (d : Dev) : Dev :=
  match d.flash.copies.find? fun x => x.number == copy with
  | none => d
  | some x =>
    if !x.verified || d.flash.ops.any fun o => o.block == x.source then d
    else
      let d := d.setFlash { d.flash with copies := d.flash.copies.filter fun y => y.number != copy }
      if x.retire then d.retire c x.source else d.startErase x.source

/-- SOURCE_ERASE. -/
def execSourceErase (copy : Nat) (s : State) : Out := devStep (doSourceErase copy) s

/-! ### Windows, timeouts, keys (R499, R513, R534) -/

/-- Has the coalescing window run since the first slot of a page buffer arrived (R513)? -/
def Dev.windowRun (c : Ctx) (d : Dev) (o : OpenBlock) : Bool := !o.buffer.isEmpty && decide (o.firstAt + d.cfg 0x2840 7 * usTicks ≤ c.now)

/-- COALESCING_WINDOW: a volume's page buffers on a channel whose first slot arrived the window ago are programmed, that of its writes and that of
collection. -/
def doCoalescingWindow (volume channel : Nat) (c : Ctx) (d : Dev) : Dev :=
  let d : Dev := match tabGet (64 * volume + channel) d.flash.opens with
    | some o => if d.windowRun c o then d.programPage (64 * volume + channel) o false else d
    | none => d
  match tabGet (16 * volume + channel / 4) d.flash.collect with
  | some o => if d.windowRun c o && lunChannel (blockLun o.block) == channel then d.programPage (16 * volume + channel / 4) o true else d
  | none => d

/-- COALESCING_WINDOW. -/
def execCoalescingWindow (volume channel : Nat) (s : State) : Out := devStep (doCoalescingWindow volume channel) s

/-- FLASH_OPERATION_TIMEOUT: the operation has failed on its LUN; a read is as one that no level decodes, a program and an erase as failed. -/
def doFlashOperationTimeout (operation : Nat) (c : Ctx) (d : Dev) : Dev :=
  match d.flashOp? operation with
  | none => d
  | some o =>
    match o.use with
    | .program _ => doProgramStatus operation false c d
    | .summary _ => doProgramStatus operation false c d
    | .erase => doEraseComplete operation false c d
    | _ =>
      let d := d.setFlash { d.flash with ops := d.flash.ops.map fun p => if p.number = operation then { p with retries := 31 } else p }
      doFlashReadComplete operation false 0 c d

/-- FLASH_OPERATION_TIMEOUT. -/
def execFlashOperationTimeout (operation : Nat) (s : State) : Out :=
  devStep (fun c d => if d.opTested operation then d else doFlashOperationTimeout operation c d) s

/-- VOLUME_KEY_DESTROY: a volume that is being removed, once no capsule accepted before the commit is left (R499, R90). -/
def doVolumeKeyDestroy (volume : Nat) (c : Ctx) (d : Dev) : Dev :=
  let v := d.volume volume
  if v.state != 3 || d.capsules.live.any fun k => k.realm == v.realm && decide (k.acceptedAt ≤ v.removedAt) then d
  else d.destroyVolume c volume

/-- VOLUME_KEY_DESTROY. -/
def execVolumeKeyDestroy (volume : Nat) (s : State) : Out := devStep (doVolumeKeyDestroy volume) s

/-! ### Clean shutdown (R519) -/

/-- Bytes that a map of the active volumes takes, at 8 bytes an entry (R518). -/
def Dev.mapBytes (d : Dev) : Nat := 8 * sumOf ((d.flash.volumes.filter fun e => e.2.state != 3).map fun e => e.2.capacity)

/-- The programs outstanding on the media that have not ended, carried out in turn: a clean shutdown waits for them. -/
def Dev.awaitPrograms (c : Ctx) (d : Dev) : Nat → Dev
  | 0 => d
  | fuel + 1 => match d.flash.ops.find? fun o => o.programmed.isSome with
    | none => d
    | some o => Dev.awaitPrograms c (d.programEnds c o true) fuel

/-- Every page buffer is programmed, and the summaries of the blocks that this fills. -/
def Dev.programAll (c : Ctx) (d : Dev) : Dev :=
  let due (t : Tab OpenBlock) : Tab OpenBlock := t.filter fun (e : Nat × OpenBlock) => !e.2.buffer.isEmpty
  let d := (due d.flash.opens).foldl (fun d e => d.programPage e.1 e.2 false) d
  let d := (due d.flash.collect).foldl (fun d e => d.programPage e.1 e.2 true) d
  d.awaitPrograms c (2 * d.flash.ops.length)

/-- Free blocks of the groups in service, each with the slots that it takes, until they hold n slots. -/
def fillBlocks : List (Nat × Nat) → Nat → List (Nat × Nat)
  | [], _ => []
  | (k, size) :: l, n => if n = 0 then [] else (k, min size n) :: fillBlocks l (n - size)

/-- The free blocks of the groups in service, with their data slots. -/
def Dev.roomForMap (d : Dev) : List (Nat × Nat) :=
  ((List.range 16).map fun g =>
    let roots := d.rootBlocks g
    let all := ((d.groupLuns g).map fun l => (List.range (mpBlocks (d.profile g))).map fun b => blockKey l b).flatten
    (all.filter fun k => (d.fblock k).state == .free && !roots.contains k).map fun k => (k, blockSlots (d.profile g))).flatten

/-- The map's entries as a checkpoint names them: key, block and slot; an unreadable block has none of either. -/
def Dev.mapEntries (d : Dev) : List (Nat × Nat × Nat) := d.flash.map.map fun e => match e.2 with
  | .at_ k i => (e.1, k + 1, i)
  | _ => (e.1, 0, 0)

/-- The map written as KIND 4 slots into a block, from a piece on (R519). -/
def Dev.writeSystem (d : Dev) (block first n : Nat) : Dev :=
  let slots : List FlashSlot := (List.range n).map fun i => ⟨4, 64, first + i, 0, 0, Config.mapForm d.mapEntries (first + i), 0⟩
  let d := d.modBlock block fun b => { b with state := .closed, volume := 64, slots := slots }
  let d := d.modBlock block fun b => { b with summary := some (b.summarise 0) }
  let s := max (pageSlots (d.profile (lunGroup (blockLun block)))) 1
  d.onfi (blockLun block) ((List.range (ceilDiv n s)).map fun p => .program block p (((slots.drop (s * p)).take s).map d.codeword))

/-- The shutdown sequence of R519: its status. Without a whole map nothing can be written, and the write completes with ST_BUSY (R523;
DESIGN CHOICE, log entry 32). One that has completed leaves nothing to do. -/
def Dev.cleanShutdown (c : Ctx) (d : Dev) : Nat × Dev :=
  if d.flash.mapState != 2 then (stBusy, d)
  else if d.flash.shutdown && d.flash.rootClean then (stOk, d)
  else
    let d := d.setFlash { d.flash with
      shutdown := true
      copies := d.flash.copies.filter fun x => x.verified
      ops := d.flash.ops.filter fun o => match o.use with | .copyRead .. => false | _ => true }
    let d := d.rootDirty.programAll c
    let need := ceilDiv d.mapBytes 4096
    let l := fillBlocks d.roomForMap need
    if sumOf (l.map (·.2)) < need || !d.flash.parked.isEmpty then (stNoSpace, d)
    else
      let r := l.foldl (fun (r : Nat × Dev) e => (r.1 + e.2, r.2.writeSystem e.1 r.1 e.2)) (0, d)
      (stOk, r.2.setFlash { r.2.flash with checkpoint := r.2.flash.map, rootClean := true, rootSeq := r.2.flash.seq - 1 })

/-! ### Start: map load and rebuild (R520–R523) -/

/-- The flash translation layer as a start finds it: what power did not keep is gone (R513, R521), and a block whose erase was cut off may hold
slots still. -/
def Flash.afterStart (f : Flash) : Flash :=
  { f with map := [], opens := [], collect := [], ops := [], copies := [], mapState := 0, mapSource := 0, progress := 0, loadTime := 0,
           shutdown := false, copied := 0, wearMoves := 0, erases := 0, retries := 0, crossed := [], waiting := [], parked := [], serving := [],
           levelling := [], luns := [], failures := [],
           volumes := f.volumes.map fun e => (e.1, { e.2 with read := 0, written := 0, programmed := 0, mediaErrors := 0 }),
           blocks := f.blocks.map fun e => (e.1, if e.2.state = .erasing then { e.2 with state := .closed } else e.2) }

/-- The map is ready: the time that its load took is known (0x2840.04). -/
def Flash.ready (f : Flash) (now : Nat) : Flash := { f with mapState := 2, progress := 100, loadTime := (now - f.loadFrom) / msTicks }

/-- The blocks that were open at a clean shutdown are open again, each for the writes or the collection that it took (R512). -/
def Dev.reopenBlocks (d : Dev) : Dev :=
  (d.flash.blocks.filter fun e => e.2.state == .opened).foldl (fun d e =>
    d.setBuffer e.2.collecting (bufferKey e.2.collecting e.2.volume e.1) ⟨e.1, [], 0⟩) d

/-- MAP_LOAD: from the checkpoint, or else a scan begins; without a volume there is nothing to load (0x2840.02). Step 6 of the start runs then, beside the scan where there is one (R670). -/
def doMapLoad (checkpointReads : Bool) (c : Ctx) (d : Dev) : Dev :=
  let f := d.flash
  if f.mapState != 1 || f.mapSource != 0 then d
  else
  let d : Dev := if d.boot.node = 5 then ((d.setBoot { d.boot with node := 6 }).stepEnds c 5).trainLinks (List.range 8) else d
  if f.volumes.isEmpty then d.setFlash (f.ready c.now)
  else if f.rootClean && checkpointReads then
    ((d.setFlash ({ f with map := f.checkpoint, seq := f.rootSeq + 1, mapSource := 1 }.ready c.now)).reopenBlocks).checkSpare c
  else d.setFlash { f with mapSource := 2, progress := 0 }

/-- MAP_LOAD. -/
def execMapLoad (checkpointReads : Bool) (s : State) : Out := devStep (doMapLoad checkpointReads) s

/-- One slot offered to the map that a scan builds (R521). -/
def offer (held : Tab (Nat × MapEntry)) (k i : Nat) (s : FlashSlot) : Tab (Nat × MapEntry) :=
  let key := mapKey s.volume s.lba
  let e : Nat × MapEntry := (s.seq, if s.kind = 3 then .unreadable else .at_ k i)
  match tabGet key held with
  | some h => if h.1 < s.seq then tabSet key e held else held
  | none => tabSet key e held

/-- Does a block's summary decode in the scan of a start? -/
def FlashBlock.summaryReads (b : FlashBlock) (start k : Nat) : Bool := b.summary.isSome && Config.scanDecodes start k none

/-- The slots of a block that the scan of a start finds: those of its summary, or, where that does not decode, those that themselves decode. -/
def FlashBlock.scanned (b : FlashBlock) (start k : Nat) : List (Nat × FlashSlot) :=
  let l := b.slots.mapIdx fun i s => (i, s)
  let each := l.filter fun e => Config.scanDecodes start k (some e.1)
  match b.summary with
  | some t =>
    if b.summaryReads start k then (l.zip t.entries).map fun e => (e.1.1, { e.1.2 with lba := e.2.1, kind := e.2.2.1, seq := t.baseSeq + e.2.2.2 })
    else each
  | none => each

/-- The blocks that a scan reads: those of volumes that hold slots, on the LUNs in service. -/
def Dev.scannedBlocks (d : Dev) : Tab FlashBlock :=
  d.flash.blocks.filter fun (e : Nat × FlashBlock) =>
    e.2.state != .retired && e.2.state != .free && decide (e.2.volume < 64) && d.lunState (blockLun e.1) == 0

/-- The map that the media give: data and unreadable markers of the volumes, under their present keys. -/
def Dev.scanMap (d : Dev) : Tab (Nat × MapEntry) :=
  d.scannedBlocks.foldl (fun m e => (e.2.scanned d.nor.boot.starts e.1).foldl (fun m p =>
    if (p.2.kind == 0 || p.2.kind == 3) && (tabGet p.2.volume d.flash.volumes).isSome && p.2.key == (d.volume p.2.volume).key
    then offer m e.1 p.1 p.2 else m) m) []

/-- MAP_REBUILD_COMPLETE: the map is ready, and the counter goes on above every number on the media. Blocks without a summary were open at the loss
of power, and are collected first; what an old checkpoint took is erased. -/
def doMapRebuildComplete (c : Ctx) (d : Dev) : Dev :=
  let f := d.flash
  if f.mapState != 1 || f.mapSource != 2 then d
  else
    let top := ((f.blocks.map fun (e : Nat × FlashBlock) => (e.2.slots.map fun s => s.seq).foldl max 0)).foldl max 0
    let wasOpen := (d.scannedBlocks.filter fun e => !e.2.summaryReads d.nor.boot.starts e.1).map (·.1)
    let m := d.scanMap
    let d := d.setFlash { f.ready c.now with
      map := m.map fun e => (e.1, e.2.2), seq := top + 1
      blocks := f.blocks.map fun (e : Nat × FlashBlock) => (e.1, if wasOpen.contains e.1 then { e.2 with state := .closed } else e.2) }
    let d := d.systemBlocks.foldl Dev.startErase d
    (wasOpen.foldl (fun d k => d.startCopyOf k false false) d).checkSpare c

/-- MAP_REBUILD_COMPLETE. -/
def execMapRebuildComplete (s : State) : Out := devStep doMapRebuildComplete s

end Sys2Proof.Machine
end

