-- ==== Sys2Proof/Machine/Schema.lean ====
section
/-! DEFINITION. What the schema description tells of every entry (R109): the names, types and ranges of the dictionary tables of every chapter. -/

namespace Sys2Proof.Machine

/-- The name, type and range of one row of a dictionary table, as the table words them, for a span of indices and of subindices. -/
structure EntryText where
  lo : Nat
  hi : Nat
  subLo : Nat
  subHi : Nat
  name : String
  type : String
  range : String
deriving DecidableEq, Repr

/-- The texts of the dictionary tables (R109), part 1. -/
def entryTexts1 : List EntryText := [
  ⟨0x23F0, 0x23F0, 0x00, 0x00, "Highest subindex", "U8", "Number of the last subindex of this entry"⟩,
  ⟨0x23F0, 0x23F0, 0x01, 0x01, "Counter plan select", "U16", "Plan handle whose counters subindices 3–5 address. A handle that is not loaded reads as 0 in subindices 3 and 4"⟩,
  ⟨0x23F0, 0x23F0, 0x02, 0x02, "Counter operator select", "U16", "Descriptor index 0–4,095 within the selected plan. A value beyond the plan's last descriptor reads as 0"⟩,
  ⟨0x23F0, 0x23F0, 0x03, 0x03, "Saturation count", "U64", "Saturations of the selected descriptor since plan load or the last clear"⟩,
  ⟨0x23F0, 0x23F0, 0x04, 0x04, "NaN-input count", "U64", "NaN inputs to quantisation (R46) and to conversion into integer formats (R728) by the selected descriptor since plan load or the last clear"⟩,
  ⟨0x23F0, 0x23F0, 0x05, 0x05, "Counter clear", "BOOL", "Writing 1 sets subindices 3 and 4 of the selected descriptor to 0; writing 0 has no effect"⟩,
  ⟨0x23F0, 0x23F0, 0x06, 0x06, "Realm saturation total", "U64", "Sum of the saturation counts of all plans of the session's realm since each was loaded; a clear does not reduce it. In realm 0 sessions, the sum over the whole device"⟩,
  ⟨0x1800, 0x1800, 0x00, 0x00, "Commit domain select", "U8", "0 device, 1–255 realm; per session. Realm r sessions may write only r; other values give ST_VIOLATION"⟩,
  ⟨0x1801, 0x1801, 0x00, 0x00, "Active generation", "U32", "Active generation of the selected domain"⟩,
  ⟨0x1802, 0x1802, 0x00, 0x00, "Draft entry count", "U16", "Entries in the session's draft for the selected domain"⟩,
  ⟨0x1803, 0x1803, 0x00, 0x00, "Commit instant", "U64", "Global time base value at which the selected domain's active generation took effect"⟩,
  ⟨0x1804, 0x1804, 0x00, 0x00, "Draft discard", "BOOL", "1 discards the session's draft of the selected domain; 0 has no effect"⟩,
  ⟨0x1805, 0x1805, 0x00, 0x00, "Draft view", "BOOL", "Per session. 1: reads of RWC entries return draft values where the draft holds them"⟩,
  ⟨0x1806, 0x1806, 0x00, 0x00, "Validate", "U32", "Write active + 1: runs the checks of R86 and records the result in 0x1811 and 0x1812, with no change to any entry, draft or generation. The write completes with the validation result: ST_OK when every check holds, ST_CONFIG_REJECT when one fails; ST_BUSY under R91 while a commit runs"⟩,
  ⟨0x1810, 0x1810, 0x00, 0x00, "Configuration commit", "U32", "Write active + 1 to commit; the completion status is the commit result"⟩,
  ⟨0x1811, 0x1811, 0x00, 0x00, "Last result", "U8", "Status of the session's last commit or validation"⟩,
  ⟨0x1812, 0x1812, 0x00, 0x00, "Highest subindex", "U8", "—"⟩,
  ⟨0x1812, 0x1812, 0x01, 0x01, "First failing check", "U16", "Check number from *Cross-field checks*; 0 when none failed"⟩,
  ⟨0x1812, 0x1812, 0x02, 0x02, "Failing entry", "U32", "Index in [23:8] and subindex in [7:0] of the entry the check found wrong; 0 when none"⟩,
  ⟨0x1812, 0x1812, 0x03, 0x03, "Related entry", "U32", "Same encoding; the other entry the check compared, or 0"⟩,
  ⟨0x1812, 0x1812, 0x04, 0x04, "Rejected generation", "U32", "Value written to 0x1810.00 or 0x1806.00"⟩,
  ⟨0x1820, 0x1820, 0x00, 0x00, "Highest subindex", "U8", "—; realm 0 sessions only; realm r sessions receive ST_VIOLATION (R78)"⟩,
  ⟨0x1820, 0x1820, 0x01, 0xFF, "Realm active generation", "U32", "Active generation of realm 1–255; realm 0 sessions only"⟩,
  ⟨0x2000, 0x2000, 0x00, 0x00, "Tile count", "U16", "Tiles in the grid"⟩,
  ⟨0x2001, 0x2001, 0x00, 0x00, "Tile states", "ARR of 576 U8", "Element n for tile n: 0 in service, 1 fenced, 2 owned by no realm, 3 off in MINIMAL mode"⟩,
  ⟨0x2002, 0x2002, 0x00, 0x00, "Tile unfence", "U16", "Tile number 0–575; runs the check of R160; realm 0 only"⟩,
  ⟨0x2003, 0x2003, 0x00, 0x00, "Highest subindex", "U8", "—"⟩,
  ⟨0x2003, 0x2003, 0x01, 0x01, "Uncorrectable limit", "U8", "1–255 uncorrectable errors per 24 h before fencing"⟩,
  ⟨0x2003, 0x2003, 0x02, 0x02, "Correctable limit", "U16", "0–65,535 corrected errors per 24 h before fencing; 0 never fences for corrected errors"⟩,
  ⟨0x2010, 0x2010, 0x00, 0x00, "Highest subindex", "U8", "—"⟩,
  ⟨0x2010, 0x2010, 0x01, 0x24, "Frequency cap", "U16", "Cap of clock group g in subindex g + 1, in MHz: 600–1,150 in steps of 25"⟩,
  ⟨0x2011, 0x2011, 0x00, 0x00, "Highest subindex", "U8", "—"⟩,
  ⟨0x2011, 0x2011, 0x01, 0x24, "Current frequency", "U16", "Present clock of group g in MHz"⟩,
  ⟨0x2012, 0x2012, 0x00, 0x00, "Highest subindex", "U8", "—"⟩,
  ⟨0x2012, 0x2012, 0x01, 0x01, "Boost power limit", "U16", "260–1,400 W"⟩,
  ⟨0x2012, 0x2012, 0x02, 0x02, "Boost temperature", "U8", "70–100 °C"⟩,
  ⟨0x2013, 0x2013, 0x00, 0x00, "Frequency reductions", "U64", "Steps taken under R152 and R153 since start"⟩,
  ⟨0x2020, 0x2020, 0x00, 0x00, "Highest subindex", "U8", "—"⟩,
  ⟨0x2020, 0x2020, 0x01, 0x01, "Tile select", "U16", "Per session; tile number 0–575 that subindices 2–8 address"⟩,
  ⟨0x2020, 0x2020, 0x02, 0x02, "Slots occupied", "U8", "Non-FREE slots of the selected tile, 0–64"⟩,
  ⟨0x2020, 0x2020, 0x03, 0x03, "Peak slots", "U8", "Highest value of subindex 2 since start"⟩,
  ⟨0x2020, 0x2020, 0x04, 0x04, "Operations completed", "U64", "Tile operations run to completion since start"⟩,
  ⟨0x2020, 0x2020, 0x05, 0x05, "Corrected errors", "U32", "Scratchpad corrections, since start or unfence"⟩,
  ⟨0x2020, 0x2020, 0x06, 0x06, "Uncorrectable errors", "U32", "Double-bit and parity errors, since start or unfence"⟩,
  ⟨0x2020, 0x2020, 0x07, 0x07, "Link retries", "U32", "Flits resent on the router's four links"⟩,
  ⟨0x2020, 0x2020, 0x08, 0x08, "Slot status", "ARR of 64 U64", "*Slot status word* of each slot; may mix instants (R79)"⟩,
  ⟨0x2021, 0x2021, 0x00, 0x00, "Mesh link states", "ARR of 1,104 U8", "0 up, 1 resending, 2 failed. The link from (x,y) to (x+1,y) is element 23·y + x; the link from (x,y) to (x,y+1) is element 552 + 24·y + x"⟩,
  ⟨0x2400, 0x2400, 0x00, 0x00, "Stack count", "U8", "—"⟩,
  ⟨0x2401, 0x2401, 0x00, 0x00, "Stack states", "ARR of 32 U8", "0 in service, 1 failed training, 2 off in MINIMAL mode, 3 training, 4 thermal hold"⟩,
  ⟨0x2402, 0x2402, 0x00, 0x00, "Bank count", "U16", "—"⟩,
  ⟨0x2405, 0x2409, 0x00, 0x00, "Highest subindex", "U8", "—"⟩,
  ⟨0x2410, 0x2410, 0x00, 0x00, "Highest subindex", "U8", "—"⟩,
  ⟨0x2411, 0x2411, 0x00, 0x00, "Highest subindex", "U8", "—"⟩,
  ⟨0x2405, 0x2405, 0x01, 0x20, "Throttle mode", "U8", "0 GOVERNOR, 1 TIMING_RULE"⟩,
  ⟨0x2406, 0x2406, 0x01, 0x20, "Power allowance", "U8", "6–14 W"⟩,
  ⟨0x2407, 0x2407, 0x01, 0x20, "tPAW window", "U16", "250–16,000 ns"⟩,
  ⟨0x2408, 0x2408, 0x01, 0x20, "tPAW trigger count", "U8", "1–32"⟩,
  ⟨0x2409, 0x2409, 0x01, 0x20, "tPTT", "U16", "20–1,000 ns"⟩,
  ⟨0x240A, 0x240A, 0x00, 0x00, "Preemption timeout", "U32", "0–100,000 ns"⟩,
  ⟨0x240B, 0x240B, 0x00, 0x00, "C0 yield time", "U32", "0–100,000 ns"⟩,
  ⟨0x2410, 0x2410, 0x01, 0x20, "Governor budget", "U32", "B of the last complete window"⟩,
  ⟨0x2411, 0x2411, 0x01, 0x20, "Delayed steps", "U64", "Steps held for a later window or by trigger rules, since start"⟩,
  ⟨0x2420, 0x243F, 0x00, 0x00, "Highest subindex", "U8", "—"⟩,
  ⟨0x2420, 0x243F, 0x01, 0x10, "Region descriptor", "U64", "*Region descriptor*; stack 0x2420 + s, region r in subindex r + 1"⟩,
  ⟨0x2440, 0x2440, 0x00, 0x00, "Bank select", "U16", "Per session; global bank number 0–24,575"⟩,
  ⟨0x2441, 0x2441, 0x00, 0x00, "Highest subindex", "U8", "—"⟩,
  ⟨0x2441, 0x2441, 0x01, 0x01, "Bank state", "U8", "0 MEM, 1 PIM_SHARED, 2 PIM_EXCLUSIVE"⟩,
  ⟨0x2441, 0x2441, 0x02, 0x02, "Steps run", "U64", "Since start"⟩,
  ⟨0x2441, 0x2441, 0x03, 0x03, "Suspensions", "U64", "Boundaries at which ordinary accesses or refresh interleaved"⟩,
  ⟨0x2441, 0x2441, 0x04, 0x04, "Preemptions", "U64", "Expiries of R193"⟩,
  ⟨0x2441, 0x2441, 0x05, 0x05, "Yields", "U64", "Saves under R196"⟩,
  ⟨0x2441, 0x2441, 0x06, 0x06, "Corrected column errors", "U32", "Since start"⟩,
  ⟨0x2441, 0x2441, 0x07, 0x07, "Sequence faults", "U32", "Since start"⟩,
  ⟨0x3300, 0x3300, 0x00, 0x00, "Plans loaded", "U16", "Plans of the session's realm; all plans in realm 0 sessions"⟩,
  ⟨0x3301, 0x3301, 0x00, 0x00, "Plan limit", "U16", "Plans loaded at once, device-wide"⟩,
  ⟨0x3302, 0x3302, 0x00, 0x00, "Plan select", "U16", "Per session; the handle that 0x3303 addresses"⟩,
  ⟨0x3303, 0x3303, 0x00, 0x00, "Highest subindex", "U8", "—"⟩,
  ⟨0x3303, 0x3303, 0x01, 0x01, "Plan state", "U8", "0 none, 1 loaded, 2 unloading, 3 damaged (R159)"⟩,
  ⟨0x3303, 0x3303, 0x02, 0x02, "Plan realm", "U8", "Owner"⟩,
  ⟨0x3303, 0x3303, 0x03, 0x03, "Format version", "U8", "3 or 4, as loaded"⟩]

/-- The texts of the dictionary tables (R109), part 2. -/
def entryTexts2 : List EntryText := [
  ⟨0x3303, 0x3303, 0x04, 0x04, "Descriptor count", "U16", "DESC_COUNT"⟩,
  ⟨0x3303, 0x3303, 0x05, 0x05, "Tensor count", "U16", "TENSOR_COUNT"⟩,
  ⟨0x3303, 0x3303, 0x06, 0x06, "Instances running", "U16", "0 to MAX_INFLIGHT"⟩,
  ⟨0x3303, 0x3303, 0x07, 0x07, "Capsules completed", "U64", "Since load"⟩,
  ⟨0x3303, 0x3303, 0x08, 0x08, "Budget stops", "U64", "Completions with ST_BUDGET since load"⟩,
  ⟨0x3303, 0x3303, 0x09, 0x09, "Deadline stops", "U64", "Completions with ST_DEADLINE since load"⟩,
  ⟨0x3303, 0x3303, 0x0A, 0x0A, "Group binding", "ARR of 16 U64", "Element g: bit c set when clock group c is bound to plan group g"⟩,
  ⟨0x3303, 0x3303, 0x0B, 0x0B, "Last budget spend", "ARR of 4 U64", "Probes, scanned vectors, flash reads, matrix tiles (R257)"⟩,
  ⟨0x3304, 0x3304, 0x00, 0x00, "Plan unload", "U16", "Handle to unload under R236; a handle outside the session's realm gives ST_BAD_PLAN"⟩,
  ⟨0x3305, 0x3305, 0x00, 0x00, "Highest subindex", "U8", "—"⟩,
  ⟨0x3305, 0x3305, 0x01, 0x01, "Load status", "U8", "Per session; status of the session's last load"⟩,
  ⟨0x3305, 0x3305, 0x02, 0x02, "Load reason", "U8", "Reason from *Plan load results*; 0 after success"⟩,
  ⟨0x3305, 0x3305, 0x03, 0x03, "Failing item", "U16", "Descriptor index for reasons 0x04–0x0A, tensor index for 0x0C, group for 0x0D–0x0F; 0 otherwise"⟩,
  ⟨0x3305, 0x3305, 0x04, 0x04, "Assigned handle", "U16", "Handle of the session's last successful load"⟩,
  ⟨0x3306, 0x3306, 0x00, 0x00, "Plan image", "DOMAIN", "A complete image; the load runs when the segment marked LAST completes"⟩,
  ⟨0x3000, 0x3000, 0x00, 0x00, "Indexes active", "U8", "Active indexes of the session's realm; of the device in realm 0 sessions"⟩,
  ⟨0x3001, 0x3001, 0x00, 0x00, "Index limit", "U8", "Index slots, device-wide"⟩,
  ⟨0x3020, 0x305F, 0x00, 0x00, "Highest subindex", "U8", "—"⟩,
  ⟨0x3020, 0x305F, 0x01, 0x01, "Index descriptor", "OCT 1,024", "*Index descriptor* and stripe words; R266–R268"⟩,
  ⟨0x3020, 0x305F, 0x02, 0x02, "Index state", "U8", "0 absent, 1 formatting, 2 loading, 3 serving"⟩,
  ⟨0x3020, 0x305F, 0x03, 0x03, "Index open", "BOOL", "1: checks R271 and moves loading to serving. 0: moves serving to loading. A write of 1 to a serving index, or of 0 to a loading index, completes with ST_OK and changes nothing. ST_BUSY while formatting. ST_BAD_ARG for a slot that holds no index; a slot of another realm gives ST_VIOLATION (R78)"⟩,
  ⟨0x3020, 0x305F, 0x04, 0x04, "Live vectors", "U64", "Appended entries not tombstoned"⟩,
  ⟨0x3020, 0x305F, 0x05, 0x05, "Tombstoned vectors", "U64", "Entries tombstoned and not yet reclaimed"⟩,
  ⟨0x3020, 0x305F, 0x06, 0x06, "Segments", "U32", "Segments across all stripes"⟩,
  ⟨0x3020, 0x305F, 0x07, 0x07, "Free segment rows", "U64", "Rows from FREE_ROW to the end, summed over stripe banks"⟩,
  ⟨0x3020, 0x305F, 0x08, 0x08, "Scans", "U64", "SCAN and GRAPH_STEP instances completed since start"⟩,
  ⟨0x3020, 0x305F, 0x09, 0x09, "Cells triggered", "U64", "Since start"⟩,
  ⟨0x3020, 0x305F, 0x0A, 0x0A, "Cells skipped", "U64", "Skipped by R294 since start"⟩,
  ⟨0x3020, 0x305F, 0x0B, 0x0B, "Vectors abandoned", "U64", "Sum of ABANDONED since start"⟩,
  ⟨0x3020, 0x305F, 0x0C, 0x0C, "Original cache hits", "U64", "Since start"⟩,
  ⟨0x3020, 0x305F, 0x0D, 0x0D, "Original flash reads", "U64", "Distinct blocks read since start"⟩,
  ⟨0x3020, 0x305F, 0x0E, 0x0E, "Stale candidates", "U64", "NaN scores given under R303 since start"⟩,
  ⟨0x3020, 0x305F, 0x0F, 0x0F, "Tombstones met", "U64", "Sum of the records' TOMBSTONED counts since start (R299)"⟩,
  ⟨0x3020, 0x305F, 0x10, 0x10, "Index scale register set", "DOMAIN", "Set 0 of the index (R729): U16 length 1–4,096, U16 reserved, then that many I8 SEs; empty when the index binds no set. Writable only while the index is not active"⟩,
  ⟨0x3310, 0x3310, 0x00, 0x00, "Highest subindex", "U8", "—"⟩,
  ⟨0x3310, 0x3310, 0x01, 0x01, "Contributions accepted", "U64", "At this node as root, since start"⟩,
  ⟨0x3310, 0x3310, 0x02, 0x02, "Repeated contributions", "U64", "Discarded under R350, since start"⟩,
  ⟨0x3310, 0x3310, 0x03, 0x03, "Late contributions", "U64", "Discarded under R353, since start"⟩,
  ⟨0x3310, 0x3310, 0x04, 0x04, "Collectives missed", "U64", "Root capsules ended with ST_DEADLINE under R352, since start"⟩,
  ⟨0x3310, 0x3310, 0x05, 0x05, "Collectives ended by member", "U64", "Root capsules ended by a member's status or ST_NODE_LOST, since start"⟩,
  ⟨0x3310, 0x3310, 0x06, 0x06, "Last missing rank", "U16", "Lowest missing rank of the last collective that ended with ST_DEADLINE; 0xFFFF when there is none"⟩,
  ⟨0x3310, 0x3310, 0x07, 0x07, "Displacements", "U64", "Sum of DISPLACED over completed selections, since start"⟩,
  ⟨0x3310, 0x3310, 0x08, 0x08, "Selections completed", "U64", "SELECT and MERGE instances completed, since start"⟩,
  ⟨0x3060, 0x309F, 0x00, 0x00, "Highest subindex", "U8", "—"⟩,
  ⟨0x3060, 0x309F, 0x01, 0x01, "Position table address", "U64", "T1 address under R365"⟩,
  ⟨0x3060, 0x309F, 0x02, 0x02, "Update clock group", "U8", "0–35; 0xFF none"⟩,
  ⟨0x3060, 0x309F, 0x03, 0x03, "Retirement wait limit", "U32", "0–60,000 ms"⟩,
  ⟨0x3060, 0x309F, 0x04, 0x04, "Consolidation threshold", "U8", "0, or 1–100 %; 0 turns automatic consolidation by tombstones off"⟩,
  ⟨0x3060, 0x309F, 0x05, 0x05, "Imbalance limit", "U8", "0, or 110–255 %; 0 turns automatic rebalancing off"⟩,
  ⟨0x3060, 0x309F, 0x06, 0x06, "Consolidation start", "U32", "Cell number below C, or 0xFFFF_FFFF for all"⟩,
  ⟨0x3060, 0x309F, 0x07, 0x07, "Inserts", "U64", "INSERT records applied since start, including UPSERTs applied as inserts"⟩,
  ⟨0x3060, 0x309F, 0x08, 0x08, "Deletes", "U64", "DELETE records that tombstoned a live version"⟩,
  ⟨0x3060, 0x309F, 0x09, 0x09, "Upserts", "U64", "UPSERT records that replaced a live version"⟩,
  ⟨0x3060, 0x309F, 0x0A, 0x0A, "Pending tombstones", "U32", "0–65,536"⟩,
  ⟨0x3060, 0x309F, 0x0B, 0x0B, "Pending retirements", "U32", "0–65,536"⟩,
  ⟨0x3060, 0x309F, 0x0C, 0x0C, "Segments moved", "U64", "Switches under R382"⟩,
  ⟨0x3060, 0x309F, 0x0D, 0x0D, "Segments freed", "U64", "Sources freed under R382"⟩,
  ⟨0x3060, 0x309F, 0x0E, 0x0E, "Insert saturations", "U64", "R370"⟩,
  ⟨0x3060, 0x309F, 0x0F, 0x0F, "Insert NaN inputs", "U64", "R370"⟩,
  ⟨0x3060, 0x309F, 0x10, 0x10, "Early retirements", "U64", "Retirements by the wait limit (R378)"⟩,
  ⟨0x3100, 0x3100, 0x00, 0x00, "Tables active", "U8", "Of the session's realm; of the device in realm 0 sessions"⟩,
  ⟨0x3101, 0x3101, 0x00, 0x00, "Table limit", "U8", "Table slots, device-wide"⟩,
  ⟨0x3120, 0x315F, 0x00, 0x00, "Highest subindex", "U8", "—"⟩,
  ⟨0x3120, 0x315F, 0x01, 0x01, "Table descriptor", "OCT 64", "*Table descriptor*; R390"⟩,
  ⟨0x3120, 0x315F, 0x02, 0x02, "Table state", "U8", "0 absent, 1 formatting, 2 serving"⟩,
  ⟨0x3120, 0x315F, 0x03, 0x03, "Default row", "DOMAIN", "Empty, or RS bytes; empty means zeros. Takes effect at commit, written into record 0 by R392"⟩,
  ⟨0x3120, 0x315F, 0x04, 0x04, "Table epoch", "U64", "*Hot rows*"⟩,
  ⟨0x3120, 0x315F, 0x05, 0x05, "Rows present", "U64", "Rows with PRESENT = 1"⟩,
  ⟨0x3120, 0x315F, 0x06, 0x06, "Row reads", "U64", "Distinct reads by GATHER, since start"⟩,
  ⟨0x3120, 0x315F, 0x07, 0x07, "Coalesced positions", "U64", "Output positions served without a read"⟩,
  ⟨0x3120, 0x315F, 0x08, 0x08, "CAM overflows", "U64", "R398"⟩,
  ⟨0x3120, 0x315F, 0x09, 0x09, "Read retries", "U64", "R393"⟩,
  ⟨0x3120, 0x315F, 0x0A, 0x0A, "Invalid indices", "U64", "R395, R402"⟩,
  ⟨0x3120, 0x315F, 0x0B, 0x0B, "Default rows served", "U64", "R395"⟩,
  ⟨0x3120, 0x315F, 0x0C, 0x0C, "Row flips", "U64", "By SCATTER and ROW_DELETE"⟩,
  ⟨0x3120, 0x315F, 0x0D, 0x0D, "Promotions", "U64", "*Hot rows*"⟩,
  ⟨0x3120, 0x315F, 0x0E, 0x0E, "Demotions", "U64", "*Hot rows*"⟩,
  ⟨0x3120, 0x315F, 0x0F, 0x0F, "Recopies", "U64", "*Hot rows*"⟩,
  ⟨0x3120, 0x315F, 0x10, 0x10, "Rows local", "U32", "Forwarding entries in state LOCAL or COPYING_OUT"⟩,
  ⟨0x3120, 0x315F, 0x11, 0x11, "Table scale register set", "DOMAIN", "Set 0 of the table (R729): U16 length 1–4,096, U16 reserved, then that many I8 SEs; empty when the table binds no set. Writable only while the table is not active"⟩]

/-- The texts of the dictionary tables (R109), part 3. -/
def entryTexts3 : List EntryText := [
  ⟨0x3180, 0x3180, 0x00, 0x00, "Pools active", "U8", "Of the session's realm; of the device in realm 0 sessions"⟩,
  ⟨0x3181, 0x3181, 0x00, 0x00, "Pool limit", "U8", "Pool slots, device-wide"⟩,
  ⟨0x3200, 0x320F, 0x00, 0x00, "Highest subindex", "U8", "—"⟩,
  ⟨0x3200, 0x320F, 0x01, 0x01, "Pool descriptor", "OCT 64", "*Pool descriptor*; R414"⟩,
  ⟨0x3200, 0x320F, 0x02, 0x02, "Pool state", "U8", "0 absent, 1 formatting, 2 serving"⟩,
  ⟨0x3200, 0x320F, 0x03, 0x03, "Sequence select", "U16", "Per session; the sequence that subindex 7 reads"⟩,
  ⟨0x3200, 0x320F, 0x04, 0x04, "Page size mask", "U16", "Bits 4–12; V60"⟩,
  ⟨0x3200, 0x320F, 0x05, 0x05, "Sequence reset", "U16", "Sequence number; R423"⟩,
  ⟨0x3200, 0x320F, 0x06, 0x06, "Pending token set", "U64", "Sequence in [15:0], token in [63:32]; R423"⟩,
  ⟨0x3200, 0x320F, 0x07, 0x07, "Sequence record", "OCT 2,048", "*Sequence record* of the selected sequence"⟩,
  ⟨0x3200, 0x320F, 0x08, 0x08, "Granules free", "U32", "—"⟩,
  ⟨0x3200, 0x320F, 0x09, 0x09, "Service bytes", "U64", "Bytes of keyed pages"⟩,
  ⟨0x3200, 0x320F, 0x0A, 0x0A, "Service entries", "U32", "Keys held"⟩,
  ⟨0x3200, 0x320F, 0x0B, 0x0B, "Pinned entries", "U32", "Entries with PINS above 0"⟩,
  ⟨0x3200, 0x320F, 0x0C, 0x0C, "Evictions", "U64", "R451, since start"⟩,
  ⟨0x3200, 0x320F, 0x0D, 0x0D, "Claim conflicts", "U64", "R433, since start"⟩,
  ⟨0x3200, 0x320F, 0x0E, 0x0E, "Empty attention rows", "U64", "R430, since start"⟩,
  ⟨0x3200, 0x320F, 0x0F, 0x0F, "Drafts left out", "U64", "R441, since start"⟩,
  ⟨0x3200, 0x320F, 0x10, 0x10, "Tokens accepted", "U64", "R444, since start"⟩,
  ⟨0x2460, 0x2460, 0x00, 0x00, "Highest subindex", "U8", "—"⟩,
  ⟨0x2460, 0x2460, 0x01, 0x20, "Allotment table", "ARR of 96 U16", "*Allotment word* of GiB 0–95 of stack s in subindex s + 1 (R457)"⟩,
  ⟨0x2461, 0x2461, 0x00, 0x00, "Highest subindex", "U8", "—"⟩,
  ⟨0x2461, 0x2461, 0x01, 0x01, "Dirty limit", "U8", "10–90 % of a realm's cache"⟩,
  ⟨0x2461, 0x2461, 0x02, 0x02, "Write-back age", "U16", "0–10,000 ms; 0 writes every write through"⟩,
  ⟨0x2462, 0x2462, 0x00, 0x00, "Highest subindex", "U8", "—"⟩,
  ⟨0x2462, 0x2462, 0x01, 0x01, "Cache size", "U16", "GiB with CACHE = 1"⟩,
  ⟨0x2462, 0x2462, 0x02, 0x02, "Cached sectors", "U64", "Sectors with PRESENT = 1"⟩,
  ⟨0x2462, 0x2462, 0x03, 0x03, "Dirty sectors", "U64", "Sectors with DIRTY = 1"⟩,
  ⟨0x2462, 0x2462, 0x04, 0x04, "Cache hits", "U64", "Sector accesses served from the cache, since start"⟩,
  ⟨0x2462, 0x2462, 0x05, 0x05, "Cache misses", "U64", "Sectors fetched from homes, since start"⟩,
  ⟨0x2462, 0x2462, 0x06, 0x06, "Write-backs", "U64", "Sectors written back, since start"⟩,
  ⟨0x2462, 0x2462, 0x07, 0x07, "Sectors lost", "U64", "R480 and R482, since start"⟩,
  ⟨0x2462, 0x2462, 0x08, 0x08, "Pool flush", "BOOL", "1 runs R473; 0 has no effect"⟩,
  ⟨0x2B80, 0x2B80, 0x00, 0x00, "Highest subindex", "U8", "—"⟩,
  ⟨0x2B80, 0x2B80, 0x01, 0x01, "Lend share", "U8", "0–50 % of 3,072 GiB"⟩,
  ⟨0x2B80, 0x2B80, 0x02, 0x02, "Lend reserve", "U16", "0–3,072 GiB"⟩,
  ⟨0x2B80, 0x2B80, 0x03, 0x03, "Grace time", "U16", "50–10,000 ms"⟩,
  ⟨0x2B80, 0x2B80, 0x04, 0x04, "GiB lent", "U16", "—"⟩,
  ⟨0x2B80, 0x2B80, 0x05, 0x05, "Reclaim", "U16", "GiB to reclaim under R475, 1–3,072"⟩,
  ⟨0x2B80, 0x2B80, 0x06, 0x06, "Reclaims", "U64", "Reclaim notices sent, since start"⟩,
  ⟨0x2B80, 0x2B80, 0x07, 0x07, "Migration recopies", "U64", "Sector recopies under R478, since start"⟩,
  ⟨0x2B80, 0x2B80, 0x08, 0x08, "Structure GiB", "U16", "G_s of R459 for the active configuration"⟩,
  ⟨0x2B81, 0x2B81, 0x00, 0x00, "Pool segment table", "DOMAIN", "65,536 *Pool segment records*, segment 0 first; 1 MiB"⟩,
  ⟨0x2B82, 0x2B82, 0x00, 0x00, "Lent GiB table", "ARR of 3,072 U32", "Element g: borrower node in [15:0], segment in [31:16]; 0xFFFF_FFFF not lent"⟩,
  ⟨0x2800, 0x2800, 0x00, 0x00, "Channel count", "U8", "—"⟩,
  ⟨0x2801, 0x2801, 0x00, 0x00, "Channel states", "ARR of 64 U8", "0 in service, 1 no LUN in service, 2 group unused, 3 off in MINIMAL mode"⟩,
  ⟨0x2802, 0x2802, 0x00, 0x00, "LUN states", "ARR of 2,048 U8", "Element by LUN number: 0 in service, 1 absent, 2 mismatch, 3 training failed, 4 failed (R534)"⟩,
  ⟨0x2810, 0x2810, 0x00, 0x00, "Highest subindex", "U8", "—"⟩,
  ⟨0x2810, 0x2810, 0x01, 0x10, "Media profile select", "U8", "Profile 0–15 of group g in subindex g + 1"⟩,
  ⟨0x2820, 0x282F, 0x00, 0x00, "Media profile", "OCT 64", "*Media profile*; R492"⟩,
  ⟨0x2830, 0x2830, 0x00, 0x00, "Highest subindex", "U8", "—"⟩,
  ⟨0x2830, 0x2830, 0x01, 0x10, "Worst read", "U32", "WR of group g in µs (R493); 0 when unused"⟩,
  ⟨0x2832, 0x2832, 0x00, 0x00, "Group select", "U8", "Per session; group 0–15 that 0x2833 addresses"⟩,
  ⟨0x2833, 0x2833, 0x00, 0x00, "Highest subindex", "U8", "—"⟩,
  ⟨0x2833, 0x2833, 0x01, 0x01, "Blocks in service", "U32", "—"⟩,
  ⟨0x2833, 0x2833, 0x02, 0x02, "Blocks free", "U32", "—"⟩,
  ⟨0x2833, 0x2833, 0x03, 0x03, "Blocks retired", "U32", "Since first use"⟩,
  ⟨0x2833, 0x2833, 0x04, 0x04, "Spare", "U32", "R535, in blocks"⟩,
  ⟨0x2833, 0x2833, 0x05, 0x05, "Lowest erase count", "U32", "—"⟩,
  ⟨0x2833, 0x2833, 0x06, 0x06, "Highest erase count", "U32", "—"⟩,
  ⟨0x2833, 0x2833, 0x07, 0x07, "Mean erase count", "U32", "—"⟩,
  ⟨0x2840, 0x2840, 0x00, 0x00, "Highest subindex", "U8", "—"⟩,
  ⟨0x2840, 0x2840, 0x01, 0x01, "Map state", "U8", "0 off, 1 loading or rebuilding, 2 ready"⟩,
  ⟨0x2840, 0x2840, 0x02, 0x02, "Map source", "U8", "Last start: 0 no volumes, 1 checkpoint, 2 scan"⟩,
  ⟨0x2840, 0x2840, 0x03, 0x03, "Scan progress", "U8", "0–100 %"⟩,
  ⟨0x2840, 0x2840, 0x04, 0x04, "Last load time", "U32", "ms"⟩,
  ⟨0x2840, 0x2840, 0x05, 0x05, "Map size", "U32", "MiB"⟩,
  ⟨0x2840, 0x2840, 0x06, 0x06, "Clean shutdown", "BOOL", "1 runs R519; 0 has no effect"⟩,
  ⟨0x2840, 0x2840, 0x07, 0x07, "Coalescing window", "U16", "20–5,000 µs"⟩,
  ⟨0x2850, 0x2850, 0x00, 0x00, "Highest subindex", "U8", "—"⟩,
  ⟨0x2850, 0x2850, 0x01, 0x01, "Collection start", "U8", "2–20 %"⟩,
  ⟨0x2850, 0x2850, 0x02, 0x02, "Write stall", "U8", "1–10 %, below collection start"⟩,
  ⟨0x2850, 0x2850, 0x03, 0x03, "Wear spread limit", "U16", "50–5,000 cycles"⟩,
  ⟨0x2850, 0x2850, 0x04, 0x04, "Slots copied", "U64", "By collection and wear levelling, since start"⟩,
  ⟨0x2850, 0x2850, 0x05, 0x05, "Wear moves", "U64", "Blocks moved under R537, since start"⟩,
  ⟨0x2850, 0x2850, 0x06, 0x06, "Erases", "U64", "Since start"⟩,
  ⟨0x2850, 0x2850, 0x07, 0x07, "Read retries", "U64", "Retry levels tried, since start"⟩,
  ⟨0x2860, 0x2860, 0x00, 0x00, "Highest subindex", "U8", "—"⟩,
  ⟨0x2860, 0x2860, 0x01, 0x08, "Health thresholds", "U8 or U16", "Percentages 1–100; failure rates 1–10,000 per 10^6, U16"⟩,
  ⟨0x2880, 0x28BF, 0x00, 0x00, "Highest subindex", "U8", "—"⟩]

/-- The texts of the dictionary tables (R109), part 4. -/
def entryTexts4 : List EntryText := [
  ⟨0x2880, 0x28BF, 0x01, 0x01, "Volume descriptor", "OCT 32", "*Volume descriptor*; R497"⟩,
  ⟨0x2880, 0x28BF, 0x02, 0x02, "Volume state", "U8", "0 absent, 1 serving, 2 read-only, 3 removing"⟩,
  ⟨0x2880, 0x28BF, 0x03, 0x03, "Blocks mapped", "U64", "—"⟩,
  ⟨0x2880, 0x28BF, 0x04, 0x04, "Blocks read", "U64", "Since start"⟩,
  ⟨0x2880, 0x28BF, 0x05, 0x05, "Blocks written", "U64", "Since start"⟩,
  ⟨0x2880, 0x28BF, 0x06, 0x06, "Slots programmed", "U64", "Including copies, since start"⟩,
  ⟨0x2880, 0x28BF, 0x07, 0x07, "Unreadable blocks", "U64", "Marked under R530 and R534"⟩,
  ⟨0x2880, 0x28BF, 0x08, 0x08, "Media errors", "U64", "Reads ended with ST_MEDIA, since start"⟩,
  ⟨0x2C00, 0x2C00, 0x00, 0x00, "Highest subindex", "U8", "—"⟩,
  ⟨0x2C00, 0x2C00, 0x01, 0x01, "Carillon entries", "U32", "Flows waiting on either level"⟩,
  ⟨0x2C00, 0x2C00, 0x02, 0x02, "Carried releases", "U64", "R556, since start"⟩,
  ⟨0x2C00, 0x2C00, 0x03, 0x03, "Horizon clamps", "U64", "R555, since start"⟩,
  ⟨0x2C00, 0x2C00, 0x04, 0x04, "C0 admission waits", "U64", "C0 capsules that waited for E, since start"⟩,
  ⟨0x2C00, 0x2C00, 0x05, 0x05, "Bound plan select", "U16", "Per session; plan handle for subindices 6–10"⟩,
  ⟨0x2C00, 0x2C00, 0x06, 0x06, "C0 floors", "ARR of 3 U64", "F_P, F_V, F_M per second (R561)"⟩,
  ⟨0x2C00, 0x2C00, 0x07, 0x07, "Fixed overhead", "U32", "L0(p) in ns"⟩,
  ⟨0x2C00, 0x2C00, 0x08, 0x08, "Reserved work time", "U32", "S_A(p) in ns"⟩,
  ⟨0x2C00, 0x2C00, 0x09, 0x09, "Flash waves", "U16", "n_F of the plan's last C0 capsule"⟩,
  ⟨0x2C00, 0x2C00, 0x0A, 0x0A, "Worst read used", "U32", "WR of R560 in µs"⟩,
  ⟨0x2C01, 0x2CFF, 0x00, 0x00, "Highest subindex", "U8", "—"⟩,
  ⟨0x2C01, 0x2CFF, 0x01, 0x01, "C0 reservation", "U16", "ρ_r, 0–1,000 per mille; V42"⟩,
  ⟨0x2C01, 0x2CFF, 0x02, 0x08, "Class weights", "U16", "Weight of C1 to C7 in subindices 2 to 8; 0 scavenger"⟩,
  ⟨0x2C01, 0x2CFF, 0x09, 0x09, "Class caps", "ARR of 7 U32", "Admissions per second of C1–C7; 0xFFFF_FFFF no cap; 0 under R558"⟩,
  ⟨0x2C01, 0x2CFF, 0x0A, 0x0A, "Green requests", "ARR of 8 U64", "Per class, since start"⟩,
  ⟨0x2C01, 0x2CFF, 0x0B, 0x0B, "Yellow requests", "ARR of 8 U64", "Per class, since start"⟩,
  ⟨0x2C01, 0x2CFF, 0x0C, 0x0C, "Red dropped", "ARR of 8 U64", "Per class, since start"⟩,
  ⟨0x2C01, 0x2CFF, 0x0D, 0x0D, "Red re-marked", "ARR of 8 U64", "Per class, since start"⟩,
  ⟨0x2D01, 0x2DFF, 0x00, 0x00, "Highest subindex", "U8", "—"⟩,
  ⟨0x2D01, 0x2DFF, 0x01, 0x08, "Policer record", "OCT 32", "*Policer record* of class c in subindex c + 1; V40, V41"⟩,
  ⟨0x1100, 0x1100, 0x00, 0x00, "Port count", "U8", "—"⟩,
  ⟨0x1101, 0x1105, 0x00, 0x00, "Highest subindex", "U8", "—"⟩,
  ⟨0x1101, 0x1101, 0x01, 0x02, "Link state", "U8", "0 down, 1 training, 2 up, 3 up at MINIMAL width"⟩,
  ⟨0x1102, 0x1102, 0x01, 0x02, "Link width", "U8", "Lanes: 0, 1, 2, 4 or 8"⟩,
  ⟨0x1103, 0x1103, 0x01, 0x02, "Link speed", "U8", "Current Link Speed encoding of the PCIe Link Status register, 1–6; 0 when down"⟩,
  ⟨0x1104, 0x1104, 0x01, 0x02, "PF role", "U8", "0 FULL, 1 OBSERVER (R569)"⟩,
  ⟨0x1105, 0x1105, 0x01, 0x02, "VFs enabled", "U8", "NumVFs of the SR-IOV capability, 0–63"⟩,
  ⟨0x1110, 0x1110, 0x00, 0x00, "Highest subindex", "U8", "—"⟩,
  ⟨0x1110, 0x1110, 0x01, 0x01, "MAC address", "OCT 6", "Management-link MAC address, burned in MANUFACTURE; source of the link-local address"⟩,
  ⟨0x1111, 0x1111, 0x00, 0x00, "Highest subindex", "U8", "—"⟩,
  ⟨0x1111, 0x1111, 0x01, 0x01, "PLCA node identifier", "U8", "0–254: PLCA node, 0 being the coordinator; 255: CSMA/CD without PLCA"⟩,
  ⟨0x1111, 0x1111, 0x02, 0x02, "PLCA node count", "U8", "1–255; transmit opportunities per PLCA cycle, used when the node identifier is 0"⟩,
  ⟨0x1112, 0x1112, 0x00, 0x00, "HDAP UDP port", "U16", "1,024–65,535"⟩,
  ⟨0x1113, 0x1113, 0x00, 0x00, "Management link state", "U8", "0 down, 1 up under CSMA/CD, 2 up under PLCA"⟩,
  ⟨0x1120, 0x1123, 0x00, 0x00, "Highest subindex", "U8", "—"⟩,
  ⟨0x1120, 0x1121, 0x01, 0x3F, "VF realm", "U8", "H0 at 0x1120 and H1 at 0x1121, VF v in subindex v; 0 unbound, 1–255"⟩,
  ⟨0x1122, 0x1123, 0x01, 0x3F, "Effective VF realm", "U8", "Binding in force (R568)"⟩,
  ⟨0x1130, 0x1130, 0x00, 0x00, "Highest subindex", "U8", "—"⟩,
  ⟨0x1130, 0x1130, 0x01, 0x01, "Capsules accepted", "ARR of 2 U64", "Since start"⟩,
  ⟨0x1130, 0x1130, 0x02, 0x02, "Capsules refused at ingress", "ARR of 2 U64", "By R579, since start"⟩,
  ⟨0x1130, 0x1130, 0x03, 0x03, "Aperture overflows", "ARR of 2 U64", "R575, all functions, since start"⟩,
  ⟨0x1130, 0x1130, 0x04, 0x04, "Malformed aperture writes", "ARR of 2 U64", "R573, since start"⟩,
  ⟨0x1130, 0x1130, 0x05, 0x05, "Completions discarded", "ARR of 2 U64", "R584, since start"⟩,
  ⟨0x1130, 0x1130, 0x06, 0x06, "Function level resets", "ARR of 2 U64", "Since start"⟩,
  ⟨0x1130, 0x1130, 0x07, 0x07, "Surprise removals", "ARR of 2 U64", "R592, since start"⟩,
  ⟨0x2A00, 0x2A00, 0x00, 0x00, "Port count", "U8", "—"⟩,
  ⟨0x2A01, 0x2A01, 0x00, 0x00, "Link states", "ARR of 32 U8", "Element 4p + l: 0 down, 1 training, 2 up, 3 one lane narrower (R598), 4 refused (R603), 5 not used by the split, 6 off in MINIMAL mode"⟩,
  ⟨0x2A02, 0x2A02, 0x00, 0x00, "Link versions", "ARR of 32 U8", "Negotiated VERSION; 0 when down"⟩,
  ⟨0x2A10, 0x2A17, 0x00, 0x00, "Highest subindex", "U8", "—"⟩,
  ⟨0x2A10, 0x2A17, 0x01, 0x01, "Port width", "U8", "0 1×8, 1 2×4, 2 4×2; V50"⟩,
  ⟨0x2A10, 0x2A17, 0x02, 0x02, "Ethernet mode", "BOOL", "R597; V51, V52"⟩,
  ⟨0x2A10, 0x2A17, 0x03, 0x03, "Lowest AFP version", "U8", "0x23, 0x30 or 0x31; V51, V53"⟩,
  ⟨0x2A10, 0x2A17, 0x04, 0x04, "Encryption required", "BOOL", "V53"⟩,
  ⟨0x2A10, 0x2A17, 0x05, 0x05, "FEC corrected", "ARR of 4 U64", "Codewords, since start"⟩,
  ⟨0x2A10, 0x2A17, 0x06, 0x06, "FEC uncorrectable", "ARR of 4 U64", "Codewords, since start"⟩,
  ⟨0x2A10, 0x2A17, 0x07, 0x07, "Link resends", "ARR of 4 U64", "R599, since start"⟩,
  ⟨0x2A10, 0x2A17, 0x08, 0x08, "Link downs", "ARR of 4 U64", "R600, since start"⟩,
  ⟨0x2A20, 0x2A20, 0x00, 0x00, "Highest subindex", "U8", "—"⟩,
  ⟨0x2A20, 0x2A20, 0x01, 0x01, "AFP UDP port", "U16", "1,024–65,535"⟩,
  ⟨0x2A20, 0x2A20, 0x02, 0x02, "Class DSCP", "ARR of 8 U8", "DSCP 0–63 of C0–C7"⟩,
  ⟨0x2A20, 0x2A20, 0x03, 0x12, "Link address", "OCT 16", "IPv6 address of Ethernet link 2p + l in subindex 2p + l + 3"⟩,
  ⟨0x2A30, 0x2A30, 0x00, 0x00, "Highest subindex", "U8", "—"⟩,
  ⟨0x2A30, 0x2A30, 0x01, 0x01, "Node identifier", "U16", "1–4,095 from IDENTITY; 0 before"⟩,
  ⟨0x2A30, 0x2A30, 0x02, 0x02, "Fabric manager session", "U8", "0 none, 1 authenticated"⟩,
  ⟨0x2A30, 0x2A30, 0x03, 0x03, "Topology place", "U32", "Rack [31:24], slot [23:16], failure domain [15:0]"⟩,
  ⟨0x2A30, 0x2A30, 0x04, 0x04, "Domain state", "U8", "0 not started, 1 announcing, 2 identified, 3 composed"⟩,
  ⟨0x2A30, 0x2A30, 0x05, 0x05, "Announces sent", "U32", "Since start"⟩,
  ⟨0x2A40, 0x2A40, 0x00, 0x00, "Highest subindex", "U8", "—"⟩,
  ⟨0x2A40, 0x2A40, 0x01, 0x01, "Time reference node", "U16", "From IDENTITY"⟩,
  ⟨0x2A40, 0x2A40, 0x02, 0x02, "Time aligned", "BOOL", "The time base lies within ±100 ns of the reference (R609)"⟩,
  ⟨0x2A40, 0x2A40, 0x03, 0x03, "Offset from reference", "I32", "ns, last measured"⟩]

/-- The texts of the dictionary tables (R109), part 5. -/
def entryTexts5 : List EntryText := [
  ⟨0x2A40, 0x2A40, 0x04, 0x04, "Time exchanges", "U64", "Since start"⟩,
  ⟨0x2A50, 0x2A50, 0x00, 0x00, "Highest subindex", "U8", "—"⟩,
  ⟨0x2A50, 0x2A50, 0x01, 0x01, "Epoch grace", "U16", "0–10,000 ms"⟩,
  ⟨0x2A50, 0x2A50, 0x02, 0x02, "Response timeout", "U32", "100–1,000,000 µs"⟩,
  ⟨0x2A50, 0x2A50, 0x03, 0x03, "Duplicate window", "U16", "10–10,000 ms"⟩,
  ⟨0x2A50, 0x2A50, 0x04, 0x04, "Ownership audit time", "U16", "1–10,000 ms"⟩,
  ⟨0x2A50, 0x2A50, 0x05, 0x05, "Announce window", "U16", "100–60,000 ms"⟩,
  ⟨0x2A50, 0x2A50, 0x06, 0x06, "Link loss time", "U16", "20–10,000 µs"⟩,
  ⟨0x2A60, 0x2A9F, 0x00, 0x00, "Highest subindex", "U8", "—"⟩,
  ⟨0x2A60, 0x2A9F, 0x01, 0x01, "Composition", "U16", "Identifier; 0 free slot"⟩,
  ⟨0x2A60, 0x2A9F, 0x02, 0x02, "Composition realm", "U8", "—"⟩,
  ⟨0x2A60, 0x2A9F, 0x03, 0x03, "Epoch", "U32", "Installed epoch"⟩,
  ⟨0x2A60, 0x2A9F, 0x04, 0x04, "Own rank", "U16", "0–511; 0xFFFF while shadowing"⟩,
  ⟨0x2A60, 0x2A9F, 0x05, 0x05, "Members", "U16", "M"⟩,
  ⟨0x2A60, 0x2A9F, 0x06, 0x06, "Member table", "ARR of 512 U16", "Node of each rank; 0 vacant"⟩,
  ⟨0x2A60, 0x2A9F, 0x07, 0x07, "Ownership table", "ARR of 4,096 U16", "Owner rank of each unit"⟩,
  ⟨0x2A60, 0x2A9F, 0x08, 0x08, "Composition state", "U8", "0 none, 1 active, 2 degraded, 3 removed"⟩,
  ⟨0x2A60, 0x2A9F, 0x09, 0x09, "Epoch installed at", "U64", "Global time base"⟩,
  ⟨0x2AA0, 0x2AA0, 0x00, 0x00, "Highest subindex", "U8", "—"⟩,
  ⟨0x2AA0, 0x2AA0, 0x01, 0x01, "Units owned", "U32", "Across compositions"⟩,
  ⟨0x2AA0, 0x2AA0, 0x02, 0x02, "Units unresolved", "U32", "In SURRENDERED, PREPARED or COMPLETE"⟩,
  ⟨0x2AA0, 0x2AA0, 0x03, 0x03, "Retry-owner answers", "U64", "R622, since start"⟩,
  ⟨0x2AA0, 0x2AA0, 0x04, 0x04, "Audits", "U64", "R623, since start"⟩,
  ⟨0x2AA0, 0x2AA0, 0x05, 0x05, "Transfers completed", "U64", "Since start"⟩,
  ⟨0x2AB0, 0x2AB0, 0x00, 0x00, "Highest subindex", "U8", "—"⟩,
  ⟨0x2AB0, 0x2AB0, 0x01, 0x01, "Shadow role", "U8", "0 none, 1 shadow, 2 working node"⟩,
  ⟨0x2AB0, 0x2AB0, 0x02, 0x02, "Shadow partner", "U16", "Node identifier"⟩,
  ⟨0x2AB0, 0x2AB0, 0x03, 0x03, "Overlap threshold", "F32", "0–1"⟩,
  ⟨0x2AB0, 0x2AB0, 0x04, 0x04, "Absolute tolerance", "F32", "0 or above"⟩,
  ⟨0x2AB0, 0x2AB0, 0x05, 0x05, "Relative tolerance", "F32", "0–1"⟩,
  ⟨0x2AB0, 0x2AB0, 0x06, 0x06, "Agreement window", "U32", "100–1,000,000 requests"⟩,
  ⟨0x2AB0, 0x2AB0, 0x07, 0x07, "Pass share", "U16", "0–1,000 per mille"⟩,
  ⟨0x2AB0, 0x2AB0, 0x08, 0x08, "Mirror share", "U8", "0–100 % of RUN capsules"⟩,
  ⟨0x2AB0, 0x2AB0, 0x09, 0x09, "Requests compared", "U64", "Since SHADOW_START"⟩,
  ⟨0x2AB0, 0x2AB0, 0x0A, 0x0A, "Requests agreed", "U64", "Since SHADOW_START"⟩,
  ⟨0x2AB0, 0x2AB0, 0x0B, 0x0B, "Ready for promotion", "BOOL", "R627"⟩,
  ⟨0x2AC0, 0x2AC0, 0x00, 0x00, "Highest subindex", "U8", "—"⟩,
  ⟨0x2AC0, 0x2AC0, 0x01, 0x01, "Epoch-moved answers", "U64", "Since start"⟩,
  ⟨0x2AC0, 0x2AC0, 0x02, 0x02, "Previous-epoch requests served", "U64", "Since start"⟩,
  ⟨0x2AC0, 0x2AC0, 0x03, 0x03, "Requests held for a newer epoch", "U64", "Since start"⟩,
  ⟨0x2AC0, 0x2AC0, 0x04, 0x04, "Duplicates discarded", "U64", "R607, since start"⟩,
  ⟨0x2AC0, 0x2AC0, 0x05, 0x05, "Node-lost endings", "U64", "R617, since start"⟩,
  ⟨0x2AC0, 0x2AC0, 0x06, 0x06, "Messages dropped", "U64", "R605, since start"⟩,
  ⟨0x2E00, 0x2E00, 0x00, 0x00, "Highest subindex", "U8", "—"⟩,
  ⟨0x2E00, 0x2E00, 0x01, 0x01, "Realms active", "U8", "—"⟩,
  ⟨0x2E00, 0x2E00, 0x02, 0x02, "Scrubs pending", "U32", "R637"⟩,
  ⟨0x2E00, 0x2E00, 0x03, 0x03, "Limits reserved", "BOOL", "Object limits of active realms sum within the device limits"⟩,
  ⟨0x2E00, 0x2E00, 0x04, 0x04, "Realm 0 violations", "U64", "R646, since start; realm 0 sessions only"⟩,
  ⟨0x2E01, 0x2EFF, 0x00, 0x00, "Highest subindex", "U8", "—"⟩,
  ⟨0x2E01, 0x2EFF, 0x01, 0x01, "Realm active", "BOOL", "R633"⟩,
  ⟨0x2E01, 0x2EFF, 0x02, 0x02, "Clock groups", "U64", "Bit g: clock group g, 0–35; V30, V31"⟩,
  ⟨0x2E01, 0x2EFF, 0x03, 0x03, "Host shares", "ARR of 4 U16", "Per mille: H0 out, H0 in, H1 out, H1 in; V32"⟩,
  ⟨0x2E01, 0x2EFF, 0x04, 0x04, "Fabric shares", "ARR of 16 U16", "Per mille: port p out in element 2p, in element 2p + 1; V32"⟩,
  ⟨0x2E01, 0x2EFF, 0x05, 0x05, "KV quota", "U64", "Bytes; V34, R452"⟩,
  ⟨0x2E01, 0x2EFF, 0x06, 0x06, "Channel groups", "U16", "Bit g: channel group g (R635)"⟩,
  ⟨0x2E01, 0x2EFF, 0x07, 0x07, "Object limits", "ARR of 6 U16", "Plans, index slots, table slots, KV pool slots, volume slots, sequence-store segments 0–8 (R634)"⟩,
  ⟨0x2E01, 0x2EFF, 0x08, 0x08, "Pool segment limit", "U16", "Segments, 0–65,535"⟩,
  ⟨0x2E01, 0x2EFF, 0x09, 0x09, "Realm name", "STR", "Up to 64 bytes; informative"⟩,
  ⟨0x2E01, 0x2EFF, 0x0A, 0x0A, "ABI 2 admit", "BOOL", "V14"⟩,
  ⟨0x2E01, 0x2EFF, 0x0B, 0x0B, "Capsule 2 admit", "BOOL", "V40"⟩,
  ⟨0x2E01, 0x2EFF, 0x0C, 0x0C, "Realm state", "U8", "0 inactive, 1 active, 2 active with scrubs pending"⟩,
  ⟨0x2E01, 0x2EFF, 0x0D, 0x0D, "Violations", "U64", "R646, since start"⟩,
  ⟨0x5140, 0x5140, 0x00, 0x00, "Highest subindex", "U8", "—"⟩,
  ⟨0x5140, 0x5140, 0x01, 0x01, "Violation records", "ARR of 256 OCT 32", "*Violation record* ring of the selected realm, newest first"⟩,
  ⟨0x5140, 0x5140, 0x02, 0x02, "Records lost", "U64", "R645"⟩,
  ⟨0x5140, 0x5140, 0x03, 0x03, "Violation realm select", "U8", "Per session; realm 0 sessions only"⟩,
  ⟨0x5C00, 0x5C00, 0x00, 0x00, "Highest subindex", "U8", "—"⟩,
  ⟨0x5C00, 0x5C00, 0x01, 0x01, "Life-cycle state", "U8", "Code of *Life-cycle states*"⟩,
  ⟨0x5C00, 0x5C00, 0x02, 0x02, "Transition request", "U8", "Target code (R650)"⟩,
  ⟨0x5C00, 0x5C00, 0x03, 0x03, "Transition token", "OCT 114", "R650"⟩,
  ⟨0x5C00, 0x5C00, 0x04, 0x04, "Transitions armed", "BOOL", "LCSTRAP read 0b01 at the last reset"⟩,
  ⟨0x5C01, 0x5C01, 0x00, 0x00, "Highest subindex", "U8", "—"⟩,
  ⟨0x5C01, 0x5C01, 0x01, 0x01, "Anti-rollback counters", "ARR of 8 U8", "Components 0–7"⟩,
  ⟨0x5C01, 0x5C01, 0x02, 0x02, "Root key status", "ARR of 8 U8", "0 empty, 1 valid, 2 revoked"⟩,
  ⟨0x5C01, 0x5C01, 0x03, 0x03, "Commit security version", "U16", "R660"⟩,
  ⟨0x5C01, 0x5C01, 0x04, 0x04, "Revoke root key", "U8", "R661"⟩,
  ⟨0x5C02, 0x5C02, 0x00, 0x00, "Highest subindex", "U8", "—"⟩,
  ⟨0x5C02, 0x5C02, 0x01, 0x01, "DeviceID public key", "OCT 57", "—"⟩,
  ⟨0x5C02, 0x5C02, 0x02, 0x02, "Certificate chain", "DOMAIN", "DER certificates of R652, DeviceID first"⟩,
  ⟨0x5C03, 0x5C03, 0x00, 0x00, "Measurements", "ARR of 9 OCT 64", "Blocks 1–9, SHAKE256-512"⟩]

/-- The texts of the dictionary tables (R109), part 6. -/
def entryTexts6 : List EntryText := [
  ⟨0x5C10, 0x5C10, 0x00, 0x00, "Highest subindex", "U8", "—"⟩,
  ⟨0x5C10, 0x5C10, 0x01, 0x01, "Attestation nonce", "OCT 32", "Per session; R654"⟩,
  ⟨0x5C10, 0x5C10, 0x02, 0x02, "Attestation report", "OCT 832", "Per session"⟩,
  ⟨0x5C20, 0x5C20, 0x00, 0x00, "Highest subindex", "U8", "—"⟩,
  ⟨0x5C20, 0x5C20, 0x01, 0x01, "Session proof", "OCT 114", "Step 3 of the handshake"⟩,
  ⟨0x5C20, 0x5C20, 0x02, 0x02, "Session protected", "BOOL", "Per session"⟩,
  ⟨0x5C30, 0x5C30, 0x00, 0x00, "Highest subindex", "U8", "—"⟩,
  ⟨0x5C30, 0x5C30, 0x01, 0x08, "Operator key", "OCT 64", "Bytes 0–56 Ed448 public key; byte 57 roles: bit 0 HDAP, bit 1 fabric manager"⟩,
  ⟨0x5C31, 0x5C31, 0x00, 0x00, "Highest subindex", "U8", "—"⟩,
  ⟨0x5C31, 0x5C31, 0x01, 0x04, "Fabric trust anchors", "OCT 64", "SHAKE256-512 of a CA public key"⟩,
  ⟨0x5C50, 0x5C50, 0x00, 0x00, "Highest subindex", "U8", "—"⟩,
  ⟨0x5C50, 0x5C50, 0x01, 0x01, "Generator health", "U8", "0 good, 1 failed (R648)"⟩,
  ⟨0x5C50, 0x5C50, 0x02, 0x02, "Keep faults", "U64", "Since start"⟩,
  ⟨0x1000, 0x1000, 0x00, 0x00, "Highest subindex", "U8", "—"⟩,
  ⟨0x1000, 0x1000, 0x01, 0x01, "Vendor identifier", "U16", "Hyholt's PCI-SIG identifier, as the configuration space of every function reports it"⟩,
  ⟨0x1000, 0x1000, 0x02, 0x02, "Device identifier", "U16", "—"⟩,
  ⟨0x1000, 0x1000, 0x03, 0x03, "Stepping", "STR", "—"⟩,
  ⟨0x1000, 0x1000, 0x04, 0x04, "Serial number", "OCT 16", "Burned in MANUFACTURE. An opaque value unique to each part, with no field structure; software compares it only as a whole. The marking of R726 gives its bytes in index order"⟩,
  ⟨0x1000, 0x1000, 0x05, 0x05, "Ordering number", "STR", "DX7280-96-LC or DX7280-96-LB"⟩,
  ⟨0x1003, 0x1003, 0x00, 0x00, "Running releases", "ARR of 6 U16", "Release of components 0–5 in use"⟩,
  ⟨0x1008, 0x1008, 0x00, 0x00, "Highest subindex", "U8", "—"⟩,
  ⟨0x1008, 0x1008, 0x01, 0x01, "Start cause", "U8", "0 power-on after a clean end; 1 power-on after an unclean end; 2 SYS_RST_N; 3 restart request; 4 restart after R672"⟩,
  ⟨0x1008, 0x1008, 0x02, 0x02, "MINIMAL cause", "U8", "*MINIMAL causes*"⟩,
  ⟨0x1008, 0x1008, 0x03, 0x03, "Failed starts", "U8", "FAILED_STARTS at step 1 of this start"⟩,
  ⟨0x1008, 0x1008, 0x04, 0x04, "Last failed step", "U16", "Step in [7:0] and case in [15:8] of the last event 0x0103"⟩,
  ⟨0x1008, 0x1008, 0x05, 0x05, "Start limit", "U16", "s; R672"⟩,
  ⟨0x1010, 0x1010, 0x00, 0x00, "Node state", "U8", "1–6 step running; 7 OPERATIONAL; 0x80 MINIMAL; 0x81 ROM recovery; 0xF0 restart in progress"⟩,
  ⟨0x1011, 0x1011, 0x00, 0x00, "Step times", "ARR of 7 U32", "ms from PWRGOOD at the end of steps 1–7; 0 not reached"⟩,
  ⟨0x5000, 0x5000, 0x00, 0x00, "Highest subindex", "U8", "—"⟩,
  ⟨0x5000, 0x5000, 0x01, 0x01, "Quarter-die temperatures", "ARR of 32 I16", "Element 8q + i, in 0.1 °C"⟩,
  ⟨0x5000, 0x5000, 0x02, 0x02, "Stack temperatures", "ARR of 32 I16", "0.1 °C"⟩,
  ⟨0x5000, 0x5000, 0x03, 0x03, "Belfry temperatures", "ARR of 2 I16", "0.1 °C"⟩,
  ⟨0x5000, 0x5000, 0x04, 0x04, "Package power", "U16", "W, 1 ms average (R679)"⟩,
  ⟨0x5000, 0x5000, 0x05, 0x05, "Peak package power", "U16", "W, since start"⟩,
  ⟨0x5001, 0x5001, 0x00, 0x00, "Highest subindex", "U8", "—"⟩,
  ⟨0x5001, 0x5001, 0x01, 0x01, "Rail voltages", "ARR of 12 U16", "mV, in rail order"⟩,
  ⟨0x5001, 0x5001, 0x02, 0x02, "Rail currents", "ARR of 12 U32", "mA"⟩,
  ⟨0x5002, 0x5002, 0x00, 0x00, "Highest subindex", "U8", "—"⟩,
  ⟨0x5002, 0x5002, 0x01, 0x06, "Temperature limits", "I16", "Warning and critical of quarter dies, stacks and Belfry, in 0.1 °C; 500–1,100"⟩,
  ⟨0x5002, 0x5002, 0x07, 0x07, "Rail warning limit", "U8", "1–20 %"⟩,
  ⟨0x5002, 0x5002, 0x08, 0x08, "Rail critical limit", "U8", "2–25 %, above the warning limit"⟩,
  ⟨0x5003, 0x5003, 0x00, 0x00, "Highest subindex", "U8", "—"⟩,
  ⟨0x5003, 0x5003, 0x01, 0x01, "Regulator addresses", "ARR of 16 U8", "7-bit PMBus addresses; 0 unused"⟩,
  ⟨0x5003, 0x5003, 0x02, 0x02, "Regulator status", "ARR of 16 U16", "Last STATUS_WORD"⟩,
  ⟨0x5004, 0x5004, 0x00, 0x00, "Highest subindex", "U8", "—"⟩,
  ⟨0x5004, 0x5004, 0x01, 0x01, "ALERT_N asserted", "BOOL", "R681"⟩,
  ⟨0x5004, 0x5004, 0x02, 0x02, "Alert acknowledge", "BOOL", "1 acknowledges; 0 has no effect"⟩,
  ⟨0x5100, 0x5100, 0x00, 0x00, "Highest subindex", "U8", "—"⟩,
  ⟨0x5100, 0x5100, 0x01, 0x01, "Newest sequence", "U64", "SEQ of the newest record"⟩,
  ⟨0x5100, 0x5100, 0x02, 0x02, "Oldest sequence", "U64", "SEQ of the oldest record held"⟩,
  ⟨0x5100, 0x5100, 0x03, 0x03, "Read start", "U64", "Per session; SEQ of the first record that 0x5100.04 returns"⟩,
  ⟨0x5100, 0x5100, 0x04, 0x04, "Records", "ARR of 32 OCT 32", "Records from the read start, oldest first; absent records read as zeros"⟩,
  ⟨0x5100, 0x5100, 0x05, 0x05, "Records overwritten", "U64", "R685, since start"⟩,
  ⟨0x5100, 0x5100, 0x06, 0x06, "Flush interval", "U16", "1–3,600 s"⟩,
  ⟨0x5100, 0x5100, 0x07, 0x07, "Records unflushed", "U32", "—"⟩,
  ⟨0x5800, 0x5800, 0x00, 0x00, "Highest subindex", "U8", "—"⟩,
  ⟨0x5800, 0x5800, 0x01, 0x01, "Slice period", "U16", "1–3,600 s"⟩,
  ⟨0x5800, 0x5800, 0x02, 0x02, "Periodic enable", "BOOL", "0 stops the slices of R694"⟩,
  ⟨0x5800, 0x5800, 0x03, 0x03, "Slices run", "U64", "Since start"⟩,
  ⟨0x5800, 0x5800, 0x04, 0x04, "Slices deferred", "U64", "R696"⟩,
  ⟨0x5800, 0x5800, 0x05, 0x05, "Slices aborted", "U64", "R697"⟩,
  ⟨0x5800, 0x5800, 0x06, 0x06, "Blocks passed over", "U64", "R694"⟩,
  ⟨0x5800, 0x5800, 0x07, 0x07, "Block failures", "U64", "R698"⟩,
  ⟨0x5801, 0x5801, 0x00, 0x00, "Block results", "ARR of 806 U8", "0 untested, 1 pass, 2 marginal, 3 failed, 4 out of service"⟩,
  ⟨0x5811, 0x5811, 0x00, 0x00, "Highest subindex", "U8", "—"⟩,
  ⟨0x5811, 0x5811, 0x01, 0x08, "Lane test rotation", "BOOL", "Port p in subindex p + 1; V52"⟩,
  ⟨0x5820, 0x5820, 0x00, 0x00, "Program request", "U16", "Program in [7:0], port, stack or group in [15:8] (R699)"⟩,
  ⟨0x5821, 0x5821, 0x00, 0x00, "Program status", "U32", "State in [7:0] (0 idle, 1 running, 2 passed, 3 failed) and program in [15:8]"⟩,
  ⟨0x5F00, 0x5F00, 0x00, 0x00, "Highest subindex", "U8", "—"⟩,
  ⟨0x5F00, 0x5F00, 0x01, 0x01, "Active image", "U8", "0 A, 1 B"⟩,
  ⟨0x5F00, 0x5F00, 0x02, 0x02, "Image states", "ARR of 2 U8", "0 empty, 1 verified, 2 refused, 3 trial, 4 confirmed"⟩,
  ⟨0x5F00, 0x5F00, 0x03, 0x03, "Image releases", "ARR of 12 U16", "Components 0–5 of image A, then of image B"⟩,
  ⟨0x5F00, 0x5F00, 0x04, 0x04, "Package status", "U8", "Result of the last package write"⟩,
  ⟨0x5F00, 0x5F00, 0x05, 0x05, "Refused component", "U8", "Component that the last verification refused; 0xFF none"⟩,
  ⟨0x5F01, 0x5F01, 0x00, 0x00, "Image package", "DOMAIN", "R687"⟩,
  ⟨0x5F02, 0x5F02, 0x00, 0x00, "Activate", "BOOL", "R689"⟩,
  ⟨0x5F03, 0x5F03, 0x00, 0x00, "Restart request", "U8", "1 restart; 2 restart into MINIMAL mode (R692)"⟩,
  ⟨0x5F04, 0x5F04, 0x00, 0x00, "Confirm", "BOOL", "R691"⟩,
  ⟨0x5F05, 0x5F05, 0x00, 0x00, "Auto confirm", "BOOL", "R691"⟩,
  ⟨0x1140, 0x1140, 0x00, 0x00, "Highest subindex", "U8", "—"⟩]

/-- The texts of the dictionary tables (R109), part 7. -/
def entryTexts7 : List EntryText := [
  ⟨0x1140, 0x1140, 0x01, 0x01, "SPI edge rate", "U8", "0 slow, 1 medium, 2 fast"⟩,
  ⟨0x1140, 0x1140, 0x02, 0x02, "Sideband edge rate", "U8", "0 slow, 1 medium, 2 fast; push-pull sideband outputs"⟩,
  ⟨0x2014, 0x2014, 0x00, 0x00, "Highest subindex", "U8", "—"⟩,
  ⟨0x2014, 0x2014, 0x01, 0x01, "Tile clock spread", "U8", "Down-spread, 0–50 in units of 0.01 %"⟩,
  ⟨0x2014, 0x2014, 0x02, 0x02, "Spread modulation", "U8", "30–33 kHz"⟩,
  ⟨0x1001, 0x1001, 0x00, 0x00, "Dictionary schema version", "U16", "Major version in [15:8], minor version in [7:0] (R107)"⟩,
  ⟨0x1002, 0x1002, 0x00, 0x00, "Schema description", "DOMAIN", "Lists every entry of the device (R109)"⟩]

/-- The texts of every entry. -/
def entryTexts : List EntryText :=
  entryTexts1 ++ entryTexts2 ++ entryTexts3 ++ entryTexts4 ++ entryTexts5 ++ entryTexts6 ++ entryTexts7

/-- The texts of one entry: name, type and range. -/
def entryText (idx sub : Nat) : List String :=
  match entryTexts.find? fun t => inRange t.lo t.hi idx && inRange t.subLo t.subHi sub with
  | some t => [t.name, t.type, t.range]
  | none => []

/-- Every entry with the numbers of its row and the texts of its table (R109). -/
def schemaEntries : List (List Nat × List String) :=
  ([entriesIdentity, entriesPorts, entriesGenerations, entriesTiles, entriesStacks, entriesFlash, entriesFabric, entriesTraffic, entriesRealms,
    entriesObjects, entriesSensors, entriesLogs, entriesOculus, entriesSecurity, entriesFirmware].flatten.map fun r =>
    ((List.range (r.hi + 1 - r.lo)).map fun i => (List.range (r.subHi + 1 - r.subLo)).map fun j =>
      (r.schemaOf (r.lo + i) (r.subLo + j), entryText (r.lo + i) (r.subLo + j))).flatten).flatten

end Sys2Proof.Machine
end

