-- ==== Sys2Proof/Machine/Tiers.lean ====
section
/-! DEFINITION. The T2 cache's write-backs, pool segments, lending, evacuation and loss (11_memory_tiers). -/

namespace Sys2Proof.Machine

/-! ### Kept GiB and structures (R457, R459) -/

/-- The GiB that the device keeps: in an INTERLEAVED region of realm 0 and allotted to none. -/
def Dev.keptGib (d : Dev) : List Nat :=
  (List.range 3072).filter fun g =>
    match regionOfOffset (regionsBy d.cfg (g / 96)) (g % 96 * gib) with
    | some w => rgMode w == 1 && rgRealm w == 0 && alRealm (allotBy d.cfg (g / 96) (g % 96)) == 0
    | none => false

/-- G_s: the GiB that the device's own structures take (R459). -/
def Dev.structureGib (d : Dev) : Nat :=
  let p := 262144 * sumOf ((List.range 256).map d.cacheGib)
  let m := 8 * sumOf ((d.flash.volumes.filter fun e => e.2.state != 3).map fun e => e.2.capacity)
  1 + ceilDiv (p + 2 * m) gib

/-- T1 address of GiB g. -/
def gibAddr (g : Nat) : Nat := g / 96 * stackBytes + g % 96 * gib

/-- The stack offset whose byte lies at a bank address of a bank, in an INTERLEAVED region: the inverse of R167. -/
def interleavedOffset (w bank a : Nat) : Nat :=
  let pc := bank % 768 / 24
  rgFirst w * (4 * gib) + 256 * (pc / 2 + 16 * (pc % 2) + 32 * (bank % 24 - rgFirst w) + 32 * rgCount w * (a / 256)) + a % 256

/-- Does the byte under a memory key lie in GiB g? -/
def Dev.keyInGib (d : Dev) (g k : Nat) : Bool :=
  let bank := k / 2 ^ 27
  bank / 768 == g / 96 && decide (k < 24576 * 2 ^ 27) &&
    match d.bankRegion bank with
    | some w => rgMode w == 1 && interleavedOffset w bank (k % 2 ^ 27) / gib == g % 96
    | none => false

/-- GiB g zero-filled; accesses of a new owner wait for the fill (R460, R637). -/
def Dev.scrubGib (d : Dev) (g : Nat) : Dev :=
  (d.setMem (d.mem.filter fun e => !d.keyInGib g e.1)).setScrubs (if d.scrubs.contains (1, g) then d.scrubs else d.scrubs ++ [(1, g)])

/-! ### Write-backs and flushes (R471, R473) -/

/-- The first T2 address of a segment. -/
def segmentBase (n : Nat) : Nat := t2Base + n * gib

/-- Does a sector lie in a segment? -/
def sectorIn (n s : Nat) : Bool := segmentOf (s * 4096) == n

/-- A segment's dirty sectors in the cache. -/
def Dev.segmentDirty (d : Dev) (n : Nat) : List Nat := (d.dirtySectors (d.segment n).realm).filter (sectorIn n)

/-- A segment's record changed. -/
def Dev.modSegment (d : Dev) (n : Nat) (f : Segment → Segment) : Dev :=
  d.setTiers { d.tiers with segments := tabSet n (f (d.segment n)) d.tiers.segments }

/-- The lender hears, once, that no sector of a segment under evacuation is dirty (R477). -/
def Dev.tellClean (d : Dev) (n : Nat) : Dev :=
  let sg := d.segment n
  if sg.mine && (sg.state == 2 || sg.state == 3) && !sg.told && (d.segmentDirty n).isEmpty && !(d.tiers.writeBacks.any fun b => sectorIn n b.sector)
  then (d.modSegment n fun s => { s with told := true }).afp 0x54 sg.homeNode [n, sg.gen, 0]
  else d

/-- A flush's answer. -/
def Dev.endFlush (d : Dev) (f : Flush) (status : Nat) : Dev := d.respond f.path f.number ⟨status, f.seq, 0x2462, 8, true, 0, 0, 0⟩

/-- The flushes with nothing left to be acknowledged complete (R473). -/
def Dev.endFlushes (d : Dev) (status : Nat) : Dev :=
  let ended := d.tiers.flushes.filter fun f => f.left.isEmpty
  ended.foldl (fun d f => d.endFlush f status) (d.setTiers { d.tiers with flushes := d.tiers.flushes.filter fun f => !f.left.isEmpty })

/-- The core of POOL_FLUSH (R473): every dirty sector of the realm without a write-back of its present bytes is sent; the request waits
for every write-back then on its way. -/
def Dev.poolFlush (d : Dev) (path number seq realm : Nat) : Dev :=
  let dirty := d.dirtySectors realm
  let d := (dirty.filter fun s => !d.onItsWay s).foldl (fun d s => d.writeBack realm s) d
  let left := (d.tiers.writeBacks.filter fun b => b.realm == realm && dirty.contains b.sector).map fun b => b.sector
  (d.setTiers { d.tiers with flushes := d.tiers.flushes ++ [⟨path, number, seq, realm, left⟩] }).endFlushes stOk

/-- WRITE_BACK_AGE: a sector whose panel has been dirty for the write-back age is written back (R471). -/
def doWriteBackAge (realm sector : Nat) (c : Ctx) (d : Dev) : Dev :=
  match d.panel realm (panelTag sector) with
  | some p =>
    if bit p.dirty (sector % 16) && !d.onItsWay sector && decide (p.dirtySince + d.cfg 0x2461 2 * msTicks ≤ c.now) then d.writeBack realm sector
    else d
  | none => d

/-- WRITE_BACK_AGE. -/
def execWriteBackAge (realm sector : Nat) (s : State) : Out := devStep (doWriteBackAge realm sector) s

/-- DIRTY of a sector of a panel cleared. -/
def CachePanel.cleaned (p : CachePanel) (i : Nat) : CachePanel :=
  { p with dirty := setBits p.dirty i i 0, written := tabDel i p.written }

/-- A replaced panel's sector is at its home; the panel goes with its last one. -/
def Dev.cleanReplaced (d : Dev) (realm sector : Nat) : Dev :=
  d.setTiers { d.tiers with replaced := (d.tiers.replaced.map fun p =>
    if p.realm = realm ∧ p.tag = panelTag sector then p.cleaned (sector % 16) else p).filter fun p => p.dirty != 0 }

/-- A write-back acknowledged: DIRTY is cleared where the sector was not written again; flushes and evacuations follow. -/
def Dev.writeBackDone (d : Dev) (b : WriteBack) : Dev :=
  let d := d.setTiers { d.tiers with
    writeBacks := eraseFirst (fun x => x.sector == b.sector) d.tiers.writeBacks
    flushes := d.tiers.flushes.map fun f => { f with left := eraseFirst (· == b.sector) f.left } }
  let d : Dev := match d.panel b.realm (panelTag b.sector) with
    | some p => if b.again then d else d.setPanel (p.cleaned (b.sector % 16))
    | none => d
  let d := if d.tiers.writeBacks.any fun x => x.sector == b.sector then d else d.cleanReplaced b.realm b.sector
  (d.endFlushes stOk).tellClean (segmentOf (b.sector * 4096))

/-- WRITE_BACK_ACK: the home's answer to the oldest write-back of a sector (R471); one refused for its GRANT_GEN is sent again to the home
that the segment now has (R479). -/
def doWriteBackAck (h : Afp) (sector : Nat) (c : Ctx) (d : Dev) : Dev :=
  d.receive c h false fun d =>
    match d.tiers.writeBacks.find? fun b => b.sector == sector with
    | none => d
    | some b =>
      if h.status = stEpochMoved then
        let sg := d.segment (segmentOf (sector * 4096))
        d.afp 0x53 sg.homeNode [segmentOf (sector * 4096), sg.gen, sector * 4096 % gib, 4096]
      else if h.status = stOk then d.writeBackDone b else d

/-- WRITE_BACK_ACK. -/
def execWriteBackAck (h : Afp) (sector : Nat) (s : State) : Out := devStep (doWriteBackAck h sector) s

/-! ### Loss of a segment (R480, R482) -/

/-- The cached panels of a segment dropped without a write-back, those replaced before among them. -/
def Dev.dropSegmentPanels (d : Dev) (n : Nat) : Dev :=
  let d := (d.tiers.panels.filter fun p => sectorIn n (panelSector p.tag 0)).foldl (fun d p => d.dropPanel p false) d
  d.setTiers { d.tiers with replaced := d.tiers.replaced.filter fun p => !sectorIn n (panelSector p.tag 0) }

/-- The accesses in flight to a segment that is lost end with ST_NODE_LOST (R482): panel moves, and writes that wait for the home. -/
def Dev.loseAccesses (c : Ctx) (d : Dev) (n : Nat) : Dev :=
  let moves := (d.tiles.moves.map fun e => e.2).flatten ++ d.tiles.queued.map (·.2)
  let hit := (moves.filter fun m => (d.moveRanges m.capsule m.desc).any fun e =>
    decide (segmentOf e.2.1 ≤ n) && decide (n ≤ segmentOf (e.2.1 + e.2.2 - 1))).map fun m => (m.capsule, m.desc)
  let owners := (d.tiers.writeBacks.filter fun b => sectorIn n b.sector).filterMap (·.owner)
  let d := d.setTiers { d.tiers with writeBacks := d.tiers.writeBacks.filter fun b => !sectorIn n b.sector }
  (distinct (hit ++ owners)).foldl (fun d p => d.loseAccess c p.1 p.2) d

/-- A segment of this node becomes lost: its panels go, its dirty sectors are counted, the event is logged; a flush that waited for one of
its sectors completes with ST_NODE_LOST. -/
def Dev.loseSegment (c : Ctx) (d : Dev) (n : Nat) : Dev :=
  let sg := d.segment n
  if sg.state = 0 || sg.state = 4 then d
  else if !sg.mine then d.modSegment n fun s => { s with state := 4 }
  else
    let lost := (d.segmentDirty n).length
    let d := d.dropSegmentPanels n
    let hit (f : Flush) : Bool := f.left.any (sectorIn n)
    let broken := d.tiers.flushes.filter hit
    let d := d.setTiers { d.tiers with flushes := d.tiers.flushes.filter fun f => !hit f }
    let d := broken.foldl (fun d f => d.endFlush f stNodeLost) d
    let d := d.countCache sg.realm fun k => { k with lost := satAdd 64 k.lost lost }
    ((d.loseAccesses c n).modSegment n fun s => { s with state := 4 }).event c 0x0401 2 sg.realm n lost 0

/-! ### The lender (R474–R481, R484) -/

/-- The lent GiB that backs a segment. -/
def Dev.lentOf (d : Dev) (segment : Nat) : Option (Nat × LentGib) := d.tiers.lent.find? fun e => e.2.segment == segment

/-- A lent GiB's record changed. -/
def Dev.modLent (d : Dev) (g : Nat) (f : LentGib → LentGib) : Dev := d.setTiers { d.tiers with lent := tabUpdate g f d.tiers.lent }

/-- The lender releases a GiB (R481): held accesses are answered with a status, and the GiB is zero-filled. -/
def Dev.releaseGib (d : Dev) (g status : Nat) : Dev :=
  match tabGet g d.tiers.lent with
  | none => d
  | some l =>
    let d := l.held.foldl (fun d a => d.reply a.src a.requestId (if a.data.isSome then 0x53 else 0x52) [status]) d
    (d.setTiers { d.tiers with lent := tabDel g d.tiers.lent }).scrubGib g

/-- A commit of the dirty limit, or of the caches, brings every realm's dirty sectors down to it (R471). -/
def Dev.trimAll (d : Dev) : Dev := (distinct (d.tiers.panels.map (·.realm))).foldl Dev.trimToLimit d

/-- How many GiB may be lent or offered (R474). -/
def Dev.lendLimit (d : Dev) : Nat :=
  min (d.cfg 0x2B80 1 * 3072 / 100) (d.keptGib.length - d.structureGib - d.cfg 0x2B80 2)

/-- LEND_OFFER: as many kept GiB as R474 still allows are zero-filled and offered; which ones is a free choice. -/
def doLendOffer (_ : Ctx) (d : Dev) : Dev :=
  let free := d.keptGib.filter fun g => (tabGet g d.tiers.lent).isNone && !d.tiers.offered.contains g && !d.scrubs.contains (1, g)
  let n := d.lendLimit - d.tiers.lent.length - d.tiers.offered.length
  if n = 0 || free.isEmpty then d
  else
    let (k, d) := d.choose free.length
    let new := ((free.drop k) ++ (free.take k)).take n
    let d := d.setMem (d.mem.filter fun e => !new.any fun g => d.keyInGib g e.1)
    (d.setTiers { d.tiers with offered := d.tiers.offered ++ new }).afp 0x50 0xFFFF new

/-- LEND_OFFER. -/
def execLendOffer (s : State) : Out := devStep doLendOffer s

/-- One lent GiB reclaimed: the notice to the borrower and to the manager, and the grace time's start (R475). -/
def Dev.reclaimGib (c : Ctx) (d : Dev) (g : Nat) : Dev :=
  match tabGet g d.tiers.lent with
  | none => d
  | some l =>
    if l.reclaimed.isSome then d
    else
      let d := d.modLent g fun l => { l with reclaimed := some c.now }
      let d := d.setTiers { d.tiers with reclaims := satAdd 64 d.tiers.reclaims 1 }
      (d.afp 0x54 l.borrower [l.segment, l.gen, d.cfg 0x2B80 3]).afp 0x54 0xFFFF [l.segment, l.gen, d.cfg 0x2B80 3]

/-- The lent GiB not yet reclaimed, most recently granted first. -/
def Dev.lentNewest (d : Dev) : List Nat :=
  (sortBy (fun (a b : Nat × LentGib) => decide (b.2.order < a.2.order)) (d.tiers.lent.filter fun e => e.2.reclaimed.isNone)).map (·.1)

/-- The core of RECLAIM: so many GiB are reclaimed, the most recently granted first (R475). -/
def Dev.reclaimCount (c : Ctx) (d : Dev) (n : Nat) : Dev := (d.lentNewest.take n).foldl (fun d g => d.reclaimGib c g) d

/-- What a device commit makes the lender reclaim (R475): lent GiB that it allots, then as many as the share and the reserve ask. Offers
not yet granted are withdrawn where the limit no longer holds them. -/
def Dev.checkLending (c : Ctx) (d : Dev) : Dev :=
  let kept := d.keptGib
  let d := (d.lentNewest.filter fun g => !kept.contains g).foldl (fun d g => d.reclaimGib c g) d
  let lent := d.lentNewest.length
  let d := d.reclaimCount c (max (lent - d.cfg 0x2B80 1 * 3072 / 100) (d.cfg 0x2B80 2 - (kept.length - lent)))
  d.setTiers { d.tiers with offered := (d.tiers.offered.filter kept.contains).take (d.lendLimit - d.tiers.lent.length) }

/-- GRANT: the manager grants a segment (R466). A generation not above the one held changes nothing (R618); a realm at its limit refuses
(R635). The borrower's new segment reads as zeros (R483); the lender's GiB is one it had offered. -/
def doGrant (h : Afp) (segment grantGen borrower realm homeNode homeGib : Nat) (c : Ctx) (d : Dev) : Dev :=
  d.receive c h true fun d =>
    let sg := d.segment segment
    let mine := borrower == d.fabric.node
    if grantGen ≤ sg.gen then d.ackManager h stOk sg.gen
    else if mine && decide (d.cfg (0x2E00 + realm) 8 ≤
        (d.tiers.segments.filter fun e => e.2.mine && e.2.realm == realm && e.2.state != 0 && e.1 != segment).length) then
      d.ackManager h stBusy sg.gen
    else if homeNode = d.fabric.node && !d.tiers.offered.contains homeGib then d.ackManager h stBadArg sg.gen
    else
      let d : Dev := if mine then
          let d := d.dropSegmentPanels segment
          d.setTiers { d.tiers with home := memZero d.tiers.home (segmentBase segment) gib }
        else d
      let d : Dev := if homeNode = d.fabric.node then
          d.setTiers { d.tiers with
            lent := tabSet homeGib ⟨borrower, segment, grantGen, d.tiers.grants, none, none, [], 0, false, [], none⟩ d.tiers.lent
            offered := d.tiers.offered.filter (· != homeGib)
            grants := d.tiers.grants + 1 }
        else d
      let d := d.setTiers { d.tiers with borrowers := tabSet segment borrower d.tiers.borrowers }
      (d.modSegment segment fun _ => ⟨1, realm, homeNode, homeGib, grantGen, mine, false, 0⟩).ackManager h stOk grantGen

/-- GRANT. -/
def execGrant (h : Afp) (segment grantGen borrower realm homeNode homeGib : Nat) (s : State) : Out :=
  devStep (doGrant h segment grantGen borrower realm homeNode homeGib) s

/-- Are the writes of a lent GiB held: for the switch, or for the length of a recopy from the fifth on (R478)? -/
def LentGib.holdsWrites (l : LentGib) : Bool := l.next.isSome && (l.copied || decide (5 ≤ l.recopies))

/-- May a node access a lent GiB: its borrower, or before the switch the former lender, whose copy a successor takes in (R467, R478)? -/
def LentGib.admits (l : LentGib) (src : Nat) : Bool := match l.incoming with | some n => n == src | none => l.borrower == src

/-- A pool access at the lender (R467): another generation moves no data; during the switch it is held (R479). -/
def Dev.poolAccess (d : Dev) (h : Afp) (segment grantGen : Nat) (a : PoolAccess) (type : Nat) (serve : Dev → Nat → LentGib → Dev) : Dev :=
  match d.lentOf segment with
  | none => d.reply h.src h.requestId type [stEpochMoved]
  | some (g, l) =>
    if l.gen != grantGen || !l.admits h.src then d.reply h.src h.requestId type [stEpochMoved]
    else if gib < a.offset + a.len then d.reply h.src h.requestId type [stBadArg]
    else if l.copied || (a.data.isSome && l.holdsWrites) then d.modLent g fun l => { l with held := l.held ++ [a] }
    else serve d g l

/-- ACCESS: a borrower reads. -/
def doAccess (h : Afp) (segment grantGen offset len : Nat) (c : Ctx) (d : Dev) : Dev :=
  d.receive c h false fun d => d.once c h fun d =>
    if h.colour = 3 then d.reply h.src h.requestId 0x52 [stBadArg]
    else d.poolAccess h segment grantGen ⟨h.src, h.requestId, offset, len, none⟩ 0x52 fun d g _ =>
      d.reply h.src h.requestId 0x52 (stOk :: (d.t1Read (gibAddr g + offset) len).map BitVec.toNat)

/-- ACCESS. -/
def execAccess (h : Afp) (segment grantGen offset len : Nat) (s : State) : Out := devStep (doAccess h segment grantGen offset len) s

/-- POOL_WRITE: a borrower writes; a write during a copy marks its sectors (R478). -/
def doPoolWrite (h : Afp) (segment grantGen offset : Nat) (bytes : List Byte) (c : Ctx) (d : Dev) : Dev :=
  d.receive c h false fun d => d.once c h fun d =>
    if h.colour = 3 then d.reply h.src h.requestId 0x53 [stBadArg]
    else d.poolAccess h segment grantGen ⟨h.src, h.requestId, offset, bytes.length, some bytes⟩ 0x53 fun d g l =>
      let d := d.t1Write (gibAddr g + offset) bytes
      let d : Dev := if l.next.isSome then d.modLent g fun l => { l with marked := distinct (l.marked ++ sectorsOf offset bytes.length) } else d
      d.reply h.src h.requestId 0x53 [stOk]

/-- POOL_WRITE. -/
def execPoolWrite (h : Afp) (segment grantGen offset : Nat) (bytes : List Byte) (s : State) : Out :=
  devStep (hearing (doPoolWrite h segment grantGen offset bytes)) s

/-- POOL_RECLAIM: the borrower's segment is evacuated (R477): its dirty sectors are written back, and later writes go through. -/
def doPoolReclaim (h : Afp) (segment grantGen graceMs : Nat) (c : Ctx) (d : Dev) : Dev :=
  d.receive c h false fun d =>
    let sg := d.segment segment
    if !sg.mine || sg.state != 1 || sg.gen != grantGen || sg.homeNode != h.src then d
    else
      let d := d.modSegment segment fun s => { s with state := 2, told := false, until_ := c.now + graceMs * msTicks }
      let d := ((d.segmentDirty segment).filter fun s => !d.onItsWay s).foldl (fun d s => d.writeBack sg.realm s) d
      d.tellClean segment

/-- POOL_RECLAIM. -/
def execPoolReclaim (h : Afp) (segment grantGen graceMs : Nat) (s : State) : Out := devStep (doPoolReclaim h segment grantGen graceMs) s

/-- The successor of a segment takes the former lender's copy into the GiB that it had offered (R478). -/
def Dev.takeCopy (d : Dev) (segment grantGen gibNumber : Nat) : Dev :=
  let sg := d.segment segment
  d.setTiers { d.tiers with
    lent := tabSet gibNumber ⟨tabGetD segment 0 d.tiers.borrowers, segment, grantGen, d.tiers.grants, none, none, [], 0, false, [], some sg.homeNode⟩
      d.tiers.lent
    offered := d.tiers.offered.filter (· != gibNumber)
    grants := d.tiers.grants + 1 }

/-- SUCCESSOR: the manager names the successor of a segment within the grace time; the lender's copy begins, and the successor, told too, is ready for it
(R478). A borrower that is told knows that its segment is migrating. -/
def doSuccessor (h : Afp) (segment grantGen node gibNumber : Nat) (c : Ctx) (d : Dev) : Dev :=
  d.receive c h true fun d =>
    match d.lentOf segment with
    | none =>
      let sg := d.segment segment
      let d : Dev := if sg.gen != grantGen || sg.state == 0 then d
        else if node = d.fabric.node && d.tiers.offered.contains gibNumber then d.takeCopy segment grantGen gibNumber else d
      (if sg.mine && sg.state == 2 && sg.gen == grantGen then d.modSegment segment fun s => { s with state := 3 } else d).ackManager h stOk sg.gen
    | some (g, l) =>
      match l.reclaimed with
      | none => d.ackManager h (if l.incoming.isSome then stOk else stBadArg) l.gen
      | some t =>
        if l.gen != grantGen || l.next.isSome || decide (t + d.cfg 0x2B80 3 * msTicks ≤ c.now) then d.ackManager h stOk l.gen
        else
          let d := d.modLent g fun l => { l with next := some (node, gibNumber), marked := [], recopies := 0, copied := false }
          let d := d.modSegment segment fun s => { s with state := 3 }
          (d.afp 0x53 node [segment, grantGen, 0, gib]).ackManager h stOk l.gen

/-- SUCCESSOR. -/
def execSuccessor (h : Afp) (segment grantGen node gib : Nat) (s : State) : Out := devStep (doSuccessor h segment grantGen node gib) s

/-- MIGRATION_COPY_COMPLETE: a copy of a lent GiB ends. The sectors marked meanwhile are copied again; with none marked, the lender is
ready for the switch and holds writes (R478). -/
def doMigrationCopyComplete (gibNumber : Nat) (_ : Ctx) (d : Dev) : Dev :=
  match tabGet gibNumber d.tiers.lent with
  | none => d
  | some l =>
    match l.next with
    | none => d
    | some (node, _) =>
      if l.copied then d
      else if l.marked.isEmpty then
        (d.modLent gibNumber fun l => { l with copied := true }).afp 0x56 0xFFFF [l.segment, l.gen]
      else
        let d := d.modLent gibNumber fun l => { l with marked := [], recopies := l.recopies + 1 }
        let d := d.setTiers { d.tiers with recopies := satAdd 64 d.tiers.recopies l.marked.length }
        l.marked.foldl (fun d s => d.afp 0x53 node [l.segment, l.gen, s * 4096, 4096]) d

/-- MIGRATION_COPY_COMPLETE. -/
def execMigrationCopyComplete (gib : Nat) (s : State) : Out := devStep (doMigrationCopyComplete gib) s

/-- SWITCH: the manager raises GRANT_GEN and sets the new home (R478). The borrower drops the segment's panels and sends what is on its
way, and what was still dirty, to the new home (R479); the former lender releases its GiB (R481), and held accesses learn that the generation moved;
the successor serves the borrower from now on. -/
def doSwitch (h : Afp) (segment grantGen node gibNumber : Nat) (c : Ctx) (d : Dev) : Dev :=
  d.receive c h true fun d =>
    let sg := d.segment segment
    let moved (d : Dev) : Dev := d.modSegment segment fun s =>
      { s with state := 1, homeNode := node, homeGib := gibNumber, gen := grantGen, told := false, until_ := 0 }
    let borrowed (d : Dev) : Dev := if !sg.mine then d else
      let d := (d.tiers.panels.filter fun p => sectorIn segment (panelSector p.tag 0)).foldl (fun d p => d.dropPanel p true) d
      (d.tiers.writeBacks.filter fun b => sectorIn segment b.sector).foldl
        (fun d b => d.afp 0x53 node [segment, grantGen, b.sector * 4096 % gib, 4096]) d
    if grantGen ≤ sg.gen then d.ackManager h stOk sg.gen
    else
      match d.lentOf segment with
      | some (g, l) =>
        if l.incoming.isSome then
          (borrowed (moved (if node = d.fabric.node then d.modLent g fun l => { l with gen := grantGen, incoming := none }
            else d.releaseGib g stEpochMoved))).ackManager h stOk grantGen
        else if !l.copied then d.ackManager h stBusy l.gen
        else (borrowed (moved (d.releaseGib g stEpochMoved))).ackManager h stOk grantGen
      | none => (borrowed (moved d)).ackManager h stOk grantGen

/-- UNMAP: the manager takes a segment away: later accesses are violations (R482), and the lender has its GiB back. -/
def doUnmap (h : Afp) (segment grantGen : Nat) (c : Ctx) (d : Dev) : Dev :=
  d.receive c h true fun d =>
    let sg := d.segment segment
    if grantGen < sg.gen || sg.state = 0 then d.ackManager h stOk sg.gen
    else
      let d : Dev := match d.lentOf segment with
        | some (g, _) => d.releaseGib g stEpochMoved
        | none => d
      let d : Dev := if sg.mine then
          let d := d.dropSegmentPanels segment
          let d := d.setTiers { d.tiers with
            flushes := d.tiers.flushes.map fun f => { f with left := f.left.filter fun s => !sectorIn segment s } }
          (d.endFlushes stOk).loseAccesses c segment
        else d
      (d.modSegment segment fun _ => ⟨0, 0, 0, 0, max grantGen sg.gen, false, false, 0⟩).ackManager h stOk grantGen

/-- GRACE_TIME_EXPIRY: the grace time of a reclaim ends before the switch (R480): the lender takes its GiB back, and the segment is
lost. -/
def doGraceTimeExpiry (segment : Nat) (c : Ctx) (d : Dev) : Dev :=
  match d.lentOf segment with
  | some (g, l) =>
    match l.reclaimed with
    | some t => if t + d.cfg 0x2B80 3 * msTicks ≤ c.now then (d.releaseGib g stNodeLost).loseSegment c segment else d
    | none => d
  | none =>
    let sg := d.segment segment
    if sg.mine && (sg.state == 2 || sg.state == 3) && decide (sg.until_ ≤ c.now) then d.loseSegment c segment else d

/-- A lost node's part in the pool: segments homed on it are lost (R482), GiB lent to it are released (R484). -/
def Dev.poolNodeLost (c : Ctx) (d : Dev) (node : Nat) : Dev :=
  let d := (d.tiers.segments.filter fun e => e.2.homeNode == node && e.2.state != 0).foldl (fun d e => d.loseSegment c e.1) d
  (d.tiers.lent.filter fun e => e.2.borrower == node).foldl (fun d e =>
    (d.releaseGib e.1 stNodeLost).modSegment e.2.segment fun s => { s with state := 0 }) d

end Sys2Proof.Machine
end

