-- ==== Sys2Proof/Machine/Readings.lean ====
section
/-! DEFINITION. What the entries that the device sets read as: the dictionary tables of every chapter. -/

namespace Sys2Proof.Machine

/-- An unsigned value of n bytes. -/
def uval (n v : Nat) : DictVal := ⟨n, v % 2 ^ (8 * n)⟩

/-- An array of elements of n bytes. -/
def arrVal (n : Nat) (l : List Nat) : DictVal := ⟨n * l.length, ofElems n l⟩

/-- The value of a session's own selection: what it wrote, else the default (R70); the realm selections default to the session's realm. -/
def Session.select (s : Session) (idx sub : Nat) : Nat :=
  (tabGet (entryKey idx sub) s.sel).getD (if idx = 0x1800 ∨ idx = 0x5140 then s.realm else entryDefault idx sub)

/-- Does a session reach objects of a realm: its own, and every one in realm 0 sessions? -/
def Session.reaches (s : Session) (realm : Nat) : Bool := s.realm == 0 || s.realm == realm

/-- A sum over the realms that a session sees: its own, or all in realm 0 sessions. -/
def Session.total (s : Session) (f : Nat → Nat) : Nat := if s.realm = 0 then sumOf ((List.range 256).map f) else f s.realm

/-! ### 0x1000–0x11FF -/

/-- The ordering number's characters: DX7280-96-LC or DX7280-96-LB (0x1000.05; log entry 4). -/
def orderingNumber : Nat :=
  ofElems 1 [0x44, 0x58, 0x37, 0x32, 0x38, 0x30, 0x2D, 0x39, 0x36, 0x2D, 0x4C, if Config.burned 3 % 2 = 0 then 0x43 else 0x42]

/-- Identity, versions and start. -/
def Dev.readIdentity (d : Dev) (idx sub : Nat) : DictVal :=
  let b := d.boot
  match idx, sub with
  | 0x1000, 4 => uval 16 (Config.burned 0)
  | 0x1000, 5 => ⟨12, orderingNumber⟩
  | 0x1002, 0 => ⟨Config.schemaForm schemaEntries 0, Config.schemaForm schemaEntries 1⟩
  | 0x1003, 0 => arrVal 2 ((List.range 6).map d.boot.running.release)
  | 0x1008, 1 => uval 1 b.cause
  | 0x1008, 2 => uval 1 b.minimalCause
  | 0x1008, 3 => uval 1 b.failedAtStart
  | 0x1008, 4 => uval 2 b.lastFailed
  | 0x1010, 0 => uval 1 b.node
  | 0x1011, 0 => arrVal 4 ((List.range 7).map (nth b.stepTimes))
  | _, _ => uval (((entryAt idx sub).map (·.size)).getD 0) (entryDefault idx sub)

/-- Host ports and the management link; array elements and subindices 1 and 2 stand for H0 and H1. -/
def Dev.readPorts (d : Dev) (idx sub : Nat) : DictVal :=
  let p := d.port (sub - 1)
  let both (f : HostPort → Nat) : DictVal := arrVal 8 [f (d.port 0), f (d.port 1)]
  match idx, sub with
  | 0x1101, _ => uval 1 p.link
  | 0x1102, _ => uval 1 p.width
  | 0x1103, _ => uval 1 p.speed
  | 0x1105, _ => uval 1 ((p.functions.filter fun e => e.1 != 0 && e.2.enabled).foldl (fun m e => max m e.1) 0)
  | 0x1110, 1 => uval 6 (Config.burned 1)
  | 0x1113, 0 => uval 1 d.fabric.mgmtLink
  | 0x1122, v => uval 1 (if (d.fn 0 v).enabled then (d.fn 0 v).realm else 0)
  | 0x1123, v => uval 1 (if (d.fn 1 v).enabled then (d.fn 1 v).realm else 0)
  | 0x1130, 1 => both (·.accepted)
  | 0x1130, 2 => both (·.refused)
  | 0x1130, 3 => both (·.overflowed)
  | 0x1130, 4 => both (·.malformed)
  | 0x1130, 5 => both (·.discarded)
  | 0x1130, 6 => both (·.resets)
  | 0x1130, 7 => both (·.removals)
  | _, _ => uval 1 0

/-! ### 0x1800–0x18FF -/

/-- The active generation of a domain (R83). -/
def Dev.generation (d : Dev) (domain : Nat) : Nat := tabGetD domain 1 d.dict.gens

/-- Configuration entries, of the selected domain. -/
def Dev.readGenerations (d : Dev) (s : Session) (idx sub : Nat) : DictVal :=
  let domain := s.select 0x1800 0
  match idx, sub with
  | 0x1801, _ => uval 4 (d.generation domain)
  | 0x1802, _ => uval 2 (tabGetD domain [] s.drafts).length
  | 0x1803, _ => uval 8 (tabGetD domain 0 d.dict.instants)
  | 0x1811, _ => uval 1 s.lastResult
  | 0x1812, 1 => uval 2 s.failCheck
  | 0x1812, 2 => uval 4 s.failEntry
  | 0x1812, 3 => uval 4 s.failRelated
  | 0x1812, 4 => uval 4 s.failGeneration
  | 0x1820, r => uval 4 (d.generation r)
  | _, _ => uval 1 0

/-! ### 0x2000–0x23FF -/

/-- The number of a slot's state in *Slot status word*. -/
def SlotState.code : SlotState → Nat
  | .free => 0
  | .waiting => 1
  | .ready => 2
  | .running => 3
  | .draining => 4

/-- *Slot status word*. -/
def Slot.word (s : Slot) : Nat :=
  s.state.code + s.cls % 8 * 2 ^ 3 + s.realm % 256 * 2 ^ 8 + s.plan % 65536 * 2 ^ 16 + s.desc % 4096 * 2 ^ 32 + min s.wait 8 * 2 ^ 44 +
    s.tag % 65536 * 2 ^ 48

/-- 0x2001 of a tile, as a realm's session reads it. -/
def Dev.tileState (d : Dev) (realm n : Nat) : Nat :=
  let owner := d.groupOwner (tileGroup n)
  if d.isMinimal then 3 else if realm != 0 && realm != owner then 2 else if (d.tile n).fenced then 1 else if owner = 0 then 2 else 0

/-- The counts of the descriptor that a session selects (R67, R71). -/
def Dev.selectedCounts (d : Dev) (s : Session) : Counts :=
  let h := s.select 0x23F0 1
  let i := s.select 0x23F0 2
  match d.plan? h with
  | none => .none
  | some p =>
    if !s.reaches p.realm then .none
    else
      let k := tabGetD i .none p.counts
      ⟨min k.sat (2 ^ 64 - 1), min k.nan (2 ^ 64 - 1)⟩

/-- A mesh link's state in 0x2021: where a flit of it has been resent, whether the resend is under way or the link is up again is free (log
entry 19). -/
def Dev.linkState (d : Dev) (l : Nat) : Nat :=
  let m := tabGetD l ⟨0, 0⟩ d.tiles.links
  if m.state = 1 then Config.free (d.freeCtr + l) % 2 else m.state

/-- Tiles and scheduler (R161), and the numeric counters (R71, R72); their sum over plans stops at 2^64 − 1 (DESIGN CHOICE, log entry 76). -/
def Dev.readTiles (d : Dev) (s : Session) (idx sub : Nat) : DictVal :=
  let n := s.select 0x2020 1
  let mine := s.reaches (d.groupOwner (tileGroup n))
  let t := d.tile n
  let see (x : Nat) : Nat := if mine then x else 0
  match idx, sub with
  | 0x2001, _ => arrVal 1 ((List.range 576).map (d.tileState s.realm))
  | 0x2011, g => uval 2 (nth d.power.mhz (g - 1))
  | 0x2013, _ => uval 8 d.power.reductions
  | 0x2020, 2 => uval 1 (see (d.slotsOf n).length)
  | 0x2020, 3 => uval 1 (see t.peak)
  | 0x2020, 4 => uval 8 (see t.completed)
  | 0x2020, 5 => uval 4 (see t.corrected)
  | 0x2020, 6 => uval 4 (see t.uncorrectable)
  | 0x2020, 7 => uval 4 (see t.retries)
  | 0x2020, 8 => arrVal 8 ((List.range 64).map fun k => see (((tabGet (64 * n + k) d.tiles.slots).map Slot.word).getD 0))
  | 0x2021, _ => arrVal 1 ((List.range 1104).map fun l => d.linkState l)
  | 0x23F0, 3 => uval 8 (d.selectedCounts s).sat
  | 0x23F0, 4 => uval 8 (d.selectedCounts s).nan
  | 0x23F0, 6 => uval 8 (min (2 ^ 64 - 1) (sumOf ((d.plans.plans.filter fun e => s.reaches e.2.realm).map fun e => e.2.satTotal)))
  | _, _ => uval 1 0

/-! ### 0x2400–0x27FF -/

/-- The number of a bank state (0x2441.01). -/
def BankState.code : BankState → Nat
  | .mem => 0
  | .pimShared => 1
  | .pimExclusive => 2

/-- Stacks, banks (R211) and the T2 cache (R485). -/
def Dev.readStacks (d : Dev) (s : Session) (idx sub : Nat) : DictVal :=
  let n := s.select 0x2440 0
  let b := d.bank n
  let mine := s.reaches (((d.bankRegion n).map rgRealm).getD 0)
  let see (x : Nat) : Nat := if mine then x else 0
  let cached (f : CachePanel → Nat) : Nat := sumOf ((d.tiers.panels.filter fun p => s.reaches p.realm).map fun p => (bitsSet 16 (f p)).length)
  match idx, sub with
  | 0x2401, _ => arrVal 1 (d.banks.units.map fun u => if d.isMinimal then 2 else if u.state = 0 ∧ u.hot then 4 else u.state)
  | 0x2410, k => uval 4 (d.stack (k - 1)).lastBudget
  | 0x2411, k => uval 8 (d.stack (k - 1)).delayed
  | 0x2441, 1 => uval 1 (see b.state.code)
  | 0x2441, 2 => uval 8 (see b.steps)
  | 0x2441, 3 => uval 8 (see b.suspensions)
  | 0x2441, 4 => uval 8 (see b.preemptions)
  | 0x2441, 5 => uval 8 (see b.yields)
  | 0x2441, 6 => uval 4 (see b.corrected)
  | 0x2441, 7 => uval 4 (see b.faults)
  | 0x2462, 1 => uval 2 (s.total d.cacheGib)
  | 0x2462, 2 => uval 8 (cached (·.present))
  | 0x2462, 3 => uval 8 (s.total fun r => (d.dirtySectors r).length)
  | 0x2462, 4 => uval 8 (s.total fun r => (d.cacheCounters r).hits)
  | 0x2462, 5 => uval 8 (s.total fun r => (d.cacheCounters r).misses)
  | 0x2462, 6 => uval 8 (s.total fun r => (d.cacheCounters r).writeBacks)
  | 0x2462, 7 => uval 8 (s.total fun r => (d.cacheCounters r).lost)
  | _, _ => uval 1 0

/-! ### 0x2800–0x29FF -/

/-- 0x2801 of a flash channel. -/
def Dev.channelState (d : Dev) (ch : Nat) : Nat :=
  if d.isMinimal then 3 else if mpCell (d.profile (ch / 4)) = 0 then 2 else if (d.channelLuns ch).isEmpty then 1 else 0

/-- WR of a channel group, 0 when the group is unused (0x2830). -/
def Dev.groupWorstRead (d : Dev) (g : Nat) : Nat := if mpCell (d.profile g) = 0 then 0 else worstRead (d.profile g)

/-- Flash channels, groups, the map, and volumes (R539). -/
def Dev.readFlash (d : Dev) (s : Session) (idx sub : Nat) : DictVal :=
  let g := s.select 0x2832 0
  let (lowest, highest, total) := d.eraseCounts g
  let v := idx - 0x2880
  let k := d.volume v
  let see (x : Nat) : Nat := if s.reaches k.realm then x else 0
  match idx, sub with
  | 0x2801, _ => arrVal 1 ((List.range 64).map d.channelState)
  | 0x2802, _ => arrVal 1 ((List.range 2048).map d.lunState)
  | 0x2830, i => uval 4 (d.groupWorstRead (i - 1))
  | 0x2833, 1 => uval 4 (d.blocksInService g)
  | 0x2833, 2 => uval 4 (d.blocksFree g)
  | 0x2833, 3 => uval 4 ((d.groupBlocks g).filter fun e => e.2.state == .retired).length
  | 0x2833, 4 => uval 4 (d.spareOf (d.groupMask g))
  | 0x2833, 5 => uval 4 lowest
  | 0x2833, 6 => uval 4 highest
  | 0x2833, 7 => uval 4 (total / max (d.blocksInService g) 1)
  | 0x2840, 1 => uval 1 d.flash.mapState
  | 0x2840, 2 => uval 1 d.flash.mapSource
  | 0x2840, 3 => uval 1 d.flash.progress
  | 0x2840, 4 => uval 4 d.flash.loadTime
  | 0x2840, 5 => uval 4 (ceilDiv d.mapBytes (2 ^ 20))
  | 0x2850, 4 => uval 8 d.flash.copied
  | 0x2850, 5 => uval 8 d.flash.wearMoves
  | 0x2850, 6 => uval 8 d.flash.erases
  | 0x2850, 7 => uval 8 d.flash.retries
  | _, 2 => uval 1 (see k.state)
  | _, 3 => uval 8 (see (d.flash.map.filter fun e => e.1 / 2 ^ 48 == v).length)
  | _, 4 => uval 8 (see k.read)
  | _, 5 => uval 8 (see k.written)
  | _, 6 => uval 8 (see k.programmed)
  | _, 7 => uval 8 (see (d.flash.map.filter fun e => e.1 / 2 ^ 48 == v && e.2 == .unreadable).length)
  | _, 8 => uval 8 (see k.mediaErrors)
  | _, _ => uval 1 0

/-! ### 0x2A00–0x2BFF -/

/-- *Pool segment record* of a segment. -/
def Segment.word (g : Segment) : Nat :=
  g.state + g.realm * 2 ^ 8 + g.homeNode * 2 ^ 16 + g.homeGib * 2 ^ 32 + g.gen % 2 ^ 64 * 2 ^ 64

/-- How many units of the compositions are in some states at this node. -/
def Dev.unitsIn (d : Dev) (l : List UnitState) : Nat :=
  sumOf (d.fabric.compositions.map fun e => ((List.range 4096).filter fun u => l.contains (d.ownUnit e.1 u).state).length)

/-- The fabric and lending (R485, R631). -/
def Dev.readFabric (d : Dev) (idx sub : Nat) : DictVal :=
  let f := d.fabric
  let links (g : Link → Nat) : DictVal := arrVal 8 ((List.range 4).map fun l => g (d.link (4 * (idx - 0x2A10) + l)))
  let k := (d.composition? (idx - 0x2A60)).getD ⟨0, 0, 0, 0xFFFF, [], [], 0, 0, none⟩
  match idx, sub with
  | 0x2B80, 4 => uval 2 d.tiers.lent.length
  | 0x2B80, 6 => uval 8 d.tiers.reclaims
  | 0x2B80, 7 => uval 8 d.tiers.recopies
  | 0x2B80, 8 => uval 2 d.structureGib
  | 0x2B81, _ => ⟨2 ^ 20, sumOf (d.tiers.segments.map fun e => e.2.word * 2 ^ (128 * e.1))⟩
  | 0x2B82, _ => arrVal 4 ((List.range 3072).map fun g =>
      match tabGet g d.tiers.lent with
      | some l => l.borrower + l.segment * 65536
      | none => 0xFFFFFFFF)
  | 0x2A01, _ => arrVal 1 (f.links.map fun l => if d.isMinimal then 6 else l.state)
  | 0x2A02, _ => arrVal 1 (f.links.map fun l => if l.carries then l.version else 0)
  | 0x2A30, 1 => uval 2 f.node
  | 0x2A30, 2 => uval 1 f.fmSession
  | 0x2A30, 3 => uval 4 f.place
  | 0x2A30, 4 => uval 1 f.domain
  | 0x2A30, 5 => uval 4 f.announces
  | 0x2A40, 1 => uval 2 f.timeRef
  | 0x2A40, 2 => uval 1 (b2n f.aligned)
  | 0x2A40, 3 => uval 4 (unsigned 32 f.offsetNs)
  | 0x2A40, 4 => uval 8 f.exchanges
  | 0x2AA0, 1 => uval 4 (d.unitsIn [.owner, .sending])
  | 0x2AA0, 2 => uval 4 (d.unitsIn [.surrendered, .prepared, .complete])
  | 0x2AA0, 3 => uval 8 f.retryOwner
  | 0x2AA0, 4 => uval 8 f.audits
  | 0x2AA0, 5 => uval 8 f.transfers
  | 0x2AB0, 1 => uval 1 f.shadow.role
  | 0x2AB0, 2 => uval 2 f.shadow.partner
  | 0x2AB0, 9 => uval 8 f.shadow.compared
  | 0x2AB0, 10 => uval 8 f.shadow.agreed
  | 0x2AB0, 11 => uval 1 (b2n f.shadow.ready)
  | 0x2AC0, 1 => uval 8 f.epochMoved
  | 0x2AC0, 2 => uval 8 f.prevEpoch
  | 0x2AC0, 3 => uval 8 f.heldCount
  | 0x2AC0, 4 => uval 8 f.duplicates
  | 0x2AC0, 5 => uval 8 f.nodeLost
  | 0x2AC0, 6 => uval 8 f.dropped
  | _, 1 => uval 2 k.id
  | _, 2 => uval 1 k.realm
  | _, 3 => uval 4 k.epoch
  | _, 4 => uval 2 k.ownRank
  | _, 5 => if idx < 0x2A60 then links (·.fecCorrected) else uval 2 k.members.length
  | _, 6 => if idx < 0x2A60 then links (·.fecUncorrectable) else arrVal 2 ((List.range 512).map (nth k.members))
  | _, 7 => if idx < 0x2A60 then links (·.resends) else arrVal 2 ((List.range 4096).map (nth k.owners))
  | _, 8 => if idx < 0x2A60 then links (·.downs) else uval 1 k.state
  | _, 9 => uval 8 k.installedAt
  | _, _ => uval 1 0

/-! ### 0x2C00–0x2EFF -/

/-- The volume slots that a plan reads: those of FETCH_FLASH, and of the indexes of RERANK_EXACT. -/
def Dev.planVolumes (d : Dev) (p : Plan) : List Nat :=
  distinct ((imWords p.image).filterMap fun w =>
    if dcOp w = 0x25 then d.volumeByHandle p.realm (dcP w 15 0)
    else if dcOp w = 0x34 then (d.indexOf p.realm (dcP w 15 0)).bind fun x => d.volumeByHandle p.realm (ixVolume (d.index x))
    else none)

/-- WR of R560: the largest worst read of the channel groups of a plan's volumes. -/
def Dev.planWorstRead (d : Dev) (p : Plan) : Nat :=
  ((d.planVolumes p).map fun v => ((maskGroups (d.volume v).groups).map d.groupWorstRead).foldl max 0).foldl max 0

/-- Traffic (R562): 0x2C00.06–.0A for the bound plan that the session selects. -/
def Dev.readTraffic (d : Dev) (s : Session) (idx sub : Nat) : DictVal :=
  let t := d.traffic
  let h := s.select 0x2C00 5
  let plan := (d.plan? h).filter fun p => s.reaches p.realm
  let m := tabGetD (idx - 0x2C00) Metered.reset t.metered
  match idx, sub with
  | 0x2C00, 1 => uval 4 (t.fine.length + t.coarse.length)
  | 0x2C00, 2 => uval 8 t.carried
  | 0x2C00, 3 => uval 8 t.clamps
  | 0x2C00, 4 => uval 8 t.c0Waits
  | 0x2C00, 6 => arrVal 8 ((plan.map fun p => p.floors).getD [0, 0, 0])
  | 0x2C00, 7 => uval 4 ((plan.map d.fixedNs).getD 0)
  | 0x2C00, 8 => uval 4 ((plan.map fun p => (Rat.ceil (reservedNs p)).toNat).getD 0)
  | 0x2C00, 9 => uval 2 ((plan.map fun _ => tabGetD h 0 t.flashWaves).getD 0)
  | 0x2C00, 10 => uval 4 ((plan.map d.planWorstRead).getD 0)
  | _, 10 => arrVal 8 m.green
  | _, 11 => arrVal 8 m.yellow
  | _, 12 => arrVal 8 m.dropped
  | _, 13 => arrVal 8 m.remarked
  | _, _ => uval 1 0

/-- Do the object limits of the active realms sum within the device limits (0x2E00.03)? Plans, index, table, pool and volume slots, and
sequence-store segments. -/
def Dev.limitsReserved (d : Dev) : Bool :=
  let active := (List.range 256).filter d.realmActive
  ([1024, 64, 64, 16, 64, 8].zipIdx).all fun (x : Nat × Nat) => decide (sumOf (active.map fun r => elem (d.cfg (0x2E00 + r) 7) 2 x.2) ≤ x.1)

/-- The realm that a resource being cleared goes to. -/
def Dev.scrubRealm (d : Dev) (k : Nat × Nat) : Nat :=
  match k.1 with
  | 0 => ((d.bankRegion k.2).map rgRealm).getD 0
  | 1 =>
    match regionOfOffset (regionsBy d.cfg (k.2 / 96)) (k.2 % 96 * gib) with
    | some w => if rgRealm w = 0 then alRealm (allotBy d.cfg (k.2 / 96) (k.2 % 96)) else rgRealm w
    | none => 0
  | _ => d.groupOwner k.2

/-- Realm records (R662). -/
def Dev.readRealms (d : Dev) (idx sub : Nat) : DictVal :=
  let r := idx - 0x2E00
  match idx, sub with
  | 0x2E00, 1 => uval 1 ((List.range 256).filter d.realmActive).length
  | 0x2E00, 2 => uval 4 d.scrubs.length
  | 0x2E00, 3 => uval 1 (b2n d.limitsReserved)
  | 0x2E00, 4 => uval 8 (tabGetD 0 ViolationLog.reset d.violations).count
  | _, 12 => uval 1 (if !d.realmActive r then 0 else if d.scrubs.any fun k => d.scrubRealm k == r then 2 else 1)
  | _, 13 => uval 8 (tabGetD r ViolationLog.reset d.violations).count
  | _, _ => uval 1 0

/-! ### 0x3000–0x33FF -/

/-- The entries of an index slot (R314): the cell table and the stripe banks give what is stored. -/
def Dev.readIndex (d : Dev) (x sub : Nat) : DictVal :=
  let k := d.indexState x
  let w := d.index x
  let cells (f : Nat → Nat) : Nat := if ixKind w = 1 ∧ k.state ≠ 1 then sumOf ((List.range (ixCount w)).map fun c => f (d.cell w c)) else 0
  let banks : List Nat := if k.state = 1 then [] else indexBanks w
  match sub with
  | 2 => uval 1 k.state
  | 4 => uval 8 (cells fun v => clVectors v - clTomb v)
  | 5 => uval 8 (cells clTomb)
  | 6 => uval 4 (cells clSegments)
  | 7 => uval 8 (sumOf (banks.map fun b => 131072 - d.freeRow b))
  | 8 => uval 8 k.scans
  | 9 => uval 8 k.triggered
  | 10 => uval 8 k.skipped
  | 11 => uval 8 k.abandoned
  | 12 => uval 8 k.cacheHits
  | 13 => uval 8 k.flashReads
  | 14 => uval 8 k.stale
  | _ => uval 8 k.met

/-- The update entries of an index slot (R387). -/
def Dev.readUpdates (d : Dev) (x sub : Nat) : DictVal :=
  let k := d.indexState x
  let mine := d.updates.pending.filter fun p => p.index == x
  match sub with
  | 7 => uval 8 k.inserts
  | 8 => uval 8 k.deletes
  | 9 => uval 8 k.upserts
  | 10 => uval 4 (mine.filter fun p => p.since.isNone).length
  | 11 => uval 4 mine.length
  | 12 => uval 8 k.moved
  | 13 => uval 8 k.freed
  | 14 => uval 8 k.saturations
  | 15 => uval 8 k.nans
  | _ => uval 8 k.early

/-- The entries of a table slot (R405). -/
def Dev.readTable (d : Dev) (t sub : Nat) : DictVal :=
  let k := d.tableState t
  match sub with
  | 2 => uval 1 k.state
  | 4 => uval 8 k.epoch
  | 5 => uval 8 k.present
  | 6 => uval 8 k.reads
  | 7 => uval 8 k.coalesced
  | 8 => uval 8 k.overflows
  | 9 => uval 8 k.retries
  | 10 => uval 8 k.invalid
  | 11 => uval 8 k.defaults
  | 12 => uval 8 k.flips
  | 13 => uval 8 k.promotions
  | 14 => uval 8 k.demotions
  | 15 => uval 8 k.recopies
  | _ => uval 4 ((d.fwds (d.table t)).filter fun e => fwState e.2 == 1 || fwState e.2 == 2).length

/-- The entries of a pool slot (R454). -/
def Dev.readPool (d : Dev) (s : Session) (k sub : Nat) : DictVal :=
  let p := d.poolState k
  let w := d.pool k
  match sub with
  | 2 => uval 1 p.state
  | 7 => uval 2048 (if s.select (0x3200 + k) 3 < plSeqs w then d.t1Num (d.seqAt k (s.select (0x3200 + k) 3)) 2048 else 0)
  | 8 => uval 4 (if plKind w = 1 then d.granulesFree k else 0)
  | 9 => uval 8 (sumOf (p.keys.map fun e => 2 ^ (pgSize (d.page k e.2) - 4) * plGB w))
  | 10 => uval 4 p.keys.length
  | 11 => uval 4 (p.keys.filter fun e => decide (0 < pgPins (d.page k e.2))).length
  | 12 => uval 8 p.evictions
  | 13 => uval 8 p.conflicts
  | 14 => uval 8 p.emptyRows
  | 15 => uval 8 p.draftsLeft
  | _ => uval 8 p.accepted

/-- The entries of the plan that a session selects (R263): a plan in state 0 where there is none within its reach. -/
def Dev.readPlan (d : Dev) (s : Session) (sub : Nat) : DictVal :=
  let h := s.select 0x3302 0
  match (d.plan? h).filter fun p => s.reaches p.realm with
  | none =>
    match sub with
    | 10 => arrVal 8 (List.replicate 16 0)
    | 11 => arrVal 8 (List.replicate 4 0)
    | _ => uval (if sub < 4 then 1 else if sub < 7 then 2 else 8) 0
  | some p =>
    match sub with
    | 1 => uval 1 (if p.damaged && p.state == 1 then 3 else p.state)
    | 2 => uval 1 p.realm
    | 3 => uval 1 p.version
    | 4 => uval 2 (imDescs p.image)
    | 5 => uval 2 (imTensors p.image)
    | 6 => uval 2 (d.plans.runs.filter fun r => r.plan == h).length
    | 7 => uval 8 p.completed
    | 8 => uval 8 p.budgetStops
    | 9 => uval 8 p.deadlineStops
    | 10 => arrVal 8 ((List.range 16).map (nth p.binding))
    | _ => arrVal 8 ((List.range 4).map (nth p.lastSpend))

/-- The counters of 0x3310 of a realm. -/
def Dev.selectCounters (d : Dev) (r : Nat) : SelectCounters := tabGetD r ⟨0, 0, 0, 0, 0, 0xFFFF, 0, 0⟩ d.search.counters

/-- Objects and plans. A slot of another realm reads as one that is free (R314, R387, R405, R454). -/
def Dev.readObjects (d : Dev) (s : Session) (idx sub : Nat) : DictVal :=
  let count (states : List Bool) : DictVal := uval 1 (states.filter id).length
  match idx with
  | 0x3300 => uval 2 (d.plans.plans.filter fun e => s.reaches e.2.realm).length
  | 0x3303 => d.readPlan s sub
  | 0x3305 =>
    match sub with
    | 1 => uval 1 s.loadStatus
    | 2 => uval 1 s.loadReason
    | 3 => uval 2 s.loadItem
    | _ => uval 2 s.loadHandle
  | 0x3310 =>
    match sub with
    | 1 => uval 8 (s.total fun r => (d.selectCounters r).accepted)
    | 2 => uval 8 (s.total fun r => (d.selectCounters r).repeated)
    | 3 => uval 8 (s.total fun r => (d.selectCounters r).late)
    | 4 => uval 8 (s.total fun r => (d.selectCounters r).missed)
    | 5 => uval 8 (s.total fun r => (d.selectCounters r).ended)
    | 6 => uval 2 (if s.realm = 0 then d.search.lastMissing else (d.selectCounters s.realm).lastMissing)
    | 7 => uval 8 (s.total fun r => (d.selectCounters r).displacements)
    | _ => uval 8 (s.total fun r => (d.selectCounters r).selections)
  | 0x3000 => count ((List.range 64).map fun x => ixKind (d.index x) != 0 && s.reaches (ixRealm (d.index x)))
  | 0x3100 => count ((List.range 64).map fun t => tbKind (d.table t) != 0 && s.reaches (tbRealm (d.table t)))
  | 0x3180 => count ((List.range 16).map fun k => plKind (d.pool k) != 0 && s.reaches (plRealm (d.pool k)))
  | _ =>
    if idx < 0x3060 then d.readIndex (idx - 0x3020) sub
    else if idx < 0x30A0 then d.readUpdates (idx - 0x3060) sub
    else if idx < 0x3160 then d.readTable (idx - 0x3120) sub
    else d.readPool s (idx - 0x3200) sub

/-! ### 0x5000–0x51FF -/

/-- *Event record*. -/
def EventRec.word (e : EventRec) : Nat :=
  e.time % 2 ^ 64 + e.code * 2 ^ 64 + e.severity * 2 ^ 80 + b2n e.aligned * 2 ^ 82 + e.realm * 2 ^ 88 + e.start * 2 ^ 96 +
    e.seq % 2 ^ 32 * 2 ^ 128 + e.w0 * 2 ^ 160 + e.w1 * 2 ^ 192 + e.w2 * 2 ^ 224

/-- *Violation record*. -/
def Violation.word (v : Violation) : Nat :=
  v.time % 2 ^ 64 + v.realm % 256 * 2 ^ 64 + v.source % 256 * 2 ^ 72 + v.sourceId % 65536 * 2 ^ 80 + v.opcode % 256 * 2 ^ 96 + v.kind % 4 * 2 ^ 104 +
    v.tag % 65536 * 2 ^ 112 + v.address % 2 ^ 64 * 2 ^ 128 + v.plan % 65536 * 2 ^ 192 + v.desc % 65536 * 2 ^ 208 + v.count * 2 ^ 224

/-- Sensors and regulators (R679–R681). -/
def Dev.readSensors (d : Dev) (idx sub : Nat) : DictVal :=
  let n := d.sensors
  match idx, sub with
  | 0x5000, 1 => arrVal 2 n.quarter
  | 0x5000, 2 => arrVal 2 n.stack
  | 0x5000, 3 => arrVal 2 n.belfry
  | 0x5000, 4 => uval 2 n.power
  | 0x5000, 5 => uval 2 n.peakPower
  | 0x5001, 1 => arrVal 2 n.railMv
  | 0x5001, 2 => arrVal 4 n.railMa
  | 0x5003, 2 => arrVal 2 n.regulator
  | _, _ => uval 1 (b2n d.pins.alert)

/-- The records of the event log, oldest first; in MINIMAL mode the SRAM ring is followed by the NOR log (R686). -/
def Dev.eventRecords (d : Dev) : List EventRec :=
  (d.log.ring.map (·.1)).reverse ++ (if d.isMinimal then d.nor.events.reverse else [])

/-- Event and violation logs. -/
def Dev.readLogs (d : Dev) (s : Session) (idx sub : Nat) : DictVal :=
  let l := tabGetD (s.select 0x5140 3) ViolationLog.reset d.violations
  match idx, sub with
  | 0x5140, 1 => arrVal 32 ((List.range 256).map fun i => ((l.ring[i]?).map Violation.word).getD 0)
  | 0x5140, 2 => uval 8 l.lost
  | 0x5100, 1 => uval 8 ((d.log.ring.head?).map (·.1.seq) |>.getD 0)
  | 0x5100, 2 => uval 8 ((d.log.ring.getLast?).map (·.1.seq) |>.getD 0)
  | 0x5100, 4 =>
    let from_ := d.eventRecords.filter fun e => decide (s.select 0x5100 3 ≤ e.seq)
    arrVal 32 ((List.range 32).map fun i => ((from_[i]?).map EventRec.word).getD 0)
  | 0x5100, 5 => uval 8 d.log.overwritten
  | 0x5100, 7 => uval 4 (d.log.ring.filter fun e => !e.2).length
  | _, _ => uval 1 0

/-! ### 0x5800–0x5FFF -/

/-- Oculus (R694–R699). -/
def Dev.readOculus (d : Dev) (idx sub : Nat) : DictVal :=
  let o := d.oculus
  match idx, sub with
  | 0x5800, 3 => uval 8 o.run
  | 0x5800, 4 => uval 8 o.deferred
  | 0x5800, 5 => uval 8 o.aborted
  | 0x5800, 6 => uval 8 o.passedOver
  | 0x5800, 7 => uval 8 o.failures
  | 0x5801, _ => arrVal 1 o.results
  | 0x5821, _ => uval 4 o.program
  | _, _ => uval 1 0

/-- Security and attestation. -/
def Dev.readSecurity (c : Ctx) (d : Dev) (s : Session) (idx sub : Nat) : DictVal :=
  match idx, sub with
  | 0x5C00, 1 => uval 1 d.keep.lifeCycle
  | 0x5C00, 4 => uval 1 (b2n (d.pins.lcStrap == 1))
  | 0x5C01, 1 => arrVal 1 ((List.range 8).map (nth c.fuses.counters))
  | 0x5C01, 2 => arrVal 1 ((List.range 8).map c.fuses.rootStatus)
  | 0x5C02, 1 => uval 57 deviceIdPublic
  | 0x5C02, 2 => ⟨Config.document 0 0, Config.document 0 1⟩
  | 0x5C03, _ => arrVal 64 ((List.range 9).map fun n => d.measurement c (n + 1))
  | 0x5C10, 2 => uval 832 s.report
  | 0x5C20, 2 => uval 1 (b2n s.isProtected)
  | 0x5C50, 1 => uval 1 d.keep.health
  | 0x5C50, 2 => uval 8 d.keep.faults
  | _, _ => uval 1 0

/-- Firmware update. -/
def Dev.readFirmware (d : Dev) (sub : Nat) : DictVal :=
  match sub with
  | 1 => uval 1 d.nor.boot.active
  | 2 => arrVal 1 [(d.image 0).state, (d.image 1).state]
  | 3 => arrVal 2 ((List.range 12).map fun i => (d.image (i / 6)).release (i % 6))
  | 4 => uval 1 d.firmware.packageStatus
  | _ => uval 1 d.firmware.refusedComponent

/-- What an entry that the device sets reads as, in a session. -/
def Dev.reading (c : Ctx) (d : Dev) (s : Session) (idx sub : Nat) : DictVal :=
  if idx < 0x1100 then d.readIdentity idx sub
  else if idx < 0x1800 then d.readPorts idx sub
  else if idx < 0x2000 then d.readGenerations s idx sub
  else if idx < 0x2400 then d.readTiles s idx sub
  else if idx < 0x2800 then d.readStacks s idx sub
  else if idx < 0x2A00 then d.readFlash s idx sub
  else if idx < 0x2C00 then d.readFabric idx sub
  else if idx < 0x2E00 then d.readTraffic s idx sub
  else if idx < 0x3000 then d.readRealms idx sub
  else if idx < 0x5000 then d.readObjects s idx sub
  else if idx < 0x5100 then d.readSensors idx sub
  else if idx < 0x5800 then d.readLogs s idx sub
  else if idx < 0x5C00 then d.readOculus idx sub
  else if idx < 0x5F00 then d.readSecurity c s idx sub
  else d.readFirmware sub

end Sys2Proof.Machine
end

