-- ==== Sys2Proof/Machine/Drafts.lean ====
section
/-! DEFINITION. What a written value of an entry is stored as, and the checks that a single value meets at the write (R4, R78, R730): field
ranges, and the object descriptors checked as a whole (R165, R266, R274, R365, R390, R414, R492, R497). -/

namespace Sys2Proof.Machine

/-! ### Commit domains -/

/-- The values of a draft over others (R84, R86). -/
def overlay (draft base : Tab DictVal) : Tab DictVal := draft.foldl (fun t e => tabSet e.1 e.2 t) base

/-- The device with other values active. -/
def Dev.withCfg (d : Dev) (t : Tab DictVal) : Dev := d.setDict { d.dict with cfg := t }

/-- The device as a commit of a domain's draft would leave its values. -/
def Dev.drafted (d : Dev) (s : Session) (domain : Nat) : Dev := d.withCfg (overlay (tabGetD domain [] s.drafts) d.dict.cfg)

/-- The realm that owns the slot of an object entry: that of its active descriptor, 0 of a free slot. -/
def Dev.slotOwner (d : Dev) (idx : Nat) : Nat :=
  if inRange 0x2880 0x28BF idx then (let w := d.cfg idx 1; if bits w 7 0 = 0 then 0 else bits w 15 8)
  else if inRange 0x3020 0x305F idx then (if ixKind (d.index (idx - 0x3020)) = 0 then 0 else ixRealm (d.index (idx - 0x3020)))
  else if inRange 0x3060 0x309F idx then (if ixKind (d.index (idx - 0x3060)) = 0 then 0 else ixRealm (d.index (idx - 0x3060)))
  else if inRange 0x3120 0x315F idx then (if tbKind (d.table (idx - 0x3120)) = 0 then 0 else tbRealm (d.table (idx - 0x3120)))
  else if inRange 0x3200 0x320F idx then (if plKind (d.pool (idx - 0x3200)) = 0 then 0 else plRealm (d.pool (idx - 0x3200)))
  else 0

/-! ### Reserved bits and RO fields (R4) -/

/-- The bits of a field map that a write sets. -/
def fieldsMask (l : List (Nat × Nat)) : Nat := sumOf (l.map fun f => 2 ^ (f.1 + 1) - 2 ^ f.2)

/-- The writable bits of an entry with a field map; none where every bit is. -/
def writableBits (idx sub : Nat) : Option Nat :=
  if inRange 0x2420 0x243F idx then some (fieldsMask [(17, 0), (31, 24)])
  else if idx = 0x2460 then some (sumOf ((List.range 96).map fun i => 0x1FF * 2 ^ (16 * i)))
  else if inRange 0x2820 0x282F idx then some (fieldsMask [(3, 0), (26, 8), (156, 32), (175, 160)])
  else if inRange 0x2880 0x28BF idx then some (fieldsMask [(7, 0), (79, 16)])
  else if inRange 0x2D01 0x2DFF idx then some (fieldsMask [(6, 0), (10, 8), (95, 32), (255, 128)])
  else if inRange 0x3020 0x305F idx && sub == 1 then
    some (fieldsMask [(19, 0), (119, 32), (211, 128), (224, 216), (703, 240)] + sumOf ((List.range 448).map fun i => 0x3FFF * 2 ^ (1024 + 16 * i)))
  else if inRange 0x3120 0x315F idx && sub == 1 then some (fieldsMask [(11, 0), (87, 16), (319, 128)])
  else if (inRange 0x3020 0x305F idx && sub == 0x10) || (inRange 0x3120 0x315F idx && sub == 0x11) then some (fieldsMask [(15, 0), (32799, 32)])
  else if inRange 0x3200 0x320F idx && sub == 1 then some (fieldsMask [(11, 0), (127, 16), (256, 144), (268, 264)])
  else if idx = 0x5C30 then some (fieldsMask [(457, 0)])
  else none

/-- The place of the RO field REALM in an object descriptor, which the device sets (R264, R388, R413, R496). -/
def realmField (idx sub : Nat) : Option Nat :=
  if sub != 1 then none
  else if inRange 0x2880 0x28BF idx then some 8
  else if inRange 0x3020 0x305F idx then some 24
  else if inRange 0x3120 0x315F idx then some 96
  else if inRange 0x3200 0x320F idx then some 128
  else none

/-- The value stored of one written: reserved bits 0 (R4), and the owner's realm in a descriptor that is not all zeros. -/
def stored (idx sub realm v : Nat) : Nat :=
  let v := match writableBits idx sub with
    | some m => v &&& m
    | none => v
  match realmField idx sub with
  | some p => if v = 0 then 0 else v + realm * 2 ^ p
  | none => v

/-! ### Areas of objects -/

/-- The areas of an index: address and bytes (*Index storage sizes*). -/
def indexAreas (w : Nat) : List (Nat × Nat) :=
  let common : List (Nat × Nat) := [(ixLocator w, 32 * ixIdLimit w),
    (ixCacheAddr w, if ixCacheSlots w = 0 then 0 else ceilDiv (16 * ixCacheSlots w) 4096 * 4096 + ixCacheSlots w * ixOB w)]
  match ixKind w with
  | 1 => (ixArea w, neighboursAt w + 128 * ixCount w) :: (ixCell w, 64 * ixCount w) :: (ixHandle w, 2048 * ixArrays w) :: common
  | 2 => (ixArea w, 4096 + ixCount w * nodeBytes w) :: common
  | _ => []

/-- The T1 ranges of the banks of an index's stripes (R166, *Index storage sizes*). -/
def stripeAreas (w : Nat) : List (Nat × Nat) :=
  (indexBanks w).map fun n => (n / 768 * stackBytes + (n % 24 * 32 + n % 768 / 24) * 2 ^ 27, 2 ^ 27)

/-- The areas of a table: home and local. -/
def tableAreas (w : Nat) : List (Nat × Nat) :=
  if tbKind w = 0 then [] else [(tbHome w, tbHomeBytes w), (tbCacheAddr w, tbLocalBytes w)]

/-- The area of a pool. -/
def poolAreas (w : Nat) : List (Nat × Nat) := if plKind w = 0 then [] else [(plArea w, plBytes w)]

/-- Do two ranges overlap? -/
def overlaps (a b : Nat × Nat) : Bool := decide (0 < a.2) && decide (0 < b.2) && decide (a.1 < b.1 + b.2) && decide (b.1 < a.1 + a.2)

/-- Do two lists of ranges touch? -/
def anyOverlap (l m : List (Nat × Nat)) : Bool := l.any fun a => m.any (overlaps a)

/-- Do the ranges of a list touch one another? -/
def selfOverlap : List (Nat × Nat) → Bool
  | [] => false
  | a :: l => l.any (overlaps a) || selfOverlap l

/-- The other slots of a list. -/
def others (n x : Nat) : List Nat := (List.range n).filter (· != x)

/-- The areas of index slots. -/
def Dev.indexAreasOf (d : Dev) (l : List Nat) : List (Nat × Nat) := (l.map fun x => indexAreas (d.index x)).flatten
/-- The stripe banks of index slots. -/
def Dev.stripeAreasOf (d : Dev) (l : List Nat) : List (Nat × Nat) := (l.map fun x => stripeAreas (d.index x)).flatten
/-- The areas of table slots. -/
def Dev.tableAreasOf (d : Dev) (l : List Nat) : List (Nat × Nat) := (l.map fun t => tableAreas (d.table t)).flatten
/-- The areas of pool slots. -/
def Dev.poolAreasOf (d : Dev) (l : List Nat) : List (Nat × Nat) := (l.map fun k => poolAreas (d.pool k)).flatten

/-- The position table of an index slot, if it has one: 8 bytes an identifier; 8 bytes where no descriptor gives ID_LIMIT (R365). -/
def Dev.positionArea (d : Dev) (x : Nat) : List (Nat × Nat) :=
  let a := d.cfg (0x3060 + x) 1
  if a = 0 then [] else [(a, if ixKind (d.index x) = 0 then 8 else 8 * ixIdLimit (d.index x))]

/-! ### Index descriptors (R265, R266, R273, R274) -/

/-- Are the alignments and bounds of a stripe word kept? -/
def stripeFormed (s t : Nat) : Bool :=
  if s ≤ 6 then decide (stripeDie t < 12) && stripePc t % 2 ^ (s - 1) == 0
  else stripePc t == 0 && stripeDie t % 2 ^ (s - 6) == 0 && decide (stripeDie t + 2 ^ (s - 6) ≤ 12)

/-- Do the stripe words meet R274, in the device's active regions and beside the stripes of other indexes? -/
def Dev.stripesOk (d : Dev) (x w realm : Nat) : Bool :=
  let s := ixStripeLog w
  let words := (List.range (ixStripes w)).map (ixStripe w)
  words.all (stripeFormed s) &&
    (words.all fun t => (stripeIndices s t).all fun b =>
      match regionOfIndex (regionsBy d.cfg (stripeStack t)) b with
      | some r => rgMode r == 2 && rgRealm r == realm && decide (rgGroup r ≤ s)
      | none => false) &&
    (let l := indexBanks w
     decide ((distinct l).length = l.length) && (others 64 x).all fun y => l.all fun b => !ixHasBank (d.index y) b)

/-- Is an F32 a number from 0 to 1? -/
def f32Unit (v : Nat) : Bool := !f32IsNaN v && !f32Lt v 0 && !f32Lt 0x3F800000 v

/-- Are the fields of an index descriptor inside their ranges, those of the other KIND 0? -/
def indexRanges (w : Nat) : Bool :=
  inRange 10 11 (ixCode w) && decide (ixMetric w ≤ 2) && inRange 7 9 (ixOrig w) && inRange 64 4096 (ixDim w) && ixDim w % 64 == 0 &&
    inRange 1 256 (ixSegCap w) &&
    inRange 1 0xFFFFFFFE (ixIdLimit w) && decide (ixIdBase w + ixIdLimit w ≤ 2 ^ 48 - 1) && f32Unit (ixSlack w) && ixArea w % 4096 == 0 &&
    ixLocator w % 4096 == 0 && ixCacheAddr w % 4096 == 0 && (ixCacheSlots w != 0 || ixCacheAddr w == 0) &&
    (if ixKind w = 1 then
      ixDeg w == 32 && inRange 1 (2 ^ 20) (ixCount w) && inRange 1 9 (ixStripeLog w) && inRange 1 448 (ixStripes w) &&
        ixCell w % 64 == 0 && ixHandle w % 2048 == 0 && decide (ixCount w ≤ 2048 * ixStripes w)
    else
      inRange 8 64 (ixDeg w) && ixDeg w % 8 == 0 && inRange 1 (2 ^ 26) (ixCount w) && ixStripeLog w == 0 && ixStripes w == 0 && ixCell w == 0 && ixHandle w == 0 && ixArrays w == 0 && byteField w 128 896 == 0)

/-- Do VOLUME and SPARSE name active objects of the realm? -/
def Dev.indexNames (d : Dev) (realm w : Nat) : Bool :=
  (ixVolume w == 0 || (d.volumeByHandle realm (ixVolume w)).isSome) && (ixSparse w == 0 || (d.tableOf realm (ixSparse w)).isSome)

/-- May a realm's draft take a descriptor of index slot x (R266, R268)? `old` is the active one; the names must be active objects. -/
def Dev.indexOk (d active : Dev) (x realm old w : Nat) : Bool :=
  if w = 0 then true
  else if ixKind old != 0 then setBits w 319 288 0 == setBits old 319 288 0 && f32Unit (ixSlack w)
  else
    inRange 1 2 (ixKind w) && indexRanges w && d.stripesOk x w realm &&
      ((indexAreas w).all fun a => a.2 == 0 || d.inT1Window realm a.1 a.2) && !selfOverlap (indexAreas w) &&
      !anyOverlap (indexAreas w) (d.indexAreasOf (others 64 x) ++ d.stripeAreasOf (others 64 x) ++ stripeAreas w) &&
      !anyOverlap (stripeAreas w) (d.indexAreasOf (others 64 x)) && active.indexNames realm w

/-! ### Tables, pools, volumes, profiles -/

/-- Does a scale register set's entry hold a set: empty, or a length of 1–4,096, a reserved word, and that many exponents (R729)? -/
def setFormed (v : DictVal) : Bool :=
  v.len == 0 || (decide (4 < v.len) && inRange 1 4096 (byteField v.num 0 2) && v.len == 4 + byteField v.num 0 2)

/-- The length of a scale register set, 0 of an empty entry. -/
def setLength (v : DictVal) : Nat := if v.len = 0 then 0 else byteField v.num 0 2

/-- The length of a table's data along AXIS. -/
def tableAxis (w : Nat) : Nat := if bindAxis (tbScale w) = 0 then tbElems w else if bindAxis (tbScale w) = 1 then tbRows w else 1

/-- Does a table's scale binding meet R50, R51 and R390? -/
def Dev.tableScaleOk (d : Dev) (t w : Nat) : Bool :=
  if (tbFmt w).isCode then
    bindOk (tbScale w) && bindSrc (tbScale w) != 2 && (bindSrc (tbScale w) == 0 || bindSet (tbScale w) == 0) &&
      bindFits (tbScale w) (tableAxis w) (setLength (d.cfgVal (0x3120 + t) 0x11))
  else tbScale w == 0

/-- May a realm's draft take a descriptor of table slot t (R390)? -/
def Dev.tableOk (d : Dev) (t realm old w : Nat) : Bool :=
  if w = 0 then true
  else if tbKind old != 0 then setBits w 255 224 0 == setBits old 255 224 0 && decide (tbPromote w ≤ 65535)
  else
    tbKind w == 1 && (Fmt.ofCode (tbFmtCode w)).isSome && inRange 1 16384 (tbElems w) && decide (0 < tbRows w) && d.tableScaleOk t w &&
      tbHome w % 4096 == 0 && decide (tbPromote w ≤ 65535) && tbCacheAddr w % 4096 == 0 && (tbCacheRows w != 0 || tbCacheAddr w == 0) &&
      !(inT1 (tbHome w) && tbCacheRows w != 0) && d.inWindows realm (tbHome w) (tbHomeBytes w) &&
      (tbCacheRows w == 0 || d.inT1Window realm (tbCacheAddr w) (tbLocalBytes w)) && !selfOverlap (tableAreas w) &&
      !anyOverlap (tableAreas w) (d.tableAreasOf (others 64 t) ++ d.indexAreasOf (List.range 64) ++ d.stripeAreasOf (List.range 64))

/-- May a realm's draft take a descriptor of pool slot k (R413, R414)? -/
def Dev.poolOk (d : Dev) (k realm old w : Nat) : Bool :=
  if w = 0 then true
  else if plKind old != 0 then w == old
  else
    plKind w == 1 && inRange 10 11 (plFmt w) && inRange 1 255 (plLayers w) && inRange 1 64 (plHkv w) && [64, 128, 256].contains (plDh w) &&
      plRope w % 2 == 0 && decide (plRope w ≤ plDh w) && plScale w == 0x52 && (plRope w == 0 || f32Lt 0 (plTheta w)) &&
      decide (0 < plSeqs w) && inRange 16 (2 ^ 24) (plGranules w) && plArea w % 4096 == 0 &&
      (if plService w then inRange 10 24 (plKeyLog w) else plKeyLog w == 0) && d.inT1Window realm (plArea w) (plBytes w) &&
      !anyOverlap (poolAreas w) (d.poolAreasOf (others 16 k) ++ d.tableAreasOf (List.range 64) ++ d.indexAreasOf (List.range 64) ++
        d.stripeAreasOf (List.range 64) ++ ((List.range 64).map d.positionArea).flatten)

/-- G_s of R459 for the volumes of a device's descriptors, in place of the active ones. -/
def Dev.structuresWith (d : Dev) : Nat :=
  let p := 262144 * sumOf ((List.range 256).map d.cacheGib)
  let m := 8 * sumOf ((List.range 64).map fun v => if bits (d.volumeDesc v) 7 0 = 0 then 0 else vlCapacity (d.volumeDesc v))
  1 + ceilDiv (p + 2 * m) gib

/-- May a realm's draft take a descriptor of volume slot v (R497, R635)? The device has the draft's values, and `active` those in force. -/
def Dev.volumeOk (d active : Dev) (v realm w : Nat) : Bool :=
  let old := active.volumeDesc v
  if w = 0 then true
  else if bits old 7 0 != 0 then w == old
  else
    let used (e : Dev) : List Nat := ((others 64 v).map e.volumeDesc).filter fun u => bits u 7 0 != 0
    let masks := (used d ++ used active).map vlGroups
    let same := ((used d).filter fun u => vlGroups u == vlGroups w).map vlCapacity
    let new := d.withCfg (tabSet (entryKey (0x2880 + v) 1) ⟨32, w⟩ d.dict.cfg)
    bits w 7 0 == 1 && decide (0 < vlCapacity w) && ((maskGroups (vlGroups w)).all d.flashGroupUp) &&
      (masks.all fun m => m == vlGroups w || m &&& vlGroups w == 0) && decide (sumOf same + vlCapacity w ≤ d.usableSlots (vlGroups w)) &&
      decide (new.structuresWith + d.tiers.lent.length ≤ d.keptGib.length) &&
      vlGroups w &&& d.cfg (0x2E00 + realm) 6 == vlGroups w

/-- Does a channel group hold blocks of a volume, on LUNs in service or not (R492, V72)? -/
def Dev.groupHoldsBlocks (d : Dev) (g : Nat) : Bool := d.flash.blocks.any fun e =>
  lunGroup (blockLun e.1) == g && decide (e.2.volume < 64) && (e.2.state == .opened || e.2.state == .closing || e.2.state == .closed)

/-- Is RATE one of the steps of *ONFI 5.1 support*? -/
def rateOk (mode rate : Nat) : Bool :=
  if mode = 1 then inRange 800 3600 rate && rate % 400 == 0 else inRange 400 1600 rate && rate % 200 == 0

/-- Are the fields of a media profile in use inside their ranges (R491)? -/
def profileRanges (p : Nat) : Bool :=
  inRange 1 2 (mpCell p) && decide (mpMode p ≤ 1) && rateOk (mpMode p) (mpRate p) && inRange 1 6 (mpPlanes p) && inRange 64 340 (mpWordlines p) &&
    inRange 256 16384 (mpBlocks p) && inRange 1 8 (mpCes p) && inRange 1 4 (mpLuns p) && inRange 1152 4096 (mpSpare p) && mpSpare p % 4 == 0 &&
    inRange 10 1000 (bits p 103 88) && inRange 100 20000 (bits p 119 104) && inRange 1000 50000 (bits p 135 120) &&
    inRange 1 200 (bits p 151 136) && inRange 100 65000 (mpRated p)

/-- May media profile i become p (R492)? No field of it changes while a group that holds blocks selects it, by the values in force or by the
draft's. -/
def Dev.profileOk (d active : Dev) (i p : Nat) : Bool :=
  (mpCell p == 0 || profileRanges p) &&
    (p == active.cfg (0x2820 + i) 0 || !((List.range 16).any fun g =>
      (d.cfg 0x2810 (g + 1) == i || active.cfg 0x2810 (g + 1) == i) && d.groupHoldsBlocks g))

/-- Is a region descriptor inside its fields' ranges (R165)? -/
def regionRanges (w : Nat) : Bool :=
  rgMode w != 3 && rgExchange w != 3 && decide (rgGroup w ≤ 6) && decide (rgFirst w ≤ 23) && decide (rgCount w ≤ 24)

/-- May the position table of index slot x lie at an address (R365)? `old` is the active address; the device has the draft's values, and
`was` the active ones. -/
def Dev.positionOk (d was : Dev) (x realm old a : Nat) (active : Bool) : Bool :=
  (!active || a == old) &&
    (a == 0 || (a % 4096 == 0 &&
      (let area : Nat × Nat := (a, if ixKind (d.index x) = 0 then 8 else 8 * ixIdLimit (d.index x))
       d.inT1Window realm area.1 area.2 && !anyOverlap [area] (d.indexAreasOf (List.range 64) ++ d.stripeAreasOf (List.range 64) ++
         was.indexAreasOf (List.range 64) ++ was.stripeAreasOf (List.range 64)))))

/-! ### The range of a value (R78, R730) -/

/-- Is a written value inside its entry's field ranges? The device has the draft's values of the entry's domain; `realm` is that domain. -/
def Dev.fieldOk (d : Dev) (active : Dev) (realm idx sub : Nat) (v : DictVal) : Bool :=
  let n := v.num
  let old := active.cfg idx sub
  if idx = 0x2010 then inRange 600 1150 n && n % 25 == 0
  else if inRange 0x2420 0x243F idx then regionRanges n
  else if inRange 0x2820 0x282F idx then d.profileOk active (idx - 0x2820) n
  else if idx = 0x2850 then inRange 1 10 n
  else if inRange 0x2880 0x28BF idx then d.volumeOk active (idx - 0x2880) realm n
  else if inRange 0x2A10 0x2A17 idx then n == 0x23 || n == 0x30 || n == 0x31
  else if idx = 0x2A20 then (toElems 1 8 n).all fun x => decide (x < 64)
  else if idx = 0x2AB0 then !f32IsNaN n && !f32Lt n 0 && (sub == 4 || !f32Lt 0x3F800000 n)
  else if inRange 0x2D01 0x2DFF idx then bits n 1 0 != 3 && (bits n 1 0 != 1 || bits n 255 192 == 0)
  else if inRange 0x2E01 0x2EFF idx then
    (match sub with
     | 3 => (toElems 2 4 n).all fun x => decide (x ≤ 1000)
     | 4 => (toElems 2 16 n).all fun x => decide (x ≤ 1000)
     | 7 => decide (elem n 2 5 ≤ 8)
     | _ => decide (v.len ≤ 64))
  else if inRange 0x3020 0x305F idx then
    if sub = 1 then d.indexOk active (idx - 0x3020) realm old n else setFormed v && ixKind (active.index (idx - 0x3020)) == 0
  else if inRange 0x3060 0x309F idx then
    (match sub with
     | 1 => d.positionOk active (idx - 0x3060) realm old n (ixKind (active.index (idx - 0x3060)) != 0)
     | 2 => decide (n < 36) || n == 255
     | _ => n == 0 || decide (110 ≤ n))
  else if inRange 0x3120 0x315F idx then
    (match sub with
     | 1 => d.tableOk (idx - 0x3120) realm old n
     | 3 => true
     | _ => setFormed v && tbKind (active.table (idx - 0x3120)) == 0)
  else if inRange 0x3200 0x320F idx then d.poolOk (idx - 0x3200) realm old n
  else if idx = 0x5002 then inRange 2 25 n && decide ((tabValue d.nor.kept 0x5002 7).num < n)
  else if idx = 0x5003 then (toElems 1 16 n).all fun x => decide (x < 128)
  else true

/-- Does a value meet its entry's range? -/
def Dev.inEntryRange (d active : Dev) (r : EntryRow) (realm idx sub : Nat) (v : DictVal) : Bool :=
  match r.range with
  | .any => true
  | .span lo hi => inRange lo hi v.num
  | .field => d.fieldOk active realm idx sub v

/-! ### Object limits (R634) -/

/-- The slots of a kind that are active or drafted for a realm, and its limit; none for an entry that is no object descriptor. -/
def Dev.objectCount (d : Dev) (active : Dev) (realm idx : Nat) : Option (Nat × Nat) :=
  let count (lo n realmLo : Nat) : Nat := ((List.range n).filter fun x =>
    let w := d.cfg (lo + x) 1
    let o := active.cfg (lo + x) 1
    (bits w 7 0 != 0 && bits w (realmLo + 7) realmLo == realm) || (bits o 7 0 != 0 && bits o (realmLo + 7) realmLo == realm)).length
  let limits := d.cfg (0x2E00 + realm) 7
  if inRange 0x3020 0x305F idx then some (count 0x3020 64 24, elem limits 2 1)
  else if inRange 0x3120 0x315F idx then some (count 0x3120 64 96, elem limits 2 2)
  else if inRange 0x3200 0x320F idx then some (count 0x3200 16 128, elem limits 2 3)
  else if inRange 0x2880 0x28BF idx then some (count 0x2880 64 8, elem limits 2 4)
  else none

/-- Would a descriptor write keep the realm inside its object limit? -/
def Dev.withinLimit (d active : Dev) (realm idx sub : Nat) (v : DictVal) : Bool :=
  sub != 1 || v.num == 0 ||
    match (d.withCfg (tabSet (entryKey idx sub) v d.dict.cfg)).objectCount active realm idx with
    | some (n, limit) => decide (n ≤ limit)
    | none => true

end Sys2Proof.Machine
end

