-- ==== Sys2Proof/Machine/Checks.lean ====
section
/-! DEFINITION. The cross-field checks that a commit runs over the values that it would make active (R86, R97, R98). -/

namespace Sys2Proof.Machine

/-- A check that does not hold: its number, the entry found wrong, and the entry it was compared with (0x1812.01–.03). -/
structure Failure where
  check : Nat
  entry : Nat
  related : Nat
deriving DecidableEq, Repr

/-- The realms of records, 1–255. -/
def realms : List Nat := (List.range 255).map (· + 1)
/-- The regions of every stack, as (stack, region). -/
def regionSlots : List (Nat × Nat) := ((List.range 32).map fun s => (List.range 16).map fun r => (s, r)).flatten
/-- The classes' policers of every realm, as (realm, class). -/
def policerSlots : List (Nat × Nat) := (realms.map fun r => (List.range 8).map fun k => (r, k)).flatten

/-- A region descriptor. -/
def Dev.region (d : Dev) (k : Nat × Nat) : Nat := d.cfg (0x2420 + k.1) (k.2 + 1)
/-- The entry of a region descriptor. -/
def regionEntry (k : Nat × Nat) : Nat := entryKey (0x2420 + k.1) (k.2 + 1)
/-- An entry of a realm record. -/
def realmEntryKey (r sub : Nat) : Nat := entryKey (0x2E00 + r) sub

/-! ### Regions and throttling: V10–V16 -/

/-- Do two used regions overlap in bank indices? -/
def regionsMeet (a b : Nat) : Bool :=
  rgUsed a && rgUsed b && decide (rgFirst a < rgFirst b + rgCount b) && decide (rgFirst b < rgFirst a + rgCount a)

/-- V10: bounds, and no overlap with an earlier region of the stack. -/
def Dev.checkV10 (d : Dev) : Option Failure :=
  regionSlots.findSome? fun k =>
    let w := d.region k
    if rgUsed w && (rgCount w == 0 || decide (24 < rgFirst w + rgCount w)) then some ⟨10, regionEntry k, 0⟩
    else if !rgUsed w && rgCount w != 0 then some ⟨10, regionEntry k, 0⟩
    else ((List.range k.2).find? fun r => regionsMeet w (d.region (k.1, r))).map fun r => ⟨10, regionEntry k, regionEntry (k.1, r)⟩

/-- V11: a BANK_LINEAR region names a realm; V10 leaves each bank to one region. -/
def Dev.checkV11 (d : Dev) : Option Failure :=
  (regionSlots.find? fun k => rgMode (d.region k) == 2 && rgRealm (d.region k) == 0).map fun k => ⟨11, regionEntry k, 0⟩

/-- Do EXCHANGE, GROUP_LOG2, FIRST and COUNT of a used region agree (R168, V12)? -/
def exchangeOk (w : Nat) : Bool :=
  match rgExchange w with
  | 0 => rgGroup w == 0
  | 1 => inRange 1 3 (rgGroup w) && rgMode w == 2 && rgFirst w % 2 == 0 && rgCount w % 2 == 0
  | _ => inRange 1 6 (rgGroup w) && rgMode w == 2 && rgFirst w % 2 == 0 && rgCount w % 2 == 0

/-- V12, over the regions in use (DESIGN CHOICE, log entry 88). -/
def Dev.checkV12 (d : Dev) : Option Failure :=
  (regionSlots.find? fun k => rgUsed (d.region k) && !exchangeOk (d.region k)).map fun k => ⟨12, regionEntry k, 0⟩

/-- The areas in T1 and T2 of active objects, with the object's descriptor entry and its realm. -/
def Dev.objectAreas (d : Dev) : List (Nat × Nat × List (Nat × Nat)) :=
  ((List.range 64).map fun x => (entryKey (0x3020 + x) 1, ixRealm (d.index x), if ixKind (d.index x) = 0 then []
    else indexAreas (d.index x) ++ d.positionArea x)) ++
  ((List.range 64).map fun t => (entryKey (0x3120 + t) 1, tbRealm (d.table t), tableAreas (d.table t))) ++
  ((List.range 16).map fun k => (entryKey (0x3200 + k) 1, plRealm (d.pool k), poolAreas (d.pool k)))

/-- The addresses of a region of a stack (R165). -/
def regionArea (s w : Nat) : Nat × Nat := (s * stackBytes + rgFirst w * (4 * gib), rgCount w * (4 * gib))

/-- The active object of which a region of a stack holds something: a stripe bank of an index (R278), or an area. -/
def Dev.regionHolder (d : Dev) (s w : Nat) : Option Nat :=
  let inside (b : Nat) : Bool := b / 768 == s && decide (rgFirst w ≤ b % 24) && decide (b % 24 < rgFirst w + rgCount w)
  match (List.range 64).find? fun x => (indexBanks (d.index x)).any inside with
  | some x => some (entryKey (0x3020 + x) 1)
  | none => (d.objectAreas.find? fun o => o.2.2.any (overlaps (regionArea s w))).map (·.1)

/-- V13: a region that holds part of an active object keeps its mode, bounds, realm and exchange. -/
def Dev.checkV13 (old new : Dev) : Option Failure :=
  regionSlots.findSome? fun k =>
    let w := old.region k
    if !rgUsed w || setBits w 7 7 0 == setBits (new.region k) 7 7 0 then none
    else (old.regionHolder k.1 w).map fun o => ⟨13, regionEntry k, o⟩

/-- V14: a realm that admits ABI 2 has its BANK_LINEAR regions on stacks in TIMING_RULE. -/
def Dev.checkV14 (d : Dev) : Option Failure :=
  realms.findSome? fun r =>
    if d.cfg (0x2E00 + r) 0x0A = 0 then none
    else ((d.linearStacks r).find? fun s => d.cfg 0x2405 (s + 1) != 1).map fun s => ⟨14, realmEntryKey r 0x0A, entryKey 0x2405 (s + 1)⟩

/-- V15: the parameters of a stack's throttle mode lie in their ranges. -/
def Dev.checkV15 (d : Dev) : Option Failure :=
  (List.range 32).findSome? fun s =>
    let bad (idx lo hi : Nat) : Option Failure := if inRange lo hi (d.cfg idx (s + 1)) then none else some ⟨15, entryKey idx (s + 1), entryKey 0x2405 (s + 1)⟩
    if d.cfg 0x2405 (s + 1) = 1 then
      (match bad 0x2407 250 16000 with
       | some f => some f
       | none => match bad 0x2408 1 32 with
         | some f => some f
         | none => bad 0x2409 20 1000)
    else bad 0x2406 6 14

/-- Has a plan a sequence of ABI 2? -/
def Plan.abi2 (p : Plan) : Bool := (List.range (imSeqs p.image)).any fun q => sqAbi (imSeqHead p.image q) == 2

/-- V16: no stack in GOVERNOR holds an ABI 2 sequence in a sequence store (R178), as the commit would leave them. -/
def Dev.checkV16 (old new : Dev) : Option Failure :=
  ((List.range 32).find? fun s => new.cfg 0x2405 (s + 1) != 1 &&
    old.plans.plans.any fun e => e.2.abi2 && new.storesOn e.2 s).map fun s => ⟨16, entryKey 0x2405 (s + 1), 0⟩

/-! ### Bindings and areas of a realm's objects: V20–V24 -/

/-- The slots of a kind that are a realm's, by their descriptors. -/
def objectSlots (n realm : Nat) (kind owner : Nat → Nat) (desc : Nat → Nat) : List Nat :=
  (List.range n).filter fun x => kind (desc x) != 0 && owner (desc x) == realm

/-- The index slots of a realm. -/
def Dev.realmIndexes (d : Dev) (realm : Nat) : List Nat := objectSlots 64 realm ixKind ixRealm d.index
/-- The table slots of a realm. -/
def Dev.realmTables (d : Dev) (realm : Nat) : List Nat := objectSlots 64 realm tbKind tbRealm d.table
/-- The pool slots of a realm. -/
def Dev.realmPools (d : Dev) (realm : Nat) : List Nat := objectSlots 16 realm plKind plRealm d.pool
/-- The volume slots of a realm. -/
def Dev.realmVolumes (d : Dev) (realm : Nat) : List Nat := objectSlots 64 realm (fun w => bits w 7 0) (fun w => bits w 15 8) d.volumeDesc

/-- V20: codes with SRC = 0b01 need a product metric. -/
def Dev.checkV20 (d : Dev) (realm : Nat) : Option Failure :=
  ((d.realmIndexes realm).find? fun x => bindSrc (ixScale (d.index x)) == 1 && ixMetric (d.index x) == 0).map fun x => ⟨20, entryKey (0x3020 + x) 1, 0⟩

/-- V22: pools bind with SRC = 0b10, AXIS = 0, BLOCK_LOG2 = 5 (R54). -/
def Dev.checkV22 (d : Dev) (realm : Nat) : Option Failure :=
  ((d.realmPools realm).find? fun k => plScale (d.pool k) != 0x52).map fun k => ⟨22, entryKey (0x3200 + k) 1, 0⟩

/-- V23: the binding words of indexes and tables meet R50–R52 with the object's own set, an index's on axis 0. -/
def Dev.checkV23 (d : Dev) (realm : Nat) : Option Failure :=
  match (d.realmIndexes realm).find? fun x =>
      let w := ixScale (d.index x)
      !(bindOk w && bindAxis w == 0 && (bindSrc w != 1 || bindSet w == 0) &&
        bindFits w (ixDim (d.index x)) (setLength (d.cfgVal (0x3020 + x) 0x10))) with
  | some x => some ⟨23, entryKey (0x3020 + x) 1, entryKey (0x3020 + x) 0x10⟩
  | none => ((d.realmTables realm).find? fun t => !d.tableScaleOk t (d.table t)).map fun t =>
      ⟨23, entryKey (0x3120 + t) 1, entryKey (0x3120 + t) 0x11⟩

/-- V24: position tables lie in the realm's T1 windows and overlap no other area. -/
def Dev.checkV24 (d : Dev) (realm : Nat) : Option Failure :=
  (d.realmIndexes realm).findSome? fun x =>
    match d.positionArea x with
    | [] => none
    | a :: _ =>
      let e := entryKey (0x3060 + x) 1
      if !d.inT1Window realm a.1 a.2 then some ⟨24, e, 0⟩
      else match (List.range 64).find? fun y => (indexAreas (d.index y) ++ stripeAreas (d.index y)).any (overlaps a) with
      | some y => some ⟨24, e, entryKey (0x3020 + y) 1⟩
      | none => match (others 64 x).find? fun y => (d.positionArea y).any (overlaps a) with
        | some y => some ⟨24, e, entryKey (0x3060 + y) 1⟩
        | none => match (List.range 64).find? fun t => (tableAreas (d.table t)).any (overlaps a) with
          | some t => some ⟨24, e, entryKey (0x3120 + t) 1⟩
          | none => ((List.range 16).find? fun k => (poolAreas (d.pool k)).any (overlaps a)).map fun k => ⟨24, e, entryKey (0x3200 + k) 1⟩

/-! ### Ownership and shares: V30–V34 -/

/-- V30: no clock group has two owners; V10 and the allotment words leave a bank or GiB one owner. -/
def Dev.checkV30 (d : Dev) : Option Failure :=
  realms.findSome? fun r =>
    if d.cfg (0x2E00 + r) 2 = 0 then none
    else ((realms.take (r - 1)).find? fun q => d.cfg (0x2E00 + q) 2 &&& d.cfg (0x2E00 + r) 2 != 0).map fun q =>
      ⟨30, realmEntryKey r 2, realmEntryKey q 2⟩

/-- The realm whose share, added to those of the lower-numbered realms, first exceeds 100 % for one of n elements. -/
def overShare (share : Nat → Nat → Nat) (n : Nat) : List Nat → List Nat → Option Nat
  | _, [] => none
  | sums, r :: rs =>
    let sums := (List.range n).map fun i => nth sums i + share r i
    if sums.any fun s => decide (1000 < s) then some r else overShare share n sums rs

/-- V32: host and fabric shares. -/
def Dev.checkV32 (d : Dev) : Option Failure :=
  match overShare (fun r i => elem (d.cfg (0x2E00 + r) 3) 2 i) 4 [] realms with
  | some r => some ⟨32, realmEntryKey r 3, 0⟩
  | none => (overShare (fun r i => elem (d.cfg (0x2E00 + r) 4) 2 i) 16 [] realms).map fun r => ⟨32, realmEntryKey r 4, 0⟩

/-- Does a loaded plan of a realm name a handle? -/
def Dev.planNames (d : Dev) (realm handle : Nat) : Bool :=
  (d.plansOf realm).any fun e => (imWords e.2.image).any fun w => (descHandles w).any fun h => h.2 == handle

/-- V33 in a realm's domain: what a removed object is still needed by. -/
def Dev.removalBlocked (old new : Dev) (realm : Nat) : Option Failure :=
  let gone (before after : List Nat) : List Nat := before.filter fun x => !after.contains x
  let named (base handle x : Nat) : Option Failure := if old.planNames realm (handle + x) then some ⟨33, entryKey (base + x) 1, 0⟩ else none
  match (gone (old.realmIndexes realm) (new.realmIndexes realm)).findSome? (named 0x3020 0x1000) with
  | some f => some f
  | none =>
  match (gone (old.realmTables realm) (new.realmTables realm)).findSome? fun t =>
      match named 0x3120 0x2000 t with
      | some f => some f
      | none => ((new.realmIndexes realm).find? fun x => ixSparse (new.index x) == 0x2000 + t).map fun x =>
          ⟨33, entryKey (0x3120 + t) 1, entryKey (0x3020 + x) 1⟩ with
  | some f => some f
  | none =>
  match (gone (old.realmPools realm) (new.realmPools realm)).findSome? fun k =>
      match named 0x3200 0x3000 k with
      | some f => some f
      | none => if (List.range (plSeqs (old.pool k))).any fun q => sqPages (old.seqHead k q) != 0 then some ⟨33, entryKey (0x3200 + k) 1, 0⟩ else none with
  | some f => some f
  | none => (gone (old.realmVolumes realm) (new.realmVolumes realm)).findSome? fun v =>
      match named 0x2880 0x4000 v with
      | some f => some f
      | none => ((new.realmIndexes realm).find? fun x => ixVolume (new.index x) == 0x4000 + v).map fun x =>
          ⟨33, entryKey (0x2880 + v) 1, entryKey (0x3020 + x) 1⟩

/-- The region or allotment entry that takes a byte of T1 from a realm. -/
def Dev.takenBy (old : Dev) (a : Nat) : Nat :=
  let s := a / stackBytes
  match (List.range 16).find? fun r => (let w := old.region (s, r); rgUsed w && (regionOfOffset [w] (a % stackBytes)).isSome) with
  | some r => if rgMode (old.region (s, r)) = 1 && rgRealm (old.region (s, r)) == 0 then entryKey 0x2460 (s + 1) else regionEntry (s, r)
  | none => entryKey 0x2460 (s + 1)

/-- The entry that takes a piece of an object's or a constant's range from its realm. -/
def Dev.rangeLost (old new : Dev) (realm : Nat) (a : Nat × Nat) : Option Nat :=
  (new.outsideAt realm a.1 a.2).map fun p => if inT1 p then old.takenBy p else entryKey 0x2460 0

/-- The constants of a plan at addresses in T1 and T2. -/
def Plan.constantRanges (p : Plan) : List (Nat × Nat) :=
  ((List.range (imTensors p.image)).filter fun t => tnKind (imTensor p.image t) == 2).map fun t =>
    (tnOffset (imTensor p.image t), tensorBytes p.image t)

/-- Does a realm hold anything that keeps it active (R633)? -/
def Dev.realmHolds (d : Dev) (r : Nat) : Bool :=
  !(d.realmIndexes r).isEmpty || !(d.realmTables r).isEmpty || !(d.realmPools r).isEmpty || !(d.realmVolumes r).isEmpty || !(d.plansOf r).isEmpty ||
    d.cfg (0x2E00 + r) 2 != 0 || (regionSlots.any fun k => rgUsed (d.region k) && rgRealm (d.region k) == r) ||
    ((List.range 32).any fun s => (List.range 96).any fun g => alRealm (allotBy d.cfg s g) == r) ||
    [0x1120, 0x1121].any fun e => (List.range 63).any fun v => d.cfg e (v + 1) == r

/-- V33 in the device domain: clock groups, memory, channel groups, cache and activity in use by what is active. -/
def Dev.resourcesTaken (old new : Dev) : Option Failure :=
  let plans := old.plans.plans
  match plans.find? fun e => e.2.binding.any fun m => m &&& new.cfg (0x2E00 + e.2.realm) 2 != m with
  | some e => some ⟨33, realmEntryKey e.2.realm 2, 0⟩
  | none =>
  match old.objectAreas.findSome? fun o => o.2.2.findSome? fun a => (old.rangeLost new o.2.1 a).map fun e => Failure.mk 33 e o.1 with
  | some f => some f
  | none =>
  match plans.findSome? fun e => e.2.constantRanges.findSome? fun a => (old.rangeLost new e.2.realm a).map fun k => Failure.mk 33 k 0 with
  | some f => some f
  | none =>
  match realms.find? fun r => !(old.plansOf r).isEmpty && decide (new.interleavedBytes r < sumOf ((old.plansOf r).map fun e => planT1 e.2.image)) with
  | some _ => some ⟨33, entryKey 0x2460 0, 0⟩
  | none =>
  match realms.findSome? fun r => ((old.realmVolumes r).find? fun v =>
      vlGroups (old.volumeDesc v) &&& new.cfg (0x2E00 + r) 6 != vlGroups (old.volumeDesc v)).map fun v => Failure.mk 33 (realmEntryKey r 6) (entryKey (0x2880 + v) 1) with
  | some f => some f
  | none =>
  match (List.range 64).findSome? fun x =>
      let g := new.cfg (0x3060 + x) 2
      let w := old.index x
      if ixKind w != 0 && g != 255 && g == old.cfg (0x3060 + x) 2 && bit (old.cfg (0x2E00 + ixRealm w) 2) g && !bit (new.cfg (0x2E00 + ixRealm w) 2) g then
        some (Failure.mk 33 (realmEntryKey (ixRealm w) 2) (entryKey (0x3060 + x) 2)) else none with
  | some f => some f
  | none =>
  match realms.find? fun r => (old.tiers.segments.any fun e => e.2.mine && e.2.realm == r && e.2.state != 0) && decide (new.cacheGib r < old.cacheGib r) with
  | some _ => some ⟨33, entryKey 0x2460 0, 0⟩
  | none => (realms.find? fun r => old.cfg (0x2E00 + r) 1 != 0 && new.cfg (0x2E00 + r) 1 == 0 && new.realmHolds r).map fun r => ⟨33, realmEntryKey r 1, 0⟩

/-- The capacity of a realm's KV pools in bytes. -/
def Dev.poolCapacity (d : Dev) (realm : Nat) : Nat := sumOf ((d.realmPools realm).map fun k => plGranules (d.pool k) * plGB (d.pool k))

/-- V34: a realm's KV quota fits its pools. -/
def Dev.checkV34 (d : Dev) (l : List Nat) : Option Failure :=
  (l.find? fun r => decide (d.poolCapacity r < d.cfg (0x2E00 + r) 5)).map fun r => ⟨34, realmEntryKey r 5, 0⟩

/-! ### Policers, ports and profiles: V40–V72 -/

/-- V40: no colour-aware policer beside capsule version 2. -/
def Dev.checkV40 (d : Dev) : Option Failure :=
  (policerSlots.find? fun k => d.cfg (0x2E00 + k.1) 0x0B != 0 && (let p := d.cfg (0x2D00 + k.1) (k.2 + 1); bits p 1 0 != 0 && bit p 2)).map fun k =>
    ⟨40, realmEntryKey k.1 0x0B, entryKey (0x2D00 + k.1) (k.2 + 1)⟩

/-- Do the rates and burst sizes of a policer agree? -/
def policerOk (p : Nat) : Bool :=
  let cbs := bits p 63 32
  let ebs := bits p 95 64
  (bits p 1 0 != 2 || decide (bits p 191 128 ≤ bits p 255 192)) && (cbs == 0 || decide (64 ≤ cbs)) && (ebs == 0 || decide (64 ≤ ebs))

/-- V41. -/
def Dev.checkV41 (d : Dev) : Option Failure :=
  (policerSlots.find? fun k => !policerOk (d.cfg (0x2D00 + k.1) (k.2 + 1))).map fun k => ⟨41, entryKey (0x2D00 + k.1) (k.2 + 1), 0⟩

/-- V42: C0 reservations. -/
def Dev.checkV42 (d : Dev) : Option Failure :=
  (overShare (fun r _ => d.cfg (0x2C00 + r) 1) 1 [] realms).map fun r => ⟨42, entryKey (0x2C00 + r) 1, 0⟩

/-- V50–V53, each over the eight ports. -/
def Dev.checkPorts (d : Dev) : Option Failure :=
  let each (f : Nat → Option Failure) : Option Failure := (List.range 8).findSome? f
  let split (p : Nat) : Nat := d.cfg (0x2A10 + p) 1
  let ether (p : Nat) : Bool := d.cfg (0x2A10 + p) 2 != 0
  let old (p : Nat) : Bool := decide (d.cfg (0x2A10 + p) 3 < 0x30)
  match each fun p => if 2 < split p then some ⟨50, entryKey (0x2A10 + p) 1, 0⟩ else none with
  | some f => some f
  | none =>
  match each fun p =>
      if ether p && split p != 1 then some ⟨51, entryKey (0x2A10 + p) 2, entryKey (0x2A10 + p) 1⟩
      else if ether p && old p then some ⟨51, entryKey (0x2A10 + p) 2, entryKey (0x2A10 + p) 3⟩ else none with
  | some f => some f
  | none =>
  match each fun p =>
      if d.cfg 0x5811 (p + 1) = 0 then none
      else if ether p then some ⟨52, entryKey 0x5811 (p + 1), entryKey (0x2A10 + p) 2⟩
      else if split p = 2 then some ⟨52, entryKey 0x5811 (p + 1), entryKey (0x2A10 + p) 1⟩ else none with
  | some f => some f
  | none => each fun p => if d.cfg (0x2A10 + p) 4 != 0 && old p then some ⟨53, entryKey (0x2A10 + p) 4, entryKey (0x2A10 + p) 3⟩ else none

/-- V60: page size masks of a realm's pools. -/
def Dev.checkV60 (d : Dev) (realm : Nat) : Option Failure :=
  ((d.realmPools realm ++ (List.range 16).filter fun k => plKind (d.pool k) == 0).find? fun k => let m := d.cfg (0x3200 + k) 4; m == 0 || m &&& 0x1FF0 != m).map fun k => ⟨60, entryKey (0x3200 + k) 4, 0⟩

/-- V70: one profile for a group gives its channels one interface mode and a rate that the mode reaches. -/
def Dev.checkV70 (d : Dev) : Option Failure :=
  ((List.range 16).find? fun g => let p := d.profile g; mpCell p != 0 && decide ((if mpMode p = 1 then 3600 else 1600) < mpRate p)).map fun g =>
    ⟨70, entryKey 0x2810 (g + 1), entryKey (0x2820 + d.cfg 0x2810 (g + 1)) 0⟩

/-- V71: the channel groups of every volume select one media profile. -/
def Dev.checkV71 (d : Dev) : Option Failure :=
  (List.range 64).findSome? fun v =>
    let w := d.volumeDesc v
    if bits w 7 0 = 0 then none
    else match maskGroups (vlGroups w) with
      | [] => none
      | g :: gs => (gs.find? fun h => d.cfg 0x2810 (h + 1) != d.cfg 0x2810 (g + 1)).map fun h => ⟨71, entryKey (0x2880 + v) 1, entryKey 0x2810 (h + 1)⟩

/-- V72: no group with blocks of a volume changes its profile. -/
def Dev.checkV72 (old new : Dev) : Option Failure :=
  ((List.range 16).find? fun g => new.cfg 0x2810 (g + 1) != old.cfg 0x2810 (g + 1) && old.groupHoldsBlocks g).map fun g => ⟨72, entryKey 0x2810 (g + 1), 0⟩

/-! ### The checks of a domain, in ascending order -/

/-- The first of some checks that fails. -/
def firstFailure (l : List (Unit → Option Failure)) : Option Failure := l.findSome? fun f => f ()

/-- The check number reported for a relation between entries that their table states and *Cross-field checks* does not number (log entry
107). -/
def relationCheck : Nat := Config.relationCheck 0 % 65536

/-- The write stall lies below the collection start (0x2850.02), which waits for the commit (R78). -/
def Dev.checkStall (d : Dev) : Option Failure :=
  if d.cfg 0x2850 2 < d.cfg 0x2850 1 then none else some ⟨relationCheck, entryKey 0x2850 2, entryKey 0x2850 1⟩

/-- A default row is empty or has the RS bytes of its table (0x3120 + t.03), which waits for the commit (R78). -/
def Dev.checkDefaultRows (d : Dev) (realm : Nat) : Option Failure :=
  ((d.realmTables realm).find? fun t =>
    let v := d.cfgVal (0x3120 + t) 3
    v.len != 0 && v.len != tbRS (d.table t)).map fun t => ⟨relationCheck, entryKey (0x3120 + t) 3, entryKey (0x3120 + t) 1⟩

/-- The checks over values: `old` is the device as it is, `new` with the values that would be active. V21 holds by the layout of stripe
banks (R278), V31 by a record's clock groups (R22). -/
def Dev.checkValues (old new : Dev) (domain : Nat) : Option Failure :=
  if domain = 0 then
    firstFailure [fun _ => new.checkV10, fun _ => new.checkV11, fun _ => new.checkV12, fun _ => old.checkV13 new, fun _ => new.checkV14,
      fun _ => new.checkV15, fun _ => old.checkV16 new, fun _ => new.checkV30, fun _ => new.checkV32, fun _ => old.resourcesTaken new,
      fun _ => new.checkV34 realms, fun _ => new.checkV40, fun _ => new.checkV41, fun _ => new.checkV42, fun _ => new.checkPorts,
      fun _ => new.checkV70, fun _ => new.checkV71, fun _ => old.checkV72 new, fun _ => new.checkStall]
  else
    firstFailure [fun _ => new.checkV20 domain, fun _ => new.checkV22 domain, fun _ => new.checkV23 domain, fun _ => new.checkV24 domain,
      fun _ => old.removalBlocked new domain, fun _ => new.checkV34 [domain], fun _ => new.checkV60 domain, fun _ => new.checkV71,
      fun _ => new.checkDefaultRows domain]

/-- Every check of a commit or validation of a session's draft with a value written, V04 before all others (R86, R94); `room` says whether
each NOR area has room (V03). -/
def Dev.runChecks (d : Dev) (s : Session) (domain value : Nat) (room : NorAck) : Option Failure :=
  let g := d.generation domain
  if g = 0xFFFFFFFF then some ⟨4, 0, 0⟩
  else if value != g + 1 then some ⟨1, 0, 0⟩
  else if !(room.a && room.b) then some ⟨3, 0, 0⟩
  else d.checkValues (d.drafted s domain) domain

end Sys2Proof.Machine
end

