-- ==== Sys2Proof/Machine/Kv.lean ====
section
/-! DEFINITION. The KV-cache service, and the resets of sequences (R423, R445–R453). -/

namespace Sys2Proof.Machine

/-! ### Sequence reset and pending token (R423) -/

/-- A sequence reset: its status. -/
def Dev.resetSequence (d : Dev) (k q : Nat) : Nat × Dev :=
  if (d.poolState k).state = 0 then (stBadArg, d)
  else if !d.poolServes k then (stBusy, d)
  else if plSeqs (d.pool k) ≤ q then (stConfigReject, d)
  else
    let h := d.seqHead k q
    if sqClaimed h then (stBusy, d)
    else
      let d := (d.seqPageList k q).foldl (fun d p => d.unrefPage k p) d
      let d := (List.range 56).foldl (fun d i => d.putSeqPage k q i 0xFFFFFFFF) d
      (stOk, d.putSeqHead k q (setBits (setBits (setBits (setBits h 31 0 0) 37 32 0) 95 64 0xFFFFFFFF) 191 128 ((sqGen h + 1) % 2 ^ 64)))

/-- A pending token set: its status. -/
def Dev.setPending (d : Dev) (k q token : Nat) : Nat × Dev :=
  if (d.poolState k).state = 0 then (stBadArg, d)
  else if !d.poolServes k then (stBusy, d)
  else if plSeqs (d.pool k) ≤ q then (stConfigReject, d)
  else
    let h := d.seqHead k q
    if sqClaimed h then (stBusy, d) else (stOk, d.putSeqHead k q (setBits h 95 64 token))

/-! ### The fields of a KV_SERVICE capsule (R577) -/

/-- KV_OP. -/
def Capsule.kvOp (cap : Capsule) : Nat := cap.field 135 128
/-- LOCAL. -/
def Capsule.kvLocal (cap : Capsule) : Bool := bit cap.raw 136
/-- UNPIN. -/
def Capsule.kvUnpin (cap : Capsule) : Bool := bit cap.raw 137
/-- S. -/
def Capsule.kvS (cap : Capsule) : Nat := cap.field 147 144
/-- POOL. -/
def Capsule.kvPool (cap : Capsule) : Nat := cap.field 167 152
/-- SEQ. -/
def Capsule.kvSeq (cap : Capsule) : Nat := cap.field 183 168
/-- PAGE. -/
def Capsule.kvPage (cap : Capsule) : Nat := cap.field 189 184
/-- LOC. -/
def Capsule.kvLoc (cap : Capsule) : Nat := cap.field 191 190
/-- POS. -/
def Capsule.kvPos (cap : Capsule) : Nat := cap.field 223 192
/-- BLOCK. -/
def Capsule.kvBlock (cap : Capsule) : Nat := cap.field 319 256
/-- DATA. -/
def Capsule.kvData (cap : Capsule) : Nat := cap.field 383 320
/-- DATA_BYTES. -/
def Capsule.kvDataBytes (cap : Capsule) : Nat := cap.field 447 384

/-! ### Keys and entries (R446, R449, R451, R452) -/

/-- The key of a page: the first 16 bytes of SHAKE256 over parent, s, POS and tokens (R446). -/
def pageKey (parent s pos tokens : Nat) : Nat :=
  shake256 16 (21 + 4 * 2 ^ s) (parent + s * 2 ^ 128 + pos * 2 ^ 136 + tokens * 2 ^ 168)

/-- The page that a key names. -/
def Dev.keyed (d : Dev) (k key : Nat) : Option Nat := ((d.poolState k).keys.find? fun e => e.1 == key).map (·.2)

/-- LAST_USE of a page set to an instant. -/
def Dev.usePage (c : Ctx) (d : Dev) (k p : Nat) : Dev := d.putPage k p (setBits (d.page k p) 383 320 c.now)

/-- The entry of a realm, among all its pools, that R451 evicts first. -/
def Dev.evictableOf (d : Dev) (realm : Nat) : Option (Nat × Nat) :=
  let l := ((List.range 16).filter fun k => plKind (d.pool k) == 1 && plRealm (d.pool k) == realm).filterMap fun k => (d.evictable k).map fun p => (k, p)
  (sortBy (fun a b => decide (pgLastUse (d.page a.1 a.2) < pgLastUse (d.page b.1 b.2))) l).head?

/-- Entries of a realm evicted until `n` more bytes fit its quota; false where nothing more can go (R452). -/
def Dev.fitQuota (d : Dev) (realm n quota : Nat) : Nat → Bool × Dev
  | 0 => (false, d)
  | fuel + 1 =>
    if d.keyedBytes realm + n ≤ quota then (true, d)
    else match d.evictableOf realm with
      | some (k, p) => Dev.fitQuota (d.evict k p) realm n quota fuel
      | none => (false, d)

/-- Keys held by a realm's pools. -/
def Dev.entriesOf (d : Dev) (realm : Nat) : Nat :=
  sumOf ((List.range 16).map fun k => if plRealm (d.pool k) = realm then (d.poolState k).keys.length else 0)

/-- After a commit the keyed pages of each realm fit its quota again: what can be evicted goes (R452). -/
def Dev.fitQuotas (d : Dev) : Dev :=
  (List.range 256).foldl (fun d r => if d.entriesOf r = 0 then d else (d.fitQuota r 0 (d.cfg (0x2E00 + r) 5) (d.entriesOf r + 1)).2) d

/-- Entries of a pool evicted until its key table takes one more (R451). -/
def Dev.fitKeys (d : Dev) (k : Nat) : Nat → Bool × Dev
  | 0 => (false, d)
  | fuel + 1 =>
    if (d.poolState k).keys.length < 2 ^ (plKeyLog (d.pool k) - 1) then (true, d)
    else match d.evictable k with
      | some p => Dev.fitKeys (d.evict k p) k fuel
      | none => (false, d)

/-- A key entered in the key table, last (R447). -/
def Dev.enterKey (d : Dev) (k key p : Nat) : Dev := d.modPool k fun s => { s with keys := s.keys ++ [(key, p)] }

/-- RESULT of a KV_SERVICE record (*Completion results*). -/
def kvResult (existed : Bool) (s pos : Nat) : Nat := b2n existed + s * 2 ^ 8 + pos * 2 ^ 32

/-- Room for one more entry of `n` bytes: the quota, then the key table. -/
def Dev.fitEntry (d : Dev) (k realm n : Nat) : Bool × Dev :=
  match d.fitQuota realm n (d.cfg (0x2E00 + realm) 5) (d.entriesOf realm + 1) with
  | (false, d) => (false, d)
  | (true, d) => d.fitKeys k ((d.poolState k).keys.length + 1)

/-- A page stored under its key by its bytes (R447): a status, and whether the key existed. -/
def Dev.storeEntry (c : Ctx) (d : Dev) (k key s pos : Nat) (bytes : List Byte) : Nat × Bool × Dev :=
  match d.keyed k key with
  | some p => (stOk, true, d.usePage c k p)
  | none =>
    let realm := plRealm (d.pool k)
    match d.fitEntry k realm (2 ^ (s - 4) * plGB (d.pool k)) with
    | (false, d) => (stNoSpace, false, d)
    | (true, d) =>
      match d.getPage k [s] with
      | (none, d) => (stNoSpace, false, d)
      | (some (_, p), d) =>
        let d := d.t1Write (d.pageData k p) bytes
        let h := pageHeader s 2 realm pos + 2 ^ 6 + 2 ^ s * 2 ^ 64 + key * 2 ^ 128 + c.now * 2 ^ 320
        (stOk, false, (d.putPage k p h).enterKey k key p)

/-- A sequence's page keyed without a copy (R447, local form). -/
def Dev.shareEntry (c : Ctx) (d : Dev) (k key p : Nat) : Nat × Bool × Dev :=
  match d.keyed k key with
  | some q => (stOk, true, d.usePage c k q)
  | none =>
    match d.fitEntry k (plRealm (d.pool k)) (2 ^ (pgSize (d.page k p) - 4) * plGB (d.pool k)) with
    | (false, d) => (stNoSpace, false, d)
    | (true, d) =>
      let h := setBits (setBits (setBits (d.page k p) 6 6 1) 255 128 key) 383 320 c.now
      (stOk, false, ((d.putPage k p h).refPage k p).enterKey k key p)

/-- KV_PUT: status and result (R446, R447). -/
def Dev.kvPut (c : Ctx) (d : Dev) (cap : Capsule) (k : Nat) : Nat × Nat × Dev :=
  let w := d.pool k
  let s := cap.kvS
  if !d.sizeAllowed k s then (stBadArg, 0, d)
  else match d.bufRead cap cap.kvLoc cap.kvBlock (48 + 4 * 2 ^ s) with
    | (0, bs, d) =>
      let v := ofLE bs
      let key := pageKey (byteField v 32 16) s cap.kvPos (byteField v 48 (4 * 2 ^ s))
      let fin (r : Nat × Bool × Dev) : Nat × Nat × Dev :=
        if r.1 != stOk then (r.1, 0, r.2.2)
        else
          let (st, d) := r.2.2.bufWrite c cap cap.kvLoc cap.kvBlock (leBytes 16 key)
          (st, kvResult r.2.1 s cap.kvPos, d)
      if byteField v 16 16 != w % 2 ^ 128 then (stBadArg, 0, d)
      else if cap.kvLocal then
        let p := d.seqPage k cap.kvSeq cap.kvPage
        let h := d.page k p
        if plSeqs w ≤ cap.kvSeq ∨ sqPages (d.seqHead k cap.kvSeq) ≤ cap.kvPage ∨ pgSize h ≠ s ∨ pgFill h ≠ 2 ^ s then (stBadArg, 0, d)
        else fin (d.shareEntry c k key p)
      else match d.bufRead cap cap.kvLoc cap.kvData (2 ^ (s - 4) * plGB w) with
        | (0, data, d) => fin (d.storeEntry c k key s cap.kvPos data)
        | (st, _, d) => (st, 0, d)
    | (st, _, d) => (st, 0, d)

/-- A keyed page attached to a sequence (R448, local form). -/
def Dev.attachPage (c : Ctx) (d : Dev) (k q p : Nat) : Nat × Dev :=
  let h := d.seqHead k q
  let g := d.page k p
  let full : Bool := match (d.seqPageList k q).getLast? with
    | some l => pgFill (d.page k l) == 2 ^ pgSize (d.page k l)
    | none => true
  if plSeqs (d.pool k) ≤ q ∨ sqClaimed h ∨ !full ∨ sqN h ≠ pgPos g then (stBadArg, d)
  else if 56 ≤ sqPages h then (stNoSpace, d)
  else
    let d := ((d.putSeqPage k q (sqPages h) p).refPage k p).usePage c k p
    (stOk, d.putSeqHead k q (setBits (setBits h 31 0 (sqN h + 2 ^ pgSize g)) 37 32 (sqPages h + 1)))

/-- KV_GET: status and result (R448, R578). -/
def Dev.kvGet (c : Ctx) (d : Dev) (cap : Capsule) (k p : Nat) : Nat × Nat × Dev :=
  let h := d.page k p
  let n := 2 ^ (pgSize h - 4) * plGB (d.pool k)
  let r := kvResult false (pgSize h) (pgPos h)
  if cap.kvLocal then
    let (st, d) := d.attachPage c k cap.kvSeq p
    (st, if st = stOk then r else 0, d)
  else if cap.kvDataBytes < n then (stBadArg, 0, d)
  else
    let (st, d) := d.bufWrite c cap cap.kvLoc cap.kvData (d.t1Read (d.pageData k p) n)
    if st != stOk then (st, 0, d) else (stOk, r, d.usePage c k p)

/-- KV_PIN: PINS changed by one, and held inside its range. -/
def Dev.kvPin (d : Dev) (k p : Nat) (unpin : Bool) : Nat × Nat × Dev :=
  let h := d.page k p
  let n := if unpin then pgPins h - 1 else min (pgPins h + 1) 65535
  (stOk, kvResult false (pgSize h) (pgPos h), d.putPage k p (setBits h 271 256 n))

/-- KV_DROP (R449). -/
def Dev.kvDrop (d : Dev) (k key p : Nat) : Nat × Nat × Dev :=
  let h := d.page k p
  if pgPins h != 0 then (stBusy, 0, d)
  else
    let d := d.putPage k p (setBits (setBits h 6 6 0) 255 128 0)
    let d := (d.unrefPage k p).modPool k fun s => { s with keys := s.keys.filter fun e => e.1 != key }
    (stOk, kvResult false (pgSize h) (pgPos h), d)

/-- The key that a KV_GET, KV_PIN or KV_DROP names. -/
def Dev.kvKey (d : Dev) (cap : Capsule) : Nat × Nat × Dev :=
  let (st, bs, d) := d.bufRead cap cap.kvLoc cap.kvBlock 16
  (st, ofLE bs, d)

/-- A KV_SERVICE capsule's own work, after its ingress and metering (R445–R453): status and result. -/
def Dev.kvServe (c : Ctx) (d : Dev) (cap : Capsule) : Nat × Nat × Dev :=
  if cap.kvBlock % 16 != 0 || cap.kvOp == 0 || decide (4 < cap.kvOp) then (stBadArg, 0, d)
  else match d.poolOf cap.realm cap.kvPool with
    | none => (stBadArg, 0, d)
    | some k =>
      if !plService (d.pool k) then (stBadArg, 0, d)
      else if !d.poolServes k then (stBusy, 0, d)
      else if cap.kvOp = 1 then d.kvPut c cap k
      else match d.kvKey cap with
        | (0, key, d) =>
          match d.keyed k key with
          | none => (stNotFound, 0, d)
          | some p =>
            if cap.kvOp = 2 then d.kvGet c cap k p
            else if cap.kvOp = 3 then d.kvPin k p cap.kvUnpin
            else d.kvDrop k key p
        | (st, _, d) => (st, 0, d)

end Sys2Proof.Machine
end

