-- ==== Sys2Proof/Machine/Links.lean ====
section
/-! DEFINITION. Fabric links: training, HELLO, encryption, loss and resending (R595–R604, R658, R14). -/

namespace Sys2Proof.Machine

/-! ### Resending (R599, R600) -/

/-- Messages that a link had not acknowledged, sent again by other links to the same destinations; where none carries them they stay. -/
def Dev.resend (d : Dev) (l : Nat) : Dev :=
  let left := (d.link l).retry
  let d := d.modLink l fun k => { k with retry := [] }
  left.foldl (fun d m =>
    if (d.linksFor m.type).isEmpty then d.modLink l fun k => { k with retry := k.retry ++ [m] }
    else (d.afpAgain m.type m.dest m.fields).modLink l fun k => { k with resends := satAdd 64 k.resends 1 }) d

/-- A link that no longer carries: its state, and its messages by other ways. -/
def Dev.dropLink (d : Dev) (l state : Nat) : Dev := (d.modLink l fun k => { k with state := state, version := 0, encrypted := false }).resend l

/-- A port whose split or Ethernet mode a commit changes retrains; its messages in flight are resent as after a link loss (R90, R600). -/
def Dev.retrainPort (d : Dev) (p : Nat) : Dev :=
  (List.range 4).foldl (fun d i => d.resend (4 * p + i)) (d.trainLinks [p])

/-- What carries a message of a class over an Ethernet link (R597): its IPv6 source address, UDP destination port and DSCP. Links of a port in
Ethernet mode are x4, two to a port. -/
def Dev.udpFrame (d : Dev) (l cls : Nat) : Nat × Nat × Nat :=
  (d.cfg 0x2A20 (2 * (l / 4) + l % 4 + 3), d.cfg 0x2A20 1, elem (d.cfg 0x2A20 2) 1 cls)

/-! ### Training and HELLO (R603) -/

/-- Does a node's start have its links at work: fabric training or OPERATIONAL? -/
def Dev.fabricUp (d : Dev) : Bool := d.boot.node == 6 || d.boot.node == 7

/-- The lanes of a link of a port (R595). -/
def Dev.linkWidth (d : Dev) (l : Nat) : Nat := 8 / 2 ^ d.cfg (0x2A10 + l / 4) 1

/-- Lowest AFP version of a link's port. -/
def Dev.lowestAfp (d : Dev) (l : Nat) : Nat := d.cfg (0x2A10 + l / 4) 3
/-- Does a link's port require encryption? -/
def Dev.needsCipher (d : Dev) (l : Nat) : Bool := d.cfg (0x2A10 + l / 4) 4 != 0

/-- LINK_TRAINING_COMPLETE: a used link that trained at its width, or one lane narrower, sends HELLO with its versions and needs; one that
failed is down, which is logged (R671; the event is a DEDUCED 0x0602, log entry 30). -/
def doLinkTrainingComplete (link lanes : Nat) (c : Ctx) (d : Dev) : Dev :=
  let k := d.link link
  let width := d.linkWidth link
  if !d.fabricUp || decide (32 ≤ link) || !d.linkUsed link || k.carries then d
  else if lanes = width || lanes + 1 = width then
    (d.modLink link fun k => { k with state := 1, lanes := lanes }).send
      (.afp 0x01 0 [link, 0x31, d.lowestAfp link, if d.needsCipher link then 1 else 0, 1])
  else (d.modLink link fun k => { k with state := 0, lanes := 0 }).event c 0x0602 1 0 link 0 0

/-- LINK_TRAINING_COMPLETE. -/
def execLinkTrainingComplete (link lanes : Nat) (s : State) : Out := devStep (doLinkTrainingComplete link lanes) s

/-- A link refused: LINK_CLOSE with the cause, the event, and the state until the next training (R603). -/
def Dev.refuseLink (c : Ctx) (d : Dev) (l reason : Nat) : Dev :=
  let cause := Config.linkCause reason % 65536
  ((d.dropLink l 4).send (.afp 0x02 0 [l, cause])).event c 0x0601 1 0 l cause 0

/-- The highest AFP version that both ends span. -/
def commonAfp (highest lowest own : Nat) : Option Nat :=
  [0x31, 0x30, 0x23].find? fun v => decide (v ≤ highest) && decide (lowest ≤ v) && decide (own ≤ v)

/-- A link that runs: unacknowledged messages of links that are down go over it, and the node begins to announce itself (R628). -/
def Dev.linkRuns (c : Ctx) (d : Dev) (l version key : Nat) (encrypted : Bool) : Dev :=
  let d := d.modLink l fun k => { k with
    state := if k.lanes = d.linkWidth l then 2 else 3
    version := version, encrypted := encrypted, key := key, messages := 0, keyedAt := c.now, lastRx := c.now }
  let d : Dev := if d.fabric.domain = 0 then d.setFabric { d.fabric with domain := 1, announceAt := c.now } else d
  (List.range 32).foldl (fun d i => if (d.link i).carries then d else d.resend i) d

/-- The digests in which a peer's chain may end (0x5C31). -/
def Dev.trustAnchors (d : Dev) : List Nat :=
  let first := match tabGet (entryKey 0x5C31 1) d.dict.cfg with
    | some v => v.num
    | none => Config.burned 4 % 2 ^ 512
  (first :: (List.range 3).map fun i => d.cfg 0x5C31 (i + 2)).filter (· != 0)

/-- T of a link's handshake: over what the peer's two HELLOs carry (log entry 3). -/
def linkTranscript (highest lowest : Nat) (a : LinkAuth) : Nat :=
  digest512 90 (highest % 256 + lowest % 256 * 2 ^ 8 + a.key % 2 ^ 448 * 2 ^ 16 + a.nonce % 2 ^ 256 * 2 ^ 464)

/-- The second HELLO of an encrypted link (R658). -/
def Dev.authenticateLink (c : Ctx) (d : Dev) (l version t : Nat) (a : LinkAuth) : Dev :=
  if d.generatorFailed then d.refuseLink c l 4
  else if !d.trustAnchors.contains a.caDigest || !ed448Verifies a.signer 64 t a.signature then d.refuseLink c l 2
  else if d.keep.lifeCycle = 3 ∧ a.lifeCycle ≠ 3 then d.refuseLink c l 3
  else
    let ((k, pub, nonce), d) := d.ephemeral
    let d := d.send (.afp 0x01 0 [l, pub, nonce, d.signAlias2 c 64 t])
    d.linkRuns c l version (handshakeKeys k a.key t) true

/-- HELLO: the highest common version; encryption where either end requires it and both offer it, which only versions of 3.x can. -/
def doHello (link highest lowest : Nat) (required offered : Bool) (auth : Option LinkAuth) (c : Ctx) (d : Dev) : Dev :=
  let k := d.link link
  if !d.fabricUp || k.state != 1 || k.lanes == 0 then d
  else match commonAfp highest lowest (d.lowestAfp link) with
  | none => (d.refuseLink c link 0).event c 0x0C01 1 0 2 (highest % 256 * 256 + lowest % 256) 0
  | some v =>
    if !required && !d.needsCipher link then d.linkRuns c link v 0 false
    else if !offered || decide (v < 0x30) then d.refuseLink c link 1
    else match auth with
      | none => d
      | some a => d.authenticateLink c link v (linkTranscript highest lowest a) a

/-- HELLO. -/
def execHello (link highest lowest : Nat) (required offered : Bool) (auth : Option LinkAuth) (s : State) : Out :=
  devStep (doHello link highest lowest required offered auth) s

/-! ### Close, keepalive, loss, errors, keys -/

/-- LINK_CLOSE: the other end closes the link with a cause. -/
def doLinkClose (link cause : Nat) (c : Ctx) (d : Dev) : Dev :=
  let k := d.link link
  if k.carries || k.state == 1 then (d.dropLink link 4).event c 0x0601 1 0 link cause 0 else d

/-- LINK_CLOSE. -/
def execLinkClose (link cause : Nat) (s : State) : Out := devStep (doLinkClose link cause) s

/-- KEEPALIVE: the link counts as up; what was sent before is acknowledged (R599, R600). -/
def doKeepalive (link : Nat) (c : Ctx) (d : Dev) : Dev :=
  if (d.link link).carries then d.modLink link fun k => { k with lastRx := c.now, retry := [] } else d

/-- KEEPALIVE. -/
def execKeepalive (link : Nat) (s : State) : Out := devStep (doKeepalive link) s

/-- The device identity and links that an ANNOUNCE carries (*AFP message types*). -/
def Dev.announcement (c : Ctx) (d : Dev) : List Nat :=
  [d.fabric.node, Config.burned 0 % 2 ^ 128, orNode d, ofElems 1 (d.fabric.links.map (·.state)), c.now]
where
  /-- The OPERATIONAL flag. -/
  orNode (d : Dev) : Nat := if d.boot.node = 7 then 1 else 0

/-- LINK_LOSS: nothing received for the link loss time, or the FEC lost alignment. Messages go elsewhere, and the fabric manager hears of
it (R616; in an ANNOUNCE: log entry 30). -/
def doLinkLoss (link : Nat) (fecAlignment : Bool) (c : Ctx) (d : Dev) : Dev :=
  let k := d.link link
  if !k.carries || !(fecAlignment || decide (k.lastRx + d.cfg 0x2A50 6 * usTicks ≤ c.now)) then d
  else
    let d := (d.modLink link fun k => { k with downs := satAdd 64 k.downs 1 }).dropLink link 0
    let d := d.event c 0x0602 1 0 link 0 0
    d.afp 0x10 0xFFFF (d.announcement c)

/-- LINK_LOSS. -/
def execLinkLoss (link : Nat) (fecAlignment : Bool) (s : State) : Out := devStep (doLinkLoss link fecAlignment) s

/-- FEC_UNCORRECTABLE: codewords counted; the message in the one that could not be corrected is dropped, and the link resends it (R596,
R599). -/
def doFecUncorrectable (link corrected : Nat) (_c : Ctx) (d : Dev) : Dev :=
  if !(d.link link).carries then d
  else d.modLink link fun k => { k with
    fecCorrected := satAdd 64 k.fecCorrected corrected
    fecUncorrectable := satAdd 64 k.fecUncorrectable 1
    resends := satAdd 64 k.resends 1 }

/-- FEC_UNCORRECTABLE. -/
def execFecUncorrectable (link corrected : Nat) (s : State) : Out := devStep (doFecUncorrectable link corrected) s

/-- LINK_KEY_RENEWAL: an encrypted link takes new keys, and its message counter starts again (R602). Without fresh randomness the link
keeps none and is refused (R648). -/
def doLinkKeyRenewal (link : Nat) (c : Ctx) (d : Dev) : Dev :=
  let k := d.link link
  if !k.carries || !k.encrypted then d
  else if d.generatorFailed then d.refuseLink c link 4
  else
    let (key, d) := d.fresh 64
    d.modLink link fun k => { k with key := key, messages := 0, keyedAt := c.now }

/-- LINK_KEY_RENEWAL. -/
def execLinkKeyRenewal (link : Nat) (s : State) : Out := devStep (doLinkKeyRenewal link) s

end Sys2Proof.Machine
end

