-- ==== Sys2Proof/Machine/Commit.lean ====
section
/-! DEFINITION. What a commit brings about: values, NOR, sessions, and the blocks that take the new generation (R83–R95, R105, R636, R637). -/

namespace Sys2Proof.Machine

/-! ### Scrubbing on release (R636) -/

/-- The bank indices, as (stack, index), whose region changes owner, mode or bounds. -/
def changedBanks (old new : Dev) : List (Nat × Nat) :=
  let place (d : Dev) (s b : Nat) : Option Nat := (regionOfIndex (regionsBy d.cfg s) b).map fun w => setBits (setBits w 7 2 0) 63 32 0
  ((List.range 32).map fun s => ((List.range 24).filter fun b =>
    (place old s b).isSome && place old s b != place new s b).map fun b => (s, b)).flatten

/-- The realm and cache use of a GiB of INTERLEAVED memory, realm 0 where the device keeps it; none of a GiB outside INTERLEAVED regions. -/
def gibUse (d : Dev) (s g : Nat) : Option (Nat × Bool) :=
  match regionOfOffset (regionsBy d.cfg s) (g * gib) with
  | none => none
  | some w =>
    if rgMode w != 1 then none
    else if rgRealm w != 0 then some (rgRealm w, false)
    else let a := allotBy d.cfg s g; some (if alRealm a = 0 then (0, false) else (alRealm a, alCache a))

/-- The GiB numbers that pass to another realm, or between its memory and its cache (R460). A GiB that is lent is cleared when it is released, and not
before (R481). -/
def changedGib (old new : Dev) : List Nat :=
  ((List.range 32).map fun s => ((List.range 96).filter fun g =>
    let u := gibUse old s g
    let v := gibUse new s g
    u != v && u.isSome && (v.isSome || u != some (0, false)) && (tabGet (96 * s + g) old.tiers.lent).isNone).map fun g => 96 * s + g).flatten

/-- The clock groups that leave a realm. -/
def changedGroups (old new : Dev) : List Nat :=
  (List.range 36).filter fun g => old.groupOwner g != 0 && old.groupOwner g != new.groupOwner g

/-- The keys of memory that a change of banks and clock groups clears. -/
def cleared (banks : List (Nat × Nat)) (groups : List Nat) (k : Nat) : Bool :=
  let n := k / 2 ^ 27
  (decide (n < 24576) && banks.contains (n / 768, n % 24)) || (inT0 k && groups.contains (tileGroup ((k - t0Base) / 0x200000)))

/-- The device with what leaves a realm set to zero and its clearing under way; the new owner waits for it (R637). -/
def Dev.scrubChanges (d new : Dev) : Dev :=
  let banks := changedBanks d new
  let groups := changedGroups d new
  let pending := (banks.map fun p => (List.range 32).map fun pc => (0, globalBank p.1 pc p.2)).flatten ++ groups.map fun g => (2, g)
  let d := (changedGib d new).foldl (fun d g => d.scrubGib g) d
  (d.setMem (d.mem.filter fun e => !cleared banks groups e.1)).setScrubs (d.scrubs ++ pending.filter fun p => !d.scrubs.contains p)

/-! ### Objects that a realm's commit makes active or removes -/

/-- Index slots: a new one formats (R269), a removed one leaves nothing. -/
def Dev.commitIndex (d old : Dev) (x : Nat) : Dev :=
  if ixKind (old.index x) = 0 ∧ ixKind (d.index x) ≠ 0 then d.setSearch { d.search with indexes := tabSet x .fresh d.search.indexes }
  else if ixKind (old.index x) ≠ 0 ∧ ixKind (d.index x) = 0 then
    let u := d.updates
    (d.setSearch { d.search with indexes := tabDel x d.search.indexes }).setUpdates { u with
      pending := u.pending.filter fun p => p.index != x
      moves := u.moves.filter fun m => m.index != x
      passes := u.passes.filter fun p => p.index != x
      freed := u.freed.filter fun f => f.index != x }
  else d

/-- Table slots: a new one formats (R391); a new default row of one that serves is written into record 0 (R392). -/
def Dev.commitTable (c : Ctx) (d old : Dev) (t : Nat) : Dev :=
  let w := d.table t
  if tbKind (old.table t) = 0 ∧ tbKind w ≠ 0 then d.setUpdates { d.updates with tables := tabSet t .fresh d.updates.tables }
  else if tbKind (old.table t) ≠ 0 ∧ tbKind w = 0 then
    d.setUpdates { d.updates with
      tables := tabDel t d.updates.tables
      copies := d.updates.copies.filter fun x => x.table != t
      gathers := d.updates.gathers.filter fun g => g.table != t }
  else if tbKind w ≠ 0 ∧ d.defaultRow t ≠ old.defaultRow t then (d.replaceRecord c (tbRealm w) (tbHome w) (tbSS w) (some (d.defaultRow t))).2
  else d

/-- Pool slots (R417); a slot's counters count since start (R454). -/
def Dev.commitPool (d old : Dev) (k : Nat) : Dev :=
  if plKind (old.pool k) = 0 ∧ plKind (d.pool k) ≠ 0 then d.setKv { d.kv with pools := tabSet k { d.poolState k with state := 1, keys := [] } d.kv.pools }
  else if plKind (old.pool k) ≠ 0 ∧ plKind (d.pool k) = 0 then
    d.setKv ⟨tabSet k { d.poolState k with state := 0, keys := [] } d.kv.pools, d.kv.claims.filter fun x => x.pool != k⟩
  else d

/-- Volume slots: a new one draws its key and serves; one removed waits for the capsules accepted before (R499). A slot made active again while its
former volume is being removed waits for that (log entry 131). -/
def Dev.commitVolume (c : Ctx) (d old : Dev) (v : Nat) : Dev :=
  let o := old.volumeDesc v
  let w := d.volumeDesc v
  if bits o 7 0 = 0 ∧ bits w 7 0 ≠ 0 then
    if (d.volume v).state = 3 then d.modVolume v fun k => { k with next := some (bits w 15 8, vlGroups w, vlCapacity w) }
    else d.addVolume v (bits w 15 8) (vlGroups w) (vlCapacity w)
  else if bits o 7 0 ≠ 0 ∧ bits w 7 0 = 0 then
    d.modVolume v fun k => if k.state = 3 then { k with next := none } else { k with state := 3, removedAt := c.now }
  else d

/-- Does a realm's commit make a volume active, which needs fresh randomness (R648)? -/
def volumesAdded (old new : Dev) : Bool := (List.range 64).any fun v => bits (old.volumeDesc v) 7 0 == 0 && bits (new.volumeDesc v) 7 0 != 0

/-- A realm's objects after its commit. -/
def Dev.commitObjects (c : Ctx) (d old : Dev) : Dev :=
  let d := (List.range 64).foldl (fun d x => d.commitIndex old x) d
  let d := (List.range 64).foldl (fun d t => d.commitTable c old t) d
  let d := (List.range 16).foldl (fun d k => d.commitPool old k) d
  let changed := (List.range 64).filter fun v => old.volumeDesc v != d.volumeDesc v
  let d := changed.foldl (fun d v => d.commitVolume c old v) d
  let removed := distinct ((changed.filter fun v => d.volumeDesc v == 0).map fun v => vlGroups (old.volumeDesc v))
  if changed.isEmpty then d else d.volumesCommitted c removed

/-! ### Blocks that a device commit changes -/

/-- Did a commit change some entries? -/
def changedAny (old new : Dev) (l : List (Nat × Nat)) : Bool := l.any fun e => old.cfgVal e.1 e.2 != new.cfgVal e.1 e.2

/-- A stack whose throttle mode or parameters change holds new triggers while capsules of the earlier generations are in flight (R90): one hold
for each such commit after which capsules were accepted. -/
def Dev.holdStacks (d old : Dev) : Dev :=
  let l := (List.range 32).filter fun s => changedAny old d ([0x2405, 0x2406, 0x2407, 0x2408, 0x2409].map fun i => (i, s + 1))
  let new : List Hold := (l.map fun s => ⟨0, s, d.capsules.next⟩).filter fun h => !d.dict.holds.contains h
  if d.capsules.live.isEmpty then d else d.setDict { d.dict with holds := d.dict.holds ++ new }

/-- A policer whose record changes starts with full buckets. -/
def Dev.freshPolicers (d old : Dev) : Dev :=
  let same (e : Nat × Bucket) : Bool := old.cfgVal (0x2D00 + e.1 / 8) (e.1 % 8 + 1) == d.cfgVal (0x2D00 + e.1 / 8) (e.1 % 8 + 1)
  d.setTraffic { d.traffic with buckets := d.traffic.buckets.filter same }

/-- Fabric ports that change width or Ethernet mode retrain; a slice on a lane of a port whose width, mode or rotation changes is aborted
(R697). -/
def Dev.commitPorts (d old : Dev) : Dev :=
  (List.range 8).foldl (fun d p =>
    let shape := changedAny old d [(0x2A10 + p, 1), (0x2A10 + p, 2)]
    let d : Dev := if shape || changedAny old d [(0x5811, p + 1)] then d.abortSlice fun b => decide (b < 64) && b / 8 == p else d
    if shape && d.fabricUp then d.retrainPort p else d) d

/-- The frequency that a group may have at most: its cap, and 600 MHz where no realm owns it (*Clock groups and frequency*). -/
def Dev.groupLimit (d : Dev) (g : Nat) : Nat := if d.groupOwner g = 0 then 600 else d.cfg 0x2010 (g + 1)

/-- Clock groups above their new limit are lowered to it at the commit instant (R89, R150). One that changed less than 100 µs before is lowered
too: the spec says both that a cap takes effect at the commit and that a group changes at most once per 100 µs (DESIGN CHOICE, log entry 104). -/
def Dev.capGroups (c : Ctx) (d : Dev) : Dev :=
  (List.range 36).foldl (fun d g => if d.groupLimit g < nth d.power.mhz g then d.setFrequency c g (d.groupLimit g) else d) d

/-- The floors of plans computed again after a commit that changes the C0 reservation of their realm, the owner of a clock group, or the throttle
settings of a stack (R561). -/
def Dev.commitFloors (d old : Dev) : Dev :=
  let shared := changedAny old d (((List.range 255).map fun r => (0x2E01 + r, 2)) ++
    ((List.range 32).map fun s => [0x2405, 0x2406, 0x2407, 0x2408, 0x2409].map fun i => (i, s + 1)).flatten)
  d.renewFloors fun p => shared || changedAny old d [(0x2C00 + p.realm, 1)]

/-- The blocks after a device commit. -/
def Dev.commitBlocks (c : Ctx) (d old : Dev) : Dev :=
  let d := (((((d.holdStacks old).freshPolicers old).commitPorts old).capGroups c).commitFloors old).trimAll.fitQuotas.checkLending c
  d.checkSpare c

/-! ### The commit -/

/-- The result of a session's commit or validation (0x1811, 0x1812). 0x1812.04 is 0 after one that was accepted, where no generation was
rejected (DESIGN CHOICE, log entry 106). -/
def Dev.noteResult (d : Dev) (q : Req) (status value : Nat) (f : Option Failure) : Dev :=
  let f := f.getD ⟨0, 0, 0⟩
  d.modSession q.path q.number fun s => { s with
    lastResult := status, failCheck := f.check, failEntry := f.entry, failRelated := f.related, failGeneration := if status = stOk then 0 else value }

/-- Every draft of a domain discarded: the committed one, and those of other sessions (R93). -/
def Dev.dropDrafts (d : Dev) (domain : Nat) : Dev :=
  d.setDict { d.dict with sessions := d.dict.sessions.map fun s => { s with drafts := tabDel domain s.drafts } }

/-- The new generation in force, and in both NOR areas (R83, R88, R89). -/
def Dev.adopt (c : Ctx) (d : Dev) (domain generation : Nat) (values : Tab DictVal) : Dev :=
  let d := d.setDict { d.dict with cfg := values, gens := tabSet domain generation d.dict.gens, instants := tabSet domain c.now d.dict.instants }
  (d.setNor { d.nor with cfg := values, gens := tabSet domain generation d.nor.gens }).dropDrafts domain

/-- The blocks that take a generation's values. In MINIMAL mode those that are off take them at their next start (R95). -/
def Dev.takeEffect (c : Ctx) (d old : Dev) (domain : Nat) : Dev :=
  if d.isMinimal then d.freshPolicers old
  else if domain = 0 then d.commitBlocks c old
  else d.commitObjects c old

/-- A commit that changes the management link's settings closes every HDAP session after its response (R105). -/
def Dev.closeForLink (d old : Dev) : Dev :=
  if changedAny old d [(0x1111, 1), (0x1111, 2), (0x1112, 0)] then
    let d := d.setDict { d.dict with sessions := d.dict.sessions.filter fun s => s.path != 0 }
    if d.fabric.mgmtLink = 0 then d
    else d.setFabric { d.fabric with mgmtLink := if d.cfg 0x1111 1 = 255 then 1 else 2 }
  else d

/-- A commit whose checks hold. -/
def Dev.commitValues (c : Ctx) (d : Dev) (q : Req) (s : Session) (domain value : Nat) : Dev :=
  let old := d
  let new := d.drafted s domain
  let d : Dev := if domain = 0 && !d.isMinimal then d.scrubChanges new else d
  let d := (d.adopt c domain value new.dict.cfg).takeEffect c old domain
  ((d.noteResult q stOk value none).answer q 0x1810 0 stOk).closeForLink old

/-- CONFIGURATION_COMMIT, with the NOR's room and answers: the checks, the write to both images, the generation. -/
def Dev.commit (c : Ctx) (d : Dev) (q : Req) (s : Session) (value : Nat) (room ack : NorAck) : Dev :=
  let domain := s.select 0x1800 0
  match d.runChecks s domain value room with
  | some f => (d.noteResult q stConfigReject value (some f)).answer q 0x1810 0 stConfigReject
  | none =>
    if d.generatorFailed && volumesAdded d (d.drafted s domain) then (d.noteResult q stFault value none).answer q 0x1810 0 stFault
    else if !(ack.a && ack.b) then (d.noteResult q stConfigReject value (some ⟨3, 0, 0⟩)).answer q 0x1810 0 stConfigReject
    else d.commitValues c q s domain value

/-- VALIDATE: the checks alone (0x1806). -/
def Dev.validation (d : Dev) (q : Req) (s : Session) (value : Nat) (room : NorAck) : Dev :=
  let f := d.runChecks s (s.select 0x1800 0) value room
  let status := if f.isSome then stConfigReject else stOk
  (d.noteResult q status value f).answer q 0x1806 0 status

/-! ### Holds (R90) -/

/-- Does a plan name an index with stripes on a stack? -/
def Dev.planOnStack (d : Dev) (handle stack : Nat) : Bool :=
  match d.plan? handle with
  | none => false
  | some p => (List.range 64).any fun x => ixKind (d.index x) == 1 && planNamesIndex p.image x &&
      (List.range (ixStripes (d.index x))).any fun i => stripeStack (ixStripe (d.index x) i) == stack

/-- Has a capsule accepted before a number work left on a stack: a trigger there, or a plan in flight that scans there? -/
def Dev.earlierWork (d : Dev) (stack before : Nat) : Bool :=
  (d.banks.triggers.any fun t => t.stack == stack && decide (t.capsule < before)) ||
    d.capsules.live.any fun k => decide (k.order < before) && k.opcode == 1 && d.planOnStack k.plan stack

/-- GENERATION_HOLD_RELEASE: the oldest hold of the block ends once the work of the generation before it has ended on the block; the earlier
capsules' deadlines end that work at the latest. -/
def doGenerationHoldRelease (kind number : Nat) (_c : Ctx) (d : Dev) : Dev :=
  match d.holdOn kind number with
  | none => d
  | some h =>
    if d.earlierWork number h.since then d
    else d.setDict { d.dict with holds := d.dict.holds.eraseP fun x => x.kind == kind && x.number == number }

/-- GENERATION_HOLD_RELEASE. -/
def execGenerationHoldRelease (kind number : Nat) (s : State) : Out := devStep (doGenerationHoldRelease kind number) s

end Sys2Proof.Machine
end

