-- ==== Sys2Proof/Machine/HostPorts.lean ====
section
/-! DEFINITION. Host ports: PERSTp_N, link training, removal, function level reset, the registers of a function, the management link
(R563–R594, R710–R715). -/

namespace Sys2Proof.Machine

/-! ### Input filters (R710) -/

/-- Is a low pulse of so many nanoseconds acted on? Between 200 ns and 1 µs that is unspecified. -/
def Dev.pulseActs (d : Dev) (lowNs : Nat) : Bool × Dev :=
  if lowNs < 200 then (false, d)
  else if 1000 ≤ lowNs then (true, d)
  else let (k, d) := d.choose 2; (k == 1, d)

/-! ### Resets of functions (R568, R591, R592) -/

/-- A function reset (R591): its capsules are cancelled without a record, its mailbox session is closed with its drafts, its registers
return to their reset values. A VF that stays enabled takes the committed binding (R568). -/
def Dev.resetFunction (c : Ctx) (d : Dev) (p n : Nat) (enabled : Bool) : Dev :=
  let mine := d.capsules.live.filter fun k => match k.src with | .host q m _ _ _ => q == p && m == n | .fabric .. => false
  let d := mine.foldl (fun d k => d.abortCapsule c k) d
  let d := d.dropSession 1 (64 * p + n)
  let d := d.setDict { d.dict with mailbox := tabDel (64 * p + n) d.dict.mailbox }
  d.modFn p n fun _ => { Function.reset with enabled := enabled, realm := if enabled then d.cfg (0x1120 + p) n else 0 }

/-- The VFs of a port. -/
def vfs : List Nat := (List.range 63).map (· + 1)

/-- Every VF of a port disabled. -/
def Dev.disableVfs (c : Ctx) (d : Dev) (p : Nat) : Dev := vfs.foldl (fun d n => d.resetFunction c p n false) d

/-- A port's link goes down: its functions are reset, the PF's reset disables the VFs. -/
def Dev.linkDown (c : Ctx) (d : Dev) (p : Nat) : Dev :=
  let d := (d.disableVfs c p).resetFunction c p 0 false
  d.modPort p fun h => { h with link := 0, width := 0, speed := 0 }

/-- Has a quiesce of every function of a port that is in use been completed (R588, R593)? -/
def Dev.portQuiesced (d : Dev) (p : Nat) : Bool :=
  (d.fn p 0).wasQuiesced && (d.port p).functions.all fun e => !e.2.enabled || e.2.wasQuiesced

/-- A port's link is lost (R592): without a completed quiesce it is counted and logged, and what waits to be sent is discarded. -/
def Dev.loseLink (c : Ctx) (d : Dev) (p : Nat) : Dev :=
  if (d.port p).link = 0 then d
  else
    let up := d.portUp p
    let orderly := d.portQuiesced p
    let d := d.linkDown c p
    if !up || orderly then d
    else ((d.dropPosted p).modPort p fun h => { h with removals := satAdd 64 h.removals 1 }).event c 0x0701 2 0 p 0 0

/-- PERST_N_ASSERT (R563, R592, R710). -/
def doPerstNAssert (port lowNs : Nat) (running : Bool) (c : Ctx) (d : Dev) : Dev :=
  let (acts, d) := d.pulseActs lowNs
  if !acts then d
  else
    let d := d.setPins { d.pins with perstN := putAt d.pins.perstN port false }
    if running then d.loseLink c port else d

/-- PERST_N_ASSERT: a pin's row, which the device sees whether or not it runs. -/
def execPerstNAssert (port lowNs : Nat) (s : State) : Out :=
  .next { s with dev := doPerstNAssert port lowNs s.running s.ctx s.dev }

/-- Is a port's PERSTp_N released? -/
def Dev.perstReleased (d : Dev) (p : Nat) : Bool := d.pins.perstN.getD p false

/-- A port whose PERSTp_N is released begins to train, once start step 1 has ended (R713). -/
def Dev.trainPort (d : Dev) (p : Nat) : Dev :=
  if d.perstReleased p && (d.port p).link == 0 then d.modPort p fun h => { h with link := 1 } else d

/-- PERST_N_RELEASE. -/
def doPerstNRelease (port : Nat) (running : Bool) (d : Dev) : Dev :=
  let d := d.setPins { d.pins with perstN := putAt d.pins.perstN port true }
  if running then d.trainPort port else d

/-- PERST_N_RELEASE: a pin's row. -/
def execPerstNRelease (port : Nat) (s : State) : Out := .next { s with dev := doPerstNRelease port s.running s.dev }

/-! ### Link training (R563–R565, R589, R593, R715) -/

/-- Can a port train to a width and a speed: those of R564, and in MINIMAL mode at most x1 at 16 GT/s (R565)? -/
def Dev.linkFits (d : Dev) (width speed : Nat) : Bool :=
  [1, 2, 4, 8].contains width && inRange 1 6 speed && (!d.isMinimal || (width == 1 && decide (speed ≤ 4)))

/-- PCIE_LINK_UP: the functions are in their reset state (R593), and the readiness message goes out (R564, R589). A partner without a common clock may fail to train (R715). -/
def doPcieLinkUp (port width speed : Nat) (commonClock : Bool) (_c : Ctx) (d : Dev) : Dev :=
  if !d.perstReleased port || d.portUp port || !d.linkFits width speed then d
  else
    let (k, d) : Nat × Dev := if commonClock then (0, d) else d.choose 2
    if k = 1 then d.modPort port fun h => { h with link := 0, width := 0, speed := 0 }
    else (d.modPort port fun h => { h with link := if d.isMinimal then 3 else 2, width := width, speed := speed }).send (.readiness port)

/-- PCIE_LINK_UP. -/
def execPcieLinkUp (port width speed : Nat) (commonClock : Bool) (s : State) : Out := devStep (doPcieLinkUp port width speed commonClock) s

/-- SURPRISE_REMOVAL. -/
def execSurpriseRemoval (port : Nat) (s : State) : Out := devStep (fun c d => d.loseLink c port) s

/-- FUNCTION_LEVEL_RESET: of the PF, it disables the VFs as well. -/
def doFunctionLevelReset (port function : Nat) (c : Ctx) (d : Dev) : Dev :=
  if !d.fnThere port function then d
  else
    let d : Dev := if function = 0 then (d.disableVfs c port).resetFunction c port 0 false
      else d.resetFunction c port function (d.fn port function).enabled
    d.modPort port fun h => { h with resets := satAdd 64 h.resets 1 }

/-- FUNCTION_LEVEL_RESET. -/
def execFunctionLevelReset (port function : Nat) (s : State) : Out := devStep (doFunctionLevelReset port function) s

/-- VF_DISABLE. -/
def execVfDisable (port : Nat) (s : State) : Out := devStep (fun c d => if d.portUp port then d.disableVfs c port else d) s

/-! ### Function registers (R571, R572, R588, R593) -/

/-- FUNCTION_STATUS (*Function status*). READY does not follow QUIESCE (log entry 119). -/
def Dev.functionStatus (d : Dev) (p n : Nat) : Nat :=
  let f := d.fn p n
  let rebind := n != 0 && f.enabled && f.realm != d.cfg (0x1120 + p) n
  b2n d.isOperational + 2 * b2n d.isMinimal + 4 * b2n (f.quiesce && f.outstanding == 0) + 8 * b2n rebind + 2 ^ 8 * f.realm + 2 ^ 16 * d.boot.node

/-- ERROR_COUNTS (*Function error counts*). -/
def Function.errorCounts (f : Function) : Nat := f.overflows + 2 ^ 16 * f.malformed + 2 ^ 32 * f.lost

/-- RING_CONFIG (*Ring configuration*). -/
def Ring.word (r : Ring) : Nat :=
  b2n r.enable + 2 * b2n r.c0Immediate + 2 ^ 8 * r.sizeLog2 + 2 ^ 16 * r.vector + 2 ^ 24 * r.coalCount + 2 ^ 32 * r.coalTime

/-- APERTURE (*Aperture configuration*). -/
def Aperture.word (x : Aperture) : Nat :=
  b2n x.enable + 2 * x.ring + 2 ^ 8 * x.depthLog2 + 2 ^ 16 * x.outstanding + 2 ^ 29 * b2n x.ovf

/-- What a read of 64 bits in a function's register page answers (*Function register map*); 0 where it has no register. -/
def Dev.functionRegister (d : Dev) (p n offset : Nat) : Nat :=
  let f := d.fn p n
  if offset = 0 then d.functionStatus p n
  else if offset = 8 then b2n f.quiesce
  else if offset = 0x10 then f.errorCounts
  else if 0x100 ≤ offset ∧ offset < 0x100 + 16 * aperturesOf n ∧ offset % 8 = 0 then
    let r := f.ring ((offset - 0x100) / 16)
    if offset % 16 = 0 then r.base else r.word
  else if 0x400 ≤ offset ∧ offset < 0x400 + 8 * aperturesOf n ∧ offset % 8 = 0 then (f.aperture ((offset - 0x400) / 8)).word
  else 0

/-- QUIESCE: a write of FUNCTION_CONTROL. -/
def doQuiesce (port function value : Nat) (_c : Ctx) (d : Dev) : Dev :=
  if !d.fnThere port function then d
  else ((d.touchFn port function).modFn port function fun f => { f with quiesce := bit value 0 }).checkQuiesced port function

/-- QUIESCE. -/
def execQuiesce (port function value : Nat) (s : State) : Out := devStep (doQuiesce port function value) s

/-- A write of RING_BASE: ignored while the ring is enabled; the base is a multiple of 4 KiB. -/
def Ring.writeBase (r : Ring) (v : Nat) : Ring := if r.enable then r else { r with base := v % 2 ^ 64 / 4096 * 4096 }

/-- A write of RING_CONFIG: SIZE_LOG2 and VECTOR only while the ring is disabled, a COAL_COUNT of 0 is none. A write that sets ENABLE starts
the ring at entry 0 with phase 1, where its fields are in range. -/
def Ring.writeConfig (r : Ring) (v : Nat) : Ring :=
  let r := { r with
    c0Immediate := bit v 1
    sizeLog2 := if r.enable then r.sizeLog2 else bits v 12 8
    vector := if r.enable then r.vector else bits v 20 16
    coalCount := if r.enable && bits v 31 24 == 0 then r.coalCount else bits v 31 24
    coalTime := bits v 41 32 }
  let ok := inRange 6 16 r.sizeLog2 && decide (r.vector ≤ 30) && inRange 1 255 r.coalCount
  if r.enable then (if bit v 0 then r else { r with enable := false, disables := r.disables + 1 })
  else if bit v 0 && ok then { r with enable := true, next := 0, phase := true, unsignalled := 0 } else r

/-- RING_CONFIGURATION. -/
def doRingConfiguration (port function ring register value : Nat) (_c : Ctx) (d : Dev) : Dev :=
  if !d.fnThere port function || decide (aperturesOf function ≤ ring) then d
  else (d.touchFn port function).modFn port function fun f => { f with
    rings := tabSet ring (if register = 0 then (f.ring ring).writeBase value else (f.ring ring).writeConfig value) f.rings }

/-- RING_CONFIGURATION. -/
def execRingConfiguration (port function ring register value : Nat) (s : State) : Out :=
  devStep (doRingConfiguration port function ring register value) s

/-- Entries that the enabled apertures of a ring may fill, but for aperture `a`. -/
def Function.ringLoad (f : Function) (q a : Nat) : Nat :=
  sumOf ((f.apertures.filter fun e => e.1 != a && e.2.enable && e.2.ring == q).map fun e => 2 ^ e.2.depthLog2)

/-- A write of an aperture's configuration (R572). -/
def Function.writeAperture (f : Function) (last a v : Nat) : Function :=
  let x := f.aperture a
  let fixed := x.enable || decide (x.outstanding ≠ 0)
  let x := { x with
    ring := if fixed then x.ring else bits v 5 1
    depthLog2 := if fixed then x.depthLog2 else bits v 11 8
    ovf := x.ovf && !bit v 29 }
  let r := f.ring x.ring
  let ok := decide (x.ring < last) && r.enable && inRange 4 12 x.depthLog2 &&
    decide (f.ringLoad x.ring a + 2 ^ x.depthLog2 ≤ 2 ^ r.sizeLog2)
  { f with apertures := tabSet a { x with enable := bit v 0 && (x.enable || ok) } f.apertures }

/-- APERTURE_CONFIGURATION. -/
def doApertureConfiguration (port function aperture value : Nat) (_c : Ctx) (d : Dev) : Dev :=
  if !d.fnThere port function || decide (aperturesOf function ≤ aperture) then d
  else (d.touchFn port function).modFn port function fun f => f.writeAperture (aperturesOf function) aperture value

/-- APERTURE_CONFIGURATION. -/
def execApertureConfiguration (port function aperture value : Nat) (s : State) : Out :=
  devStep (doApertureConfiguration port function aperture value) s

/-! ### The management link (R594) -/

/-- MANAGEMENT_LINK_UP: under PLCA, or under CSMA/CD where the node identifier is 255. -/
def doManagementLinkUp (_c : Ctx) (d : Dev) : Dev :=
  d.setFabric { d.fabric with mgmtLink := if d.cfg 0x1111 1 = 255 then 1 else 2 }

/-- MANAGEMENT_LINK_UP. -/
def execManagementLinkUp (s : State) : Out := devStep doManagementLinkUp s

/-- MANAGEMENT_LINK_DOWN. -/
def doManagementLinkDown (_c : Ctx) (d : Dev) : Dev := d.setFabric { d.fabric with mgmtLink := 0 }

/-- MANAGEMENT_LINK_DOWN. -/
def execManagementLinkDown (s : State) : Out := devStep doManagementLinkDown s

end Sys2Proof.Machine
end

