-- ==== Sys2Proof/Machine/Access.lean ====
section
/-! DEFINITION. Requests to the dictionary: sessions and sequence numbers, the reach of a realm, starting and absent blocks, values and drafts
(R78–R84, R101–R106, R111, R656, R657, R731). -/

namespace Sys2Proof.Machine

/-! ### Reach (R81, R662, and the owning chapters' tables) -/

/-- What a session may do with an entry: nothing; read zeros only, where it is another realm's; read; or all its access right gives. -/
inductive Reach where
  | outside | foreign | readable | whole
deriving DecidableEq, Repr

/-- Readable where a condition holds, else zeros. -/
def Reach.seen (own : Bool) : Reach := if own then .readable else .foreign

/-- The reach of realm r's sessions in 0x1000–0x2BFF. -/
def Dev.lowReach (d : Dev) (r idx sub : Nat) : Reach :=
  if idx < 0x1100 then .readable
  else if idx < 0x1800 then .outside
  else if idx < 0x2000 then (if idx = 0x1820 then .outside else .whole)
  else if idx = 0x2001 then .readable
  else if idx = 0x2010 ∨ idx = 0x2011 then .seen (sub == 0 || d.groupOwner (sub - 1) == r)
  else if idx = 0x2020 then (if sub = 1 then .whole else .readable)
  else if idx = 0x23F0 then .whole
  else if inRange 0x2420 0x243F idx then .seen (sub == 0 || rgRealm (d.region (idx - 0x2420, sub - 1)) == r)
  else if idx = 0x2440 then .whole
  else if idx = 0x2441 then .readable
  else if idx = 0x2462 then (if sub = 8 then .whole else .readable)
  else if idx = 0x2830 then .readable
  else .outside

/-- The reach of realm r's sessions in an object slot: free slots and its own. -/
def Dev.slotReach (d : Dev) (r idx sub : Nat) : Reach :=
  if sub = 0 ∨ d.slotOwner idx = 0 ∨ d.slotOwner idx = r then .whole else .foreign

/-- The reach of realm r's sessions from 0x2C00 on. -/
def Dev.highReach (d : Dev) (r idx sub : Nat) : Reach :=
  if idx = 0x2C00 then (if sub = 5 then .whole else if sub = 0 ∨ 6 ≤ sub then .readable else .outside)
  else if idx = 0x2C00 + r ∨ idx = 0x2D00 + r ∨ idx = 0x2E00 + r then .readable
  else if inRange 0x3020 0x309F idx || inRange 0x3120 0x315F idx || inRange 0x3200 0x320F idx then d.slotReach r idx sub
  else if idx = 0x3302 ∨ idx = 0x3304 ∨ idx = 0x3306 then .whole
  else if inRange 0x3000 0x33FF idx then .readable
  else if idx = 0x5140 then (if sub < 3 then .readable else .outside)
  else if idx = 0x5C02 ∨ idx = 0x5C03 then .readable
  else if idx = 0x5C10 then (if sub = 1 then .whole else .readable)
  else .outside

/-- The reach of a realm's sessions. -/
def Dev.reach (d : Dev) (r idx sub : Nat) : Reach :=
  if r = 0 then .whole
  else if inRange 0x2880 0x28BF idx then d.slotReach r idx sub
  else if idx < 0x2C00 then d.lowReach r idx sub
  else d.highReach r idx sub

/-! ### Blocks that are off or starting (R78, R675, R677) -/

/-- Entries of a block that answer while it is off or starting. -/
def alwaysServed (idx : Nat) : Bool := [0x2000, 0x2001, 0x2400, 0x2401, 0x2402, 0x2800, 0x2801, 0x2802, 0x2A00, 0x2A01, 0x2A02].contains idx

/-- The start step at whose end the block of an entry serves; 0 of an entry of no block. -/
def servesAfter (idx : Nat) : Nat :=
  if inRange 0x2000 0x23FF idx then 4
  else if inRange 0x2400 0x27FF idx then 5
  else if inRange 0x2800 0x29FF idx || inRange 0x3000 0x33FF idx then 6
  else if inRange 0x2A00 0x2BFF idx then 7
  else 0

/-- The entries that the ROM answers in ROM recovery (R677). -/
def romServes (idx : Nat) : Bool := idx / 256 == 0x10 || inRange 0x5C00 0x5C03 idx || inRange 0x5F00 0x5F05 idx

/-- Rows 3 and 4 of *Access results*: ST_OK, ST_MINIMAL or ST_BUSY. -/
def Dev.blockStatus (d : Dev) (idx : Nat) : Nat :=
  let step := servesAfter idx
  if d.boot.node = 0x81 then (if romServes idx then stOk else stMinimal)
  else if step = 0 ∨ alwaysServed idx then stOk
  else if d.isMinimal then stMinimal
  else if d.boot.node < step ∧ idx ≠ 0x2840 then stBusy
  else stOk

/-! ### Aliases (R82, R212) -/

/-- The native index of an alias. -/
def nativeOf (idx sub : Nat) : Nat :=
  if (idx = 0x6405 ∨ idx = 0x6407 ∨ idx = 0x6408 ∨ idx = 0x6409) ∨ (idx = 0x640A ∧ sub = 0) then idx - 0x4000 else idx

/-- A native value as an alias reads it. -/
def aliasRead (idx sub v : Nat) : Nat :=
  if idx = 0x6405 ∧ sub ≠ 0 then 1 - v
  else if (idx = 0x6407 ∨ idx = 0x6409) ∧ sub ≠ 0 then ceilDiv v 10
  else if idx = 0x640A then ceilDiv v 1000
  else v

/-- The native value of one written through an alias; none where it has no equivalent. -/
def aliasWrite (idx v : Nat) : Option Nat :=
  if idx = 0x6405 then (if v ≤ 1 then some (1 - v) else none)
  else if idx = 0x6407 ∨ idx = 0x6409 then some (10 * v)
  else if idx = 0x640A then some (1000 * v)
  else some v

/-! ### Access checks: rows 1–6 of *Access results* -/

/-- The rows of *Access results* before an entry's value is looked at: ST_OK or the first status that matches. A write of an entry that a
realm's sessions may only read lies outside their reach (DEDUCED, log entry 31). -/
def Dev.accessStatus (d : Dev) (s : Session) (idx sub : Nat) (write : Bool) : Nat :=
  match entryAt idx sub with
  | none => stBadArg
  | some r =>
    let reach := d.reach s.realm idx sub
    if reach = .outside ∨ (write ∧ reach ≠ .whole) then stViolation
    else if d.blockStatus idx ≠ stOk then d.blockStatus idx
    else if write then (if r.access = .const ∨ r.access = .ro then stBadArg else stOk)
    else if r.access = .wo then stBadArg else stOk

/-- May only be transferred in segments: a DOMAIN, and an entry longer than 1,024 bytes (R75). -/
def EntryRow.segmented (r : EntryRow) : Bool := r.kind == .domain || decide (1024 < r.size)

/-- Is a written value's length the entry's, and a BOOL 0 or 1 (R76)? -/
def EntryRow.lengthOk (r : EntryRow) (v : DictVal) : Bool :=
  match r.kind with
  | .bool => v.len == 1 && decide (v.num ≤ 1)
  | .str => decide (v.len ≤ 255)
  | .domain => true
  | _ => v.len == r.size

/-! ### Values -/

/-- The commit domain of an RWC entry for a session: the selected one for a realm's object, else the device (R84, R632). -/
def Session.domainOf (s : Session) (idx : Nat) : Nat := if realmEntry idx then s.select 0x1800 0 else 0

/-- The active value of an RWC entry as it is read: an allotment's words of GiB that are not for allotment read 0 (R457); the first trust
anchor's default is burned in (0x5C31). -/
def Dev.activeValue (d : Dev) (idx sub : Nat) : DictVal :=
  if idx = 0x2460 ∧ sub ≠ 0 then arrVal 2 ((List.range 96).map (allotBy d.cfg (sub - 1)))
  else if idx = 0x5C31 ∧ sub = 1 ∧ (tabGet (entryKey idx sub) d.dict.cfg).isNone then uval 64 (Config.burned 4)
  else d.cfgVal idx sub

/-- The value of an entry in a session; `view` asks for the draft's (R84). REALM of a drafted descriptor reads 0: it is set when the slot
becomes active. -/
def Dev.valueIn (c : Ctx) (d : Dev) (s : Session) (r : EntryRow) (idx sub : Nat) (view : Bool) : DictVal :=
  match r.access with
  | .const => if idx = 0x1000 ∨ (idx = 0x1110 ∧ sub = 1) then d.reading c s idx sub else ⟨r.size, r.dflt⟩
  | .ro => d.reading c s idx sub
  | .rw => uval r.size (s.select idx sub)
  | .rwKept => tabValue d.nor.kept idx sub
  | .rwc =>
    match if view then tabGet (entryKey idx sub) (tabGetD (s.domainOf idx) [] s.drafts) else none with
    | some v => (match realmField idx sub with
      | some p => { v with num := setBits v.num (p + 7) p 0 }
      | none => v)
    | none => d.activeValue idx sub
  | .wo => ⟨0, 0⟩

/-- Does a request read the draft view: bit 1 of FLAGS at 1.2, or the session's selection (R84, R111)? -/
def Session.view (s : Session) (q : Req) : Bool := (decide (0x12 ≤ s.version) && bit q.flags 1) || s.select 0x1805 0 == 1

/-- Does an update entry read 0 in a realm's session: the slot is not the realm's, and the view asked for holds no draft of the entry (R387)? -/
def Dev.updatesHidden (d : Dev) (s : Session) (q : Req) (idx sub : Nat) : Bool :=
  s.realm != 0 && inRange 0x3060 0x309F idx && d.slotOwner idx != s.realm &&
    !(s.view q && (tabGet (entryKey idx sub) (tabGetD (s.domainOf idx) [] s.drafts)).isSome)

/-- Does a pool entry read 0 in a realm's session: no pool of the realm is active in the slot, and the view asked for holds no draft of the entry (R454)? -/
def Dev.poolHidden (d : Dev) (s : Session) (q : Req) (idx sub : Nat) : Bool :=
  s.realm != 0 && inRange 0x3200 0x320F idx && sub != 0 && d.slotOwner idx != s.realm &&
    !(s.view q && (tabGet (entryKey idx sub) (tabGetD (s.domainOf idx) [] s.drafts)).isSome)

/-- The value that a read returns: zeros of an entry that is another realm's. -/
def Dev.readEntry (c : Ctx) (d : Dev) (s : Session) (q : Req) (r : EntryRow) (idx sub : Nat) : DictVal :=
  if d.reach s.realm idx sub = .foreign || d.updatesHidden s q idx sub || d.poolHidden s q idx sub then ⟨r.size, 0⟩ else d.valueIn c s r idx sub (s.view q)

/-! ### Responses outside the rule of R104 -/

/-- A response that is not kept for a repeated request: the request was not executed. -/
def Dev.turnAway (d : Dev) (q : Req) (idx sub status : Nat) : Dev :=
  let d : Dev := if q.path = 1 then d.setDict { d.dict with mailbox := tabSet q.number 0 d.dict.mailbox } else d
  d.transmit q.path q.number ⟨status, q.seq, idx, sub, true, 0, 0, 0⟩

/-- The violation record of a dictionary access (R737). -/
def Dev.violateEntry (c : Ctx) (d : Dev) (s : Session) (op idx sub : Nat) : Dev :=
  d.violate c s.realm 4 s.number op (if op % 2 = 1 then 3 else 0) 0 (entryKey idx sub) 0 0xFFFF

/-- An access refused with a status; ST_VIOLATION is recorded. -/
def Dev.refuseEntry (c : Ctx) (d : Dev) (q : Req) (s : Session) (op idx sub status : Nat) : Dev :=
  (if status = stViolation then d.violateEntry c s op idx sub else d).answer q idx sub status

/-! ### Sessions (R101, R103, R105, R731) -/

/-- A session as it opens. -/
def Session.opened (path number sender realm version now : Nat) : Session :=
  { path := path, number := number, sender := sender, realm := realm, version := version, lastSeq := none, lastResponse := none, lastTime := now,
    sel := [], lastResult := stOk, failCheck := 0, failEntry := 0, failRelated := 0, failGeneration := 0, drafts := [], writeSeg := [],
    readSeg := [], loadStatus := stOk, loadReason := 0, loadItem := 0, loadHandle := 0, report := 0, isProtected := false,
    proofPending := false, keySlot := 0, transcript := 0, sessionKey := 0, msgIn := 0, lastIn := 0, msgOut := 0 }

/-- A session closed: its drafts go with it; the fabric manager's session may be the one (0x2A30.02). -/
def Dev.closeSession (d : Dev) (path number : Nat) : Dev :=
  let d := d.dropSession path number
  let fm := d.dict.sessions.any fun s => s.path == 2 && s.realm == 0 && s.isProtected
  d.setFabric { d.fabric with fmSession := if fm then 1 else 0 }

/-- Does a request arrive: over the management link, to a mailbox of a function that is there, over a fabric link (R100)? In ROM recovery the
PF mailboxes alone (R677). -/
def Dev.arrives (d : Dev) (q : Req) : Bool :=
  if d.boot.node = 0x81 then q.path == 1 && q.number % 64 == 0 && d.fnThere (q.number / 64) 0
  else if q.path = 0 then d.fabric.mgmtLink != 0
  else if q.path = 1 then d.fnThere (q.number / 64) (q.number % 64)
  else d.fabric.links.any Link.carries

/-- A mailbox's session, opened by its first request (R101); it has the realm that its function has in force. -/
def Dev.mailboxSession (c : Ctx) (d : Dev) (number : Nat) : Dev :=
  match d.session? 1 number with
  | some _ => d
  | none =>
    let realm := if number % 64 = 0 then 0 else (d.fn (number / 64) (number % 64)).realm
    d.setDict { d.dict with sessions := d.dict.sessions ++ [.opened 1 number 0 realm 0x12 c.now] }

/-- Is an operator key with a path's role committed (R657)? -/
def Dev.roleKey (d : Dev) (path : Nat) : Bool :=
  (List.range 8).any fun k => let v := d.cfg 0x5C30 (k + 1); v % 2 ^ 456 != 0 && bit v (if path = 0 then 456 else 457)

/-- Is a session's access refused whatever the entry: a proof is due (R656), a key is committed and the session unprotected (R657), a VF's
realm does not act (R633), or an OBSERVER writes (R569)? -/
def Dev.sessionRefuses (d : Dev) (s : Session) (op idx sub : Nat) : Bool :=
  (s.proofPending && !(idx == 0x5C20 && sub == 1 && op % 2 == 1)) ||
    (s.path != 1 && op != 3 && s.realm == 0 && !s.isProtected && !s.proofPending && d.roleKey s.path &&
      !(op % 2 == 0 && (idx / 256 == 0x10 || inRange 0x5C02 0x5C10 idx))) ||
    (s.path == 1 && s.number % 64 != 0 && (s.realm == 0 || !d.realmActive s.realm)) ||
    (s.path == 2 && s.realm != 0 && !d.realmActive s.realm) ||
    (s.path == 1 && s.number % 64 == 0 && op % 2 == 1 && d.cfg 0x1104 (s.number / 64 + 1) == 1)

/-- A request taken up by its session: the mailbox is busy until the response, SEQ is the session's last (R104, R106), and so is, under keys, the
message counter that the request has just counted. -/
def Dev.takeRequest (c : Ctx) (d : Dev) (q : Req) : Dev :=
  let d : Dev := if q.path = 1 then d.setDict { d.dict with mailbox := tabSet q.number 1 d.dict.mailbox } else d
  d.modSession q.path q.number fun s => { s with
    lastSeq := some q.seq, lastResponse := none, lastTime := c.now, lastIn := s.msgIn - b2n s.keyed }

/-- What a request carries beside its header: the segment number, and the payload. -/
structure Body where
  seg : Nat
  len : Nat
  num : Nat
deriving DecidableEq, Repr

/-- A request with no payload. -/
def Body.none : Body := ⟨0, 0, 0⟩

/-- Does a request carry the tag that its session's keys give it as message `counter` (R102, R655)? -/
def Session.sealedAt (s : Session) (counter : Nat) (q : Req) (op idx sub : Nat) (b : Body) : Bool :=
  q.tag == s.tagOf 0 counter (wireMessage s op q.seq 0 q.flags idx sub b.seg b.len b.num)

/-- Is a request, under keys, the client's next message (R655)? Each counts once, whatever the request then comes to (log entry 122). -/
def Session.fresh (s : Session) (q : Req) (op idx sub : Nat) (b : Body) : Bool := s.keyed && s.sealedAt s.msgIn q op idx sub b

/-- Is a request its client's: in a session with no keys any, else the next message, or the last request as it came before (R104, R655)? -/
def Session.authentic (s : Session) (q : Req) (op idx sub : Nat) (b : Body) : Bool :=
  !s.keyed || s.fresh q op idx sub b || (s.lastSeq == some (q.seq % 65536) && s.sealedAt s.lastIn q op idx sub b)

/-- The client's message counter after a request (R655). -/
def Dev.countIn (d : Dev) (s : Session) (q : Req) (op idx sub : Nat) (b : Body) : Dev :=
  d.modSession q.path q.number fun t => { t with msgIn := t.msgIn + b2n (s.fresh q op idx sub b) }

/-- A request in its session: a repeated SEQ gets the last response again, one out of turn is refused; else the request is taken up and
`f` gives its effect (R104). The first request after OPEN may carry any SEQ, since no rule says that OPEN's is the session's last (DESIGN CHOICE,
log entry 108). `ret` makes the result of a device that `f` does not see. -/
def Dev.inTurn {α : Type} (ret : Dev → α) (c : Ctx) (d : Dev) (q : Req) (s : Session) (op idx sub : Nat) (f : Dev → Session → α) : α :=
  let d := d.modSession q.path q.number fun s => { s with lastTime := c.now }
  if s.lastSeq = some (q.seq % 65536) then
    match s.lastResponse with
    | some r => ret (d.send (.response q.path q.number r))
    | none => ret d
  else if s.lastSeq.any fun n => (n + 1) % 65536 != q.seq % 65536 then ret (d.turnAway q idx sub stBadArg)
  else
    let d := d.takeRequest c { q with seq := q.seq % 65536 }
    if d.sessionRefuses s op idx sub then ret (d.refuseEntry c q s op idx sub stViolation) else f d s

/-- A dictionary request as it comes: by its path, in a session that is open for its sender (R731), in turn. While the Cupola reloads, mailboxes
answer ST_BUSY and the other paths nothing (R666). A request under keys without their tag is not from the client, and nothing happens (log entry
108). -/
def Dev.requestIn {α : Type} (ret : Dev → α) (c : Ctx) (d : Dev) (q : Req) (op idx sub : Nat) (b : Body) (f : Dev → Session → α) : α :=
  if !d.arrives q then ret d
  else if q.path = 1 then
    if tabGetD q.number 0 d.dict.mailbox = 1 then ret d
    else if d.boot.reloading then ret (d.turnAway q idx sub stBusy)
    else
      let d := (d.touchFn (q.number / 64) (q.number % 64)).mailboxSession c q.number
      match d.session? 1 q.number with
      | some s => d.inTurn ret c q s op idx sub f
      | none => ret d
  else if d.boot.reloading then ret d
  else match (d.session? q.path q.number).filter fun s => s.sender == q.sender with
    | some s => if s.authentic q op idx sub b then (d.countIn s q op idx sub b).inTurn ret c q s op idx sub f else ret d
    | none => ret (d.send (.response q.path q.number ⟨stBadArg, q.seq, idx, sub, true, 0, 0, 0⟩))

/-- A request whose effect is on the device alone. -/
def Dev.request (c : Ctx) (d : Dev) (q : Req) (op idx sub : Nat) (b : Body) (f : Dev → Session → Dev) : Dev :=
  d.requestIn id c q op idx sub b f

/-- A write as far as its value (*Access results*): `f` gives the effect of one that every row lets through. `shown` is the index as the request
names the entry, by its alias or its own (R82); answers and records show it. -/
def Dev.checkedWrite {α : Type} (ret : Dev → α) (c : Ctx) (d : Dev) (q : Req) (s : Session) (op shown idx sub : Nat) (v : DictVal)
    (f : EntryRow → Dev → α) : α :=
  let st := d.accessStatus s idx sub true
  match entryAt idx sub with
  | none => ret (d.refuseEntry c q s op shown sub stBadArg)
  | some r =>
    if st ≠ stOk then ret (d.refuseEntry c q s op shown sub st)
    else if !r.lengthOk v then ret (d.refuseEntry c q s op shown sub stBadArg)
    else if r.access = .wo ∧ !d.inEntryRange d r 0 idx sub v then ret (d.refuseEntry c q s op shown sub stConfigReject)
    else f r d

/-- A request that writes a WO entry: the command of a row of its own. The value comes with the entry's length. -/
def Dev.actionIn {α : Type} (ret : Dev → α) (c : Ctx) (d : Dev) (q : Req) (idx sub value : Nat) (f : Dev → Session → α) : α :=
  let len := ((entryAt idx sub).map (·.size)).getD 0
  d.requestIn ret c q 0x11 idx sub ⟨0, len, value⟩ fun d s => d.checkedWrite ret c q s 0x11 idx idx sub ⟨len, value⟩ fun _ d => f d s

/-- A request that writes a WO entry whose effect is on the device alone. -/
def Dev.action (c : Ctx) (d : Dev) (q : Req) (idx sub value : Nat) (f : Dev → Session → Dev) : Dev := d.actionIn id c q idx sub value f

/-! ### Drafts (R84, R93, R632) -/

/-- A value put into a session's draft, or the status that refuses it. -/
def Dev.draftWrite (d : Dev) (s : Session) (r : EntryRow) (idx sub : Nat) (v : DictVal) : Nat × Dev :=
  let domain := s.domainOf idx
  let owner := d.slotOwner idx
  let key := entryKey idx sub
  let draft := tabGetD domain [] s.drafts
  let v : DictVal := ⟨v.len, stored idx sub domain v.num⟩
  let new := d.drafted s domain
  let count := sumOf (d.dict.sessions.map fun t => (t.drafts.filter fun e => !e.2.isEmpty).length)
  if realmEntry idx && (domain == 0 || (owner != 0 && owner != domain)) then (stConfigReject, d)
  else if !(new.inEntryRange d r domain idx sub v && new.withinLimit d domain idx sub v) then (stConfigReject, d)
  else if (draft.isEmpty && decide (16 ≤ count)) || ((tabGet key draft).isNone && decide (4096 ≤ draft.length)) then (stBusy, d)
  else (stOk, d.modSession s.path s.number fun t => { t with drafts := tabSet domain (tabSet key v draft) t.drafts })

/-- A value put in place: a session's selection (R70), or one kept in NOR (R700). -/
def Dev.putSelection (d : Dev) (s : Session) (idx sub v : Nat) : Dev :=
  d.modSession s.path s.number fun t => { t with sel := tabSet (entryKey idx sub) v t.sel }

end Sys2Proof.Machine
end

