-- ==== Sys2Proof/Machine/Actions.lean ====
section
/-! DEFINITION. Actions of the write-only entries that act on tiles, plans, indexes, KV pools, memory tiers, flash and drafts, and the commands
that write them (R73, R93, R160, R231, R271, R381, R423, R473, R475, R519). -/

namespace Sys2Proof.Machine

/-- A session's draft of a domain discarded (R93). -/
def Dev.discardDraft (d : Dev) (s : Session) : Dev :=
  d.modSession s.path s.number fun t => { t with drafts := tabDel (s.select 0x1800 0) t.drafts }

/-- 0x1804.00: 1 discards the session's draft of the selected domain. -/
def Dev.actDraftDiscard (d : Dev) (q : Req) (s : Session) (value : Nat) : Dev :=
  (if value = 1 then d.discardDraft s else d).answer q 0x1804 0 stOk

/-- A running instance put before the clear or after it (R73): before, its counts of the descriptor are discarded for good. -/
def Dev.clearSide (d : Dev) (capsule desc : Nat) : Nat × Dev :=
  let (before, d) := d.choose 2
  if before = 1 then (1, d.modRun capsule fun r => { r with cleared := if r.cleared.contains desc then r.cleared else desc :: r.cleared })
  else (0, d)

/-- Is an instance of a descriptor running in a run of a plan: started, and not completed? -/
def PlanRun.runs (r : PlanRun) (plan desc : Nat) : Bool :=
  r.plan == plan && match tabGet desc r.descs with | some .placed => true | some .operated => true | _ => false

/-- The counts of a descriptor that a clear leaves: those of the running instances that fall after it (R69, R73). -/
def Dev.keptCounts (d : Dev) (plan desc : Nat) : Counts :=
  ((d.plans.runs.filter fun r => r.runs plan desc && !r.cleared.contains desc).map fun r => tabGetD desc .none r.counts).foldl Counts.plus .none

/-- 0x23F0.05: the counters of the selected descriptor of a plan in the session's reach are cleared (R71, R73). -/
def Dev.actCounterClear (d : Dev) (q : Req) (s : Session) (value : Nat) : Dev :=
  let h := s.select 0x23F0 1
  let i := s.select 0x23F0 2
  let d : Dev := match d.plan? h with
    | none => d
    | some p =>
      if value != 1 || !s.reaches p.realm then d
      else
        let running := (d.plans.runs.filter fun r => r.runs h i && !r.cleared.contains i).map (·.capsule)
        let d := running.foldl (fun d k => (d.clearSide k i).2) d
        let kept := d.keptCounts h i
        d.modPlan h fun p => { p with counts := tabSet i kept p.counts }
  d.answer q 0x23F0 5 stOk

/-- 0x2002.00: the self-check of a tile; one that passes is in service again with its error counts reset (R160). -/
def Dev.actTileUnfence (d : Dev) (q : Req) (tile : Nat) (passes : Bool) : Dev :=
  if passes then
    (d.modTile tile fun t => { t with
      fenced := false, corrected := 0, uncorrectable := 0, corrected24 := [], uncorrected24 := [] }).answer q 0x2002 0 stOk
  else d.answer q 0x2002 0 stFault

/-- 0x3020 + x.03: an index between loading and serving (R271): its new state and the status. -/
def Dev.openIndex (d : Dev) (x value : Nat) : Nat × Dev :=
  let st := (d.indexState x).state
  if ixKind (d.index x) = 0 then (stBadArg, d)
  else if st ≤ 1 then (stBusy, d)
  else if value = 1 ∧ st = 2 then
    if (d.entryCells (d.index x)).isEmpty then (stConfigReject, d) else (stOk, d.modIndex x fun k => { k with state := 3 })
  else if value = 0 ∧ st = 3 then (stOk, d.modIndex x fun k => { k with state := 2 })
  else (stOk, d)

/-- The answer of an action that gives a status. -/
def Dev.answerAction (r : Nat × Dev) (q : Req) (idx sub : Nat) : Dev := r.2.answer q idx sub r.1

/-- A reclaim of as many GiB as are lent at most (R475). -/
def Dev.actReclaim (c : Ctx) (d : Dev) (q : Req) (value : Nat) : Dev := (d.reclaimCount c value).answer q 0x2B80 5 stOk

/-- 0x2462.08: a flush answers when every dirty sector has been acknowledged (R473). -/
def Dev.actPoolFlush (d : Dev) (q : Req) (s : Session) (value : Nat) : Dev :=
  if value = 1 then d.poolFlush q.path q.number q.seq s.realm else d.answer q 0x2462 8 stOk

/-! ### The boot record (R664) -/

/-- A boot record written to both devices, with the next SEQ. -/
def Dev.writeBoot (d : Dev) (f : BootRecord → BootRecord) : Dev :=
  d.setNor { d.nor with boot := { f d.nor.boot with seq := (d.nor.boot.seq + 1) % 2 ^ 64 } }

/-- FAILED_STARTS of a start that ends cleanly: as it was before the start raised it, unless the start has succeeded (R674). -/
def Dev.failedKept (d : Dev) : Nat := if d.boot.succeeded || d.isMinimal then d.nor.boot.failedStarts else d.boot.failedAtStart

/-- A clean end of the start: the event, the flush, the boot record (R674, R686, R692). -/
def Dev.cleanEnd (c : Ctx) (d : Dev) (value : Nat) (f : BootRecord → BootRecord) : Dev :=
  let failed := d.failedKept
  ((d.event c 0x0106 0 0 value 0 0).flushEvents).writeBoot fun b => f { b with running := false, failedStarts := failed }

/-- 0x2840.06: the shutdown sequence (R519); one that completes is a clean end (R674). -/
def Dev.actCleanShutdown (c : Ctx) (d : Dev) (q : Req) (value : Nat) : Dev :=
  if value = 1 then
    let (st, d) := d.cleanShutdown c
    (if st = stOk then d.cleanEnd c 0 id else d).answer q 0x2840 6 st
  else d.answer q 0x2840 6 stOk

/-- 0x3304.00: an unload is asked for; the write completes as the unload begins (R236). -/
def Dev.actPlanUnload (d : Dev) (q : Req) (s : Session) (value : Nat) : Dev := Dev.answerAction (d.unloadPlan s.realm value) q 0x3304 0

/-- 0x3306.00: a complete plan image is loaded; the result is kept in 0x3305, and reason 0x0C is recorded as a violation (R231, R737). -/
def Dev.actPlanImage (c : Ctx) (d : Dev) (q : Req) (s : Session) (im : DictVal) : Dev :=
  let (r, d) := d.loadPlan s.realm im
  let d := d.modSession q.path q.number fun t => { t with
    loadStatus := r.status, loadReason := r.reason, loadItem := r.item, loadHandle := if r.status = stOk then r.handle else t.loadHandle }
  let d : Dev := if r.status = stViolation then d.violate c s.realm 4 s.number 0x13 0 0 d.refused.1 0 0xFFFF else d
  d.answer q 0x3306 0 r.status

/-! ### The commands -/

/-- DRAFT_DISCARD. -/
def doDraftDiscard (q : Req) (value : Nat) (c : Ctx) (d : Dev) : Dev := d.action c q 0x1804 0 value fun d s => d.actDraftDiscard q s value

/-- DRAFT_DISCARD. -/
def execDraftDiscard (q : Req) (value : Nat) (s : State) : Out := devStep (doDraftDiscard q value) s

/-- CONFIGURATION_COMMIT. -/
def doConfigurationCommit (q : Req) (value : Nat) (room ack : NorAck) (c : Ctx) (d : Dev) : Dev :=
  d.action c q 0x1810 0 value fun d s => d.commit c q s value room ack

/-- CONFIGURATION_COMMIT. -/
def execConfigurationCommit (q : Req) (value : Nat) (room ack : NorAck) (s : State) : Out := devStep (doConfigurationCommit q value room ack) s

/-- VALIDATE. -/
def doValidate (q : Req) (value : Nat) (room : NorAck) (c : Ctx) (d : Dev) : Dev :=
  d.action c q 0x1806 0 value fun d s => d.validation q s value room

/-- VALIDATE. -/
def execValidate (q : Req) (value : Nat) (room : NorAck) (s : State) : Out := devStep (doValidate q value room) s

/-- COUNTER_CLEAR. -/
def doCounterClear (q : Req) (value : Nat) (c : Ctx) (d : Dev) : Dev := d.action c q 0x23F0 5 value fun d s => d.actCounterClear q s value

/-- COUNTER_CLEAR. -/
def execCounterClear (q : Req) (value : Nat) (s : State) : Out := devStep (doCounterClear q value) s

/-- TILE_UNFENCE. -/
def doTileUnfence (q : Req) (tile : Nat) (passes : Bool) (c : Ctx) (d : Dev) : Dev :=
  d.action c q 0x2002 0 tile fun d _ => d.actTileUnfence q tile passes

/-- TILE_UNFENCE. -/
def execTileUnfence (q : Req) (tile : Nat) (passes : Bool) (s : State) : Out := devStep (doTileUnfence q tile passes) s

/-- INDEX_OPEN. -/
def doIndexOpen (q : Req) (slot value : Nat) (c : Ctx) (d : Dev) : Dev :=
  d.action c q (0x3020 + slot) 3 value fun d _ => Dev.answerAction (d.openIndex slot value) q (0x3020 + slot) 3

/-- INDEX_OPEN. -/
def execIndexOpen (q : Req) (slot value : Nat) (s : State) : Out := devStep (doIndexOpen q slot value) s

/-- CONSOLIDATION_START. -/
def doConsolidationStart (q : Req) (slot value : Nat) (c : Ctx) (d : Dev) : Dev :=
  d.action c q (0x3060 + slot) 6 value fun d _ => Dev.answerAction (d.startPasses slot value) q (0x3060 + slot) 6

/-- CONSOLIDATION_START. -/
def execConsolidationStart (q : Req) (slot value : Nat) (s : State) : Out := devStep (doConsolidationStart q slot value) s

/-- SEQUENCE_RESET. -/
def doSequenceReset (q : Req) (pool value : Nat) (c : Ctx) (d : Dev) : Dev :=
  d.action c q (0x3200 + pool) 5 value fun d _ => Dev.answerAction (d.resetSequence pool value) q (0x3200 + pool) 5

/-- SEQUENCE_RESET. -/
def execSequenceReset (q : Req) (pool value : Nat) (s : State) : Out := devStep (doSequenceReset q pool value) s

/-- 0x3200 + k.06: the sequence in [15:0], the token in [63:32]. -/
def Dev.tokenWrite (d : Dev) (pool value : Nat) : Nat × Dev := d.setPending pool (bits value 15 0) (bits value 63 32)

/-- PENDING_TOKEN_SET. -/
def doPendingTokenSet (q : Req) (pool value : Nat) (c : Ctx) (d : Dev) : Dev :=
  d.action c q (0x3200 + pool) 6 value fun d _ => Dev.answerAction (d.tokenWrite pool value) q (0x3200 + pool) 6

/-- PENDING_TOKEN_SET. -/
def execPendingTokenSet (q : Req) (pool value : Nat) (s : State) : Out := devStep (doPendingTokenSet q pool value) s

/-- POOL_FLUSH. -/
def doPoolFlush (q : Req) (value : Nat) (c : Ctx) (d : Dev) : Dev := d.action c q 0x2462 8 value fun d s => d.actPoolFlush q s value

/-- POOL_FLUSH. -/
def execPoolFlush (q : Req) (value : Nat) (s : State) : Out := devStep (doPoolFlush q value) s

/-- RECLAIM. -/
def doReclaim (q : Req) (value : Nat) (c : Ctx) (d : Dev) : Dev := d.action c q 0x2B80 5 value fun d _ => d.actReclaim c q value

/-- RECLAIM. -/
def execReclaim (q : Req) (value : Nat) (s : State) : Out := devStep (doReclaim q value) s

/-- CLEAN_SHUTDOWN. -/
def doCleanShutdown (q : Req) (value : Nat) (c : Ctx) (d : Dev) : Dev := d.action c q 0x2840 6 value fun d _ => d.actCleanShutdown c q value

/-- CLEAN_SHUTDOWN. -/
def execCleanShutdown (q : Req) (value : Nat) (s : State) : Out := devStep (doCleanShutdown q value) s

end Sys2Proof.Machine
end

