-- ==== Sys2Proof/Machine/Capsules.lean ====
section
/-! DEFINITION. The capsules' rows, their admission, the start of instances, deadlines, the Carillon, coalescing and egress
(R231, R236, R247–R251, R503, R553–R557, R580, R587, R619–R622). -/

namespace Sys2Proof.Machine

/-! ### RUN -/

/-- RUN: a capsule is accepted, checked, metered and queued; its own work begins at INSTANCE_START. -/
def doRun (src : CapsuleSource) (raw : BitVec 512) (c : Ctx) (d : Dev) : Dev :=
  takeCapsule 0x01 (.run src raw) src raw.toNat c d

/-- RUN. -/
def execRun (src : CapsuleSource) (raw : BitVec 512) (s : State) : Out := devStep (doRun src raw) s

/-! ### PLAN_LOAD, PLAN_UNLOAD (R231, R236, R739) -/

/-- The image of a plan-load capsule loaded; a capsule of version 2 loads plans of version 3 only (R582). -/
def Dev.loadImage (c : Ctx) (d : Dev) (cap : Capsule) (im : DictVal) : Dev :=
  let (r, d) : LoadResult × Dev := if cap.version = 2 ∧ imVersion im ≠ 3 then (⟨stBadPlan, 1, 0, 0⟩, d) else d.loadPlan cap.realm im
  d.endPlain c cap.order r.status r.reason (if r.status = stOk then r.handle else r.item * 2 ^ 16)

/-- A capsule's own work, which waits while memory that it reaches is being cleared (R637). -/
def Dev.orClearing (d : Dev) (order : Nat) (f : Dev → Dev) : Dev :=
  d.unlessFilling f fun d => d.modCapsule order fun k => { k with stage := .clearing }

/-- A PLAN_LOAD capsule's image read and loaded. -/
def loadPlanNow (c : Ctx) (order : Nat) (d : Dev) : Dev :=
  match d.capsule? order with
  | none => d
  | some cap =>
    let addr := cap.field 191 128
    let n := cap.field 255 192
    if addr % 128 != 0 then d.endPlain c order stBadArg 0 0
    else match d.bufRead cap (cap.field 257 256) addr n with
      | (0, bs, d) => d.loadImage c cap ⟨n, ofLE bs⟩
      | (st, _, d) => d.endPlain c order st 0 0

/-- A PLAN_LOAD capsule's own work. -/
def workPlanLoad (c : Ctx) (d : Dev) (order : Nat) : Dev := d.orClearing order (loadPlanNow c order)

/-- PLAN_LOAD. -/
def doPlanLoad (src : CapsuleSource) (raw : BitVec 512) (c : Ctx) (d : Dev) : Dev :=
  takeCapsule 0x02 (.planLoad src raw) src raw.toNat c d

/-- PLAN_LOAD. -/
def execPlanLoad (src : CapsuleSource) (raw : BitVec 512) (s : State) : Out := devStep (hearing (doPlanLoad src raw)) s

/-- A PLAN_UNLOAD capsule's own work: it waits until the unload has completed. -/
def workPlanUnload (c : Ctx) (d : Dev) (order : Nat) : Dev :=
  match d.capsule? order with
  | none => d
  | some cap =>
    let (st, d) := d.unloadPlan cap.realm cap.plan
    if st != stOk then d.endPlain c order st 0 0
    else (d.modPlan cap.plan fun p => { p with unloadWaiters := p.unloadWaiters ++ [order] }).modCapsule order fun k => { k with stage := .running }

/-- PLAN_UNLOAD. -/
def doPlanUnload (src : CapsuleSource) (raw : BitVec 512) (c : Ctx) (d : Dev) : Dev :=
  takeCapsule 0x03 (.planUnload src raw) src raw.toNat c d

/-- PLAN_UNLOAD. -/
def execPlanUnload (src : CapsuleSource) (raw : BitVec 512) (s : State) : Out := devStep (doPlanUnload src raw) s

/-! ### UPDATE, VOLUME -/

/-- A capsule of another opcode begins its own work. -/
def Dev.beginWork (d : Dev) (order : Nat) : Dev := d.modCapsule order fun k => { k with stage := .running }

/-- An UPDATE capsule's own work. -/
def workUpdate (c : Ctx) (d : Dev) (order : Nat) : Dev := d.orClearing order fun d => (d.beginWork order).startUpdate c order

/-- UPDATE. -/
def doUpdate (src : CapsuleSource) (raw : BitVec 512) (c : Ctx) (d : Dev) : Dev :=
  takeCapsule 0x10 (.update src raw) src raw.toNat c d

/-- UPDATE. -/
def execUpdate (src : CapsuleSource) (raw : BitVec 512) (s : State) : Out := devStep (doUpdate src raw) s

/-- A VOLUME capsule's own work. -/
def workVolume (c : Ctx) (d : Dev) (order : Nat) : Dev := d.orClearing order fun d => (d.beginWork order).startVolume c order

/-- VOLUME. -/
def doVolume (src : CapsuleSource) (raw : BitVec 512) (c : Ctx) (d : Dev) : Dev :=
  takeCapsule 0x11 (.volume src raw) src raw.toNat c d

/-- VOLUME. -/
def execVolume (src : CapsuleSource) (raw : BitVec 512) (s : State) : Out := devStep (hearing (doVolume src raw)) s

/-! ### KV_SERVICE (R445, R619–R622) -/

/-- The key that a KV message works on: the one it names, or for a KV_PUT the one computed from its tokens (R446). -/
def Dev.messageKey (d : Dev) (cap : Capsule) : Option Nat × Dev :=
  if cap.kvOp = 1 then
    match d.bufRead cap cap.kvLoc cap.kvBlock (48 + 4 * 2 ^ cap.kvS) with
    | (0, bs, d) =>
      let v := ofLE bs
      (some (pageKey (byteField v 32 16) cap.kvS cap.kvPos (byteField v 48 (4 * 2 ^ cap.kvS))), d)
    | (_, _, d) => (none, d)
  else match d.kvKey cap with
    | (0, key, d) => (some key, d)
    | (_, _, d) => (none, d)

/-- The answer of a node that does not serve a unit: ST_RETRY_OWNER, or ST_EPOCH_MOVED with a redirect to the owner in its table (R622). -/
def Dev.refuseUnit (c : Ctx) (d : Dev) (cap : Capsule) (slot unit : Nat) (s : UnitState) : Dev :=
  if s = .none then
    let (e, n) : Nat × Nat := match d.composition? slot with
      | some k => (k.epoch, nth k.members (nth k.owners unit)) | none => (0, 0)
    let d := d.setFabric { d.fabric with epochMoved := satAdd 64 d.fabric.epochMoved 1 }
    (match cap.src with
      | .fabric h _ _ => d.afp 0x31 h.src ([h.requestId, stEpochMoved] ++ redirect e n h.dstRank)
      | .host .. => d).endPlain c cap.order stEpochMoved 0 0
  else (d.setFabric { d.fabric with retryOwner := satAdd 64 d.fabric.retryOwner 1 }).endPlain c cap.order stRetryOwner 0 0

/-- The service itself, with its record. -/
def Dev.serveKv (c : Ctx) (d : Dev) (cap : Capsule) : Dev :=
  let (st, r, d) := d.kvServe c cap
  d.endPlain c cap.order st 0 r

/-- A host's remote service request for a unit that another member owns goes to that member as a KV message (R619): its body, then the
request block and, for a KV_PUT, the page data. BLOCK and DATA name offsets in the message's data segments (R606). -/
def Dev.forwardKv (c : Ctx) (d : Dev) (cap : Capsule) (owner : Nat) : Dev :=
  let n := if cap.kvOp = 1 then 48 + 4 * 2 ^ cap.kvS else 16
  let (st, block, d) := d.bufRead cap cap.kvLoc cap.kvBlock n
  let m := match d.poolOf cap.realm cap.kvPool with
    | some k => if cap.kvOp = 1 then 2 ^ (cap.kvS - 4) * plGB (d.pool k) else 0
    | none => 0
  let (st', data, d) := if m = 0 then (stOk, [], d) else d.bufRead cap cap.kvLoc cap.kvData m
  let raw := setBits (setBits (setBits cap.raw 191 190 1) 319 256 0) 383 320 (if cap.kvOp = 1 then n else 0)
  if st != stOk then d.endPlain c cap.order st 0 0
  else if st' != stOk then d.endPlain c cap.order st' 0 0
  else (d.ask c cap 0xFFFF 0x40 owner (raw :: (block ++ data).map BitVec.toNat)).modCapsule cap.order fun k => { k with stage := .waiting }

/-- A KV_SERVICE capsule served. One of a composition is served by its key's unit (R622); a KV_PUT or KV_DROP applied during the copy of
a transfer marks its key (R620); a host's request for a unit held elsewhere goes there. Local forms work on this node's own sequences. -/
def serveKvNow (c : Ctx) (order : Nat) (d : Dev) : Dev :=
  match d.capsule? order with
  | none => d
  | some cap =>
    let host := match cap.src with | .host .. => true | .fabric .. => false
    if cap.composition = 0 || (host && cap.kvLocal) then d.serveKv c cap
    else match d.messageKey cap with
      | (none, d) => d.serveKv c cap
      | (some key, d) =>
        let slot := cap.composition - 1
        let u := d.ownUnit slot (key % 4096)
        if u.state = .owner then d.serveKv c cap
        else if u.state = .sending then
          (if cap.kvOp = 1 ∨ cap.kvOp = 4 then d.setUnit slot (key % 4096) { u with marked := key :: u.marked.filter fun k => k != key } else d).serveKv c cap
        else if host && u.state == .none then
          let owner := ((d.composition? slot).map fun k => nth k.owners (key % 4096)).getD 0xFFFF
          if nth cap.members owner = 0 then d.countLost.endPlain c order stNodeLost 0 0 else d.forwardKv c cap owner
        else d.refuseUnit c cap slot (key % 4096) u.state

/-- A KV_SERVICE capsule's own work. -/
def workKvService (c : Ctx) (d : Dev) (order : Nat) : Dev := d.orClearing order (serveKvNow c order)

/-- KV_SERVICE. -/
def doKvService (src : CapsuleSource) (raw : BitVec 512) (c : Ctx) (d : Dev) : Dev :=
  takeCapsule 0x12 (.kvService src raw) src raw.toNat c d

/-- KV_SERVICE. -/
def execKvService (src : CapsuleSource) (raw : BitVec 512) (s : State) : Out := devStep (hearing (doKvService src raw)) s

/-- The own work of a capsule by its opcode. -/
def workOf (op : Nat) : Ctx → Dev → Nat → Dev :=
  match op with
  | 0x02 => workPlanLoad
  | 0x03 => workPlanUnload
  | 0x10 => workUpdate
  | 0x11 => workVolume
  | 0x12 => workKvService
  | _ => fun _ d order => d.modCapsule order fun k => { k with stage := .waiting }

/-! ### ADMISSION (R541, R553–R558) -/

/-- The flows of queued items wait for their E (R555). -/
def Dev.awaitItems (c : Ctx) (d : Dev) (l : List QueueItem) : Dev := l.foldl (fun d i => d.awaitFlow c (classFlow i.realm i.cls)) d

/-- Is a queued item's capsule still there, and its class's flow eligible? -/
def Dev.itemReady (d : Dev) (i : QueueItem) : Bool :=
  ((d.capsule? i.capsule).any fun k => k.stage == .admission) && !d.shaped (classFlow i.realm i.cls)

/-- ADMISSION: the realm's point serves its next ready item; the capsule is admitted, or dropped where its class's cap has become 0. -/
def doAdmission (realm : Nat) (c : Ctx) (d : Dev) : Dev :=
  match tabGet realm d.traffic.admission with
  | none => d
  | some p =>
    let p := { p with items := p.items.filter fun i => (d.capsule? i.capsule).isSome }
    let d := d.awaitItems c p.items
    match p.next d.itemReady d.classWeight with
    | none => d.setTraffic { d.traffic with admission := tabSet realm p d.traffic.admission }
    | some i =>
      let d := d.setTraffic { d.traffic with admission := tabSet realm (p.serve i d.classWeight) d.traffic.admission }
      match d.capsule? i.capsule with
      | none => d
      | some cap =>
        if cap.cls ≠ 0 ∧ d.classCap realm cap.cls = 0 then d.endPlain c cap.order stPoliced 0 (emptyResult cap)
        else workOf cap.opcode c ((d.shapeAdmission c cap).awaitItems c (p.items.filter fun k => k.capsule != cap.order)) cap.order

/-- ADMISSION. -/
def execAdmission (realm : Nat) (s : State) : Out := devStep (hearing (doAdmission realm)) s

/-! ### CARILLON_SLOT (R555, R556) -/

/-- Entries of the coarse level that are due, entered again by the same rule: slot n holds instants up to n × 1.024 ms, so that it comes due 1.024 ms
before, and no entry is released late (R555, R556). -/
def Dev.coarseDue (c : Ctx) (d : Dev) : Dev :=
  let now := c.now * 10 / coarseNs
  let due := d.traffic.coarse.filter fun e => decide (e.slot ≤ now + 1)
  let d := d.setTraffic { d.traffic with coarse := d.traffic.coarse.filter fun e => decide (now + 1 < e.slot) }
  due.foldl (fun d e => d.enterFlow c e.flow e.e) d

/-- The slots in which entries leave the fine level, in the order of their slots and of their entry: 256 in each, the others in the next, ahead of its
own. `at_` is the slot being filled, with `n` entries so far. -/
def releaseSlots : Nat → Nat → List CarillonEntry → List Nat
  | _, _, [] => []
  | at_, n, e :: l =>
    let (at_, n) := if at_ < e.slot then (e.slot, 0) else if 256 ≤ n then (at_ + 1, 0) else (at_, n)
    at_ :: releaseSlots at_ (n + 1) l

/-- The fine level brought to the slot of now: at most 256 entries are released in a slot, the others are carried on, and each carry counts. -/
def Dev.fineDue (c : Ctx) (d : Dev) : Dev :=
  let now := c.now * 10 / fineNs
  let t := d.traffic
  let due := sortBy (fun (a b : CarillonEntry) => decide (a.slot < b.slot)) (t.fine.filter fun e => decide (e.slot ≤ now))
  let leaves := due.zip (releaseSlots 0 0 due)
  let carried := (leaves.filter fun p => decide (now < p.2)).map fun p => { p.1 with slot := now + 1 }
  d.setTraffic { t with
    fine := carried ++ t.fine.filter fun e => decide (now < e.slot)
    fineSlot := now
    carried := satAdd 64 t.carried (sumOf (leaves.map fun p => min p.2 (now + 1) - p.1.slot)) }

/-- CARILLON_SLOT: the levels advance to the slot of the present instant, where it is a new one. -/
def doCarillonSlot (c : Ctx) (d : Dev) : Dev :=
  if d.traffic.fineSlot < c.now * 10 / fineNs then (d.coarseDue c).fineDue c else d

/-- CARILLON_SLOT. -/
def execCarillonSlot (s : State) : Out := devStep doCarillonSlot s

/-! ### INSTANCE_START (R247–R251, R258) -/

/-- The tensors that are external, with their argument slots. -/
def externals (im : DictVal) : List Nat :=
  (List.range (imTensors im)).filter fun t => tnKind (imTensor im t) == 3 || tnKind (imTensor im t) == 4

/-- An argument binding from its 16 bytes. -/
def argOf (v : Nat) : ArgBinding := ⟨bits v 63 0, bits v 95 64, bits v 97 96⟩

/-- The raw argument bindings of a capsule: a status and one number of 16 bytes for each slot. -/
def Dev.readArgs (d : Dev) (cap : Capsule) (im : DictVal) : Nat × List Nat × Dev :=
  if imArgs im = 0 then (stOk, [], d)
  else
    let (st, bs, d) := d.bufRead cap (cap.field 193 192) (cap.field 191 128) (16 * imArgs im)
    (st, toElems 16 (imArgs im) (ofLE bs), d)

/-- The bytes that an external tensor takes under its bindings. -/
def boundBytes (im : DictVal) (args : List ArgBinding) (t : Nat) : Nat := fmtBytes (tnFmt (imTensor im t)) (Sys2Proof.Machine.volumeOf (runDims im args t))

/-- R248: the bindings themselves. An output of LOC 2 has no meaning and is refused with the reserved LOC 3 (log entry 29). -/
def bindingsValid (im : DictVal) (raw : List Nat) : Bool :=
  let args := raw.map argOf
  (raw.all fun v => bits v 127 98 == 0 && bits v 97 96 != 3) &&
  (externals im).all fun t =>
    let w := imTensor im t
    let b := args.getD (tnArg w) ⟨0, 0, 0⟩
    (if tnVar w then decide (b.varLen ≤ tnDim w (tnRank w - 1)) else b.varLen == 0) && !(tnKind w == 4 && b.loc == 2)

/-- R248: no two external outputs overlap. -/
def outputsApart (im : DictVal) (args : List ArgBinding) : Bool :=
  let outs := (externals im).filter fun t => tnKind (imTensor im t) == 4
  let at_ (t : Nat) : ArgBinding := args.getD (tnArg (imTensor im t)) ⟨0, 0, 0⟩
  outs.all fun t => outs.all fun u =>
    t == u || (at_ t).loc != (at_ u).loc || !rangesMeet (at_ t).addr (boundBytes im args t) (at_ u).addr (boundBytes im args u)

/-- R248: the bound lengths leave every descriptor shapes and scale bindings (R51–R53) that its operator accepts. A length of 0 that a shape check refuses gives ST_BAD_ARG,
though *Zero values* makes an empty tensor a no-op (DESIGN CHOICE, log entry 113). -/
def Dev.boundShapesOk (d : Dev) (im : DictVal) (realm : Nat) (args : List ArgBinding) : Bool :=
  (imWords im).all fun w =>
    let x := ShapeCtx.mk d im realm (runDims im args) w
    x.ok && x.bindingsOk

/-- R461: an external tensor of LOC 0 that a panel move reads or writes stands at a multiple of 4 KiB. -/
def panelsAligned (im : DictVal) (args : List ArgBinding) : Bool :=
  ((imWords im).filter fun w => dcOp w == 0x23 || dcOp w == 0x24).all fun w =>
    let t := imTensor im (if dcOp w = 0x23 then dcIn w 0 else dcOut w 0)
    let b := args.getD (tnArg t) ⟨0, 0, 0⟩
    (tnKind t != 3 && tnKind t != 4) || b.loc != 0 || b.addr % 4096 == 0

/-- R248: the first external range of LOC 0 outside the realm's windows: whether it is an output, with its first refused byte. -/
def Dev.argOutside (d : Dev) (im : DictVal) (realm : Nat) (args : List ArgBinding) : Option (Nat × Nat) :=
  (externals im).findSome? fun t =>
    let w := imTensor im t
    let b := args.getD (tnArg w) ⟨0, 0, 0⟩
    if b.loc = 0 && !d.inWindows realm b.addr (boundBytes im args t) then
      some (d.firstRefused realm b.addr (boundBytes im args t), if tnKind w = 4 then 1 else 0)
    else none

/-- The EMIT held for an argument slot of a capsule (R614). -/
def Dev.emitFor (c : Ctx) (d : Dev) (cap : Capsule) (slot : Nat) : Option HeldEmit :=
  d.fabric.emits.find? fun e =>
    e.composition + 1 == cap.composition && e.realm == cap.realm && e.plan == cap.plan && e.tag == cap.tag && e.slot == slot && decide (c.now ≤ e.until_)

/-- The inputs of LOC 2, as (tensor, argument slot). -/
def fabricInputs (im : DictVal) (args : List ArgBinding) : List (Nat × Nat) :=
  ((externals im).filter fun t => tnKind (imTensor im t) == 3 && (args.getD (tnArg (imTensor im t)) ⟨0, 0, 0⟩).loc == 2).map
    fun t => (t, tnArg (imTensor im t))

/-- Can a waiting capsule start now: every LOC 2 input has arrived, or a check will end it? -/
def Dev.canStart (c : Ctx) (d : Dev) (p : Plan) (cap : Capsule) : Bool :=
  match d.readArgs cap p.image with
  | (0, raw, _) => (fabricInputs p.image (raw.map argOf)).all fun f => (d.emitFor c cap f.2).isSome
  | _ => true

/-- The waiting capsules of a plan that may start: C0 before any other class (R541), else of each class the one accepted first (R251). -/
def Dev.startHeads (c : Ctx) (d : Dev) (h : Nat) (p : Plan) : List Capsule :=
  let l := d.capsules.live.filter fun k => k.opcode == 1 && k.plan == h && k.stage == .waiting && d.canStart c p k
  match l.find? fun x => x.cls == 0 with
  | some k => [k]
  | none => (List.range 8).filterMap fun k => l.find? fun x => x.cls == k

/-- The inputs of LOC 1 read from the submitter (R249): the status of the reads (R581), and (tensor, value). -/
def Dev.copyInputs (d : Dev) (cap : Capsule) (im : DictVal) (args : List ArgBinding) : Nat × Tab Tensor × Dev :=
  (externals im).foldl (fun r t =>
    let w := imTensor im t
    let b := args.getD (tnArg w) ⟨0, 0, 0⟩
    if tnKind w = 3 && b.loc == 1 then
      let dims := runDims im args t
      let n := Sys2Proof.Machine.volumeOf dims
      let (st, bs, d) := r.2.2.bufRead cap 1 b.addr (fmtBytes (tnFmt w) n)
      (if r.1 != stOk then r.1 else st, tabSet t ⟨dims, unpack (tnFmt w) n (ofLE bs)⟩ r.2.1, d)
    else r) (stOk, [], d)

/-- The EMITs of a capsule's LOC 2 inputs taken, as (tensor, value), and the earliest deadline that they carry (R258). -/
def Dev.takeEmits (c : Ctx) (d : Dev) (cap : Capsule) (im : DictVal) (args : List ArgBinding) : Tab Tensor × Nat × Dev :=
  (fabricInputs im args).foldl (fun r f =>
    match r.2.2.emitFor c cap f.2 with
    | some e => (tabSet f.1 ⟨dims4 e.dims, e.elements⟩ r.1, min r.2.1 e.until_,
        r.2.2.setFabric { r.2.2.fabric with emits := r.2.2.fabric.emits.filter fun x => x != e })
    | none => r) ([], c.now + 2 ^ 40, d)

/-- The instance itself: its run begins, its windowed layers load, what is ready is placed. -/
def Dev.beginRun (c : Ctx) (d : Dev) (cap : Capsule) (p : Plan) (args : List ArgBinding) : Dev :=
  let (st, vs, d) := d.copyInputs cap p.image args
  if st != stOk then d.endPlain c cap.order st 0 0
  else
  let (es, due, d) := d.takeEmits c cap p.image args
  let bad := es.any fun e => Sys2Proof.Machine.volumeOf (runDims p.image args e.1) != e.2.elems.length
  if bad then d.endPlain c cap.order stBadArg 0 0
  else
    let values := es.foldl (fun t e => tabSet e.1 e.2 t) vs
    let us := min cap.deadlineUs ((due - cap.acceptedAt) / usTicks)
    let d := d.modCapsule cap.order fun k => { k with stage := .running, deadlineUs := us }
    let r : PlanRun := {
      capsule := cap.order, plan := cap.plan, realm := cap.realm, args := args, descs := [], values := values, zeroMaps := [],
      spend := [0, 0, 0, 0], status := stOk, statusDesc := 0x10000, layer := [], short := false, ties := false, flashPerLun := [],
      counts := [], cleared := [], cuts := [], views := [],
      firedOn := [] }
    (d.setPlans { d.plans with runs := d.plans.runs ++ [r] }).proceed c cap.order

/-- The checks at instantiation, and the instance. -/
def Dev.startInstance (c : Ctx) (d : Dev) (cap : Capsule) (p : Plan) : Dev :=
  let stop (d : Dev) (st : Nat) : Dev := d.endPlain c cap.order st 0 0
  if p.damaged then stop d stFault
  else if (List.range (imGroups p.image)).any fun g => (d.groupTiles p g).isEmpty then stop d stFault
  else match d.readArgs cap p.image with
    | (0, raw, d) =>
      let args := raw.map argOf
      if !bindingsValid p.image raw || !outputsApart p.image args || !d.boundShapesOk p.image cap.realm args || !panelsAligned p.image args then stop d stBadArg
      else match d.argOutside p.image cap.realm args with
        | some (a, kind) => stop (d.setRefused (a, kind)) stViolation
        | none => d.beginRun c cap p args
    | (st, _, d) => stop d st

/-- INSTANCE_START: while fewer than MAX_INFLIGHT instances run, a waiting capsule of the plan starts; which class's of C1–C7 is unspecified. -/
def doInstanceStart (plan : Nat) (c : Ctx) (d : Dev) : Dev :=
  match d.plan? plan with
  | none => d
  | some p =>
    let heads := d.startHeads c plan p
    if heads.isEmpty || decide (imInflight p.image ≤ (d.plans.runs.filter fun r => r.plan == plan).length) then d
    else
      let (i, d) := d.choose heads.length
      match heads[i]? with
      | some cap => d.unlessFilling (fun d => d.startInstance c cap p) fun d => d
      | none => d

/-- INSTANCE_START. -/
def execInstanceStart (plan : Nat) (s : State) : Out := devStep (hearing (doInstanceStart plan)) s

/-! ### DEADLINE_EXPIRY (R352, R580) -/

/-- A capsule's deadline has passed: ST_DEADLINE, and nothing partial (R255, R580). One whose instance has a status already only drains. -/
def Dev.expireCapsule (c : Ctx) (d : Dev) (cap : Capsule) : Dev :=
  match d.run? cap.order with
  | some r =>
    let d : Dev := match (if r.status = stOk then d.plan? r.plan else none) with
      | some p => d.missCollectives cap (some r) p.image
      | none => d
    d.endRun c cap.order stDeadline 0x10000
  | none =>
    if cap.opcode = 0x10 then d.expireJob c cap.order
    else
(d.missAt cap).endCapsule c cap.order stDeadline

/-- DEADLINE_EXPIRY: a capsule still here expires, and a mirrored request whose SHADOW_RESULT has not come disagrees (R626). -/
def doDeadlineExpiry (capsule : Nat) (c : Ctx) (d : Dev) : Dev :=
  let d : Dev := match d.capsule? capsule with
    | none => d
    | some cap => if c.now < cap.deadlineAt then d else d.expireCapsule c cap
  d.expireMirror c capsule

/-- DEADLINE_EXPIRY. -/
def execDeadlineExpiry (capsule : Nat) (s : State) : Out := devStep (hearing (doDeadlineExpiry capsule)) s

/-! ### COALESCING_TIMER (R587) -/

/-- COALESCING_TIMER: COAL_TIME µs after the first unsignalled record, the ring sends its message. -/
def doCoalescingTimer (port function ring : Nat) (c : Ctx) (d : Dev) : Dev :=
  let r := (d.fn port function).ring ring
  if !r.enable || r.unsignalled = 0 || decide (c.now < r.firstAt + r.coalTime * usTicks) then d
  else (d.modFn port function fun f => { f with rings := tabSet ring { r with unsignalled := 0 } f.rings }).interrupt port function r.vector

/-- COALESCING_TIMER. -/
def execCoalescingTimer (port function ring : Nat) (s : State) : Out := devStep (doCoalescingTimer port function ring) s

/-! ### PORT_EGRESS (R552–R554, R557) -/

/-- R_port in bytes per nanosecond: 64 at a host port or hub link, 200, 100 or 50 at a fabric link of eight, four or two lanes. -/
def Dev.portRate (d : Dev) (point : Nat) : Nat :=
  if point < 6 then 64 else
    let n := (d.link (point - 6)).lanes
    if 5 ≤ n then 200 else if 3 ≤ n then 100 else 50

/-- After C0 bytes of a realm have left, its flow's E moves on. -/
def Dev.shapeEgress (c : Ctx) (d : Dev) (point : Nat) (i : QueueItem) : Dev :=
  let share := d.cfg (0x2C00 + i.realm) 1
  if i.cls ≠ 0 ∨ i.realm = 0 ∨ share = 0 ∨ (2 ≤ point ∧ point < 6) then d
  else d.shapeFlow c (egressFlow i.realm point) (((i.size * 1000 : Nat) : Rat) / ((share * d.portRate point : Nat) : Rat))

/-- PORT_EGRESS: the point's next ready item leaves; at a fabric link, only while the link carries. -/
def doPortEgress (point : Nat) (c : Ctx) (d : Dev) : Dev :=
  let p := d.egressPoint point
  let open_ := if point < 2 then d.portUp point else point < 6 || (d.link (point - 6)).carries
  if !open_ then d
  else
    let w := d.egressWeight point
    let d := (p.items.filter fun i => i.cls == 0).foldl (fun d i => d.awaitFlow c (egressFlow i.realm point)) d
    match p.next (fun i => i.cls != 0 || !d.shaped (egressFlow i.realm point)) w with
    | none => d
    | some i =>
      let d := d.setTraffic { d.traffic with egress := tabSet point (p.serve i w) d.traffic.egress }
      (d.shapeEgress c point i).send (.egress point i.realm i.cls i.size)

/-- PORT_EGRESS. -/
def execPortEgress (point : Nat) (s : State) : Out := devStep (doPortEgress point) s

end Sys2Proof.Machine
end

