-- ==== Sys2Proof/Machine/Sched.lean ====
section
/-! DEFINITION. The tile scheduler: dispatch, completion of operations and panel moves, errors and fencing, mesh links (R128–R160). -/

namespace Sys2Proof.Machine

/-! ### Errors and fencing (R129, R130, R158–R160) -/

/-- Ticks in 24 h. -/
def dayTicks : Nat := 24 * 3600 * 1000 * msTicks

/-- The instants of the last 24 h. -/
def lastDay (now : Nat) (l : List Nat) : List Nat := l.filter fun t => decide (now < t + dayTicks)

/-- The plans with pinned data in a tile's scratchpad are damaged, those that are being unloaded too: capsules accepted before the unload
may still instantiate them (R159, R236). -/
def Dev.damagePlans (d : Dev) (tile : Nat) : Dev :=
  d.setPlans { d.plans with plans := d.plans.plans.map fun (e : Nat × Plan) =>
    (e.1, if e.2.pinned.any fun x => x.2.any fun b => b.1 == tile then { e.2 with damaged := true } else e.2) }

/-- A tile is fenced (R158): its plans with pinned data are damaged, and the capsules with operations on it end with ST_FAULT (log
entry 18). -/
def Dev.fenceTile (c : Ctx) (d : Dev) (tile : Nat) : Dev :=
  let d := ((d.modTile tile fun t => { t with fenced := true }).damagePlans tile).event c 0x0201 2 0 tile 0 0
  let caps := distinct ((d.slotsOf tile).map (fun e => e.2.capsule) ++ (d.tiles.held.filter fun h => h.2.2 == tile).map (·.1))
  caps.foldl (fun d k => d.endCapsule c k stFault) d

/-- Has a tile reached an error limit (R158)? -/
def Dev.tileAtLimit (c : Ctx) (d : Dev) (tile : Nat) : Bool :=
  let t := d.tile tile
  decide (d.cfg 0x2003 1 ≤ (lastDay c.now t.uncorrected24).length) ||
    (d.cfg 0x2003 2 != 0 && decide (d.cfg 0x2003 2 ≤ (lastDay c.now t.corrected24).length))

/-- What the tile's codes found, counted (R129, R130): 1 a corrected error, 2 a double-bit error, 3 a parity error of a scoreboard entry or
slot (*Tile error handling*); with the fence where a limit is reached, which is looked at with each error (DESIGN CHOICE, log entry 125). -/
def Dev.tileError (c : Ctx) (d : Dev) (tile ecc : Nat) : Dev :=
  let d := d.modTile tile fun t =>
    if ecc = 1 then { t with corrected := satAdd 32 t.corrected 1, corrected24 := c.now :: lastDay c.now t.corrected24 }
    else if ecc = 2 ∨ ecc = 3 then { t with uncorrectable := satAdd 32 t.uncorrectable 1, uncorrected24 := c.now :: lastDay c.now t.uncorrected24 }
    else t
  if ecc != 0 && !(d.tile tile).fenced && d.tileAtLimit c tile then d.fenceTile c tile else d

/-! ### Dispatch (R112, R128, R146) -/

/-- A unit by its number in TILE_DISPATCH. -/
def unitOf (n : Nat) : TileUnit :=
  match n with
  | 0 => .matrix
  | 1 => .vector
  | 2 => .select
  | 3 => .mover
  | _ => .scheduler

/-- Is a unit of a tile free (R112, R132)? -/
def Dev.unitFree (d : Dev) (tile : Nat) (u : TileUnit) : Bool :=
  match u with
  | .mover => decide (d.movesOn tile < 16)
  | .scheduler => true
  | u => !(d.slotsOf tile).any fun e => e.2.unit == u && e.2.state == .running

/-- Does slot a go before slot b (R146)? -/
def slotFirst (a b : Slot) : Bool :=
  if (a.cls == 0) != (b.cls == 0) then a.cls == 0
  else if a.capsule != b.capsule then decide (a.capsule < b.capsule) else decide (a.desc < b.desc)

/-- The READY slot that a free unit fires. -/
def Dev.nextReady (d : Dev) (tile : Nat) (u : TileUnit) : Option (Nat × Slot) :=
  (sortBy (fun (a b : Nat × Slot) => slotFirst a.2 b.2) ((d.slotsOf tile).filter fun e => e.2.unit == u && e.2.state == .ready)).head?

/-- TILE_DISPATCH: the slot fires; a double-bit error or a parity error of the slot ends it with ST_FAULT, another realm's scratchpad with
ST_VIOLATION. A GATHER that fires takes the epoch of its table (R406), an
ATTEND the N and PAGES of its sequences (R431). A scratchpad that is being cleared waits (R637). -/
def doTileDispatch (tile unit ecc : Nat) (c : Ctx) (d : Dev) : Dev :=
  let u := unitOf unit
  let d := d.resumeCutting c
  if (d.tile tile).fenced || !d.unitFree tile u || d.scrubs.contains (2, tileGroup tile) then d
  else match d.nextReady tile u with
    | none => d
    | some (n, s) =>
      let d := d.setTiles { d.tiles with slots := tabSet (64 * tile + n) { s with state := .running } d.tiles.slots }
      if d.groupOwner (tileGroup tile) != s.realm then (d.setRefused (t0Base + tile * 0x200000, 0)).endRun c s.capsule stViolation s.desc
      else
        let d : Dev := if 2 ≤ ecc then d.endRun c s.capsule stFault s.desc else d
        let d := d.tileError c tile ecc
        match d.opCtx s.capsule s.desc with
        | some o =>
          if dcOp o.word = 0x20 then
            let t := dcP o.word 15 0 % 0x1000
            d.setUpdates { d.updates with
              gathers := ⟨s.capsule, s.desc, t, (tabGetD t .fresh d.updates.tables).epoch⟩ :: d.updates.gathers }
          else if dcOp o.word = 0x18 && (tabGet o.desc o.run.views).isNone then
            d.modRun s.capsule fun r => { r with views := tabSet o.desc (d.takeViews o.poolSlot (columnsOf (d.inputD o 1).1)) r.views }
          else d
        | none => d

/-- TILE_DISPATCH. -/
def execTileDispatch (tile unit ecc : Nat) (s : State) : Out := devStep (doTileDispatch tile unit ecc) s

/-! ### Completion of an operation (R143, R154, R224–R226, R249, R253) -/

/-- External outputs of LOC 1 written to the submitter: to its function's memory, or into the message that returns (R249, R606). -/
def Dev.exportOutput (d : Dev) (o : OpCtx) (t : Nat) : Dev :=
  let w := o.record t
  let b := o.run.args.getD (tnArg w) ⟨0, 0, 0⟩
  if tnKind w = 4 ∧ b.loc = 1 then
    match tabGet t o.run.values with
    | none => d
    | some v =>
      let bs := leBytes (fmtBytes (tnFmt w) v.elems.length) (packElems (tnFmt w) v.elems)
      match o.cap.src with
      | .host p n _ _ _ => d.postHost p n o.cap.realm o.cap.cls b.addr bs
      | .fabric .. => d.modCapsule o.cap.order fun k => { k with outData := memPutBytes k.outData b.addr bs }
  else d

/-- The counters of R357 that a SELECT or MERGE raises as it completes, with the DISPLACED of its list. -/
def Dev.countSelection (d : Dev) (o : OpCtx) : Dev :=
  if dcOp o.word = 0x35 ∨ dcOp o.word = 0x36 then
    let displaced := ((tabGet (dcOut o.word 0) o.run.values).map fun v => nth v.elems 3).getD 0
    d.countSelect o.cap.realm fun k =>
      { k with displacements := satAdd 64 k.displacements displaced, selections := satAdd 64 k.selections 1 }
  else d

/-- A descriptor whose tile operations have all completed fires: its outputs go to the submitter, and its token opens others. -/
def Dev.fireDesc (c : Ctx) (d : Dev) (o : OpCtx) (tile : Nat) : Dev :=
  let k := o.cap.order
  let d := d.setUpdates { d.updates with gathers := d.updates.gathers.filter fun g => !(g.capsule == k && g.desc == o.desc) }
  let d := (dcOuts o.word).foldl (fun d p => d.exportOutput o p.2) (d.countSelection o)
  (d.modRun k fun r => { r with descs := tabSet o.desc .fired r.descs, firedOn := tabSet o.desc tile r.firedOn }).proceed c k

/-- TILE_OPERATION_COMPLETE: the slot of an operation whose results are acknowledged is freed (R143, R155). With the last operation of its descriptor
the descriptor fires, and the instance may complete (R143, R154); cutting goes on where a slot is free now. The slot of a cancelled capsule
is freed, and the last one lets the record go (R148, R149). -/
def doTileOperationComplete (tile slot : Nat) (c : Ctx) (d : Dev) : Dev :=
  match tabGet (64 * tile + slot) d.tiles.slots with
  | none => d
  | some s =>
    if s.state != .draining || d.unacknowledged s.capsule s.desc then d
    else
      let d := d.freeTheSlot tile slot
      match d.opCtx s.capsule s.desc with
      | none => (d.tryFinish c s.capsule).resumeCutting c
      | some o =>
        let d := d.modTile tile fun t => { t with completed := satAdd 64 t.completed 1 }
        let last := tabGet s.desc o.run.descs == some .operated && (d.slotsFor s.capsule s.desc).isEmpty
        (if last then d.fireDesc c o tile else d).resumeCutting c

/-- TILE_OPERATION_COMPLETE. -/
def execTileOperationComplete (tile slot : Nat) (s : State) : Out := devStep (doTileOperationComplete tile slot) s

/-! ### Panel moves (R130, R133, R244, R245) -/

/-- Is a move of a capsule's layer load or descriptor still to come? -/
def Dev.moveLeft (d : Dev) (order desc : Nat) : Bool :=
  (d.tiles.moves.map fun e => e.2).flatten.any (fun m => m.capsule == order && m.desc == desc) ||
    d.tiles.queued.any fun e => e.2.capsule == order && e.2.desc == desc

/-- A panel of layer l of group g has arrived at a tile: the layer is in place with the last of them (R244, R245). -/
def Dev.layerArrives (c : Ctx) (d : Dev) (r : PlanRun) (p : Plan) (tile desc : Nat) : Dev :=
  let g := (desc - 0x10000) / 256
  let l := desc % 256
  match d.loadBlocked p g l tile with
  | some e => (d.logUnroutable c r.realm e).endRun c r.capsule stFault desc
  | none =>
    if d.moveLeft r.capsule desc then d
    else
      let key := r.plan * 4096 + g * 16 + l % max (pgWindow (imGroup p.image g)) 1
      (d.setPlans { d.plans with layers := tabSet key l d.plans.layers }).wakeSlots r.plan

/-- PANEL_MOVE_COMPLETE: a layer's panel or a descriptor's panel has arrived, and a waiting move may start; a double-bit error ends the
capsule, and the move's destination holds none of its data (R130, R149). -/
def doPanelMoveComplete (tile move ecc : Nat) (c : Ctx) (d : Dev) : Dev :=
  match (tabGetD tile [] d.tiles.moves).find? fun m => m.number == move with
  | none => d
  | some m =>
    let d : Dev := if ecc = 2 then d.endRun c m.capsule stFault m.desc else d
    let d := (d.endMoves fun n x => n == tile && x.number == move).pullMoves
    let d := d.tileError c tile ecc
    match d.run? m.capsule with
    | none => d
    | some r =>
      match d.plan? r.plan with
      | none => d
      | some p =>
        if r.status != stOk then d
        else if 0x10000 ≤ m.desc then d.layerArrives c r p tile m.desc
        else d.slotState m.capsule m.desc .draining

/-! ### Mesh links (R139–R141) -/

/-- The two routers of a link element, as tile numbers. -/
def linkEnds (l : Nat) : Nat × Nat :=
  if l < 552 then (24 * (l / 23) + l % 23, 24 * (l / 23) + l % 23 + 1)
  else (l - 552, l - 552 + 24)

/-- The failed links that keep an outstanding or waiting panel move from its tile. -/
def Dev.moveUnroutable (d : Dev) (tile : Nat) (m : PanelMove) : Option (Nat × Nat) :=
  match d.run? m.capsule with
  | none => none
  | some r =>
    if 0x10000 ≤ m.desc then (d.plan? r.plan).bind fun p => d.loadBlocked p ((m.desc - 0x10000) / 256) (m.desc % 256) tile
    else (d.opCtx m.capsule m.desc).bind fun o => d.transferBlocked o tile

/-- The panel moves that no route serves any more end their capsules with ST_FAULT (R141). -/
def Dev.endUnroutable (c : Ctx) (d : Dev) : Dev :=
  ((d.tiles.moves.map fun e => e.2.map fun m => (e.1, m)).flatten ++ d.tiles.queued).foldl (fun d e =>
    match d.moveUnroutable e.1 e.2 with
    | some l =>
      let realm := ((d.run? e.2.capsule).map fun r => r.realm).getD 0
      (d.logUnroutable c realm l).endRun c e.2.capsule stFault e.2.desc
    | none => d) d

/-- FLIT_CRC_ERROR: the flit is resent; `again` where it is the flit that the link resent last. The eighth time in succession the link has
failed (R139). -/
def doFlitCrcError (link : Nat) (again : Bool) (c : Ctx) (d : Dev) : Dev :=
  let m := tabGetD link ⟨0, 0⟩ d.tiles.links
  if m.state = 2 ∨ 1104 ≤ link then d
  else
    let (a, b) := linkEnds link
    let count (d : Dev) (n : Nat) : Dev := d.modTile n fun t => { t with retries := satAdd 32 t.retries 1 }
    let d := count (count d a) b
    let inRow := if again then m.inRow + 1 else 1
    let failed := decide (8 ≤ inRow)
    let d := d.setTiles { d.tiles with links := tabSet link ⟨if failed then 2 else 1, inRow⟩ d.tiles.links }
    if failed then (d.event c 0x0202 1 0 link 0 0).endUnroutable c else d

/-- FLIT_CRC_ERROR. -/
def execFlitCrcError (flit : BadFlit) (s : State) : Out := devStep (doFlitCrcError flit.link flit.again) s

end Sys2Proof.Machine
end

