-- ==== Sys2Proof/Machine/Clearing.lean ====
section
/-! DEFINITION. The end of clearing and of formatting, of a pin and of a switch: what waited goes on (R269, R460, R472, R479, R637). -/

namespace Sys2Proof.Machine

/-! ### FORMATTING_COMPLETE (R269) -/

/-- Does an object wait for the clearing of its banks or of memory that holds its areas (R637)? -/
def Dev.objectCleared (d : Dev) (idx : Nat) : Bool :=
  !(inRange 0x3020 0x305F idx && d.scrubs.any fun s => s.1 == 0 && ixHasBank (d.index (idx - 0x3020)) s.2) &&
  !(d.objectAreas.any fun o => o.1 == entryKey idx 1 && o.2.2.any fun a => d.beingCleared a.1 a.2)

/-- FORMATTING_COMPLETE: of an object that is formatting and whose banks and memory are cleared (R637). -/
def doFormattingComplete (handle : Nat) (c : Ctx) (d : Dev) : Dev :=
  if 0x3000 ≤ handle ∧ handle < 0x3010 then
    if (d.poolState (handle - 0x3000)).state = 1 && d.objectCleared (0x3200 + (handle - 0x3000)) then d.formatPool (handle - 0x3000) else d
  else if 0x2000 ≤ handle ∧ handle < 0x2040 then
    if (d.tableState (handle - 0x2000)).state = 1 && d.objectCleared (0x3120 + (handle - 0x2000)) then d.formatTable c (handle - 0x2000) else d
  else if 0x1000 ≤ handle ∧ handle < 0x1040 then
    if (d.indexState (handle - 0x1000)).state = 1 && d.objectCleared (0x3020 + (handle - 0x1000)) then d.formatIndex (handle - 0x1000) else d
  else d

/-- FORMATTING_COMPLETE. -/
def execFormattingComplete (handle : Nat) (s : State) : Out := devStep (doFormattingComplete handle) s

/-! ### ZERO_FILL_COMPLETE (R460, R637) -/

/-- The capsules that waited for a resource to be cleared try again, in the order of their acceptance; so do the records of updates. -/
def Dev.resumeCleared (c : Ctx) (d : Dev) : Dev :=
  ((d.capsules.live.filter fun k => k.stage == .clearing).foldl (fun d k => workOf k.opcode c d k.order) d).runJobs c

/-- Everything that waited for memory looked at again: ordinary accesses in order, capsules, updates. -/
def Dev.resumeWaiting (c : Ctx) (d : Dev) : Dev :=
  let l := d.tiers.waitingAccesses
  (l.foldl (fun d a => doOrdinaryAccess a.1 a.2 c d) (d.setTiers { d.tiers with waitingAccesses := [] })).resumeCleared c

/-- ZERO_FILL_COMPLETE: what waited for the resource goes on. -/
def doZeroFillComplete (kind number : Nat) (c : Ctx) (d : Dev) : Dev :=
  if !d.scrubs.contains (kind, number) then d
  else (d.setScrubs (d.scrubs.filter fun s => s != (kind, number))).resumeWaiting c

/-- ZERO_FILL_COMPLETE. -/
def execZeroFillComplete (kind number : Nat) (s : State) : Out := devStep (hearing (doZeroFillComplete kind number)) s

/-! ### The end of a panel move (R130, R133, R472) -/

/-- PANEL_MOVE_COMPLETE: what waited for an entry of the T2 cache that the move kept pinned goes on. -/
def doMoveEnd (tile move ecc : Nat) (c : Ctx) (d : Dev) : Dev :=
  let pinned := (tabGetD tile [] d.tiles.moves).any fun m => m.number == move && !m.pins.isEmpty
  let d := doPanelMoveComplete tile move ecc c d
  if pinned then d.resumeWaiting c else d

/-- PANEL_MOVE_COMPLETE. -/
def execPanelMoveComplete (tile move ecc : Nat) (s : State) : Out := devStep (hearing (doMoveEnd tile move ecc)) s

/-! ### The switch of a segment, and its end (R478–R482) -/

/-- A pool message's effect, and then what waited for the segment. -/
def thenResume (f : Ctx → Dev → Dev) (c : Ctx) (d : Dev) : Dev := (f c d).resumeWaiting c

/-- SWITCH. -/
def execSwitch (h : Afp) (segment grantGen node gib : Nat) (s : State) : Out :=
  devStep (hearing (thenResume (doSwitch h segment grantGen node gib))) s

/-- UNMAP. -/
def execUnmap (h : Afp) (segment grantGen : Nat) (s : State) : Out := devStep (hearing (thenResume (doUnmap h segment grantGen))) s

/-- GRACE_TIME_EXPIRY. -/
def execGraceTimeExpiry (segment : Nat) (s : State) : Out := devStep (hearing (thenResume (doGraceTimeExpiry segment))) s

end Sys2Proof.Machine
end

