-- ==== Sys2Proof/Machine/Collectives.lean ====
section
/-! DEFINITION. Messages between the instances of a composition: EMIT, COLLECT and their answers (R258–R262, R349–R354, R606, R607, R613–R615). -/

namespace Sys2Proof.Machine

/-! ### EMIT (R258, R259, R614) -/

/-- Does a plan of a realm have an external input bound by an argument slot? -/
def Dev.emitPlace (d : Dev) (realm plan slot : Nat) : Bool :=
  match d.plan? plan with
  | none => false
  | some p => p.realm == realm && decide (slot < imArgs p.image) &&
      (externals p.image).any fun t => tnKind (imTensor p.image t) == 3 && tnArg (imTensor p.image t) == slot

/-- An EMIT held for its instance until its remaining deadline expires (R614). -/
def Dev.holdEmit (c : Ctx) (d : Dev) (composition realm plan tag slot us : Nat) (dims elements : List Nat) : Dev :=
  d.setFabric { d.fabric with emits := d.fabric.emits ++ [⟨composition, realm, plan, tag, slot, c.now + us * usTicks, dims, elements⟩] }

/-- EMIT: the tensor goes to the node of the rank, through a fabric port (R16, R138, R141), and the descriptor waits for its acknowledgement. A mirrored capsule sends nothing (R625). -/
def opEmit (c : Ctx) (d : Dev) (o : OpCtx) : OpResult × Dev :=
  let cap := o.cap
  let rank := dcP o.word 15 0
  let plan := dcP o.word 31 16
  let slot := dcP o.word 37 32
  let us := (cap.deadlineAt - c.now) / usTicks
  if cap.mirrored then (.done [] .none, d)
  else if cap.composition = 0 ∨ cap.members.length ≤ rank then (.stops stBadArg, d)
  else if nth cap.members rank = 0 then (.stops stNodeLost, d.countLost)
  else
    let (t, d) := d.inputD o 0
    if nth cap.members rank = d.fabric.node then
      if d.emitPlace cap.realm plan slot then (.done [] .none, d.holdEmit c (cap.composition - 1) cap.realm plan cap.tag slot us t.dims t.elems)
      else (.stops stBadArg, d)
    else match d.portBlocked cap.order o.desc with
      | (some l, d) => (.stops stFault, d.logUnroutable c cap.realm l)
      | (none, d) => (.waits, d.ask c cap o.desc 0x32 rank ([plan, cap.tag, slot, us] ++ t.dims ++ t.elems))

/-- EMIT. -/
def execEmit (capsule desc : Nat) (s : State) : Out := devStep (runOpCode 0x43 opEmit capsule desc) s

/-- An ACK of a request, kept for its duplicates. -/
def Dev.ackRequest (d : Dev) (h : Afp) (status : Nat) (more : List Nat) : Dev := d.reply h.src h.requestId 0x15 (status :: more)

/-- An EMIT served under an epoch: held, or refused where its sender is no member, or its plan or slot does not exist (R259). -/
def Dev.serveEmit (c : Ctx) (d : Dev) (h : Afp) (plan tag slot us : Nat) (dims elements : List Nat) (composition : Nat) (members : List Nat) : Dev :=
  let realm := ((d.composition? composition).map fun k => k.realm).getD 0
  if !members.contains h.src || h.src == 0 then d.ackRequest h stViolation []
  else if !d.emitPlace realm plan slot then d.ackRequest h stBadArg []
  else (d.holdEmit c composition realm plan tag slot us dims elements).ackRequest h stOk []

/-- The epoch check of an EMIT. -/
def Dev.epochEmit (c : Ctx) (d : Dev) (h : Afp) (plan tag slot us : Nat) (dims elements : List Nat) : Dev :=
  d.byEpoch c h (.afpEmit h plan tag slot us dims elements) (fun d st more => d.ackRequest h st more)
    fun d s _ _ m => d.serveEmit c h plan tag slot us dims elements s m

/-- AFP_EMIT. -/
def doAfpEmit (h : Afp) (plan tag slot us : Nat) (dims elements : List Nat) (c : Ctx) (d : Dev) : Dev :=
  d.receive c h false fun d => d.once c h fun d =>
    if h.colour = 3 then d.ackRequest h stBadArg [] else d.epochEmit c h plan tag slot us dims elements

/-- AFP_EMIT. -/
def execAfpEmit (h : Afp) (plan tag slot us : Nat) (dims elements : List Nat) (s : State) : Out :=
  devStep (doAfpEmit h plan tag slot us dims elements) s

/-! ### Combining contributions (R349, R351) -/

/-- A contribution: the ranks it covers, the code of its format with its dimensions, its elements. -/
abbrev Part := Nat × List Nat × List Nat

/-- The ranks that parts cover. -/
def coveredBy (parts : List Part) : Nat := parts.foldl (fun b p => b ||| p.1) 0

/-- A CONCAT part cut into the inputs of its members, in rank order. -/
def rankSlices (p : Part) : List (Nat × List Nat) :=
  let rs := bitsSet 512 p.1
  let n := p.2.2.length / max rs.length 1
  rs.mapIdx fun i r => (r, (p.2.2.drop (i * n)).take n)

/-- A CONCAT of parts: the members' inputs in rank order along the outermost dimension. -/
def concatParts (parts : List Part) : List Nat :=
  ((sortBy (fun (a b : Nat × List Nat) => decide (a.1 < b.1)) (parts.map rankSlices).flatten).map (·.2)).flatten

/-- One element of a SUM in an order that `pick` chooses: FP32, or INT32 with saturation at each addition, and how many saturated (R36). -/
def sumElement (f : Fmt) (pick : Nat → Nat) (xs : List Nat) : Nat × Nat :=
  if f = .fp32 then (f32SumBy pick xs, 0)
  else match orderedBy pick xs.length xs with
    | [] => (0, 0)
    | x :: l =>
      let (y, n) := l.foldl (fun (a : Int × Nat) z => let (y, sat) := sat32 (a.1 + signed 32 z); (y, a.2 + b2n sat)) (signed 32 x, 0)
      (unsigned 32 y, n)

/-- One element of a MAX (R56, R59, R60). -/
def maxElement (f : Fmt) (coin : Bool) (xs : List Nat) : Nat :=
  match xs with
  | [] => 0
  | x :: l =>
    if f = .fp32 then l.foldl (fun a b => toF32 (numMinMax true coin (ofF32 a) (ofF32 b))) x
    else unsigned 32 (l.foldl (fun a b => max a (signed 32 b)) (signed 32 x))

/-- The list that a MERGE part holds. -/
def partList (p : Part) : Header × List Cand := let t : Tensor := ⟨p.2.1.tail, p.2.2⟩; (listHead t, listEntries t)

/-- Free values for one combination. -/
def pickSpan (op : Nat) (parts : List Part) : Nat :=
  if op = 0 then selectSpan (parts.map partList) else (4 * parts.length + 8) * (1 + sumOf (parts.map fun p => p.2.2.length))

/-- How many entries a member on the way keeps of its lists: all that their capacity holds while none has left a candidate out, else the least K of
those that have. The root's K is no larger then (R340), so that no entry is lost that the root keeps, and the root's ties are those of combining everything
there (R339, R351). -/
def interiorK (cap : Nat) (heads : List Header) : Nat :=
  (heads.filter fun h => h.left != 0).foldl (fun k h => min k h.k) cap

/-- Parts combined under the operation: elements, and saturations. A MERGE has ORDER and EXP of this node's own list, and at the root its K. -/
def combineParts (op : Nat) (f : Fmt) (atRoot : Bool) (own : Part) (pick : Nat → Nat) (parts : List Part) : List Nat × Nat :=
  let column (i : Nat) : List Nat := parts.map fun p => nth p.2.2 i
  let stride := 4 * parts.length + 8
  match op with
  | 0 =>
    let h := (partList own).1
    let cap := nth own.2.1 2 - 4
    let (g, es) := selectLists ⟨if atRoot then h.k else interiorK cap (parts.map fun p => (partList p).1), h.order, h.exp, false⟩ pick (parts.map partList)
    ((listTensor g es cap).elems, 0)
  | 1 =>
    let l := (List.range own.2.2.length).map fun i => sumElement f (fun j => pick (stride * i + j)) (column i)
    (l.map (·.1), sumOf (l.map (·.2)))
  | 2 => (concatParts parts, 0)
  | _ => ((List.range own.2.2.length).map fun i => maxElement f (pick i % 2 == 1) (column i), 0)

/-- May a contribution be combined with a node's own input (R349)? -/
def partFits (op : Nat) (own p : Part) : Bool :=
  own.2.1 == p.2.1 &&
    (op != 0 || ((partList own).1.order == (partList p).1.order && (partList own).1.exp == (partList p).1.exp && !(partList p).1.fused))

/-! ### The tree of one collective (R615) -/

/-- A COLLECT descriptor's number, member count, root and operation. -/
structure Gathering where
  number : Nat
  m : Nat
  root : Nat
  op : Nat
deriving DecidableEq, Repr

/-- The gathering of a COLLECT's word. -/
def gatheringOf (w : Nat) : Gathering := ⟨dcP w 15 0, dcP w 25 16, dcP w 35 26, dcP w 37 36⟩

/-- A realm's gathering of a number: every plan with it names the same member count, root and operation (R260). -/
def Dev.gathering (d : Dev) (realm number : Nat) : Option Gathering :=
  (d.plans.plans.filter fun e => e.2.realm == realm).findSome? fun e =>
    ((imCollects e.2.image).find? fun w => dcP w 15 0 == number).map gatheringOf

/-- The ranks above a member, up to the root. -/
def ranksAbove (root m : Nat) : Nat → Nat → List Nat
  | 0, _ => []
  | fuel + 1, r => if r = root then [] else let p := parentRank root m r; p :: ranksAbove root m fuel p

/-- Does a member's part of a gathering need a member that is lost: one above it, or one below it whose contribution has not come (R617)? -/
def needsLost (g : Gathering) (members : List Nat) (own covered : Nat) : Bool :=
  (ranksAbove g.root g.m 4 own).any (fun r => nth members r == 0) ||
    (bitsSet 512 (subtreeOf g.root g.m own)).any fun r => r != own && nth members r == 0 && !bit covered r

/-- An acknowledgement or a status sent down the tree to the children that lead to some ranks (R615). -/
def Dev.tellDown (d : Dev) (who : Member) (tag : Nat) (g : Gathering) (ranks status : Nat) : Dev :=
  (childRanks g.root g.m who.ownRank).foldl (fun d r =>
    let x := ranks &&& subtreeOf g.root g.m r
    if x = 0 then d else d.toRank who 0x34 r [g.number, tag, x, status]) d

/-- A contribution with a status sent to the parent. -/
def Dev.tellUp (c : Ctx) (d : Dev) (cap : Capsule) (desc : Nat) (g : Gathering) (ranks status : Nat) (data : List Nat) : Dev :=
  d.ask c cap desc 0x33 (parentRank g.root g.m cap.ownRank) ([g.number, cap.tag, ranks, status] ++ data)

/-- What follows once some parts are in: the root completes with every member's, a member sends one CONTRIB for all below it, and counts what
saturated in it (R63). -/
def Dev.collectStep (c : Ctx) (d : Dev) (o : OpCtx) (g : Gathering) (own : Part) (k : Collective) : OpResult × Dev :=
  let cap := o.cap
  let d := d.putCollective k
  let need := if cap.ownRank = g.root then 2 ^ g.m - 1 else subtreeOf g.root g.m cap.ownRank
  if coveredBy k.parts &&& need != need || k.sent then (.waits, d)
  else
    let (pick, d) := d.pick (pickSpan g.op k.parts)
    let (es, sat) := combineParts g.op (o.inFmt 0) (cap.ownRank == g.root) own pick k.parts
    let d := d.putCollective { k with sent := true }
    if cap.ownRank = g.root then (.done (o.put 0 ⟨o.outDims 0, es⟩) ⟨sat, 0⟩, d)
    else (.waits, (d.addCounts cap.order o.run.plan o.desc ⟨sat, 0⟩).tellUp c cap o.desc g need stOk (own.2.1 ++ es))

/-- Contributions taken in turn. The root counts and acknowledges each; one that repeats ranks is discarded (R350); one that does not fit
ends the root's capsule, or goes on from a member as an end contribution (R349). -/
def Dev.takeParts (c : Ctx) (d : Dev) (o : OpCtx) (g : Gathering) (own : Part) (k : Collective) : List Part → OpResult × Dev
  | [] => d.collectStep c o g own k
  | p :: ps =>
    let atRoot := o.cap.ownRank == g.root
    if p.1 &&& coveredBy k.parts != 0 then
      Dev.takeParts c (if atRoot then d.countSelect o.cap.realm fun x => { x with repeated := satAdd 64 x.repeated 1 } else d) o g own k ps
    else if !partFits g.op own p then
      if atRoot then (.stops stBadArg, d.putCollective k) else (.waits, (d.putCollective k).tellUp c o.cap o.desc g p.1 stBadArg [])
    else
      let k := { k with parts := k.parts ++ [p], acked := if atRoot then k.acked ||| p.1 else k.acked }
      let n := (bitsSet 512 p.1).length
      let d : Dev := if atRoot then
          (d.countSelect o.cap.realm fun x => { x with accepted := satAdd 64 x.accepted n }).tellDown o.cap.member o.cap.tag g p.1 stOk
        else d
      Dev.takeParts c d o g own k ps

/-- This node's own part of a gathering. -/
def ownPart (o : OpCtx) (t : Tensor) : Part := (2 ^ o.cap.ownRank, tnFmtCode (o.record (dcIn o.word 0)) :: t.dims, t.elems)

/-- COLLECT: the member count is compared with M (R261), a lost member or a status that came before ends the capsule, and this node's part
joins those that came before; a member's contribution leaves through a fabric port (R141). A mirrored member has nothing to send (R625). -/
def opCollect (c : Ctx) (d : Dev) (o : OpCtx) : OpResult × Dev :=
  let cap := o.cap
  let g := gatheringOf o.word
  let k := d.collectiveD (cap.composition - 1) g.number cap.tag
  let atRoot := cap.ownRank == g.root
  if cap.composition = 0 ∨ g.m ≠ cap.members.length ∨ g.m ≤ cap.ownRank then (.stops stBadArg, d)
  else if cap.mirrored && !atRoot then (.done [] .none, d)
  else if k.status != stOk then (.stops k.status, if atRoot then d.countEnded cap.realm else d)
  else if needsLost g cap.members cap.ownRank (coveredBy k.parts) then
    (.stops stNodeLost, if atRoot then d.countLost.countEnded cap.realm else d.countLost)
  else
    match if atRoot then (none, d) else d.portBlocked cap.order o.desc with
    | (some l, d) => (.stops stFault, d.logUnroutable c cap.realm l)
    | (none, d) =>
    let (t, d) := d.inputD o 0
    let own := ownPart o t
    d.takeParts c o g own { k with capsule := some cap.order, desc := o.desc, parts := [] } (own :: k.parts)

/-- COLLECT. -/
def execCollect (capsule desc : Nat) (s : State) : Out := devStep (runOpCode 0x44 opCollect capsule desc) s

/-! ### CONTRIB (R350–R353) -/

/-- A status that another device sent, as this one goes on with it: a reserved code, which a device never returns (R8), stands for the head of
some range, which one is free (log entry 103). -/
def Dev.heardStatus (d : Dev) (status : Nat) : Nat × Dev :=
  if status < 0x80 then (status, d) else let (i, d) := d.choose 7; (16 * (i + 1), d)

/-- The capsule of a distributed query at this node: by composition and TAG, with a COLLECT of the number in its plan. -/
def Dev.queryCapsule (d : Dev) (composition number tag : Nat) : Option Capsule :=
  d.capsules.live.find? fun x => x.opcode == 1 && !x.mirrored && x.composition == composition + 1 && x.tag == tag &&
    match d.plan? x.plan with
    | some p => (imCollects p.image).any fun w => dcP w 15 0 == number
    | none => false

/-- A contribution that carries a status: the root's capsule ends with it, and another member sends it on at once, whether or not its own capsule has
come. At a root it waits for the capsule where there is none yet (R352, R615). -/
def Dev.endContribution (c : Ctx) (d : Dev) (h : Afp) (g : Gathering) (k : Collective) (ranks status ownRank : Nat) (members : List Nat) : Dev :=
  match d.queryCapsule k.composition g.number k.tag with
  | some cap =>
    if cap.ownRank = g.root then (d.countEnded cap.realm).endCapsule c cap.order status
    else d.tellUp c cap k.desc g ranks status []
  | none =>
    if ownRank = g.root then d.putCollective { k with status := status }
    else
      let id := d.fabric.nextRequest
      let realm := ((d.composition? k.composition).map fun x => x.realm).getD 0
      (d.setFabric { d.fabric with nextRequest := id + 1 }).toRank ⟨k.composition + 1, h.epoch, ownRank, members, realm, h.cls, false⟩ 0x33
        (parentRank g.root g.m ownRank) [id, g.number, k.tag, ranks, status]

/-- A contribution under an epoch. -/
def Dev.serveContrib (c : Ctx) (d : Dev) (h : Afp) (number tag ranks told : Nat) (shape elements : List Nat) (composition ownRank : Nat)
    (members : List Nat) : Dev :=
  let (status, d) := d.heardStatus told
  let realm := ((d.composition? composition).map fun k => k.realm).getD 0
  let k := d.collectiveD composition number tag
  let atRoot := (match k.former with | some (who, _, root) => who.ownRank == root | none => false) ||
    (d.gathering realm number).any fun g => g.root == ownRank
  -- the root's capsule has ended, or has a status and drains, before its COLLECT fired
  let gone := k.ended || match k.capsule with
    | some order => (d.opCtx order k.desc).isNone
    | none => ((d.queryCapsule composition number tag).bind fun x => d.run? x.order).any fun r => r.status != stOk
  let count (d : Dev) (f : SelectCounters → SelectCounters) : Dev := if atRoot then d.countSelect realm f else d
  if !members.contains h.src || h.src == 0 then d.reply h.src h.requestId 0x34 [number, tag, ranks, stViolation]
  else if gone then count d fun x => { x with late := satAdd 64 x.late 1 }
  else if status != stOk then
    match d.gathering realm number with
    | some g => d.endContribution c h g k ranks status ownRank members
    | none => d.putCollective { k with status := status }
  else match k.capsule with
    | some order => d.lateFinish c order k.desc fun d o =>
        let (t, d) := d.inputD o 0
        d.takeParts c o (gatheringOf o.word) (ownPart o t) k [(ranks, shape, elements)]
    | none =>
      if ranks &&& coveredBy k.parts != 0 then count d fun x => { x with repeated := satAdd 64 x.repeated 1 }
      else d.putCollective { k with parts := k.parts ++ [(ranks, shape, elements)] }

/-- The epoch check of a contribution. -/
def Dev.epochContrib (c : Ctx) (d : Dev) (h : Afp) (number tag ranks status format : Nat) (dims elements : List Nat) : Dev :=
  d.byEpoch c h (.contrib h number tag ranks status format dims elements)
    (fun d st more => d.reply h.src h.requestId 0x34 ([number, tag, ranks, st] ++ more))
    fun d s _ r m => d.serveContrib c h number tag ranks status (format :: dims) elements s r m

/-- CONTRIB. -/
def doContrib (h : Afp) (number tag ranks status format : Nat) (dims elements : List Nat) (c : Ctx) (d : Dev) : Dev :=
  d.receive c h false fun d => d.once c h fun d =>
    if h.colour = 3 then d.reply h.src h.requestId 0x34 [number, tag, ranks, stBadArg]
    else d.epochContrib c h number tag ranks status format dims elements

/-- CONTRIB. -/
def execContrib (h : Afp) (collective tag ranks status format : Nat) (dims elements : List Nat) (s : State) : Out :=
  devStep (doContrib h collective tag ranks status format dims elements) s

/-! ### CONTRIB_ACK (R354) -/

/-- An acknowledgement or a status from above: it goes on down the tree; this member's COLLECT completes, or its capsule ends with the
status. -/
def Dev.fromAbove (c : Ctx) (d : Dev) (cap : Capsule) (g : Gathering) (ranks status : Nat) : Dev :=
  let k := d.collectiveD (cap.composition - 1) g.number cap.tag
  let d := d.tellDown cap.member cap.tag g ranks status
  if k.ended || !bit ranks cap.ownRank then d
  else if status = stOk then
    let d := d.putCollective { k with acked := k.acked ||| ranks }
    let d := d.setFabric { d.fabric with requests := d.fabric.requests.filter fun r => !(r.capsule == cap.order && r.desc == k.desc && r.type == 0x33) }
    if k.sent then d.lateFinish c cap.order k.desc fun d _ => (.done [] .none, d) else d
  else (d.putCollective { k with ended := true }).endCapsule c cap.order status

/-- A status or an acknowledgement from above at a member whose own capsule has not come: it goes on down the tree, and the capsule will end with
the status (R354). -/
def Dev.aboveEarly (d : Dev) (h : Afp) (slot number tag ranks status : Nat) : Dev :=
  match d.composition? slot with
  | none => d
  | some k =>
    match d.gathering k.realm number with
    | none => d
    | some g =>
      if !k.members.contains h.src then d
      else
        let d := d.tellDown ⟨slot + 1, h.epoch, k.ownRank, k.members, k.realm, h.cls, false⟩ tag g ranks status
        if status = stOk ∨ !bit ranks k.ownRank then d else d.putCollective { d.collectiveD slot number tag with status := status }

/-- CONTRIB_ACK. A member whose own capsule has ended, or has not come, still passes it on (R354). -/
def doContribAck (h : Afp) (number tag ranks told : Nat) (c : Ctx) (d : Dev) : Dev :=
  d.receive c h false fun d =>
    let (status, d) := d.heardStatus told
    match d.compositionSlot h.composition with
    | none => d
    | some s =>
      match d.queryCapsule s number tag with
      | none =>
        match (d.collective? s number tag).bind fun k => k.former with
        | some (who, m, root) => if who.members.contains h.src then d.tellDown who tag ⟨number, m, root, 0⟩ ranks status else d
        | none => d.aboveEarly h s number tag ranks status
      | some cap =>
        match d.gathering cap.realm number with
        | some g => if cap.members.contains h.src then d.fromAbove c cap g ranks status else d
        | none => d

/-- CONTRIB_ACK. -/
def execContribAck (h : Afp) (collective tag ranks status : Nat) (s : State) : Out := devStep (doContribAck h collective tag ranks status) s

/-! ### Other answers, and the response timeout (R606, R607, R618) -/

/-- ACK: the answer to an EMIT lets its descriptor complete, or ends its capsule with the status. -/
def doAck (h : Afp) (requestId told : Nat) (c : Ctx) (d : Dev) : Dev :=
  d.receive c h false fun d =>
    let (status, d) := d.heardStatus told
    match d.asked h requestId with
    | none => d
    | some r =>
      let d := d.answered requestId
      if r.type != 0x32 then d
      else if status = stOk then d.lateFinish c r.capsule r.desc fun d _ => (.done [] .none, d)
      else (if status = stNodeLost then d.countLost else d).endRun c r.capsule status r.desc

/-- ACK. -/
def execAck (h : Afp) (requestId status : Nat) (s : State) : Out := devStep (doAck h requestId status) s

/-- AFP_COMPLETION: the owner's answer to a KV message; a KV_PUT's key and a KV_GET's page data go to the submitter, and the capsule
completes with the owner's status and result. -/
def doAfpCompletion (h : Afp) (record len data : Nat) (c : Ctx) (d : Dev) : Dev :=
  d.receive c h false fun d =>
    match d.asked h h.requestId with
    | none => d
    | some r =>
      let d := d.answered h.requestId
      match d.capsule? r.capsule with
      | none => d
      | some cap =>
        let (st, d) := d.heardStatus (record % 256)
        let (w, d) := if st != stOk || len == 0 then (stOk, d)
          else d.bufWrite c cap cap.kvLoc (if cap.kvOp = 1 then cap.kvBlock else cap.kvData) (leBytes len data)
        d.endPlain c cap.order (if st != stOk then st else w) 0 (bits record 127 64)

/-- AFP_COMPLETION. -/
def execAfpCompletion (h : Afp) (record len data : Nat) (s : State) : Out := devStep (doAfpCompletion h record len data) s

/-- RESPONSE_TIMEOUT: a request without an answer is sent again with the same REQUEST_ID until its deadline. -/
def doResponseTimeout (requestId : Nat) (c : Ctx) (d : Dev) : Dev :=
  match d.fabric.requests.find? fun r => r.requestId == requestId with
  | none => d
  | some r =>
    if c.now < r.sentAt + d.cfg 0x2A50 2 * usTicks then d
    else if r.deadline ≤ c.now then d.answered requestId
    else
      let l := d.fabric.requests.map fun x => if x.requestId = requestId then { x with sentAt := c.now } else x
      (d.setFabric { d.fabric with requests := l }).afpAgain r.type r.dest r.fields

/-- RESPONSE_TIMEOUT. -/
def execResponseTimeout (requestId : Nat) (s : State) : Out := devStep (doResponseTimeout requestId) s

end Sys2Proof.Machine
end

