-- ==== Sys2Proof/Machine/Ownership.lean ====
section
/-! DEFINITION. Ownership of pooled state: transfers of units, their audit, and the loss of a peer (R618–R624). -/

namespace Sys2Proof.Machine

/-! ### A unit's entries -/

/-- A realm's service pools. -/
def Dev.servicePools (d : Dev) (realm : Nat) : List Nat :=
  (List.range 16).filter fun k => plKind (d.pool k) == 1 && plRealm (d.pool k) == realm && plService (d.pool k)

/-- The entries of a unit in a realm's service pools, as (pool, key, page). -/
def Dev.unitKeys (d : Dev) (realm unit : Nat) : List (Nat × Nat × Nat) :=
  ((d.servicePools realm).map fun k => ((d.poolState k).keys.filter fun e => e.1 % 4096 == unit).map fun e => (k, e.1, e.2)).flatten

/-- An entry as OWN_STATE carries it; size 0 stands for a key that is gone. -/
def Dev.entryOut (d : Dev) (realm unit key : Nat) : OwnEntry :=
  match (d.unitKeys realm unit).find? fun e => e.2.1 == key with
  | none => ⟨key, 0, 0, 0, []⟩
  | some (k, _, p) =>
    let h := d.page k p
    ⟨key, pgPos h, pgSize h, d.pool k % 2 ^ 128, d.t1Read (d.pageData k p) (2 ^ (pgSize h - 4) * plGB (d.pool k))⟩

/-- An entry as the fields of a message. -/
def entryFields (e : OwnEntry) : List Nat := [e.key, e.pos, e.sizeLog2, e.geometry] ++ e.bytes.map BitVec.toNat

/-- A unit's copy discarded: its keys leave the pools (R621). -/
def Dev.discardUnit (d : Dev) (realm unit : Nat) : Dev := (d.unitKeys realm unit).foldl (fun d e => d.unkeyPage e.1 e.2.2) d

/-- Entries received are put into the realm's service pool of their geometry; one that finds no room is lost, as an evicted one is. -/
def Dev.installEntries (c : Ctx) (d : Dev) (realm : Nat) (l : List OwnEntry) : Dev :=
  l.foldl (fun d e =>
    match (d.servicePools realm).find? fun k => d.pool k % 2 ^ 128 == e.geometry && d.sizeAllowed k e.sizeLog2 with
    | some k => (d.storeEntry c k e.key e.sizeLog2 e.pos e.bytes).2.2
    | none => d) d

/-- Entries joined to those received: a later one replaces an earlier, and one of size 0 removes it. -/
def joinEntries (old new : List OwnEntry) : List OwnEntry :=
  new.foldl (fun l e => let l := l.filter fun x => x.key != e.key; if e.sizeLog2 = 0 then l else l ++ [e]) old

/-! ### States (R620) -/

/-- The code of a unit's state in OWN_QUERY and OWN_REPORT, in the order of R620's states. -/
def UnitState.code : UnitState → Nat
  | .none => 0
  | .owner => 1
  | .sending => 2
  | .surrendered => 3
  | .prepared => 4
  | .complete => 5

/-- The highest generation at which a node holds a complete copy: g + 1 only in COMPLETE (R623). -/
def OwnUnit.completeAt (u : OwnUnit) : Nat :=
  match u.state with
  | .complete => u.generation + 1
  | .owner | .sending | .surrendered => u.generation
  | .none | .prepared => 0

/-- The rank of a node in a composition. -/
def Composition.rankOf (k : Composition) (node : Nat) : Nat := (k.members.findIdx? fun n => n == node).getD 0xFFFF

/-- The ownership table's entry of a unit set. -/
def Dev.setOwner (d : Dev) (slot unit rank : Nat) : Dev :=
  d.setFabric { d.fabric with compositions := tabUpdate slot (fun k => { k with owners := k.owners.set unit rank }) d.fabric.compositions }

/-- A transfer counted (0x2AA0.05). -/
def Dev.countTransfer (d : Dev) : Dev := d.setFabric { d.fabric with transfers := satAdd 64 d.fabric.transfers 1 }

/-- B becomes OWNER at g + 1 with the entries it received. -/
def Dev.takeUnit (c : Ctx) (d : Dev) (slot unit : Nat) : Dev :=
  match d.composition? slot with
  | none => d
  | some k =>
    let u := d.ownUnit slot unit
    let d := (d.installEntries c k.realm u.received).setUnit slot unit ⟨.owner, u.generation + 1, 0, c.now, [], []⟩
    (d.setOwner slot unit k.ownRank).countTransfer

/-- A gives up its copy: NONE at g + 1, and the table names the peer. -/
def Dev.yieldUnit (c : Ctx) (d : Dev) (slot unit : Nat) : Dev :=
  match d.composition? slot with
  | none => d
  | some k =>
    let u := d.ownUnit slot unit
    let d := (d.discardUnit k.realm unit).setUnit slot unit ⟨.none, u.generation + 1, 0, c.now, [], []⟩
    (d.setOwner slot unit (k.rankOf u.peer)).countTransfer

/-- A is OWNER at g again, or B discards its copy: the transfer is over without a change of owner. -/
def Dev.revertUnit (c : Ctx) (d : Dev) (slot unit : Nat) : Dev :=
  let u := d.ownUnit slot unit
  let owner := u.state == .sending || u.state == .surrendered || u.state == .owner
  d.setUnit slot unit ⟨if owner then .owner else .none, u.generation, 0, c.now, [], []⟩

/-- OWN_REPORT with this node's state of a unit. -/
def Dev.reportUnit (d : Dev) (dest slot unit : Nat) : Dev :=
  let u := d.ownUnit slot unit
  d.afp 0x64 dest [((d.composition? slot).map fun k => k.id).getD 0, unit, u.state.code, u.completeAt]

/-! ### The manager's messages (R618, R620, R621) -/

/-- A unit message of the manager for an installed composition; another is acknowledged with ST_BAD_ARG. -/
def Dev.unitMessage (c : Ctx) (d : Dev) (h : Afp) (unit : Nat) (f : Dev → Nat → OwnUnit → Dev) : Dev :=
  d.receive c h true fun d =>
    match (if unit < 4096 then d.compositionSlot h.composition else none) with
    | none => d.ackManager h stBadArg 0
    | some s => f d s (d.ownUnit s unit)

/-- Entries of a unit sent to the receiver. -/
def Dev.sendEntries (d : Dev) (slot unit peer : Nat) (keys : List Nat) : Dev :=
  match d.composition? slot with
  | none => d
  | some k => keys.foldl (fun d key => d.afp 0x61 peer (k.id :: unit :: entryFields (d.entryOut k.realm unit key))) d

/-- OWN_PREPARE: the receiver becomes PREPARED; the owner becomes SENDING, and sends the unit's entries. -/
def doOwnPrepare (h : Afp) (unit generation peer role : Nat) (c : Ctx) (d : Dev) : Dev :=
  d.unitMessage c h unit fun d s u =>
    if generation ≤ u.generation || (generation == u.generation + 1 && u.state != .owner && u.state != .none) then d.ackManager h stOk u.generation
    else if role = 1 then
      if u.state != .none then d.ackManager h stBadArg u.generation
      else (d.setUnit s unit ⟨.prepared, generation - 1, peer, c.now, [], []⟩).ackManager h stOk (generation - 1)
    else if u.state != .owner || generation != u.generation + 1 then d.ackManager h stBadArg u.generation
    else
      let d := d.setUnit s unit ⟨.sending, u.generation, peer, c.now, [], []⟩
      let keys := match d.composition? s with | some k => (d.unitKeys k.realm unit).map fun e => e.2.1 | none => []
      (d.sendEntries s unit peer keys).ackManager h stOk u.generation

/-- OWN_PREPARE. -/
def execOwnPrepare (h : Afp) (unit generation peer role : Nat) (s : State) : Out := devStep (doOwnPrepare h unit generation peer role) s

/-- OWN_COMMIT: a COMPLETE receiver becomes OWNER; a SURRENDERED owner discards its copy. A node that holds the generation changes nothing. -/
def doOwnCommit (h : Afp) (unit generation : Nat) (c : Ctx) (d : Dev) : Dev :=
  d.unitMessage c h unit fun d s u =>
    let d : Dev := if generation != u.generation + 1 then d
      else if u.state = .complete then d.takeUnit c s unit
      else if u.state = .surrendered then d.yieldUnit c s unit
      else d
    d.ackManager h stOk (d.ownUnit s unit).generation

/-- OWN_COMMIT. -/
def execOwnCommit (h : Afp) (unit generation : Nat) (s : State) : Out := devStep (doOwnCommit h unit generation) s

/-- OWN_ABORT: the owner is OWNER at g again, the receiver discards its copy; a node that owns the generation answers with OWN_REPORT. -/
def doOwnAbort (h : Afp) (unit generation : Nat) (c : Ctx) (d : Dev) : Dev :=
  d.unitMessage c h unit fun d s u =>
    if u.state = .owner && decide (generation ≤ u.generation) then d.reportUnit h.src s unit
    else
      let d := if generation = u.generation + 1 && u.state != .owner && u.state != .none then d.revertUnit c s unit else d
      d.ackManager h stOk (d.ownUnit s unit).generation

/-- OWN_ABORT. -/
def execOwnAbort (h : Afp) (unit generation : Nat) (s : State) : Out := devStep (doOwnAbort h unit generation) s

/-! ### The copy (R620) -/

/-- Does a peer's message concern a unit that this node moves with it? -/
def Dev.unitOfPeer (d : Dev) (h : Afp) (unit : Nat) : Option (Nat × OwnUnit) :=
  match (if unit < 4096 then d.compositionSlot h.composition else none) with
  | none => none
  | some s => let u := d.ownUnit s unit; if u.peer = h.src then some (s, u) else none

/-- The marked keys of a unit sent again. -/
def Dev.sendMarked (d : Dev) (slot unit : Nat) : Dev :=
  let u := d.ownUnit slot unit
  (d.setUnit slot unit { u with marked := [] }).sendEntries slot unit u.peer u.marked

/-- The unit of an own message of the owner: one with this node as its source, while the node is SENDING. -/
def Dev.unitSending (d : Dev) (h : Afp) (unit : Nat) : Option Nat :=
  if h.src != d.fabric.node then none
  else match d.compositionSlot h.composition with
    | some s => if (d.ownUnit s unit).state = .sending then some s else none
    | none => none

/-- OWN_STATE: entries reach a PREPARED receiver. As the owner's own message (log entry 40) it sends the keys marked so far. -/
def doOwnState (h : Afp) (unit : Nat) (entries : List OwnEntry) (c : Ctx) (d : Dev) : Dev :=
  match d.unitSending h unit with
  | some s => d.sendMarked s unit
  | none => d.receive c h false fun d =>
    match d.unitOfPeer h unit with
    | some (s, u) => if u.state = .prepared then d.setUnit s unit { u with received := joinEntries u.received entries } else d
    | none => d

/-- OWN_STATE. -/
def execOwnState (h : Afp) (unit : Nat) (entries : List OwnEntry) (s : State) : Out := devStep (doOwnState h unit entries) s

/-- OWN_READY: at a PREPARED receiver the copy is COMPLETE, which the manager hears. As the owner's own message (log entry 40) the copy has
ended: the owner becomes SURRENDERED, sends its last marked keys and then OWN_READY. -/
def doOwnReady (h : Afp) (unit generation : Nat) (c : Ctx) (d : Dev) : Dev :=
  match d.unitSending h unit with
  | some s =>
    let u := d.ownUnit s unit
    let d := (d.setUnit s unit { u with state := .surrendered, since := c.now }).sendMarked s unit
    d.afp 0x62 u.peer [h.composition, unit, u.generation + 1]
  | none => d.receive c h false fun d =>
    match d.unitOfPeer h unit with
    | some (s, u) =>
      if u.state = .prepared && generation == u.generation + 1 then
        (d.setUnit s unit { u with state := .complete, since := c.now }).afp 0x62 0xFFFF [h.composition, unit, generation]
      else d
    | none => d

/-- OWN_READY. -/
def execOwnReady (h : Afp) (unit generation : Nat) (s : State) : Out := devStep (doOwnReady h unit generation) s

/-! ### The audit (R623) -/

/-- OWNERSHIP_AUDIT: a unit unresolved for the audit time sends OWN_QUERY to its peer. -/
def doOwnershipAudit (composition unit : Nat) (c : Ctx) (d : Dev) : Dev :=
  match (if unit < 4096 then d.compositionSlot composition else none) with
  | none => d
  | some s =>
    let u := d.ownUnit s unit
    if (u.state != .surrendered && u.state != .prepared && u.state != .complete) || decide (c.now < u.since + d.cfg 0x2A50 4 * msTicks) then d
    else
      let d := d.setUnit s unit { u with since := c.now }
      let d := d.setFabric { d.fabric with audits := satAdd 64 d.fabric.audits 1 }
      d.afp 0x64 u.peer [composition, unit, u.state.code, u.completeAt]

/-- OWNERSHIP_AUDIT. -/
def execOwnershipAudit (composition unit : Nat) (s : State) : Out := devStep (doOwnershipAudit composition unit) s

/-- What a node resolves from its own state and what the peer says: B with a COMPLETE copy owns the unit; A yields to a peer that owns it at
g + 1, waits for one that is COMPLETE, and owns it again otherwise; B without a complete copy discards. -/
def Dev.resolveUnit (c : Ctx) (d : Dev) (slot unit state complete : Nat) : Dev :=
  let u := d.ownUnit slot unit
  let there := decide (u.generation + 1 ≤ complete)
  match u.state with
  | .complete => d.takeUnit c slot unit
  | .prepared => d.revertUnit c slot unit
  | .surrendered | .sending =>
    if there && state == UnitState.owner.code then d.yieldUnit c slot unit
    else if there then d
    else d.revertUnit c slot unit
  | .owner | .none => d

/-- A resolution reported to the manager, where there was one. -/
def Dev.resolveAndReport (c : Ctx) (d : Dev) (slot unit state complete : Nat) : Dev :=
  let before := (d.ownUnit slot unit).state
  let d := d.resolveUnit c slot unit state complete
  if (d.ownUnit slot unit).state != before then d.reportUnit 0xFFFF slot unit else d

/-- OWN_QUERY: the unit is resolved, and the peer gets OWN_REPORT. -/
def doOwnQuery (h : Afp) (unit state complete : Nat) (c : Ctx) (d : Dev) : Dev :=
  d.receive c h false fun d =>
    match (if unit < 4096 then d.compositionSlot h.composition else none) with
    | none => d
    | some s =>
      let u := d.ownUnit s unit
      let d := if u.peer = h.src then d.resolveAndReport c s unit state complete else d
      d.reportUnit h.src s unit

/-- OWN_QUERY. -/
def execOwnQuery (h : Afp) (unit state complete : Nat) (s : State) : Out := devStep (doOwnQuery h unit state complete) s

/-- OWN_REPORT: the peer's state resolves the unit; a receiver that takes it tells the peer, which then discards its copy. -/
def doOwnReport (h : Afp) (unit state complete : Nat) (c : Ctx) (d : Dev) : Dev :=
  d.receive c h false fun d =>
    match d.unitOfPeer h unit with
    | none => d
    | some (s, u) =>
      let d := d.resolveAndReport c s unit state complete
      if u.state = .complete then d.reportUnit h.src s unit else d

/-- OWN_REPORT. -/
def execOwnReport (h : Afp) (unit state complete : Nat) (s : State) : Out := devStep (doOwnReport h unit state complete) s

/-! ### The loss of a peer (R624) -/

/-- The units of a composition that move to or from a lost node: A owns its unit again; B owns it with what it has received. -/
def Dev.unitsLost (c : Ctx) (d : Dev) (slot node : Nat) : Dev :=
  ((d.fabric.units.filter fun e => e.1 / 4096 == slot && e.2.peer == node).map fun e => (e.1 % 4096, e.2)).foldl (fun d e =>
    match e.2.state with
    | .sending | .surrendered => d.revertUnit c slot e.1
    | .prepared | .complete => d.takeUnit c slot e.1
    | .owner | .none => d) d

end Sys2Proof.Machine
end

