-- ==== Sys2Proof/Machine/Compositions.lean ====
section
/-! DEFINITION. Installing compositions, the loss of members, held requests, and shadowing (R611, R612, R616–R618, R624–R627). -/

namespace Sys2Proof.Machine

/-! ### Requests held for an epoch (R612) -/

/-- A held request tried again under the epochs now installed. -/
def Dev.serveHeld (c : Ctx) (d : Dev) (r : HeldRequest) : Dev :=
  match r.command with
  | .run src raw | .planLoad src raw | .planUnload src raw | .update src raw | .volume src raw | .kvService src raw =>
    d.epochCapsule c r.command src r.header raw.toNat
  | .afpEmit h plan tag slot us dims elements => d.epochEmit c h plan tag slot us dims elements
  | .contrib h number tag ranks status format dims elements => d.epochContrib c h number tag ranks status format dims elements
  | _ => d

/-- The requests that were held for an epoch of a composition, once it is installed. -/
def Dev.releaseHeld (c : Ctx) (d : Dev) (id epoch : Nat) : Dev :=
  let now (r : HeldRequest) : Bool := r.header.composition == id && decide (r.header.epoch ≤ epoch)
  let due := d.fabric.held.filter now
  due.foldl (fun d r => d.serveHeld c r) (d.setFabric { d.fabric with held := d.fabric.held.filter fun r => !now r })

/-- The answer to a held request that is served no more. -/
def Dev.refuseHeld (c : Ctx) (d : Dev) (r : HeldRequest) (status : Nat) : Dev :=
  let h := r.header
  match r.command with
  | .run _ raw | .planLoad _ raw | .planUnload _ raw | .update _ raw | .volume _ raw | .kvService _ raw =>
    d.refuseFabric c h raw.toNat status []
  | .contrib _ number tag ranks _ _ _ _ => d.reply h.src h.requestId 0x34 [number, tag, ranks, status]
  | _ => d.ackRequest h status []

/-- EPOCH_GRACE_EXPIRY: a request held for longer than the epoch grace completes with ST_BUSY. -/
def doEpochGraceExpiry (src requestId : Nat) (c : Ctx) (d : Dev) : Dev :=
  match d.fabric.held.find? fun r => r.header.src == src && r.header.requestId == requestId with
  | none => d
  | some r =>
    if c.now < r.since + d.cfg 0x2A50 1 * msTicks then d
    else (d.setFabric { d.fabric with held := d.fabric.held.filter fun x => x != r }).refuseHeld c r stBusy

/-- EPOCH_GRACE_EXPIRY. -/
def execEpochGraceExpiry (src requestId : Nat) (s : State) : Out := devStep (doEpochGraceExpiry src requestId) s

/-! ### COMPOSE (R611) -/

/-- Installed compositions. -/
def Dev.installed (d : Dev) : List (Nat × Composition) := d.fabric.compositions.filter fun e => e.2.state != 3 && e.2.id != 0

/-- A slot for a new composition: one never used, else one of a removed composition, without capsules of it if there is such a one. -/
def Dev.freeSlotFor (d : Dev) : Option Nat :=
  let l := (List.range 64).filter fun s => !(d.installed.any fun e => e.1 == s)
  let fresh := l.find? fun s => (d.composition? s).isNone
  let quiet := l.find? fun s => !d.capsules.live.any fun k => k.composition == s + 1
  match fresh with
  | some s => some s
  | none => match quiet with
    | some s => some s
    | none => l.head?

/-- A record put in a slot; the domain is composed while any is installed (0x2A30.04). -/
def Dev.putComposition (d : Dev) (slot : Nat) (k : Composition) : Dev :=
  let d := d.setFabric { d.fabric with compositions := tabSet slot k d.fabric.compositions }
  d.setFabric { d.fabric with domain := if d.installed.isEmpty then min d.fabric.domain 2 else 3 }

/-- The state of a composition with these members. -/
def compositionState (members : List Nat) : Nat := if members.contains 0 then 2 else 1

/-- The units that no transfer moves follow the new ownership table. -/
def Dev.followOwners (d : Dev) (slot : Nat) (k : Composition) : Dev :=
  let f (e : Nat × OwnUnit) : Nat × OwnUnit :=
    if e.1 / 4096 = slot ∧ (e.2.state = .owner ∨ e.2.state = .none) then
      (e.1, { e.2 with state := if nth k.owners (e.1 % 4096) = k.ownRank then .owner else .none })
    else e
  d.setFabric { d.fabric with units := d.fabric.units.map f }

/-- Shadowing in a slot ends when its shadow takes the rank. -/
def Dev.endShadow (d : Dev) (slot : Nat) (k : Composition) : Dev :=
  let s := d.fabric.shadow
  let partnerHolds := nth k.members s.rank == s.partner && s.rank != 0xFFFF
  if s.composition = slot ∧ ((s.role = 1 ∧ k.ownRank ≠ 0xFFFF) ∨ (s.role = 2 ∧ partnerHolds)) then
    d.setFabric { d.fabric with shadow := { s with role := 0, awaiting := [] } }
  else d

/-- A composition record installed at a slot, with the epoch before it. -/
def Dev.install (c : Ctx) (d : Dev) (slot id realm epoch : Nat) (members owners : List Nat) : Dev :=
  let own := (members.findIdx? fun n => n == d.fabric.node).getD 0xFFFF
  let prev := match d.composition? slot with
    | some k => if k.id = id ∧ k.state ≠ 3 then some ⟨k.epoch, k.ownRank, k.members⟩ else none
    | none => none
  let k : Composition := ⟨id, realm, epoch, own, members, owners, compositionState members, c.now, prev⟩
  let fresh := prev.isNone
  let d : Dev := if fresh then d.setFabric { d.fabric with units := d.fabric.units.filter fun e => e.1 / 4096 != slot } else d
  (((d.putComposition slot k).followOwners slot k).endShadow slot k).releaseHeld c id epoch

/-- A composition removed: requests learn for 10 s that it moved. -/
def Dev.uninstall (c : Ctx) (d : Dev) (slot : Nat) (k : Composition) (epoch : Nat) : Dev :=
  let d := d.putComposition slot { k with epoch := epoch, ownRank := 0xFFFF, state := 3, installedAt := c.now, prev := none }
  let d := d.setFabric { d.fabric with
    removed := tabSet k.id c.now d.fabric.removed, units := d.fabric.units.filter fun e => e.1 / 4096 != slot }
  d.releaseHeld c k.id (2 ^ 32)

/-- COMPOSE: a record of a higher epoch is installed, or removed where it names no members; another changes nothing. It is acknowledged
either way with the installed epoch. -/
def doCompose (h : Afp) (id realm epoch : Nat) (members owners : List Nat) (c : Ctx) (d : Dev) : Dev :=
  d.receive c h true fun d =>
    match d.compositionSlot id with
    | some s =>
      match d.composition? s with
      | none => d
      | some k =>
        if epoch ≤ k.epoch then d.ackManager h stOk k.epoch
        else if members.isEmpty then (d.uninstall c s k epoch).ackManager h stOk epoch
        else (d.install c s id realm epoch members owners).ackManager h stOk epoch
    | none =>
      if id = 0 || members.isEmpty then d.ackManager h (if id = 0 then stBadArg else stOk) 0
      else if 64 ≤ d.installed.length then d.ackManager h stBusy 0
      else match d.freeSlotFor with
        | some s => (d.install c s id realm epoch members owners).ackManager h stOk epoch
        | none => d.ackManager h stBusy 0

/-- COMPOSE. -/
def execCompose (h : Afp) (id realm epoch : Nat) (members owners : List Nat) (s : State) : Out :=
  devStep (doCompose h id realm epoch members owners) s

/-! ### MEMBER_LOST (R616, R617, R624) -/

/-- A node taken out of a member table. -/
def withoutNode (node : Nat) (members : List Nat) : List Nat := members.map fun n => if n = node then 0 else n

/-- Does a capsule have a COLLECT that waits for or on a lost member? -/
def Dev.collectLost (d : Dev) (cap : Capsule) : Bool :=
  d.search.collectives.any fun k => k.capsule == some cap.order && !k.ended && !bit k.acked cap.ownRank &&
    match d.gathering cap.realm k.number with
    | some g => needsLost g cap.members cap.ownRank (coveredBy k.parts)
    | none => false

/-- Is a capsule the root of a COLLECT that misses a lost member? A root has acknowledged its own part. -/
def Dev.rootLost (d : Dev) (cap : Capsule) : Bool :=
  d.search.collectives.any fun k => k.capsule == some cap.order && !k.ended && !k.sent &&
    match d.gathering cap.realm k.number with
    | some g => cap.ownRank == g.root && needsLost g cap.members cap.ownRank (coveredBy k.parts)
    | none => false

/-- A capsule after the loss of a node that it may have a request outstanding towards; one that has ended already only drains. -/
def Dev.capsuleLost (c : Ctx) (d : Dev) (node order : Nat) : Dev :=
  match d.capsule? order with
  | none => d
  | some cap =>
    let asked := d.fabric.requests.any fun r => r.capsule == order && r.dest == node
    if (d.run? order).any fun r => r.status != stOk then d
    else if d.rootLost cap then (d.countLost.countEnded cap.realm).endCapsule c order stNodeLost
    else if asked || d.collectLost cap then d.countLost.endCapsule c order stNodeLost
    else d

/-- The instances of a composition after the loss of a node: it leaves their member tables, and those with a request outstanding towards it
end with ST_NODE_LOST. -/
def Dev.instancesLost (c : Ctx) (d : Dev) (slot node : Nat) : Dev :=
  let hit := (d.capsules.live.filter fun k => k.composition == slot + 1 && k.members.contains node).map fun k => k.order
  let d := hit.foldl (fun d o => d.modCapsule o fun k => { k with members := withoutNode node k.members }) d
  hit.foldl (fun d o => d.capsuleLost c node o) d

/-- The next epoch of a composition, with a rank vacant. -/
def Dev.installVacant (c : Ctx) (d : Dev) (slot epoch rank node : Nat) (k : Composition) : Dev :=
  let members := k.members.set rank 0
  let k' : Composition := { k with
    epoch := epoch, members := members, state := 2, installedAt := c.now
    ownRank := if k.ownRank = rank then 0xFFFF else k.ownRank
    prev := some ⟨k.epoch, k.ownRank, withoutNode node k.members⟩ }
  d.putComposition slot k'

/-- MEMBER_LOST: the next epoch is installed with the rank vacant; instances, segments, lent GiB and moving units follow. -/
def doMemberLost (h : Afp) (id epoch rank node : Nat) (c : Ctx) (d : Dev) : Dev :=
  d.receive c h true fun d =>
    match d.compositionSlot id with
    | none => d.ackManager h stBadArg 0
    | some s =>
      match d.composition? s with
      | none => d
      | some k =>
        if epoch ≤ k.epoch then d.ackManager h stOk k.epoch
        else
          let d := (d.installVacant c s epoch rank node k).instancesLost c s node
          let d := (d.poolNodeLost c node).unitsLost c s node
          ((d.releaseHeld c id epoch).ackManager h stOk epoch).resumeWaiting c

/-- MEMBER_LOST. -/
def execMemberLost (h : Afp) (id epoch rank node : Nat) (s : State) : Out :=
  devStep (hearing (doMemberLost h id epoch rank node)) s

/-! ### Shadowing (R625–R627) -/

/-- SHADOW_START: the node becomes the working node or the shadow of a rank, and the counts begin again. -/
def doShadowStart (h : Afp) (composition rank working shadow : Nat) (c : Ctx) (d : Dev) : Dev :=
  d.receive c h true fun d =>
    let start (d : Dev) (role partner slot : Nat) : Dev :=
      (d.setFabric { d.fabric with shadow := { Shadow.reset with role := role, partner := partner, composition := slot, rank := rank } }).ackManager h stOk 0
    match d.compositionSlot composition with
    | none => d.ackManager h stBadArg 0
    | some s =>
      let own := ((d.composition? s).map fun k => k.ownRank).getD 0xFFFF
      if working = d.fabric.node ∧ own = rank then start d 2 shadow s
      else if shadow = d.fabric.node ∧ own = 0xFFFF then start d 1 working s
      else d.ackManager h stBadArg 0

/-- SHADOW_START. -/
def execShadowStart (h : Afp) (composition rank working shadow : Nat) (s : State) : Out :=
  devStep (doShadowStart h composition rank working shadow) s

/-- A mirrored capsule taken: it is not metered, and runs against this node's own objects under the rank it shadows. -/
def Dev.takeMirror (c : Ctx) (d : Dev) (h : Afp) (raw len data : Nat) : Dev :=
  let s := d.fabric.shadow
  let k := (d.composition? s.composition).getD ⟨0, 0, 0, 0xFFFF, [], [], 0, 0, none⟩
  let (cap, d) := d.newCapsule c (.fabric h len data) raw 0 h.cls (s.composition + 1) k.epoch s.rank k.members
  let d := d.modCapsule cap.order fun x => { x with mirrored := true }
  let cap := { cap with mirrored := true }
  match d.ingressCheck raw h.colour false (bits raw 23 16 == k.realm) (d.realmActive k.realm) with
  | some (st, reason) => d.refuseCapsule c cap k.realm st reason
  | none => d.meterCapsule c cap 0 h.colour

/-- MIRROR: from the working node, at its shadow; the type is reserved on a link at AFP 2.3 (R604). -/
def doMirror (h : Afp) (raw : BitVec 512) (len data : Nat) (c : Ctx) (d : Dev) : Dev :=
  d.receive c h false fun d =>
    if (d.link h.link).version < 0x30 then d.dropMessage
    else if d.fabric.shadow.role != 1 || d.fabric.shadow.partner != h.src then d
    else d.once c h fun d => d.takeMirror c h raw.toNat len data

/-- MIRROR. -/
def execMirror (h : Afp) (raw : BitVec 512) (len data : Nat) (s : State) : Out := devStep (doMirror h raw len data) s

/-- SHADOW_RESULT: the shadow's result of a mirrored request, compared once this node's own is there; one after the deadline disagrees. -/
def doShadowResult (h : Afp) (record : Nat) (lists : List Candidates) (c : Ctx) (d : Dev) : Dev :=
  d.receive c h false fun d =>
    if (d.link h.link).version < 0x30 then d.dropMessage
    else if d.fabric.shadow.role != 2 || d.fabric.shadow.partner != h.src then d
    else
      let d := d.expireMirror c h.requestId
      (d.modAwaited h.requestId fun w => { w with result := some (record % 256, lists) }).settleMirror h.requestId

/-- SHADOW_RESULT. -/
def execShadowResult (h : Afp) (record : Nat) (lists : List Candidates) (s : State) : Out := devStep (doShadowResult h record lists) s

end Sys2Proof.Machine
end

