-- ==== Sys2Proof/Machine/Oculus.lean ====
section
/-! DEFINITION. Oculus during operation: slices, their ends, and full programs (R694–R699, R598). -/

namespace Sys2Proof.Machine

/-! ### Blocks (*Oculus block numbers*, *Slice isolation*) -/

/-- Is a block eligible for a slice? -/
def Dev.eligible (d : Dev) (b : Nat) : Bool :=
  if b < 64 then
    let k := d.link (d.laneLink b)
    d.cfg 0x5811 (b / 8 + 1) == 1 && k.state == 2 && (k.lanes == 8 || k.lanes == 4) &&
      nth d.oculus.results b != 3 && nth d.oculus.results b != 4
  else if b < 576 then (d.stack ((b - 64) / 16)).state == 0
  else if b < 640 then !(d.channelLuns (b - 576)).isEmpty && !d.flash.ops.any fun o => lunChannel (blockLun o.block) == b - 576
  else true

/-- The next eligible block from a block on, in the round of 806, and how many were passed over. -/
def Dev.nextEligible (d : Dev) (b : Nat) : Nat → Nat × Nat
  | 0 => (b, 0)
  | n + 1 => if d.eligible b then (b, 0) else let r := d.nextEligible (nextBlock b) n; (r.1, r.2 + 1)

/-- A lane under test leaves its link one lane narrower, without retraining (R598). -/
def Dev.narrow (d : Dev) (b : Nat) : Dev :=
  if b < 64 then d.modLink (d.laneLink b) fun k => { k with state := 3, lanes := k.lanes - 1 } else d

/-- OCULUS_SLICE: one slice of the next eligible block; deferred where a clock or a rail of its island lies outside ±3 % (R696). -/
def doOculusSlice (inLimits : Bool) (_c : Ctx) (d : Dev) : Dev :=
  let o := d.oculus
  if d.boot.node != 7 || d.cfg 0x5800 2 != 1 || o.slice.isSome || o.program % 256 == 1 then d
  else
    let (b, skipped) := d.nextEligible o.next 806
    let o := { o with next := b, passedOver := satAdd 64 o.passedOver skipped }
    if inLimits then (d.setOculus { o with slice := some b, run := satAdd 64 o.run 1 }).narrow b
    else d.setOculus { o with deferred := satAdd 64 o.deferred 1 }

/-- OCULUS_SLICE. -/
def execOculusSlice (inLimits : Bool) (s : State) : Out := devStep (doOculusSlice inLimits) s

/-- A block that fails a slice: tested again at the next period; a second failure in succession is logged, and a lane then stays out of
service (R698). -/
def Dev.sliceFails (c : Ctx) (d : Dev) (b : Nat) : Dev :=
  let o := { d.oculus with slice := none, aborts := 0 }
  if o.failedOnce != some b then (d.setOculus { o with failedOnce := some b, next := b }).widen b
  else
    let o := { o with failedOnce := none, next := nextBlock b, failures := satAdd 64 o.failures 1, results := o.results.set b 3 }
    let d := (d.setOculus o).event c 0x0A02 2 0 b 0 0
    if b < 64 then d.event c 0x0A03 1 0 b 0 0 else d

/-- OCULUS_SLICE_END: 0 passed, 1 marginal, 2 failed. -/
def doOculusSliceEnd (result : Nat) (c : Ctx) (d : Dev) : Dev :=
  match d.oculus.slice with
  | none => d
  | some b =>
    if 2 ≤ result then d.sliceFails c b
    else
      let o := d.oculus
      let o := { o with
        slice := none, aborts := 0, failedOnce := none, next := nextBlock b, results := o.results.set b (if result = 1 then 2 else 1) }
      let d := (d.setOculus o).widen b
      if result = 1 then d.event c 0x0A01 1 0 b 0 0 else d

/-- OCULUS_SLICE_END. -/
def execOculusSliceEnd (result : Nat) (s : State) : Out := devStep (doOculusSliceEnd result) s

/-! ### Full programs (R699) -/

/-- Full programs run in MANUFACTURE, DEVELOP and RMA. -/
def programsAllowed (lifeCycle : Nat) : Bool := lifeCycle == 1 || lifeCycle == 2 || lifeCycle == 4

/-- The blocks of *Full programs*, none of a program or a target that is not there. -/
def programBlocks (program target : Nat) : List Nat :=
  match program with
  | 1 => if target < 8 then (List.range 8).map fun i => 8 * target + i else []
  | 2 => if target < 32 then (List.range 16).map fun i => 64 + 16 * target + i else []
  | 3 => if target < 16 then (List.range 4).map fun i => 576 + 4 * target + i else []
  | 4 => (List.range 88).map fun i => 640 + i
  | 5 => (List.range 78).map fun i => 728 + i
  | _ => []

/-- The results with some blocks' replaced. -/
def setResults (results blocks : List Nat) (v : Nat) : List Nat := blocks.foldl (fun r b => r.set b v) results

/-- The lanes and the stack of a program out of service while it runs, or in service again. Channels, PLLs and sensors show it in their
results alone (DESIGN CHOICE, log entry 36). -/
def Dev.programUnits (d : Dev) (blocks : List Nat) (out : Bool) : Dev :=
  match blocks.head? with
  | none => d
  | some b =>
    if b < 64 then
      if out then (List.range 4).foldl (fun d i => if d.linkUsed (4 * (b / 8) + i) then d.dropLink (4 * (b / 8) + i) 0 else d) d
      else d.trainLinks [b / 8]
    else if b < 576 then
      d.modStack ((b - 64) / 16) fun k =>
        if out then (if k.state = 1 then k else { k with state := 3 }) else (if k.state = 3 then { k with state := 0 } else k)
    else d

/-- 0x5820.00: program in [7:0], port, stack or group in [15:8]. One at a time (log entry 36). -/
def Dev.actProgram (c : Ctx) (d : Dev) (q : Req) (s : Session) (value : Nat) : Dev :=
  let blocks := programBlocks (bits value 7 0) (bits value 15 8)
  if !programsAllowed d.keep.lifeCycle then (d.violateEntry c s 0x11 0x5820 0).answer q 0x5820 0 stViolation
  else if blocks.isEmpty then d.answer q 0x5820 0 stConfigReject
  else if d.oculus.program % 256 = 1 then d.answer q 0x5820 0 stBusy
  else
    let d := d.abortSlice fun _ => true
    let d := d.setOculus { d.oculus with
      program := 1 + 256 * bits value 7 0, programBlocks := blocks, results := setResults d.oculus.results blocks 4 }
    (d.programUnits blocks true).answer q 0x5820 0 stOk

/-- PROGRAM_REQUEST. -/
def doProgramRequest (q : Req) (value : Nat) (c : Ctx) (d : Dev) : Dev := d.action c q 0x5820 0 value fun d s => d.actProgram c q s value

/-- PROGRAM_REQUEST. -/
def execProgramRequest (q : Req) (value : Nat) (s : State) : Out := devStep (doProgramRequest q value) s

/-- PROGRAM_COMPLETE: the result in 0x5821, and the blocks in service again. -/
def doProgramComplete (passed : Bool) (_c : Ctx) (d : Dev) : Dev :=
  let o := d.oculus
  if o.program % 256 != 1 then d
  else
    let d := d.setOculus { o with
      program := (if passed then 2 else 3) + o.program / 256 * 256, programBlocks := [],
      results := setResults o.results o.programBlocks (if passed then 1 else 3) }
    d.programUnits o.programBlocks false

/-- PROGRAM_COMPLETE. -/
def execProgramComplete (passed : Bool) (s : State) : Out := devStep (doProgramComplete passed) s

end Sys2Proof.Machine
end

