-- ==== Sys2Proof/Machine/Security.lean ====
section
/-! DEFINITION. Opening and closing sessions, their protection, attestation, SPDM, the life cycle, security versions and root keys (R101, R103, R110,
R648–R661). -/

namespace Sys2Proof.Machine

/-! ### OPEN (R101, R103, R110, R655, R657) -/

/-- The highest HDAP version inside a client's span. -/
def hdapVersion (highest lowest : Nat) : Option Nat := [0x12, 0x11, 0x10].find? fun v => decide (lowest ≤ v) && decide (v ≤ highest)

/-- The sessions that a path may have open. -/
def sessionLimit (path : Nat) : Nat := if path = 0 then 8 else 32

/-- A session number that no open session of the path has, freely chosen (log entry 1). -/
def Dev.freeNumber (d : Dev) (path : Nat) : Nat × Dev :=
  let used := (d.dict.sessions.filter fun s => s.path == path).map (·.number)
  let free := (List.range' 1 65535).filter fun n => !used.contains n
  let (i, d) := d.choose free.length
  (free.getD i 0, d)

/-- The realm that an OPEN gives its session (R101): 0 to an HDAP client and to the fabric manager, that of the composition to a member of
it; none to a sender that is neither. -/
def Dev.openRealm (d : Dev) (path sender : Nat) (composition : Option Nat) : Option Nat :=
  if path = 0 then some 0
  else match composition with
    | none => if sender = 0xFFFF then some 0 else none
    | some k => ((d.composition? k).filter fun m => m.members.contains sender && d.realmActive m.realm).map (·.realm)

/-- An OPEN refused: a response to session 0 that echoes its SEQ. -/
def Dev.refuseOpen (d : Dev) (path seq status : Nat) : Dev := d.send (.response path 0 ⟨status, seq, 0, 0, true, 0, 0, 0⟩)

/-- The client's bytes that T covers: the 92 bytes of OPEN's payload (*Sessions and links*). -/
def clientPayload (lowest keySlot clientKey clientNonce : Nat) : Nat :=
  lowest % 256 + 2 ^ 8 + keySlot % 256 * 2 ^ 16 + clientKey % 2 ^ 448 * 2 ^ 32 + clientNonce % 2 ^ 256 * 2 ^ 480

/-- A protected session opened: the device's ephemeral key and nonce, T, the signature over T, the session keys (R655). -/
def Dev.openProtected (c : Ctx) (d : Dev) (s : Session) (seq lowest keySlot clientKey clientNonce : Nat) : Dev :=
  let ((secret, pub, nonce), d) := d.ephemeral
  let t := digest512 180 (clientPayload lowest keySlot clientKey clientNonce + pub * 2 ^ 736 + nonce * 2 ^ 1184)
  let s := { s with proofPending := true, keySlot := keySlot, transcript := t, sessionKey := handshakeKeys secret clientKey t }
  (d.setDict { d.dict with sessions := d.dict.sessions ++ [s] }).send
    (.openAck s.path s.number seq s.version [pub, nonce, d.signAlias2 c 64 t])

/-- An OPEN with a version and a realm: within the limit of R103, protected or not (MODE). Only a session of realm 0 can be protected. -/
def Dev.openIn (c : Ctx) (d : Dev) (path sender seq realm version lowest mode keySlot clientKey clientNonce : Nat) : Dev :=
  if sessionLimit path ≤ (d.dict.sessions.filter fun s => s.path == path).length then d.refuseOpen path seq stBusy
  else if mode = 0 then
    let (n, d) := d.freeNumber path
    (d.setDict { d.dict with sessions := d.dict.sessions ++ [.opened path n sender realm version c.now] }).send (.openAck path n seq version [])
  else if mode != 1 || realm != 0 || !inRange 1 8 keySlot then d.refuseOpen path seq stBadArg
  else if d.generatorFailed then d.refuseOpen path seq stFault
  else
    let (n, d) := d.freeNumber path
    d.openProtected c (.opened path n sender realm version c.now) seq lowest keySlot clientKey clientNonce

/-- Do OPENs arrive by a path? Mailboxes have none (R101). -/
def Dev.opens (d : Dev) (path : Nat) : Bool :=
  d.boot.node != 0x81 && !d.boot.reloading &&
    ((path == 0 && d.fabric.mgmtLink != 0) || (path == 2 && d.fabric.links.any Link.carries))

/-- OPEN. -/
def doSessionOpen (path sender seq : Nat) (composition : Option Nat) (highest lowest mode keySlot clientKey clientNonce : Nat) (c : Ctx) (d : Dev) : Dev :=
  if !d.opens path then d
  else match hdapVersion highest lowest with
    | none => (d.refuseOpen path seq stBadArg).event c 0x0C01 1 0 0 (highest * 256 + lowest) 0
    | some v =>
      match d.openRealm path sender composition with
      | none => d.refuseOpen path seq stBadArg
      | some realm => d.openIn c path sender seq realm v lowest mode keySlot clientKey clientNonce

/-- OPEN. -/
def execSessionOpen (path : Nat) (opener : Opener) (composition : Option Nat) (highest lowest mode keySlot clientKey clientNonce : Nat) (s : State) : Out :=
  devStep (doSessionOpen path opener.sender opener.seq composition highest lowest mode keySlot clientKey clientNonce) s

/-! ### Sessions that end (R103, R655) -/

/-- CLOSE: the session and its drafts go. A mailbox's session lasts while its function is enabled, and is not closed. -/
def doClose (q : Req) (c : Ctx) (d : Dev) : Dev :=
  d.request c q 0x03 0 0 .none fun d _ =>
    if q.path = 1 then d.answer q 0 0 stBadArg else (d.answer q 0 0 stOk).closeSession q.path q.number

/-- CLOSE. -/
def execClose (q : Req) (s : State) : Out := devStep (doClose q) s

/-- HDAP_SESSION_IDLE: a session without a request for 60 s closes. -/
def doHdapSessionIdle (path number : Nat) (c : Ctx) (d : Dev) : Dev :=
  match d.session? path number with
  | none => d
  | some s => if path != 1 && decide (s.lastTime + 60 * secondTicks ≤ c.now) then d.closeSession path number else d

/-- HDAP_SESSION_IDLE. -/
def execHdapSessionIdle (path number : Nat) (s : State) : Out := devStep (doHdapSessionIdle path number) s

/-- SESSION_COUNTER_LIMIT: a protected session closes before a message counter reaches 2^40. -/
def doSessionCounterLimit (path number : Nat) (_c : Ctx) (d : Dev) : Dev :=
  match d.session? path number with
  | none => d
  | some s => if s.isProtected && (s.msgIn == 2 ^ 40 - 1 || s.msgOut == 2 ^ 40 - 1) then d.closeSession path number else d

/-- SESSION_COUNTER_LIMIT. -/
def execSessionCounterLimit (path number : Nat) (s : State) : Out := devStep (doSessionCounterLimit path number) s

/-! ### The session proof (R656) -/

/-- Does a proof verify: by the key of the named slot, which has the path's role, over T and 0x01? -/
def Dev.proofHolds (d : Dev) (s : Session) (signature : Nat) : Bool :=
  let key := d.cfg 0x5C30 s.keySlot
  key % 2 ^ 456 != 0 && bit key (if s.path = 0 then 456 else 457) && ed448Verifies (key % 2 ^ 456) 65 (s.transcript + 2 ^ 512) signature

/-- 0x5C20.01: one that fails closes the session and is logged under realm 0 (R643). -/
def Dev.actSessionProof (c : Ctx) (d : Dev) (q : Req) (s : Session) (signature : Nat) : Dev :=
  if !s.proofPending then d.answer q 0x5C20 1 stBadArg
  else if d.proofHolds s signature then
    let d := d.modSession q.path q.number fun t => { t with proofPending := false, isProtected := true }
    let d : Dev := if q.path = 2 then d.setFabric { d.fabric with fmSession := 1 } else d
    d.answer q 0x5C20 1 stOk
  else
    ((d.violate c 0 6 s.number 0x11 3 0 (entryKey 0x5C20 1) 0 0xFFFF).answer q 0x5C20 1 stViolation).closeSession q.path q.number

/-- SESSION_PROOF. -/
def doSessionProof (q : Req) (signature : Nat) (c : Ctx) (d : Dev) : Dev :=
  d.action c q 0x5C20 1 signature fun d s => d.actSessionProof c q s signature

/-- SESSION_PROOF. -/
def execSessionProof (q : Req) (signature : Nat) (s : State) : Out := devStep (doSessionProof q signature) s

/-! ### Attestation (R654) -/

/-- The realm digest: block 8 in a device report; else over the realm's record and every RWC value of its domain. -/
def Dev.realmDigest (c : Ctx) (d : Dev) (realm : Nat) : Nat :=
  if realm = 0 then d.measurement c 8
  else
    let mine (e : Nat × DictVal) : Bool :=
      e.1 / 256 == 0x2E00 + realm || (realmEntry (e.1 / 256) && d.slotOwner (e.1 / 256) == realm)
    let m := tabDigestInput (d.dict.cfg.filter mine)
    digest512 m.1 m.2

/-- The *Hyholt attestation report* of a realm. -/
def Dev.attestation (c : Ctx) (d : Dev) (realm nonce : Nat) : Nat :=
  let body := 1 + d.keep.lifeCycle % 256 * 2 ^ 16 + realm % 256 * 2 ^ 24 + d.generation realm % 2 ^ 32 * 2 ^ 32 +
    d.generation 0 % 2 ^ 32 * 2 ^ 64 + c.now % 2 ^ 64 * 2 ^ 96 + nonce % 2 ^ 256 * 2 ^ 160 + d.realmDigest c realm * 2 ^ 416 +
    ofElems 64 ((List.range 9).map fun n => d.measurement c (n + 1)) * 2 ^ 928
  body + d.signAlias2 c 692 body * 2 ^ 5536

/-- 0x5C10.01: the report of the session's realm, which needs fresh randomness to be signed (R648). -/
def Dev.actAttestationNonce (c : Ctx) (d : Dev) (q : Req) (s : Session) (nonce : Nat) : Dev :=
  if d.generatorFailed then d.answer q 0x5C10 1 stFault
  else
    let report := d.attestation c s.realm nonce
    (d.modSession q.path q.number fun t => { t with report := report }).answer q 0x5C10 1 stOk

/-- ATTESTATION_NONCE. -/
def doAttestationNonce (q : Req) (nonce : Nat) (c : Ctx) (d : Dev) : Dev :=
  d.action c q 0x5C10 1 nonce fun d s => d.actAttestationNonce c q s nonce

/-- ATTESTATION_NONCE. -/
def execAttestationNonce (q : Req) (nonce : Nat) (s : State) : Out := devStep (doAttestationNonce q nonce) s

/-! ### SPDM (R653); the codes are those of SPDM 1.2 (PRESUMED, log entry 33) -/

/-- An ERROR response with an error code. -/
def Dev.spdmError (d : Dev) (error : Nat) : Dev := d.send (.spdm 0x7F [error])

/-- The measurement blocks that GET_MEASUREMENTS names: a count alone, all, or one. -/
def Dev.spdmBlocks (c : Ctx) (d : Dev) (param : Nat) : List Nat :=
  if param = 0xFF then (List.range 9).map fun n => sha3Digest (d.measured c (n + 1)).1 (d.measured c (n + 1)).2
  else if inRange 1 9 param then [sha3Digest (d.measured c param).1 (d.measured c param).2] else []

/-- A signed answer: it carries a fresh nonce and a signature with L2 Alias, so it fails with the generator (R648). -/
def Dev.spdmSigned (c : Ctx) (d : Dev) (code nonce : Nat) (fields : List Nat) : Dev :=
  if d.generatorFailed then d.spdmError 0x05
  else
    let (own, d) := d.fresh 32
    d.send (.spdm code (fields ++ [own, d.signAlias2 c 64 (digest512 64 (nonce % 2 ^ 256 + own * 2 ^ 256))]))

/-- The answer to a request of version 1.2. -/
def Dev.spdmAnswer (c : Ctx) (d : Dev) (code param : Nat) (ed448 sha3 : Bool) (nonce : Nat) : Dev :=
  if code = 0xE1 then d.send (.spdm 0x61 [0x16])
  else if code = 0xE3 then
    if !ed448 && !sha3 then d.spdmError 0x01 |>.event c 0x0C01 1 0 1 0 0 else d.send (.spdm 0x63 [b2n ed448, b2n sha3])
  else if code = 0x81 then d.send (.spdm 0x01 [1, sha3Digest (Config.document 0 0) (Config.document 0 1)])
  else if code = 0x82 then (if param = 0 then d.send (.spdm 0x02 [Config.document 0 0, Config.document 0 1]) else d.spdmError 0x01)
  else if code = 0x83 then (if param = 0 then d.spdmSigned c 0x03 nonce [sha3Digest (Config.document 0 0) (Config.document 0 1)]
    else d.spdmError 0x01)
  else if code = 0xE0 then
    (if param = 0 then d.send (.spdm 0x60 [9]) else if param = 0xFF ∨ inRange 1 9 param then d.spdmSigned c 0x60 nonce (d.spdmBlocks c param)
      else d.spdmError 0x01)
  else d.spdmError 0x07

/-- SPDM_REQUEST: on a port whose PF answers. A requester without SPDM 1.2 is refused and logged (R14). -/
def doSpdmRequest (port code param version : Nat) (ed448 sha3 : Bool) (nonce : Nat) (c : Ctx) (d : Dev) : Dev :=
  if !d.fnThere port 0 || d.boot.reloading || d.boot.node == 0x81 then d
  else if code = 0x84 then d.send (.spdm 0x04 [0x12])
  else if version != 0x12 then d.spdmError 0x41 |>.event c 0x0C01 1 0 1 version 0
  else d.spdmAnswer c code param ed448 sha3 nonce

/-- SPDM_REQUEST. -/
def execSpdmRequest (port code param version : Nat) (ed448 sha3 : Bool) (nonce : Nat) (s : State) : Out :=
  devStep (doSpdmRequest port code param version ed448 sha3 nonce) s

/-! ### The fuses: a step that may burn them -/

/-- A command's effect on the device and the fuses, while the device runs. -/
def fuseStep (f : Ctx → Dev → Fuses × Dev) (s : State) : Out :=
  if s.running then .next { s with fuses := (f s.ctx s.dev).1, dev := (f s.ctx s.dev).2 } else .next s

/-! ### The life cycle (R650) -/

/-- Is every component of the running image signed by a root slot? -/
def Dev.runsSlot (d : Dev) (slot : Nat) : Bool :=
  (List.range 6).all fun n => sbSlot (d.boot.running.sig n) == slot

/-- The public key of root slot k, whose digest the fuses hold. -/
def rootKey (k : Nat) : Nat := Config.burned (16 + k) % 2 ^ 456

/-- Does the transition token hold slot 7's signature over SHAKE256(DeviceID public key ‖ 0x04)? -/
def Dev.tokenHolds (c : Ctx) (d : Dev) : Bool :=
  let message := digest512 58 (deviceIdPublic + 4 * 2 ^ 456)
  nth c.fuses.rootDigests 7 != 0 && digest512 57 (rootKey 7) == nth c.fuses.rootDigests 7 &&
    ed448Verifies (rootKey 7) 64 message d.keep.token

/-- *Life-cycle transitions*, with what each also requires. -/
def Dev.transitionListed (c : Ctx) (d : Dev) (target : Nat) : Bool :=
  match c.fuses.lifeCycle, target with
  | 0, 1 => d.runsSlot 6
  | 1, 2 => d.runsSlot 6
  | 1, 3 => d.runsSlot 6
  | 2, 4 => true
  | 3, 4 => d.tokenHolds c
  | n, 5 => decide (n < 5)
  | _, _ => false

/-- What a transition erases: the configuration area, with the kept entries and the operator keys that it holds, and the key table. -/
def Dev.eraseFor (d : Dev) (old target : Nat) : Dev :=
  let n := d.nor
  let n := if target = 5 ∨ target = 4 then { n with cfg := [], gens := [], kept := [] } else n
  d.setNor (if target = 5 ∨ (target = 4 ∧ old = 3) then { n with volumeKeys := [] } else n)

/-- 0x5C00.02: the fuses burned and what the transition erases; it takes effect at the next start. -/
def Dev.actTransition (c : Ctx) (d : Dev) (q : Req) (s : Session) (target : Nat) : Fuses × Dev :=
  if s.realm != 0 || !d.transitionListed c target || d.pins.lcStrap != 1 then
    (c.fuses, (d.violateEntry c s 0x11 0x5C00 2).answer q 0x5C00 2 stViolation)
  else if target = 1 ∧ d.generatorFailed then (c.fuses, d.answer q 0x5C00 2 stFault)
  else
    ({ c.fuses with lifeCycle := target, udsBurned := c.fuses.udsBurned || target == 1 },
      (d.eraseFor c.fuses.lifeCycle target).answer q 0x5C00 2 stOk)

/-- TRANSITION_REQUEST. -/
def doTransitionRequest (q : Req) (target : Nat) (c : Ctx) (d : Dev) : Fuses × Dev :=
  d.actionIn (fun d => (c.fuses, d)) c q 0x5C00 2 target fun d s => d.actTransition c q s target

/-- TRANSITION_REQUEST. -/
def execTransitionRequest (q : Req) (target : Nat) (s : State) : Out := fuseStep (doTransitionRequest q target) s

/-- 0x5C00.03: the token. -/
def Dev.actToken (d : Dev) (q : Req) (value : Nat) : Dev := (d.setKeep { d.keep with token := value }).answer q 0x5C00 3 stOk

/-! ### Security versions and root keys (R660, R661) -/

/-- Do both images hold a verified component of at least a security version? -/
def Dev.bothHave (c : Ctx) (d : Dev) (n v : Nat) : Bool :=
  [0, 1].all fun i => d.componentOk c (d.image i) n && decide (v ≤ sbSvn ((d.image i).sig n))

/-- 0x5C01.03: component in [15:8], value in [7:0]. -/
def Dev.actSecurityVersion (c : Ctx) (d : Dev) (q : Req) (value : Nat) : Fuses × Dev :=
  let n := bits value 15 8
  let v := bits value 7 0
  if n < 8 ∧ v ≤ nth c.fuses.counters n then (c.fuses, d.answer q 0x5C01 3 stOk)
  else if 6 ≤ n ∨ !d.bothHave c n v then (c.fuses, d.answer q 0x5C01 3 stConfigReject)
  else ({ c.fuses with counters := c.fuses.counters.set n v }, d.answer q 0x5C01 3 stOk)

/-- COMMIT_SECURITY_VERSION. -/
def doCommitSecurityVersion (q : Req) (value : Nat) (c : Ctx) (d : Dev) : Fuses × Dev :=
  d.actionIn (fun d => (c.fuses, d)) c q 0x5C01 3 value fun d _ => d.actSecurityVersion c q value

/-- COMMIT_SECURITY_VERSION. -/
def execCommitSecurityVersion (q : Req) (value : Nat) (s : State) : Out := fuseStep (doCommitSecurityVersion q value) s

/-- May slot k be revoked: it signed no component of either image, and another production slot stays valid if it is one? -/
def Dev.mayRevoke (c : Ctx) (d : Dev) (k : Nat) : Bool :=
  decide (k < 8) &&
    !([0, 1].any fun i => (d.image i).len != 0 && (List.range 6).any fun n => sbSlot ((d.image i).sig n) == k) &&
    !(decide (k < 4) && !bit c.fuses.revoked k && !((List.range 4).any fun j => j != k && c.fuses.rootStatus j == 1))

/-- 0x5C01.04: revocation bit k burned. -/
def Dev.actRevoke (c : Ctx) (d : Dev) (q : Req) (k : Nat) : Fuses × Dev :=
  if d.mayRevoke c k then ({ c.fuses with revoked := c.fuses.revoked ||| 2 ^ k }, d.answer q 0x5C01 4 stOk)
  else (c.fuses, d.answer q 0x5C01 4 stConfigReject)

/-- REVOKE_ROOT_KEY. -/
def doRevokeRootKey (q : Req) (slot : Nat) (c : Ctx) (d : Dev) : Fuses × Dev :=
  d.actionIn (fun d => (c.fuses, d)) c q 0x5C01 4 slot fun d _ => d.actRevoke c q slot

/-- REVOKE_ROOT_KEY. -/
def execRevokeRootKey (q : Req) (slot : Nat) (s : State) : Out := fuseStep (doRevokeRootKey q slot) s

end Sys2Proof.Machine
end

