-- ==== Sys2Proof/Machine/Start.lean ====
section
/-! DEFINITION. The node's start: the boot record, the image that runs, MINIMAL mode, restarts, and the reset pins (R663–R678, R689–R692,
R707–R713). -/

namespace Sys2Proof.Machine

/-! ### What a reset leaves (R28, R80, R235, R591, R669) -/

/-- Do a volume's keys survive: wrapped under the storage key of the present life-cycle state, and in the key table (R649)? -/
def Dev.keySurvives (d : Dev) (lifeCycle v : Nat) : Bool := d.keep.lifeCycle == lifeCycle && (tabGet v d.nor.volumeKeys).isSome

/-- A volume whose keys are lost has a new pair, and every block of it is unreadable until it is written (R649, R531; log entry 34). -/
def Flash.loseKeys (f : Flash) (v pair : Nat) : Flash :=
  let k := f.nextKey
  { f with
    nextKey := k + 1
    volumes := tabUpdate v (fun x => { x with key := k, pair := pair }) f.volumes
    blocks := f.blocks.map fun (e : Nat × FlashBlock) =>
      (e.1, if e.2.volume = v then { e.2 with slots := e.2.slots.map fun s => if s.kind = 0 then { s with kind := 3, key := k } else s, summary := none } else e.2)
    checkpoint := f.checkpoint.map fun (e : Nat × MapEntry) => if e.1 / 2 ^ 48 = v then (e.1, .unreadable) else e }

/-- A block of a volume that is gone is erased (R499). -/
def FlashBlock.reclaimed (b : FlashBlock) (kept : Bool) : FlashBlock :=
  if kept || b.state == .free || b.state == .retired then b else { FlashBlock.fresh with erases := b.erases + 1 }

/-- Is a volume's descriptor among what NOR keeps? -/
def Nor.hasVolume (n : Nor) (v : Nat) : Bool := bits (tabValue n.cfg (0x2880 + v) 1).num 7 0 != 0

/-- The volumes that a start finds without keys, each with the new pair that it gets. -/
def Dev.lostVolumes (d : Dev) (lifeCycle : Nat) : List (Nat × Nat) :=
  ((d.flash.volumes.map (·.1)).filter fun v => d.nor.hasVolume v && !d.keySurvives lifeCycle v).mapIdx fun i v => (v, freshPair (Config.free (d.freeCtr + i)))

/-- The key table at a start: the keys of the volumes that are there, and the new ones wrapped. -/
def Dev.startKeys (d : Dev) (lifeCycle : Nat) : Tab Nat :=
  (d.lostVolumes lifeCycle).foldl (fun t e => tabSet e.1 (keyWrap (storageKey lifeCycle) e.2) t) (d.nor.volumeKeys.filter fun e => d.nor.hasVolume e.1)

/-- The media at a start: volumes whose descriptor is gone are gone, and those without keys are unreadable. -/
def Dev.startMedia (d : Dev) (lifeCycle : Nat) : Flash :=
  let kept (v : Nat) : Bool := v == 64 || d.nor.hasVolume v
  let f := d.flash.afterStart
  let volumes := f.volumes.filter fun (e : Nat × Volume) => kept e.1
  let checkpoint := f.checkpoint.filter fun (e : Nat × MapEntry) => kept (e.1 / 2 ^ 48)
  let blocks := f.blocks.map fun (e : Nat × FlashBlock) => (e.1, e.2.reclaimed (kept e.2.volume))
  let f := { f with volumes := volumes, checkpoint := checkpoint, blocks := blocks }
  (d.lostVolumes lifeCycle).foldl (fun f e => f.loseKeys e.1 e.2) f

/-- The clock groups at a start: the default frequency, no higher than the cap. -/
def startMhz (cfg : Tab DictVal) : List Nat := (List.range 36).map fun g =>
  if (List.range 255).any fun r => bit (tabValue cfg (0x2E01 + r) 2).num g then min 1050 (tabValue cfg 0x2010 (g + 1)).num else 600

/-- The package after a reset: everything but NOR, the media, the pins, what the homes of T2 hold, host memory and what has been sent. -/
def Dev.afterReset (c : Ctx) (d : Dev) (powerOn : Bool) : Dev :=
  { Dev.reset with
    pins := { d.pins with alert := false, thermtrip := false }
    nor := { d.nor with volumeKeys := d.startKeys c.fuses.lifeCycle }
    boot := { Boot.reset with began := c.now, lastFailed := d.boot.lastFailed }
    power := { Power.reset with mhz := startMhz d.nor.cfg, changedAt := List.replicate 36 c.now, ackedAt := List.replicate 4 c.now }
    dict := { Dict.reset with cfg := d.nor.cfg, gens := d.nor.gens }
    keep := { Keep.reset with lifeCycle := c.fuses.lifeCycle, zeroised := c.fuses.lifeCycle == 5 }
    fabric := { Fabric.reset with everAligned := d.fabric.everAligned && !powerOn }
    tiers := { Tiers.reset with home := d.tiers.home }
    flash := d.startMedia c.fuses.lifeCycle
    hostMem := d.hostMem
    out := d.out
    freeCtr := d.freeCtr + (d.lostVolumes c.fuses.lifeCycle).length }

/-! ### Start step 1 (R665, R673, R690) -/

/-- A trial start, or the end of a trial whose start failed (R690). -/
def Dev.trialStart (c : Ctx) (d : Dev) : Dev :=
  let b := d.nor.boot
  if !b.trial then d
  else if !b.tried then (d.writeBoot fun b => { b with tried := true }).event c 0x0B03 0 0 b.active 0 0
  else
    let d := d.writeBoot fun b => { b with active := 1 - b.active, trial := false, tried := false }
    (d.modImage b.active fun i => { i with state := 2 }).event c 0x0B05 2 0 b.active 0 0

/-- The components 0 to 5. -/
def components : List Nat := List.range 6

/-- The image chosen, or the MINIMAL cause where there is none (R665). -/
def Dev.chooseImage (c : Ctx) (d : Dev) : Option Nat × Dev :=
  let a := d.nor.boot.active
  let other := 1 - a
  match d.refusedIn c (d.image a) components with
  | none => (none, (d.modImage a fun i => { i with state := if d.nor.boot.trial then 3 else 4 }).setBoot { d.boot with running := d.image a })
  | some n =>
    let d := (d.event c 0x0B02 2 0 a n 0).modImage a fun i => { i with state := 2 }
    if (d.refusedIn c (d.image other) components).isNone then
      let d := d.writeBoot fun b => { b with active := other, trial := false, tried := false }
      (none, d.setBoot { d.boot with running := d.image other })
    else
      let early (i : Nat) : Bool := (d.refusedIn c (d.image i) [0, 1]).isNone
      if early a then (some 4, d.setBoot { d.boot with running := d.image a })
      else if early other then (some 4, d.setBoot { d.boot with running := d.image other })
      else (some 3, d)

/-- MINIMAL mode entered, or ROM recovery (R675, R677). -/
def Dev.enterMinimal (c : Ctx) (d : Dev) (cause : Nat) : Dev :=
  (d.setBoot { d.boot with node := if cause = 3 then 0x81 else 0x80, minimalCause := cause }).event c 0x0104 3 0 cause 0 0

/-- The boot record read at step 1: MINIMAL mode, or one start more that has not succeeded (R673). -/
def Dev.bootCheck (c : Ctx) (d : Dev) (none? : Option Nat) : Dev :=
  let b := d.nor.boot
  let asked := if 3 ≤ b.failedStarts then some 1 else if b.minimalReq then some 2 else none
  let d : Dev := if asked.isSome then d else d.writeBoot fun b => { b with failedStarts := min 15 (b.failedStarts + 1), running := true }
  match if none?.isSome then none? else asked with
  | some cause => d.enterMinimal c cause
  | none => (((d.setBoot { d.boot with node := 3 }).stepEnds c 1).stepEnds c 2)

/-- Start steps 1 and 2 with a start cause: the state that a reset leaves, the boot record, the image, the dictionary and the host ports. In
SCRAPPED the ROM zeroises the Keep and halts (R651). -/
def Dev.beginStart (c : Ctx) (d : Dev) (cause : Nat) : Dev :=
  let d := d.afterReset c (cause ≤ 1)
  if c.fuses.lifeCycle = 5 then d
  else
    let d := d.writeBoot fun b => { b with starts := (b.starts + 1) % 2 ^ 32 }
    let failed := d.nor.boot.failedStarts
    let d := d.setBoot { d.boot with node := 1, cause := cause, failedAtStart := failed }
    let d := d.event c 0x0101 0 0 cause failed d.nor.boot.active
    let (none?, d) := (d.trialStart c).chooseImage c
    let d := d.bootCheck c none?
    (d.trainPort 0).trainPort 1

/-- The start cause of a power-on: after a clean end or not (0x1008.01). -/
def Dev.powerOnCause (d : Dev) : Nat := if d.nor.boot.running then 1 else 0

/-! ### A start that fails (R672) -/

/-- Both host links go down as after a removal (R592). -/
def Dev.loseLinks (c : Ctx) (d : Dev) : Dev := (d.loseLink c 0).loseLink c 1

/-- A start fails: the event with the step and the case, the flush, and the restart. A start that had ended cleanly counts again. -/
def Dev.failStart (c : Ctx) (d : Dev) (case : Nat) : Dev :=
  let step := min d.boot.node 7
  let d := d.setBoot { d.boot with lastFailed := step + 256 * case }
  let d := d.event c 0x0103 2 0 step case 0
  let d : Dev := if d.nor.boot.running then d
    else d.writeBoot fun b => { b with running := true, failedStarts := min 15 (b.failedStarts + 1) }
  ((d.loseLinks c).flushEvents).beginStart c 4

/-- Does a case of R672 come to pass as it is said to: 1 and 3 at step 3, 2 at step 4, 5 after the start limit, scan time apart? -/
def Dev.failureFits (c : Ctx) (d : Dev) (case : Nat) : Bool :=
  !d.isMinimal && match case with
    | 1 => d.boot.node == 3
    | 2 => d.boot.node == 4
    | 3 => d.boot.node == 3
    | 4 => true
    | 5 => decide (d.boot.node < 7) && !(d.flash.mapState == 1 && d.flash.mapSource == 2) && decide (d.boot.began + 600 * secondTicks ≤ c.now)
    | _ => false

/-- START_FAILED. Case 6 is the third watchdog expiry, which WATCHDOG_EXPIRY brings about. -/
def doStartFailed (case : Nat) (c : Ctx) (d : Dev) : Dev := if d.failureFits c case then d.failStart c case else d

/-- START_FAILED. -/
def execStartFailed (case : Nat) (s : State) : Out := devStep (doStartFailed case) s

/-! ### PWRGOOD and SYS_RST_N (R28, R707, R710–R712) -/

/-- The straps as sampled (R711). -/
def Dev.sampleStraps (d : Dev) (lcStrap : Nat) (testStrap : Bool) : Dev :=
  d.setPins { d.pins with lcStrap := lcStrap % 4, testStrap := testStrap }

/-- PWRGOOD_RISE: the time base at 0, and start step 1 unless SYS_RST_N holds the package. -/
def execPwrgoodRise (lcStrap : Nat) (testStrap : Bool) (s : State) : Out :=
  if s.time.powered then .next s
  else
    let time : TimeBase := { count := 0, phase := 0, stepped := false, slewPpm := 0, powered := true }
    let d := s.dev.sampleStraps lcStrap testStrap
    .next { s with time := time, dev := if d.pins.sysRstN then d.beginStart ⟨0, s.fuses⟩ d.powerOnCause else d.afterReset ⟨0, s.fuses⟩ true }

/-- PWRGOOD_FALL: everything stops; NOR and the media keep what was whole (R707). THERMTRIP_N is deasserted (R682). -/
def execPwrgoodFall (s : State) : Out :=
  .next { s with
    time := { s.time with powered := false }
    dev := (s.dev.setBoot { s.dev.boot with node := 0 }).setPins { s.dev.pins with thermtrip := false, alert := false } }

/-- SYS_RST_N_ASSERT on a package: the host links go down, and it is held in reset. -/
def doSysRstNAssert (lowNs : Nat) (running : Bool) (c : Ctx) (d : Dev) : Dev :=
  let (acts, d) := d.pulseActs lowNs
  if !acts || !d.pins.sysRstN then d
  else
    let d : Dev := if running then d.loseLinks c else d
    (d.setPins { d.pins with sysRstN := false }).setBoot { d.boot with node := 0 }

/-- SYS_RST_N_ASSERT: a pin's row. The time base counts on (R28). -/
def execSysRstNAssert (lowNs : Nat) (s : State) : Out := .next { s with dev := doSysRstNAssert lowNs s.running s.ctx s.dev }

/-- SYS_RST_N_RELEASE on a package: a level that was acted on is released, and start step 1 begins; not while THERMTRIP_N stops every
clock. -/
def doSysRstNRelease (lcStrap : Nat) (testStrap powered : Bool) (c : Ctx) (d : Dev) : Dev :=
  if d.pins.sysRstN then d
  else
    let d := d.setPins { d.pins with sysRstN := true }
    if !powered || d.pins.thermtrip then d else (d.sampleStraps lcStrap testStrap).beginStart c 2

/-- SYS_RST_N_RELEASE: a pin's row. -/
def execSysRstNRelease (lcStrap : Nat) (testStrap : Bool) (s : State) : Out :=
  .next { s with dev := doSysRstNRelease lcStrap testStrap s.time.powered s.ctx s.dev }

/-! ### Steps 3 to 7 (R667–R671, R685, R693) -/

/-- Results of the boot self-test by block: 1 passed, 2 marginal, 3 failed (0x5801). -/
def bootResults (failed marginal : List Nat) : List Nat :=
  (List.range 806).map fun b => if failed.contains b then 3 else if marginal.contains b then 2 else 1

/-- The events of the boot self-test (R698's codes). -/
def Dev.bootEvents (c : Ctx) (d : Dev) (failed marginal : List Nat) : Dev :=
  let known (l : List Nat) : List Nat := (List.range 806).filter l.contains
  let d := (known failed).foldl (fun d b =>
    let d := d.event c 0x0A02 2 0 b 0 0
    if b < 64 then d.event c 0x0A03 1 0 b 0 0 else d) d
  ((known marginal).filter fun b => !failed.contains b).foldl (fun d b => d.event c 0x0A01 1 0 b 0 0) d

/-- What a failed block leaves out of service at once: the tiles of a clock group without its PLL, tiles that failed their own check, mesh
links. -/
def Dev.leaveOut (c : Ctx) (d : Dev) (failed mesh tiles : List Nat) : Dev :=
  let groups := (List.range 36).filter fun g => failed.contains (640 + 2 * g) || failed.contains (641 + 2 * g)
  let bad := (List.range 576).filter fun n => tiles.contains n || groups.contains (tileGroup n)
  let d := bad.foldl (fun d n => d.fenceTile c n) d
  let links := (List.range 1104).filter mesh.contains
  let d := links.foldl (fun d l => d.event c 0x0202 1 0 l 0 0) d
  d.setTiles { d.tiles with links := links.map fun l => (l, ⟨2, 0⟩) }

/-- Do all junction sensors of some quarter die fail (R672)? -/
def sensorsLost (failed : List Nat) : Bool := (List.range 4).any fun q => (List.range 8).all fun i => failed.contains (728 + 8 * q + i)

/-- BOOT_SELF_TEST: step 3. A Belfry PLL (712–715), the band-gap reference or a hub link (716–719) fails the start. -/
def doBootSelfTest (failed marginal : List Nat) (bandGapFails : Bool) (meshFailed tilesFailed : List Nat) (c : Ctx) (d : Dev) : Dev :=
  if d.boot.node != 3 then d
  else
    let d := d.setOculus { d.oculus with results := bootResults failed marginal, failedAtStart := failed, next := 0 }
    let d := (d.bootEvents c failed marginal).leaveOut c failed meshFailed tilesFailed
    if bandGapFails || failed.any (inRange 712 719) then d.failStart c 1
    else if sensorsLost failed then d.failStart c 3
    else (d.setBoot { d.boot with node := 4 }).stepEnds c 3

/-- BOOT_SELF_TEST. -/
def execBootSelfTest (failed marginal : List Nat) (bandGapFails : Bool) (meshFailed tilesFailed : List Nat) (s : State) : Out :=
  devStep (doBootSelfTest failed marginal bandGapFails meshFailed tilesFailed) s

/-- The stacks of a training wave: S(8q + 2w) and S(8q + 2w + 1) of every quarter die q. -/
def waveStacks (w : Nat) : List Nat := ((List.range 4).map fun q => [8 * q + 2 * w, 8 * q + 2 * w + 1]).flatten

/-- Can a stack train: its PHY channels and its quarter die's memory-controller PLL passed the boot self-test (R671, R693)? -/
def Dev.stackTrains (d : Dev) (s : Nat) : Bool :=
  !d.oculus.failedAtStart.contains (720 + s / 8) && (List.range 16).all fun ch => !d.oculus.failedAtStart.contains (64 + 16 * s + ch)

/-- The log moved to DRAM at the end of step 4: what NOR holds, then what was logged since the start (R685). -/
def EventLog.intoDram (l : EventLog) (nor : List EventRec) : EventLog :=
  let old := nor.filter fun r => !(l.ring.any fun e => e.1.seq == r.seq)
  { l with ring := (l.ring ++ old.map fun r => (r, true)).take 1048576, inDram := true }

/-- The end of the last wave: a quarter die without a stack fails the start; else the log moves and step 5 begins. -/
def Dev.wavesEnd (c : Ctx) (d : Dev) : Dev :=
  if (List.range 4).any fun q => (List.range 8).all fun i => (d.stack (8 * q + i)).state != 0 then d.failStart c 2
  else ((d.setLog (d.log.intoDram d.nor.events)).setBoot { d.boot with node := 5 }).stepEnds c 4

/-- STACK_TRAINING_WAVE: the wave whose turn it is. A trained stack is zero-filled; one that fails is left out and logged (R671). -/
def doStackTrainingWave (wave : Nat) (failed : List Nat) (c : Ctx) (d : Dev) : Dev :=
  if d.boot.node != 4 || wave != d.boot.waves.length then d
  else
    let d := (waveStacks wave).foldl (fun d s =>
      if failed.contains s || !d.stackTrains s then (d.modStack s fun k => { k with state := 1 }).event c 0x0301 2 0 s 0 0
      else d.modStack s fun k => { k with state := 0 }) d
    let d := d.setBoot { d.boot with waves := d.boot.waves ++ [wave] }
    if wave = 3 then d.wavesEnd c else d

/-- STACK_TRAINING_WAVE. -/
def execStackTrainingWave (wave : Nat) (failed : List Nat) (s : State) : Out := devStep (doStackTrainingWave wave failed) s

/-- The LUN numbers that a group's profile expects on a channel: CES chip enables with LUNS each (*LUN numbers*). -/
def Dev.lunExpected (d : Dev) (lun : Nat) : Bool :=
  let p := d.profile (lunGroup lun)
  mpCell p != 0 && decide (lun % 32 / 4 < mpCes p) && decide (lun % 4 < mpLuns p)

/-- Does a LUN's parameter page report what its group's profile says (R489)? -/
def pageMatches (p : Nat) (a : ParameterPage) : Bool :=
  a.planes == mpPlanes p && a.dataBytes == 16384 && decide (mpSpare p ≤ a.spareBytes) && a.blocks == mpBlocks p &&
    a.pages == mpWordlines p * (mpCell p + 2) && a.bits == mpCell p + 2

/-- The state of an expected LUN after the enumeration (0x2802): absent where it was not found, a mismatch by its parameter page, or not trained;
one of a channel whose PHY failed its boot test does not train. -/
def Dev.enumerated (d : Dev) (luns : List LunAnswer) (lun : Nat) : Nat :=
  match luns.find? fun e => e.lun == lun with
  | none => 1
  | some e =>
    if !pageMatches (d.profile (lunGroup lun)) e.page then 2
    else if d.oculus.failedAtStart.contains (576 + lunChannel lun) || !e.trains then 3 else 0

/-- What the device issues to an expected LUN as it enumerates it: a reset, the ID and the parameter page in SDR timing mode 0, then, where the
page matches, the profile's interface and rate and its training (R488, R489). -/
def Dev.enumerationOf (d : Dev) (luns : List LunAnswer) (lun : Nat) : List Onfi :=
  let p := d.profile (lunGroup lun)
  let s := d.enumerated luns lun
  [.reset, .readId] ++ (if s = 1 then [] else [.readParameterPage]) ++
    (if s = 1 ∨ s = 2 then [] else [.setFeatures (mpMode p) (mpRate p), .zqCalibration, .dccTraining, .dqTraining])

/-- Every active object formats afresh (R669). -/
def Dev.formatAll (d : Dev) : Dev :=
  let d := ((List.range 64).filter fun x => ixKind (d.index x) != 0).foldl (fun d x =>
    d.setSearch { d.search with indexes := tabSet x .fresh d.search.indexes }) d
  let d := ((List.range 64).filter fun t => tbKind (d.table t) != 0).foldl (fun d t =>
    d.setUpdates { d.updates with tables := tabSet t .fresh d.updates.tables }) d
  ((List.range 16).filter fun k => plKind (d.pool k) != 0).foldl (fun d k => d.setKv { d.kv with pools := tabSet k .fresh d.kv.pools }) d

/-- FLASH_ENUMERATION: the LUNs of every group in use; each that is not in service is logged (R490). Objects begin to format. -/
def doFlashEnumeration (luns : List LunAnswer) (c : Ctx) (d : Dev) : Dev :=
  if d.boot.node != 5 || d.flash.mapState != 0 then d
  else
    let all := (List.range 2048).filter d.lunExpected
    let states := all.map fun n => (n, d.enumerated luns n)
    let d := all.foldl (fun e n => e.onfi n (d.enumerationOf luns n)) d
    let d := d.setFlash { d.flash with luns := states, mapState := 1, mapSource := 0, progress := 0, loadFrom := c.now }
    ((states.filter fun e => e.2 != 0).foldl (fun d e => d.event c 0x0507 1 0 e.1 e.2 0) d).formatAll

/-- FLASH_ENUMERATION. -/
def execFlashEnumeration (luns : List LunAnswer) (s : State) : Out := devStep (doFlashEnumeration luns) s

/-- READY changes: the error vector of every function in use sends its message (R588). -/
def Dev.readyChanges (d : Dev) : Dev :=
  ([0, 1].filter d.portUp).foldl (fun d p =>
    ((0 :: vfs).filter fun n => n == 0 || (d.fn p n).enabled).foldl (fun d n => d.errorVector p n) d) d

/-- OPERATIONAL: after fabric training, and after the map has loaded or its scan has ended (R670); READY is then set (R588). -/
def doOperational (c : Ctx) (d : Dev) : Dev :=
  if d.boot.node != 6 || d.flash.mapState != 2 then d
  else
    let d := (d.stepEnds c 6).stepEnds c 7
    ((d.setBoot { d.boot with node := 7, operationalAt := c.now }).event c 0x0102 0 0 (c.now / msTicks) 0 0).readyChanges

/-- OPERATIONAL. -/
def execOperational (s : State) : Out := devStep doOperational s

/-! ### Success and trials (R674, R689, R691) -/

/-- A trial confirmed. -/
def Dev.confirmTrial (c : Ctx) (d : Dev) : Dev :=
  let b := d.nor.boot
  if !b.trial then d
  else ((d.writeBoot fun b => { b with trial := false }).modImage b.active fun i => { i with state := 4 }).event c 0x0B04 0 0 b.active 0 0

/-- START_SUCCESS: 60 s after OPERATIONAL. -/
def doStartSuccess (c : Ctx) (d : Dev) : Dev :=
  if d.boot.node != 7 || d.boot.succeeded || decide (c.now < d.boot.operationalAt + 60 * secondTicks) then d
  else
    let d := (d.setBoot { d.boot with succeeded := true }).writeBoot fun b => { b with failedStarts := 0 }
    if (tabValue d.nor.kept 0x5F05 0).num = 1 then d.confirmTrial c else d

/-- START_SUCCESS. -/
def execStartSuccess (s : State) : Out := devStep doStartSuccess s

/-- 0x5F04.00. -/
def Dev.actConfirm (c : Ctx) (d : Dev) (q : Req) (value : Nat) : Dev :=
  (if value = 1 then d.confirmTrial c else d).answer q 0x5F04 0 stOk

/-- CONFIRM. -/
def doConfirm (q : Req) (value : Nat) (c : Ctx) (d : Dev) : Dev := d.action c q 0x5F04 0 value fun d _ => d.actConfirm c q value

/-- CONFIRM. -/
def execConfirm (q : Req) (value : Nat) (s : State) : Out := devStep (doConfirm q value) s

/-- 0x5F02.00: the image that is not ACTIVE becomes the trial image of the next start, if it is verified. -/
def Dev.actActivate (d : Dev) (q : Req) (value : Nat) : Dev :=
  let other := 1 - d.nor.boot.active
  if value = 0 then d.answer q 0x5F02 0 stOk
  else if (d.image other).state != 1 && (d.image other).state != 4 then d.answer q 0x5F02 0 stBadArg
  else if d.nor.boot.trial then d.answer q 0x5F02 0 stBusy
  else
    ((d.writeBoot fun b => { b with active := other, trial := true, tried := false }).modImage other fun i =>
      { i with state := 3 }).answer q 0x5F02 0 stOk

/-- ACTIVATE. -/
def doActivate (q : Req) (value : Nat) (c : Ctx) (d : Dev) : Dev := d.action c q 0x5F02 0 value fun d _ => d.actActivate q value

/-- ACTIVATE. -/
def execActivate (q : Req) (value : Nat) (s : State) : Out := devStep (doActivate q value) s

/-! ### Restart requests (R678, R692) -/

/-- What a restart request writes to the boot record beside the clean end: MINIMAL_REQ for a value of 2; in MINIMAL mode a value of 1 leaves
one failed start to go (R678). -/
def restartRecord (minimal : Bool) (value : Nat) (b : BootRecord) : BootRecord :=
  if value = 2 then { b with minimalReq := true }
  else if minimal then { b with minimalReq := false, failedStarts := 2 } else b

/-- The restart: the clean shutdown, the answer, the capsules aborted, the log, the boot record, the reset. -/
def Dev.restart (c : Ctx) (d : Dev) (q : Req) (value : Nat) : Dev :=
  let d := (d.cleanShutdown c).2
  let d := d.answer q 0x5F03 0 stOk
  let d := d.capsules.live.foldl (fun d k => d.abortCapsule c k) d
  let d := (d.loseLinks c).cleanEnd c value (restartRecord d.isMinimal value)
  d.beginStart c 3

/-- 0x5F03.00. -/
def Dev.actRestart (c : Ctx) (d : Dev) (q : Req) (value : Nat) : Dev :=
  if value = 0 then d.answer q 0x5F03 0 stOk
  else if 2 < value then d.answer q 0x5F03 0 stConfigReject
  else d.restart c q value

/-- RESTART_REQUEST. -/
def doRestartRequest (q : Req) (value : Nat) (c : Ctx) (d : Dev) : Dev := d.action c q 0x5F03 0 value fun d _ => d.actRestart c q value

/-- RESTART_REQUEST. -/
def execRestartRequest (q : Req) (value : Nat) (s : State) : Out := devStep (doRestartRequest q value) s

/-! ### The Cupola's watchdog (R666) -/

/-- WATCHDOG_EXPIRY: the Cupola reloads; HDAP and fabric sessions close. The third expiry within 10 min fails the start. -/
def doWatchdogExpiry (c : Ctx) (d : Dev) : Dev :=
  if d.boot.node = 0x81 then d
  else
    let l := c.now :: d.boot.expiries.filter fun t => decide (c.now < t + 600 * secondTicks)
    let d := (d.setBoot { d.boot with expiries := l, reloading := true }).event c 0x0105 2 0 l.length 0 0
    if 3 ≤ l.length then d.failStart c 6
    else ((d.dict.sessions.filter fun s => s.path != 1).foldl (fun d s => d.closeSession s.path s.number) d)

/-- WATCHDOG_EXPIRY. -/
def execWatchdogExpiry (s : State) : Out := devStep doWatchdogExpiry s

/-- CUPOLA_RELOAD_COMPLETE. -/
def doCupolaReloadComplete (_c : Ctx) (d : Dev) : Dev := d.setBoot { d.boot with reloading := false }

/-- CUPOLA_RELOAD_COMPLETE. -/
def execCupolaReloadComplete (s : State) : Out := devStep doCupolaReloadComplete s

/-! ### Image packages (R687) -/

/-- The most bytes of a package. -/
def packageLimit : Nat := 40 * 2 ^ 20

/-- The first segment of a package: the region that is not ACTIVE no longer holds an image. -/
def Dev.packageBegins (d : Dev) : Dev := d.modImage (1 - d.nor.boot.active) fun _ => ⟨0, 0, 0⟩

/-- Does another session write a package (R688)? -/
def Dev.packageBusy (d : Dev) (s : Session) : Bool :=
  d.dict.sessions.any fun t => !(t.path == s.path && t.number == s.number) && t.writeSeg.any fun w => w.key == entryKey 0x5F01 0

/-- A whole package: every component verified, the image's state, the event and the result. Which status a refused
package gives is not stated: a free one that is not ST_OK (log entry 1). -/
def Dev.actPackage (c : Ctx) (d : Dev) (q : Req) (v : DictVal) : Dev :=
  let region := 1 - d.nor.boot.active
  let im : FwImage := ⟨v.len, v.num, 1⟩
  if packageLimit < v.len then d.answer q 0x5F01 0 stConfigReject
  else match d.refusedIn c im components with
    | none =>
      let d := ((d.modImage region fun _ => im).setFirmware ⟨stOk, 0xFF⟩).event c 0x0B01 0 0 region 0 0
      d.answer q 0x5F01 0 stOk
    | some n =>
      let (k, d) := d.choose errorStatuses.length
      let st := nth errorStatuses k
      let d := ((d.modImage region fun _ => { im with state := 2 }).setFirmware ⟨st, n⟩).event c 0x0B02 2 0 region n 0
      d.answer q 0x5F01 0 st

end Sys2Proof.Machine
end

