-- ==== Sys2Proof/Machine/Supervise.lean ====
section
/-! DEFINITION. The power supervisor, the sensors, alerts, regulators and the flush of the event log (R150–R153, R206, R679–R682, R686, R703,
R704). -/

namespace Sys2Proof.Machine

/-! ### Readings (R679, R680) -/

/-- A failed sensor's reading. -/
def failedReading : Nat := 0x8000

/-- A temperature in 0.1 °C. -/
def temp (v : Nat) : Int := signed 16 v

/-- The reading of sensor element e, numbered as the Oculus blocks 728 to 805 are: that of a sample, the last value while a slice tests the
sensor (R695), or a failed sensor's. -/
def Dev.sensorReading (d : Dev) (e old new : Nat) : Nat :=
  let r := nth d.oculus.results (728 + e)
  if r = 3 ∨ r = 4 then failedReading else if d.oculus.slice = some (728 + e) then old else new

/-- The readings of `n` elements from element `lo` on. -/
def Dev.sensorReadings (d : Dev) (lo n : Nat) (old new : List Nat) : List Nat :=
  (List.range n).map fun i => d.sensorReading (lo + i) (nth old i) (nth new i)

/-- The rails' setpoints in mV, in rail order: VDD_Qq as last acknowledged, the others as *Supply rails* gives. -/
def Dev.railSetpoint (d : Dev) (i : Nat) : Nat :=
  if i < 4 then nth d.power.ackedMv i else nth [750, 1050, 750, 1800, 750, 1200, 1200, 1800] (i - 4)

/-- Package power in µW: the sum of the rail powers. -/
def railPower (mv ma : List Nat) : Nat := sumOf ((List.range 12).map fun i => nth mv i * nth ma i)

/-- The power samples of the last 1 ms, with the one taken now (R679). -/
def Sensors.recent (s : Sensors) (now microwatts : Nat) : List (Nat × Nat) :=
  (now, microwatts) :: s.samples.filter fun x => decide (now < x.1 + msTicks)

/-- Is the average of the samples above so many W? -/
def Sensors.averageOver (s : Sensors) (watts : Nat) : Bool := decide (1000000 * watts * s.samples.length < sumOf (s.samples.map (·.2)))

/-- Is the average of the samples below so many W? -/
def Sensors.averageBelow (s : Sensors) (watts : Nat) : Bool :=
  s.samples.isEmpty || decide (sumOf (s.samples.map (·.2)) < 1000000 * watts * s.samples.length)

/-- A kept limit of 0x5002. -/
def Dev.sensorLimit (d : Dev) (sub : Nat) : Nat := (tabValue d.nor.kept 0x5002 sub).num

/-- Does a reading of element e lie beyond its warning (0) or critical (1) limit, or, with `back`, not yet past it by the margin that re-arms
the event (R680)? -/
def Dev.beyondLimit (d : Dev) (e level reading : Nat) (back : Bool) : Bool :=
  if reading = failedReading then false
  else if e < 66 then
    let kind := if e < 32 then 0 else if e < 64 then 1 else 2
    let limit := temp (d.sensorLimit (2 * kind + 1 + level))
    if back then decide (limit - 20 < temp reading) else decide (limit ≤ temp reading)
  else
    let set := d.railSetpoint (e - 66)
    let off := max reading set - min reading set
    let pct := d.sensorLimit (7 + level)
    if back then decide ((pct - 1) * set < 100 * off) else decide (pct * set < 100 * off)

/-- One element's limit: its event when it is crossed, and its re-arming (R680). -/
def Dev.checkLimit (c : Ctx) (d : Dev) (e level reading : Nat) : Dev :=
  let key := 2 * e + level
  let was := d.sensors.crossed.contains key
  if was then
    if d.beyondLimit e level reading true then d
    else d.setSensors { d.sensors with crossed := d.sensors.crossed.filter (· != key) }
  else if d.beyondLimit e level reading false then
    (d.setSensors { d.sensors with crossed := key :: d.sensors.crossed }).event c (0x0901 + level) (if level = 0 then 1 else 3) 0 e reading 0
  else d

/-- The readings by element, 0 to 77. -/
def Sensors.element (s : Sensors) (e : Nat) : Nat :=
  if e < 32 then nth s.quarter e else if e < 64 then nth s.stack (e - 32) else if e < 66 then nth s.belfry (e - 64) else nth s.railMv (e - 66)

/-- A junction sensor at 110 °C: the event, flushed at once (R682); it is logged again after the reading has fallen by 2 °C. -/
def Dev.checkJunction (c : Ctx) (d : Dev) (e : Nat) : Dev :=
  let v := nth d.sensors.quarter e
  let hot := v != failedReading && decide (1100 ≤ temp v)
  let was := d.sensors.junction110.contains e
  if hot && !was then
    ((d.setSensors { d.sensors with junction110 := e :: d.sensors.junction110 }).event c 0x0904 3 0 e 0 0).flushEvents
  else if was && (v == failedReading || decide (temp v ≤ 1080)) then
    d.setSensors { d.sensors with junction110 := d.sensors.junction110.filter (· != e) }
  else d

/-- Does a critical sensor condition persist? -/
def Sensors.criticalNow (s : Sensors) : Bool := s.crossed.any fun k => k % 2 == 1

/-- ALERT_N: deasserted once the last critical event has been acknowledged and no critical condition persists (R681). -/
def Dev.checkAlert (d : Dev) : Dev :=
  if d.sensors.unacked || d.sensors.criticalNow then d else d.setPins { d.pins with alert := false }

/-! ### Throttling (R152, R153) -/

/-- The hottest good sensor of a quarter die, in 0.1 °C. -/
def Dev.dieTemp (d : Dev) (q : Nat) : Int :=
  (((List.range 8).map fun i => nth d.sensors.quarter (8 * q + i)).filter (· != failedReading)).foldl (fun m v => max m (temp v)) (-32768)

/-- May a group change frequency now: at most once per 100 µs (R150)? -/
def Dev.mayChange (c : Ctx) (d : Dev) (g : Nat) : Bool := decide (nth d.power.changedAt g + 100 * usTicks ≤ c.now)

/-- A group held at 600 MHz for heat (0) or power (1): the critical event, which asserts ALERT_N, once until the reason ends (R153). One that no realm
owns is at 600 MHz for that. -/
def Dev.noteHeld (c : Ctx) (d : Dev) (reason g : Nat) : Dev :=
  if nth d.power.mhz g ≠ 600 ∨ d.groupOwner g = 0 ∨ d.power.held600.contains (2 * g + reason) then d
  else (d.setPower { d.power with held600 := (2 * g + reason) :: d.power.held600 }).event c 0x0204 3 0 g reason 0

/-- A group lowered for heat or power to a frequency, counted. -/
def Dev.lowerGroup (c : Ctx) (d : Dev) (reason g mhz : Nat) : Dev :=
  let d := d.setFrequency c g mhz
  (d.setPower { d.power with reductions := satAdd 64 d.power.reductions 1 }).noteHeld c reason g

/-- A group throttled: a step of 25 MHz lower, or held at 600 MHz. -/
def Dev.throttle (c : Ctx) (d : Dev) (reason g : Nat) : Dev :=
  let f := nth d.power.mhz g
  if f ≤ 600 then d.noteHeld c reason g
  else if !d.mayChange c g then d
  else d.lowerGroup c reason g (max 600 (f - 25))

/-- The quarter dies that are throttled: from 100 °C until below 98 °C (R152). -/
def Dev.hotDies (d : Dev) : List Nat :=
  (List.range 4).filter fun q => decide (1000 ≤ d.dieTemp q) || (d.power.heldTemp.contains q && decide (980 ≤ d.dieTemp q))

/-- Is a clock group in service: a realm owns it, and some tile of it is not fenced (*Tile states*)? -/
def Dev.groupInService (d : Dev) (g : Nat) : Bool :=
  d.groupOwner g != 0 && (List.range 576).any fun n => tileGroup n == g && !(d.tile n).fenced

/-- Is the package throttled: from an average above 1,400 W until it is below 1,400 W (R153)? -/
def Dev.overPower (d : Dev) : Bool := d.sensors.averageOver 1400 || (d.power.heldPower && !d.sensors.averageBelow 1400)

/-- One round of throttling: the groups of hot dies, and every group in service while the package draws too much. -/
def Dev.throttleAll (c : Ctx) (d : Dev) : Dev :=
  let hot := d.hotDies
  let high := d.overPower
  let d := d.setPower { d.power with
    heldTemp := hot
    heldPower := high
    held600 := d.power.held600.filter fun k => if k % 2 = 0 then hot.contains (groupQuarter (k / 2)) else high }
  let d := ((List.range 36).filter fun g => hot.contains (groupQuarter g)).foldl (fun d g => d.throttle c 0 g) d
  if high then ((List.range 36).filter d.groupInService).foldl (fun d g => d.throttle c 1 g) d else d

/-! ### SENSOR_SAMPLE, THERMTRIP -/

/-- The readings of a sample taken in. -/
def Dev.takeReadings (c : Ctx) (d : Dev) (r : SensorReadings) : Dev :=
  let s := d.sensors
  let mv := d.sensorReadings 66 12 s.railMv r.railMv
  let ma := (List.range 12).map (nth r.railMa)
  let samples := s.recent c.now (railPower ((List.range 12).map (nth r.railMv)) ma)
  let power := sumOf (samples.map (·.2)) / (1000000 * samples.length)
  d.setSensors { s with
    quarter := d.sensorReadings 0 32 s.quarter r.quarter
    stack := d.sensorReadings 32 32 s.stack r.stack
    belfry := d.sensorReadings 64 2 s.belfry r.belfry
    railMv := mv
    railMa := ma
    power := power
    peakPower := max s.peakPower power
    samples := samples }

/-- SENSOR_SAMPLE: readings, limits, alerts, thermal holds of stacks (R206), throttling. -/
def doSensorSample (readings : SensorReadings) (c : Ctx) (d : Dev) : Dev :=
  let d := d.takeReadings c readings
  let d := (List.range 78).foldl (fun d e => (d.checkLimit c e 0 (d.sensors.element e)).checkLimit c e 1 (d.sensors.element e)) d
  let d := (List.range 32).foldl (fun d e => d.checkJunction c e) d
  let d := (List.range 32).foldl (fun d s =>
    let v := nth d.sensors.stack s
    if v = failedReading then d else (d.thermalHold s (temp v).toNat).grantWaiting c s fun _ => true) d
  (d.throttleAll c).checkAlert

/-- SENSOR_SAMPLE. -/
def execSensorSample (readings : SensorReadings) (s : State) : Out := devStep (doSensorSample readings) s

/-- THERMTRIP: a quarter-die junction sensor at 115 °C; the 110 °C event, if it has not been logged, and every clock stops (R682). -/
def doThermtrip (sensor : Nat) (c : Ctx) (d : Dev) : Dev :=
  let d := if d.sensors.junction110.contains sensor then d
    else ((d.setSensors { d.sensors with junction110 := sensor :: d.sensors.junction110 }).event c 0x0904 3 0 sensor 0 0).flushEvents
  d.setPins { d.pins with thermtrip := true }

/-- THERMTRIP. -/
def execThermtrip (sensor : Nat) (s : State) : Out := devStep (doThermtrip sensor) s

/-! ### ALERT_ACKNOWLEDGE, PMBUS_POLL, EVENT_LOG_FLUSH -/

/-- 0x5004.02. -/
def Dev.actAlert (d : Dev) (q : Req) (value : Nat) : Dev :=
  (if value = 1 then (d.setSensors { d.sensors with unacked := false }).checkAlert else d).answer q 0x5004 2 stOk

/-- ALERT_ACKNOWLEDGE. -/
def doAlertAcknowledge (q : Req) (value : Nat) (c : Ctx) (d : Dev) : Dev := d.action c q 0x5004 2 value fun d _ => d.actAlert q value

/-- ALERT_ACKNOWLEDGE. -/
def execAlertAcknowledge (q : Req) (value : Nat) (s : State) : Out := devStep (doAlertAcknowledge q value) s

/-- The PMBus address of a regulator slot; 0 where the slot is unused. -/
def Dev.regulatorAddress (d : Dev) (slot : Nat) : Nat := elem (tabValue d.nor.kept 0x5003 1).num 1 slot

/-- The fault bits of STATUS_WORD: VOUT_OV, IOUT_OC and VIN_UV (PRESUMED from PMBus 1.3, log entry 35). -/
def faultBits : Nat := 0x0038

/-- PMBUS_POLL: a configured slot's STATUS_WORD; a fault bit that was not set before is logged. -/
def doPmbusPoll (slot statusWord : Nat) (c : Ctx) (d : Dev) : Dev :=
  let a := d.regulatorAddress slot
  if a = 0 || 16 ≤ slot then d
  else
    let old := nth d.sensors.regulator slot
    let d := d.setSensors { d.sensors with regulator := d.sensors.regulator.set slot (statusWord % 65536) }
    if (statusWord &&& faultBits) &&& (65535 - old) != 0 then d.event c 0x0903 3 0 a (statusWord % 65536) 0 else d

/-- PMBUS_POLL. -/
def execPmbusPoll (slot statusWord : Nat) (s : State) : Out := devStep (doPmbusPoll slot statusWord) s

/-- EVENT_LOG_FLUSH: the records NOR does not hold are written, at the flush interval. -/
def execEventLogFlush (s : State) : Out := devStep (fun _ d => d.flushEvents) s

/-! ### FREQUENCY_CHANGE (R150–R153, R703, R704) -/

/-- The voltage that a frequency needs on a quarter die, by the fused curve, in mV: 600 to 800 (log entry 4). -/
def curveMv (q mhz : Nat) : Nat := if mhz ≤ 600 then 600 else 600 + Config.burned (4096 * (q + 1) + mhz) % 201

/-- May the supervisor raise a group to a frequency, the voltage apart: ownership, power and temperature (R151–R153)? -/
def Dev.mayRaise (d : Dev) (g mhz : Nat) : Bool :=
  let t := d.dieTemp (groupQuarter g)
  decide (t < 980) && !d.overPower && decide (mhz ≤ d.groupLimit g) &&
    (decide (mhz ≤ 1050) || (d.sensors.averageBelow (d.cfg 0x2012 1) && decide (t < ((10 * d.cfg 0x2012 2 : Nat) : Int))))

/-- Does a quarter die's rail have a regulator that the supervisor controls? Without one the die keeps 0.75 V and at most 1,050 MHz. -/
def Dev.railControlled (d : Dev) (q : Nat) : Bool := d.regulatorAddress q != 0

/-- The voltage that a quarter die's groups need as they run. -/
def Dev.neededMv (d : Dev) (q : Nat) : Nat :=
  (((List.range 36).filter fun g => groupQuarter g == q).map fun g => curveMv q (nth d.power.mhz g)).foldl max 600

/-- VDD_Qq set (R703): acknowledged, a raise waits for the settling time; not, the fault is logged (R704). -/
def Dev.setVoltage (c : Ctx) (d : Dev) (q mv : Nat) (acked : Bool) : Dev :=
  let d := d.send (.vout q mv)
  if acked then d.setPower { d.power with ackedMv := d.power.ackedMv.set q mv, ackedAt := d.power.ackedAt.set q c.now }
  else d.event c 0x0903 3 0 (d.regulatorAddress q) (nth d.sensors.regulator q) 0

/-- VDD_Qq lowered to what its groups need, once every one of them has come down (log entry 105). -/
def Dev.relaxVoltage (c : Ctx) (d : Dev) (q : Nat) (acked : Bool) : Dev :=
  if d.railControlled q && decide (d.neededMv q < nth d.power.ackedMv q) then d.setVoltage c q (d.neededMv q) acked else d

/-- A group raised: with a controlled rail, only once the voltage it needs has been acknowledged and has settled. -/
def Dev.raiseGroup (c : Ctx) (d : Dev) (g mhz : Nat) (acked : Bool) : Dev :=
  let q := groupQuarter g
  if !d.railControlled q then (if mhz ≤ 1050 then d.setFrequency c g mhz else d)
  else if nth d.power.ackedMv q < curveMv q mhz then d.setVoltage c q (curveMv q mhz) acked
  else if nth d.power.ackedAt q + 50 * usTicks ≤ c.now then d.setFrequency c g mhz
  else d

/-- FREQUENCY_CHANGE: to a step inside the range and the cap, at most once per 100 µs. A raise that needs more voltage sets it first, and the
group is raised once the regulator has settled. -/
def doFrequencyChange (group mhz : Nat) (acked : Bool) (c : Ctx) (d : Dev) : Dev :=
  let q := groupQuarter group
  let now := nth d.power.mhz group
  if 36 ≤ group || !inRange 600 1150 mhz || mhz % 25 != 0 || decide (d.cfg 0x2010 (group + 1) < mhz) || mhz == now || !d.mayChange c group then d
  else if mhz < now then
    (if d.power.heldTemp.contains q then d.lowerGroup c 0 group mhz
      else if d.power.heldPower then d.lowerGroup c 1 group mhz
      else d.setFrequency c group mhz).relaxVoltage c q acked
  else if d.mayRaise group mhz then d.raiseGroup c group mhz acked
  else d

/-- FREQUENCY_CHANGE. -/
def execFrequencyChange (group mhz : Nat) (acked : Bool) (s : State) : Out := devStep (doFrequencyChange group mhz acked) s

end Sys2Proof.Machine
end

