-- ==== Sys2Proof/Machine/Dictionary.lean ====
section
/-! DEFINITION. READ, WRITE and their segmented forms (R75–R84, R102, R104, R111, R231, R687). -/

namespace Sys2Proof.Machine

/-! ### READ, READ_SEG -/

/-- A value as the answer to a read. -/
def Dev.answerValue (d : Dev) (q : Req) (idx sub : Nat) (last : Bool) (v : DictVal) : Dev :=
  d.respond q.path q.number ⟨stOk, q.seq, idx, sub, last, v.len, v.num, 0⟩

/-- An access refused, or its entry: the rows of *Access results* before the value (R78). -/
def Dev.accessed (d : Dev) (s : Session) (idx sub : Nat) (write : Bool) : Nat × Option EntryRow :=
  let st := d.accessStatus s idx sub write
  (st, if st = stOk then entryAt idx sub else none)

/-- READ: an entry of at most 1,024 bytes (R75). Its response sets LAST, which the rules state of segments alone (DESIGN CHOICE, log entry 108). -/
def doRead (q : Req) (idx sub : Nat) (c : Ctx) (d : Dev) : Dev :=
  d.request c q 0x10 idx sub .none fun d s =>
    match d.accessed s (nativeOf idx sub) sub false with
    | (_, some r) =>
      if r.segmented then d.refuseEntry c q s 0x10 idx sub stBadArg
      else
        let v := d.readEntry c s q r (nativeOf idx sub) sub
        d.answerValue q idx sub true ⟨v.len, aliasRead idx sub v.num⟩
    | (st, none) => d.refuseEntry c q s 0x10 idx sub st

/-- READ. -/
def execRead (q : Req) (idx sub : Nat) (s : State) : Out := devStep (doRead q idx sub) s

/-- Bytes of a segment. -/
def segBytes : Nat := 1024

/-- May a session at a version use a segment number (R111)? -/
def segmentReaches (version seg : Nat) : Bool := decide (0x11 ≤ version) && (decide (seg < 65536) || decide (0x12 ≤ version))

/-- A session's buffers with one in place of its entry's. -/
def putSegment (b : SegBuffer) (l : List SegBuffer) : List SegBuffer := b :: l.filter fun x => x.key != b.key

/-- A session's buffers without an entry's. -/
def dropSegment (key : Nat) (l : List SegBuffer) : List SegBuffer := l.filter fun x => x.key != key

/-- The buffer of an entry. -/
def segmentOfKey (key : Nat) (l : List SegBuffer) : Option SegBuffer := l.find? fun x => x.key == key

/-- The value that a segmented read goes on with: the one at its first segment (R79). A read-only entry may be read as it stands now (free). -/
def Dev.segmentSource (c : Ctx) (d : Dev) (q : Req) (s : Session) (r : EntryRow) (idx sub seg : Nat) : DictVal × Dev :=
  let now := d.readEntry c s q r idx sub
  match segmentOfKey (entryKey idx sub) s.readSeg with
  | some b =>
    if seg = 0 then (now, d)
    else if r.access = .ro then (let (k, d) := d.choose 2; (if k = 1 then now else ⟨b.len, b.num⟩, d))
    else (⟨b.len, b.num⟩, d)
  | none => (now, d)

/-- A segment of a native value answered, with LAST on the final one. Reading the last segment of the violation records marks them read
(R645). -/
def Dev.answerSegment (d : Dev) (q : Req) (s : Session) (idx sub seg : Nat) (v : DictVal) : Dev :=
  let key := entryKey (nativeOf idx sub) sub
  let last := decide (v.len ≤ segBytes * (seg + 1))
  let d := d.modSession q.path q.number fun t => { t with
    readSeg := if last then dropSegment key t.readSeg else putSegment ⟨key, seg + 1, v.len, v.num⟩ t.readSeg }
  let realm := s.select 0x5140 3
  let d : Dev := if idx = 0x5140 ∧ last then
      d.setViolations (tabUpdate realm (fun l => { l with unread := 0 }) d.violations)
    else d
  d.answerValue q idx sub last ⟨min segBytes (v.len - segBytes * seg), byteField (aliasRead idx sub v.num) (segBytes * seg) segBytes⟩

/-- READ_SEG. The rows of *Access results* come before the refusal of R111 (DESIGN CHOICE, log entry 123). -/
def doReadSeg (q : Req) (idx sub seg : Nat) (c : Ctx) (d : Dev) : Dev :=
  d.request c q 0x12 idx sub ⟨seg, 0, 0⟩ fun d s =>
    match d.accessed s (nativeOf idx sub) sub false with
    | (_, some r) =>
      if !segmentReaches s.version seg then d.refuseEntry c q s 0x12 idx sub stBadArg
      else
        let (v, d) := d.segmentSource c q s r (nativeOf idx sub) sub seg
        if seg ≠ 0 ∧ v.len ≤ segBytes * seg then d.refuseEntry c q s 0x12 idx sub stBadArg
        else d.answerSegment q s idx sub seg v
    | (st, none) => d.refuseEntry c q s 0x12 idx sub st

/-- READ_SEG. -/
def execReadSeg (q : Req) (idx sub seg : Nat) (s : State) : Out := devStep (doReadSeg q idx sub seg) s

/-! ### The effect of a written value -/

/-- What the NOR devices answer to an action that comes as a plain WRITE: a free choice (log entry 1). -/
def Dev.drawAck (d : Dev) : NorAck × Dev :=
  let (k, d) := d.choose 4
  (⟨k % 2 == 0, k / 2 == 0⟩, d)

/-- The actions of one index each. -/
def Dev.actFixed (c : Ctx) (d : Dev) (q : Req) (s : Session) (idx sub : Nat) (v : DictVal) : Dev :=
  match idx, sub with
  | 0x1804, _ => d.actDraftDiscard q s v.num
  | 0x1806, _ => let (room, d) := d.drawAck; d.validation q s v.num room
  | 0x1810, _ => let (room, d) := d.drawAck; let (ack, d) := d.drawAck; d.commit c q s v.num room ack
  | 0x2002, _ => let (k, d) := d.choose 2; d.actTileUnfence q v.num (k == 0)
  | 0x23F0, _ => d.actCounterClear q s v.num
  | 0x2462, _ => d.actPoolFlush q s v.num
  | 0x2840, _ => d.actCleanShutdown c q v.num
  | 0x2B80, _ => d.actReclaim c q v.num
  | 0x3304, _ => d.actPlanUnload q s v.num
  | 0x3306, _ => d.actPlanImage c q s v
  | 0x5004, _ => d.actAlert q v.num
  | 0x5820, _ => d.actProgram c q s v.num
  | 0x5C00, _ => d.actToken q v.num
  | 0x5C10, _ => d.actAttestationNonce c q s v.num
  | 0x5C20, _ => d.actSessionProof c q s v.num
  | 0x5F01, _ => d.actPackage c q v
  | 0x5F02, _ => d.actActivate q v.num
  | 0x5F03, _ => d.actRestart c q v.num
  | 0x5F04, _ => d.actConfirm c q v.num
  | _, _ => d.answer q idx sub stBadArg

/-- The actions of an object's slot. -/
def Dev.actSlot (d : Dev) (q : Req) (idx sub : Nat) (v : DictVal) : Dev :=
  if inRange 0x3020 0x305F idx then Dev.answerAction (d.openIndex (idx - 0x3020) v.num) q idx sub
  else if inRange 0x3060 0x309F idx then Dev.answerAction (d.startPasses (idx - 0x3060) v.num) q idx sub
  else if sub = 5 then Dev.answerAction (d.resetSequence (idx - 0x3200) v.num) q idx sub
  else Dev.answerAction (d.tokenWrite (idx - 0x3200) v.num) q idx sub

/-- A written WO entry. -/
def Dev.actEntry (c : Ctx) (d : Dev) (q : Req) (s : Session) (idx sub : Nat) (v : DictVal) : Fuses × Dev :=
  if idx = 0x5C00 ∧ sub = 2 then d.actTransition c q s v.num
  else if idx = 0x5C01 ∧ sub = 3 then d.actSecurityVersion c q v.num
  else if idx = 0x5C01 ∧ sub = 4 then d.actRevoke c q v.num
  else if inRange 0x3020 0x309F idx || inRange 0x3200 0x320F idx then (c.fuses, d.actSlot q idx sub v)
  else (c.fuses, d.actFixed c q s idx sub v)

/-- A written RW entry: a selection of the session, or a value kept in NOR (R80, R700). A realm's session selects its own domain alone
(R96). -/
def Dev.putRw (c : Ctx) (d : Dev) (q : Req) (s : Session) (op : Nat) (r : EntryRow) (idx sub : Nat) (v : DictVal) : Dev :=
  if idx = 0x1800 ∧ s.realm ≠ 0 ∧ v.num ≠ s.realm then d.refuseEntry c q s op idx sub stViolation
  else if !d.inEntryRange d r 0 idx sub v then d.refuseEntry c q s op idx sub stConfigReject
  else if r.access = .rwKept then (d.setNor { d.nor with kept := tabSet (entryKey idx sub) v d.nor.kept }).answer q idx sub stOk
  else (d.putSelection s idx sub v.num).answer q idx sub stOk

/-- The effect of a written value by its entry's access right (R77), of an entry that the request names as `shown`. -/
def Dev.putEntry (c : Ctx) (d : Dev) (q : Req) (s : Session) (op shown : Nat) (r : EntryRow) (idx sub : Nat) (v : DictVal) : Fuses × Dev :=
  match r.access with
  | .wo => d.actEntry c q s idx sub v
  | .rwc =>
    let (st, d) := d.draftWrite s r idx sub v
    (c.fuses, d.refuseEntry c q s op shown sub st)
  | _ => (c.fuses, d.putRw c q s op r idx sub v)

/-! ### WRITE, WRITE_SEG -/

/-- WRITE: an entry of at most 1,024 bytes; a value without an equivalent is refused by an alias (R82). -/
def doWrite (q : Req) (idx sub len value : Nat) (c : Ctx) (d : Dev) : Fuses × Dev :=
  let ret (d : Dev) : Fuses × Dev := (c.fuses, d)
  d.requestIn ret c q 0x11 idx sub ⟨0, len, value⟩ fun d s =>
    let i := nativeOf idx sub
    d.checkedWrite ret c q s 0x11 idx i sub ⟨len, value⟩ fun r d =>
      if r.segmented then ret (d.refuseEntry c q s 0x11 idx sub stBadArg)
      else match aliasWrite idx value with
        | some n => d.putEntry c q s 0x11 idx r i sub ⟨len, n⟩
        | none => ret (d.refuseEntry c q s 0x11 idx sub stConfigReject)

/-- WRITE. -/
def execWrite (q : Req) (idx sub len value : Nat) (s : State) : Out := fuseStep (doWrite q idx sub len value) s

/-- The bytes so far with one segment more, where it is the one that comes next. -/
def Session.gather (s : Session) (key seg len value : Nat) : Option SegBuffer :=
  let b : Option SegBuffer := if seg = 0 then some ⟨key, 0, 0, 0⟩ else (segmentOfKey key s.writeSeg).filter fun b => b.next == seg
  b.map fun b => ⟨key, seg + 1, b.len + len, b.num + value % 2 ^ (8 * len) * 2 ^ (8 * b.len)⟩

/-- One segment of a write (R102): segments come in order and are whole but for the one marked LAST, at which the value is written. -/
def doSegment (q : Req) (idx sub seg len value : Nat) (c : Ctx) (d : Dev) : Fuses × Dev :=
  let ret (d : Dev) : Fuses × Dev := (c.fuses, d)
  let last := bit q.flags 0
  d.requestIn ret c q 0x13 idx sub ⟨seg, len, value⟩ fun d s =>
    let i := nativeOf idx sub
    let refuse (d : Dev) (st : Nat) : Fuses × Dev := ret (d.refuseEntry c q s 0x13 idx sub st)
    match d.accessed s i sub true with
    | (st, none) => refuse d st
    | (_, some r) =>
      if !segmentReaches s.version seg || decide (segBytes < len) || (!last && len != segBytes) then refuse d stBadArg
      else if i = 0x5F01 ∧ d.packageBusy s then refuse d stBusy
      else match s.gather (entryKey i sub) seg len value with
        | none => refuse d stBadArg
        | some b =>
          let d : Dev := if i = 0x5F01 ∧ seg = 0 then d.packageBegins else d
          let d := d.modSession q.path q.number fun t => { t with
            writeSeg := if last then dropSegment b.key t.writeSeg else putSegment b t.writeSeg }
          if !last then ret (d.answer q idx sub stOk)
          else if !r.lengthOk ⟨b.len, b.num⟩ then refuse d stBadArg
          else if r.access = .wo ∧ !d.inEntryRange d r 0 i sub ⟨b.len, b.num⟩ then refuse d stConfigReject
          else match aliasWrite idx b.num with
            | some n => d.putEntry c q s 0x13 idx r i sub ⟨b.len, n⟩
            | none => refuse d stConfigReject

/-- WRITE_SEG. -/
def execWriteSeg (q : Req) (idx sub seg len value : Nat) (s : State) : Out := fuseStep (doSegment q idx sub seg len value) s

/-- The request of a segment marked LAST. -/
def withLast (q : Req) : Req := { q with flags := q.flags ||| 1 }

/-- PLAN_IMAGE: the last segment of 0x3306.00. -/
def execPlanImage (q : Req) (seg len value : Nat) (s : State) : Out := fuseStep (doSegment (withLast q) 0x3306 0 seg len value) s

/-- IMAGE_PACKAGE: the last segment of 0x5F01.00. -/
def execImagePackage (q : Req) (seg len value : Nat) (s : State) : Out := fuseStep (doSegment (withLast q) 0x5F01 0 seg len value) s

end Sys2Proof.Machine
end

