-- ==== Sys2Proof/Machine/Domain.lean ====
section
/-! DEFINITION. A node's place in its domain: announcing, identity, and the alignment of the time base (R28, R608–R610, R628, R629). -/

namespace Sys2Proof.Machine

/-! ### ANNOUNCE, TOPOLOGY, IDENTITY (R605, R628, R629) -/

/-- ANNOUNCE: until an IDENTITY arrives; a node whose map is still loading or rebuilding announces once it is OPERATIONAL. -/
def doAnnounce (c : Ctx) (d : Dev) : Dev :=
  if d.fabric.domain != 1 || (d.boot.node != 7 && d.flash.mapState != 2) then d
  else
    let f := d.fabric
    (d.setFabric { f with announces := satAdd 32 f.announces 1, announceAt := c.now }).afp 0x10 0xFFFF (d.announcement c)

/-- ANNOUNCE. -/
def execAnnounce (s : State) : Out := devStep doAnnounce s

/-- *Topology place* of rack, slot and failure domain (0x2A30.03). -/
def placeOf (rack slot failureDomain : Nat) : Nat := rack % 256 * 2 ^ 24 + slot % 256 * 2 ^ 16 + failureDomain % 65536

/-- TOPOLOGY: what a switch, which needs no identity of a node (log entry 120), says of this node's place and of its links' neighbours. -/
def doTopology (h : Afp) (rack slot failureDomain : Nat) (neighbours : List Nat) (c : Ctx) (d : Dev) : Dev :=
  d.receiveFrom c h true fun d =>
    d.setFabric { d.fabric with place := placeOf rack slot failureDomain, neighbours := neighbours }

/-- TOPOLOGY. -/
def execTopology (h : Afp) (rack slot failureDomain : Nat) (neighbours : List Nat) (s : State) : Out :=
  devStep (doTopology h rack slot failureDomain neighbours) s

/-- IDENTITY: the manager's identifier, place and time reference; it is acknowledged and the time exchange starts. A node that is its own
reference is aligned. -/
def doIdentity (h : Afp) (node place timeReference : Nat) (c : Ctx) (d : Dev) : Dev :=
  d.receive c h true fun d =>
    if node = 0 ∨ 4095 < node then d.ackManager h stBadArg d.fabric.node
    else
      let f := d.fabric
      let own := timeReference == node
      let aligned := own || (f.aligned && f.timeRef == timeReference)
      (d.setFabric { f with
        node := node, place := place, timeRef := timeReference, domain := max f.domain 2, exchangeAt := c.now, aligned := aligned
        everAligned := f.everAligned || own, offsetNs := if own then 0 else f.offsetNs }).ackManager h stOk node

/-- IDENTITY. -/
def execIdentity (h : Afp) (node place timeReference : Nat) (s : State) : Out :=
  if s.running then
    let d := doIdentity h node place timeReference s.ctx s.dev
    -- a node that its own count aligns has had its first alignment: it never steps after (R28)
    .next { s with dev := d, time := { s.time with stepped := s.time.stepped || d.fabric.aligned } }
  else .next s

/-! ### Time (R608–R610) -/

/-- TIME_EXCHANGE: once every 1 ms an identified node sends TIME_REQ to its reference. -/
def doTimeExchange (c : Ctx) (d : Dev) : Dev :=
  let f := d.fabric
  if f.domain < 2 || f.timeRef = 0 || f.timeRef = f.node || decide (c.now < f.exchangeAt) then d
  else (d.setFabric { f with exchangeAt := c.now + msTicks }).afp 0x04 f.timeRef [0, c.now, 0]

/-- TIME_EXCHANGE. -/
def execTimeExchange (s : State) : Out := devStep doTimeExchange s

/-- TIME_REQ: the reference answers with its receive and send times, and the correction that the request gathered. -/
def doTimeReq (h : Afp) (sent correction : Nat) (c : Ctx) (d : Dev) : Dev :=
  d.receive c h false fun d => d.afp 0x04 h.src [1, sent, c.now, c.now, correction, 0]

/-- TIME_REQ. -/
def execTimeReq (h : Afp) (sent correction : Nat) (s : State) : Out := devStep (doTimeReq h sent correction) s

/-- Twice what the reference's time base is ahead of this node's, in 1/16 ns, without the switches' corrections (R608). -/
def doubleLead (sent refReceived refSent now requestCorrection correction : Nat) : Int :=
  160 * (((refReceived : Int) - sent) + ((refSent : Int) - now)) - requestCorrection + correction

/-- This node's offset from its reference in ns, rounded down. -/
def offsetOf (lead2 : Int) : Int := (-lead2) / 32

/-- What a response does to the time base (R28, R609): the first after a power-on steps it forward where it is more than 20 ticks behind;
every other correction is a slew of at most 200 ppm, and −200 ppm for a node that is ahead. -/
def TimeBase.correct (t : TimeBase) (lead2 : Int) (rate : Nat) : TimeBase :=
  if !t.stepped && decide (6400 < lead2) then
    { t with count := (t.count + (lead2 / 320).toNat) % 2 ^ 64, stepped := true, slewPpm := 0 }
  else { t with stepped := true, slewPpm := if lead2 < 0 then -200 else if lead2 = 0 then 0 else ((1 + rate % 200 : Nat) : Int) }

/-- Does a TIME_RESP count: it arrives, is well formed, and comes from the reference? -/
def Dev.fromReference (d : Dev) (h : Afp) : Bool :=
  (d.link h.link).carries && afpFormed h && h.src == d.fabric.timeRef && d.fabric.timeRef != 0

/-- A response recorded: the exchange, the offset last measured, and whether the node is aligned; after a step it is. -/
def Dev.recordOffset (d : Dev) (lead2 : Int) (stepped : Bool) : Dev :=
  let o := offsetOf lead2
  let aligned := stepped || decide (-3200 ≤ lead2 ∧ lead2 ≤ 3200)
  d.setFabric { d.fabric with
    exchanges := satAdd 64 d.fabric.exchanges 1, offsetNs := max (-2147483648) (min 2147483647 o)
    aligned := aligned, everAligned := d.fabric.everAligned || aligned }

/-- TIME_RESP at a device that runs: the step or slew, and the record of it. -/
def timeResponse (h : Afp) (sent refReceived refSent requestCorrection correction : Nat) (s : State) : State :=
  let lead2 := doubleLead sent refReceived refSent s.time.count requestCorrection correction
  let counts := s.dev.fromReference h
  let (rate, d) := s.dev.draw
  let steps := !s.time.stepped && decide (6400 < lead2)
  let d := d.receive s.ctx h false fun d => if counts then d.recordOffset lead2 steps else d
  { s with time := if counts then s.time.correct lead2 rate else s.time, dev := d }

/-- TIME_RESP. -/
def execTimeResp (h : Afp) (sent refReceived refSent requestCorrection correction : Nat) (s : State) : Out :=
  if s.running then .next (timeResponse h sent refReceived refSent requestCorrection correction s) else .next s

end Sys2Proof.Machine
end

