-- ==== Sys2Proof/Machine/Dispatch.lean ====
section
/-! DEFINITION. One arm per command: its meaning. -/

namespace Sys2Proof.Machine

-- Every command is a row of spec/opcode_table.json.
def exec (i : Instr) (s : State) : Host.Outcome State Fault Refusal :=
  match i with
  | .pwrgoodRise lcStrap testStrap => Sys2Proof.Machine.execPwrgoodRise lcStrap testStrap s
  | .pwrgoodFall => Sys2Proof.Machine.execPwrgoodFall s
  | .sysRstNAssert lowNs => Sys2Proof.Machine.execSysRstNAssert lowNs s
  | .sysRstNRelease lcStrap testStrap => Sys2Proof.Machine.execSysRstNRelease lcStrap testStrap s
  | .perstNAssert port lowNs => Sys2Proof.Machine.execPerstNAssert port lowNs s
  | .perstNRelease port => Sys2Proof.Machine.execPerstNRelease port s
  | .pcieLinkUp port width speed commonClock => Sys2Proof.Machine.execPcieLinkUp port width speed commonClock s
  | .surpriseRemoval port => Sys2Proof.Machine.execSurpriseRemoval port s
  | .functionLevelReset port function => Sys2Proof.Machine.execFunctionLevelReset port function s
  | .bootSelfTest failed marginal bandGapFails meshFailed tilesFailed => Sys2Proof.Machine.execBootSelfTest failed marginal bandGapFails meshFailed tilesFailed s
  | .stackTrainingWave wave failed => Sys2Proof.Machine.execStackTrainingWave wave failed s
  | .flashEnumeration luns => Sys2Proof.Machine.execFlashEnumeration luns s
  | .mapLoad checkpointReads => Sys2Proof.Machine.execMapLoad checkpointReads s
  | .mapRebuildComplete => Sys2Proof.Machine.execMapRebuildComplete s
  | .operational => Sys2Proof.Machine.execOperational s
  | .startSuccess => Sys2Proof.Machine.execStartSuccess s
  | .startFailed case => Sys2Proof.Machine.execStartFailed case s
  | .watchdogExpiry => Sys2Proof.Machine.execWatchdogExpiry s
  | .cupolaReloadComplete => Sys2Proof.Machine.execCupolaReloadComplete s
  | .sensorSample readings => Sys2Proof.Machine.execSensorSample readings s
  | .thermtrip sensor => Sys2Proof.Machine.execThermtrip sensor s
  | .pmbusPoll slot statusWord => Sys2Proof.Machine.execPmbusPoll slot statusWord s
  | .frequencyChange group mhz acked => Sys2Proof.Machine.execFrequencyChange group mhz acked s
  | .eventLogFlush => Sys2Proof.Machine.execEventLogFlush s
  | .sessionOpen path opener composition highest lowest mode keySlot clientKey clientNonce => Sys2Proof.Machine.execSessionOpen path opener composition highest lowest mode keySlot clientKey clientNonce s
  | .close q => Sys2Proof.Machine.execClose q s
  | .read q idx sub => Sys2Proof.Machine.execRead q idx sub s
  | .readSeg q idx sub seg => Sys2Proof.Machine.execReadSeg q idx sub seg s
  | .write q idx sub len value => Sys2Proof.Machine.execWrite q idx sub len value s
  | .writeSeg q idx sub seg len value => Sys2Proof.Machine.execWriteSeg q idx sub seg len value s
  | .hdapSessionIdle path number => Sys2Proof.Machine.execHdapSessionIdle path number s
  | .configurationCommit q value room ack => Sys2Proof.Machine.execConfigurationCommit q value room ack s
  | .generationHoldRelease kind number => Sys2Proof.Machine.execGenerationHoldRelease kind number s
  | .validate q value room => Sys2Proof.Machine.execValidate q value room s
  | .draftDiscard q value => Sys2Proof.Machine.execDraftDiscard q value s
  | .counterClear q value => Sys2Proof.Machine.execCounterClear q value s
  | .tileUnfence q tile passes => Sys2Proof.Machine.execTileUnfence q tile passes s
  | .indexOpen q slot value => Sys2Proof.Machine.execIndexOpen q slot value s
  | .consolidationStart q slot value => Sys2Proof.Machine.execConsolidationStart q slot value s
  | .planImage q seg len value => Sys2Proof.Machine.execPlanImage q seg len value s
  | .sequenceReset q pool value => Sys2Proof.Machine.execSequenceReset q pool value s
  | .pendingTokenSet q pool value => Sys2Proof.Machine.execPendingTokenSet q pool value s
  | .poolFlush q value => Sys2Proof.Machine.execPoolFlush q value s
  | .reclaim q value => Sys2Proof.Machine.execReclaim q value s
  | .cleanShutdown q value => Sys2Proof.Machine.execCleanShutdown q value s
  | .transitionRequest q target => Sys2Proof.Machine.execTransitionRequest q target s
  | .commitSecurityVersion q value => Sys2Proof.Machine.execCommitSecurityVersion q value s
  | .revokeRootKey q slot => Sys2Proof.Machine.execRevokeRootKey q slot s
  | .attestationNonce q nonce => Sys2Proof.Machine.execAttestationNonce q nonce s
  | .sessionProof q signature => Sys2Proof.Machine.execSessionProof q signature s
  | .imagePackage q seg len value => Sys2Proof.Machine.execImagePackage q seg len value s
  | .activate q value => Sys2Proof.Machine.execActivate q value s
  | .restartRequest q value => Sys2Proof.Machine.execRestartRequest q value s
  | .confirm q value => Sys2Proof.Machine.execConfirm q value s
  | .alertAcknowledge q value => Sys2Proof.Machine.execAlertAcknowledge q value s
  | .programRequest q value => Sys2Proof.Machine.execProgramRequest q value s
  | .programComplete passed => Sys2Proof.Machine.execProgramComplete passed s
  | .quiesce port function value => Sys2Proof.Machine.execQuiesce port function value s
  | .ringConfiguration port function ring register value => Sys2Proof.Machine.execRingConfiguration port function ring register value s
  | .apertureConfiguration port function aperture value => Sys2Proof.Machine.execApertureConfiguration port function aperture value s
  | .run src raw => Sys2Proof.Machine.execRun src raw s
  | .planLoad src raw => Sys2Proof.Machine.execPlanLoad src raw s
  | .planUnload src raw => Sys2Proof.Machine.execPlanUnload src raw s
  | .planUnloadComplete plan => Sys2Proof.Machine.execPlanUnloadComplete plan s
  | .update src raw => Sys2Proof.Machine.execUpdate src raw s
  | .volume src raw => Sys2Proof.Machine.execVolume src raw s
  | .kvService src raw => Sys2Proof.Machine.execKvService src raw s
  | .admission realm => Sys2Proof.Machine.execAdmission realm s
  | .carillonSlot => Sys2Proof.Machine.execCarillonSlot s
  | .instanceStart plan => Sys2Proof.Machine.execInstanceStart plan s
  | .deadlineExpiry capsule => Sys2Proof.Machine.execDeadlineExpiry capsule s
  | .tileDispatch tile unit ecc => Sys2Proof.Machine.execTileDispatch tile unit ecc s
  | .tileOperationComplete tile slot => Sys2Proof.Machine.execTileOperationComplete tile slot s
  | .coalescingTimer port function ring => Sys2Proof.Machine.execCoalescingTimer port function ring s
  | .panelMoveComplete tile move ecc => Sys2Proof.Machine.execPanelMoveComplete tile move ecc s
  | .flitCrcError flit => Sys2Proof.Machine.execFlitCrcError flit s
  | .matmul capsule desc => Sys2Proof.Machine.execMatmul capsule desc s
  | .matmulSp capsule desc => Sys2Proof.Machine.execMatmulSp capsule desc s
  | .add capsule desc => Sys2Proof.Machine.execAdd capsule desc s
  | .mul capsule desc => Sys2Proof.Machine.execMul capsule desc s
  | .act capsule desc => Sys2Proof.Machine.execAct capsule desc s
  | .norm capsule desc => Sys2Proof.Machine.execNorm capsule desc s
  | .softmax capsule desc => Sys2Proof.Machine.execSoftmax capsule desc s
  | .rope capsule desc => Sys2Proof.Machine.execRope capsule desc s
  | .attend capsule desc => Sys2Proof.Machine.execAttend capsule desc s
  | .quant capsule desc => Sys2Proof.Machine.execQuant capsule desc s
  | .dequant capsule desc => Sys2Proof.Machine.execDequant capsule desc s
  | .route capsule desc => Sys2Proof.Machine.execRoute capsule desc s
  | .combine capsule desc => Sys2Proof.Machine.execCombine capsule desc s
  | .gather capsule desc => Sys2Proof.Machine.execGather capsule desc s
  | .scatter capsule desc => Sys2Proof.Machine.execScatter capsule desc s
  | .copy capsule desc => Sys2Proof.Machine.execCopy capsule desc s
  | .panelLoad capsule desc => Sys2Proof.Machine.execPanelLoad capsule desc s
  | .panelStore capsule desc => Sys2Proof.Machine.execPanelStore capsule desc s
  | .fetchFlash capsule desc => Sys2Proof.Machine.execFetchFlash capsule desc s
  | .probe capsule desc => Sys2Proof.Machine.execProbe capsule desc s
  | .scan capsule desc => Sys2Proof.Machine.execScan capsule desc s
  | .channelResultRecord stack channel => Sys2Proof.Machine.execChannelResultRecord stack channel s
  | .graphStep capsule desc => Sys2Proof.Machine.execGraphStep capsule desc s
  | .filter capsule desc => Sys2Proof.Machine.execFilter capsule desc s
  | .rerankExact capsule desc => Sys2Proof.Machine.execRerankExact capsule desc s
  | .select capsule desc => Sys2Proof.Machine.execSelect capsule desc s
  | .thresholdPublish capsule desc => Sys2Proof.Machine.execThresholdPublish capsule desc s
  | .thresholdReceive stack capsule desc => Sys2Proof.Machine.execThresholdReceive stack capsule desc s
  | .merge capsule desc => Sys2Proof.Machine.execMerge capsule desc s
  | .dedup capsule desc => Sys2Proof.Machine.execDedup capsule desc s
  | .branchIf capsule desc => Sys2Proof.Machine.execBranchIf capsule desc s
  | .budget capsule desc => Sys2Proof.Machine.execBudget capsule desc s
  | .barrier capsule desc => Sys2Proof.Machine.execBarrier capsule desc s
  | .emit capsule desc => Sys2Proof.Machine.execEmit capsule desc s
  | .collect capsule desc => Sys2Proof.Machine.execCollect capsule desc s
  | .verifyTreeBuild capsule desc => Sys2Proof.Machine.execVerifyTreeBuild capsule desc s
  | .verifyTreeAccept capsule desc => Sys2Proof.Machine.execVerifyTreeAccept capsule desc s
  | .kvAppend capsule desc => Sys2Proof.Machine.execKvAppend capsule desc s
  | .trigger capsule desc tag => Sys2Proof.Machine.execTrigger capsule desc tag s
  | .querySlotGrant stack => Sys2Proof.Machine.execQuerySlotGrant stack s
  | .querySlotHold trigger => Sys2Proof.Machine.execQuerySlotHold trigger s
  | .sequenceStart bank => Sys2Proof.Machine.execSequenceStart bank s
  | .stepBoundary bank => Sys2Proof.Machine.execStepBoundary bank s
  | .governorWindow stack temps => Sys2Proof.Machine.execGovernorWindow stack temps s
  | .refreshDue bank => Sys2Proof.Machine.execRefreshDue bank s
  | .ordinaryAccess a corrected => Sys2Proof.Machine.execOrdinaryAccess a corrected s
  | .preemptionTimeout bank => Sys2Proof.Machine.execPreemptionTimeout bank s
  | .c0Yield bank => Sys2Proof.Machine.execC0Yield bank s
  | .bankNop bank => Sys2Proof.Machine.execBankNop bank s
  | .bankEnd bank => Sys2Proof.Machine.execBankEnd bank s
  | .loop bank a tgt => Sys2Proof.Machine.execLoop bank a tgt s
  | .br bank m tgt => Sys2Proof.Machine.execBr bank m tgt s
  | .bar bank => Sys2Proof.Machine.execBar bank s
  | .setx bank d imm => Sys2Proof.Machine.execSetx bank d imm s
  | .addx bank d a b immForm imm => Sys2Proof.Machine.execAddx bank d a b immForm imm s
  | .cmpx bank a b m => Sys2Proof.Machine.execCmpx bank a b m s
  | .extb bank d a imm => Sys2Proof.Machine.execExtb bank d a imm s
  | .shx bank d a imm => Sys2Proof.Machine.execShx bank d a imm s
  | .setcp bank a => Sys2Proof.Machine.execSetcp bank a s
  | .fetch bank d half inc ecc => Sys2Proof.Machine.execFetch bank d half inc ecc s
  | .fetchx bank d a imm ecc => Sys2Proof.Machine.execFetchx bank d a imm ecc s
  | .strm bank a ecc => Sys2Proof.Machine.execStrm bank a ecc s
  | .sskip bank a => Sys2Proof.Machine.execSskip bank a s
  | .qld bank d => Sys2Proof.Machine.execQld bank d s
  | .setqp bank a => Sys2Proof.Machine.execSetqp bank a s
  | .dq bank d a b half part q8 bf16 => Sys2Proof.Machine.execDq bank d a b half part q8 bf16 s
  | .mac bank a b bf16 => Sys2Proof.Machine.execMac bank a b bf16 s
  | .ssa bank a b bf16 => Sys2Proof.Machine.execSsa bank a b bf16 s
  | .dot bank a b half stream q8 bf16 square ecc => Sys2Proof.Machine.execDot bank a b half stream q8 bf16 square ecc s
  | .red bank d clear => Sys2Proof.Machine.execRed bank d clear s
  | .clra bank => Sys2Proof.Machine.execClra bank s
  | .chk bank count tb => Sys2Proof.Machine.execChk bank count tb s
  | .cmpth bank a count tb => Sys2Proof.Machine.execCmpth bank a count tb s
  | .tskip bank a b tgt => Sys2Proof.Machine.execTskip bank a b tgt s
  | .topins bank a b => Sys2Proof.Machine.execTopins bank a b s
  | .toprd bank d imm move => Sys2Proof.Machine.execToprd bank d imm move s
  | .topinsv bank a => Sys2Proof.Machine.execTopinsv bank a s
  | .engineEmit bank => Sys2Proof.Machine.execEngineEmit bank s
  | .send bank a dir => Sys2Proof.Machine.execSend bank a dir s
  | .recv bank d dir => Sys2Proof.Machine.execRecv bank d dir s
  | .busx bank a imm => Sys2Proof.Machine.execBusx bank a imm s
  | .busr bank d => Sys2Proof.Machine.execBusr bank d s
  | .tombstoneSet index id => Sys2Proof.Machine.execTombstoneSet index id s
  | .retirement index id => Sys2Proof.Machine.execRetirement index id s
  | .retirementWaitLimit index id => Sys2Proof.Machine.execRetirementWaitLimit index id s
  | .consolidationMove index bank slot => Sys2Proof.Machine.execConsolidationMove index bank slot s
  | .segmentUnlink index => Sys2Proof.Machine.execSegmentUnlink index s
  | .segmentFree index => Sys2Proof.Machine.execSegmentFree index s
  | .rowCopyComplete table row => Sys2Proof.Machine.execRowCopyComplete table row s
  | .formerCopyRelease table row => Sys2Proof.Machine.execFormerCopyRelease table row s
  | .formattingComplete handle => Sys2Proof.Machine.execFormattingComplete handle s
  | .zeroFillComplete kind number => Sys2Proof.Machine.execZeroFillComplete kind number s
  | .writeBackAge realm sector => Sys2Proof.Machine.execWriteBackAge realm sector s
  | .writeBackAck h sector => Sys2Proof.Machine.execWriteBackAck h sector s
  | .lendOffer => Sys2Proof.Machine.execLendOffer s
  | .grant h segment grantGen borrower realm homeNode homeGib => Sys2Proof.Machine.execGrant h segment grantGen borrower realm homeNode homeGib s
  | .access h segment grantGen offset len => Sys2Proof.Machine.execAccess h segment grantGen offset len s
  | .poolWrite h segment grantGen offset bytes => Sys2Proof.Machine.execPoolWrite h segment grantGen offset bytes s
  | .poolReclaim h segment grantGen graceMs => Sys2Proof.Machine.execPoolReclaim h segment grantGen graceMs s
  | .successor h segment grantGen node gib => Sys2Proof.Machine.execSuccessor h segment grantGen node gib s
  | .migrationCopyComplete gib => Sys2Proof.Machine.execMigrationCopyComplete gib s
  | .switch h segment grantGen node gib => Sys2Proof.Machine.execSwitch h segment grantGen node gib s
  | .unmap h segment grantGen => Sys2Proof.Machine.execUnmap h segment grantGen s
  | .graceTimeExpiry segment => Sys2Proof.Machine.execGraceTimeExpiry segment s
  | .coalescingWindow volume channel => Sys2Proof.Machine.execCoalescingWindow volume channel s
  | .flashReadComplete operation decoded corrected => Sys2Proof.Machine.execFlashReadComplete operation decoded corrected s
  | .programStatus operation passed => Sys2Proof.Machine.execProgramStatus operation passed s
  | .eraseComplete operation passed => Sys2Proof.Machine.execEraseComplete operation passed s
  | .copyVerify copy readsBack => Sys2Proof.Machine.execCopyVerify copy readsBack s
  | .sourceErase copy => Sys2Proof.Machine.execSourceErase copy s
  | .volumeKeyDestroy volume => Sys2Proof.Machine.execVolumeKeyDestroy volume s
  | .hello link highest lowest required offered auth => Sys2Proof.Machine.execHello link highest lowest required offered auth s
  | .linkClose link cause => Sys2Proof.Machine.execLinkClose link cause s
  | .keepalive link => Sys2Proof.Machine.execKeepalive link s
  | .linkLoss link fecAlignment => Sys2Proof.Machine.execLinkLoss link fecAlignment s
  | .fecUncorrectable link corrected => Sys2Proof.Machine.execFecUncorrectable link corrected s
  | .timeExchange => Sys2Proof.Machine.execTimeExchange s
  | .timeResp h sent refReceived refSent requestCorrection correction => Sys2Proof.Machine.execTimeResp h sent refReceived refSent requestCorrection correction s
  | .announce => Sys2Proof.Machine.execAnnounce s
  | .topology h rack slot failureDomain neighbours => Sys2Proof.Machine.execTopology h rack slot failureDomain neighbours s
  | .identity h node place timeReference => Sys2Proof.Machine.execIdentity h node place timeReference s
  | .compose h id realm epoch members owners => Sys2Proof.Machine.execCompose h id realm epoch members owners s
  | .memberLost h id epoch rank node => Sys2Proof.Machine.execMemberLost h id epoch rank node s
  | .ack h requestId status => Sys2Proof.Machine.execAck h requestId status s
  | .afpCompletion h record len data => Sys2Proof.Machine.execAfpCompletion h record len data s
  | .afpEmit h plan tag slot deadlineUs dims elements => Sys2Proof.Machine.execAfpEmit h plan tag slot deadlineUs dims elements s
  | .contrib h collective tag ranks status format dims elements => Sys2Proof.Machine.execContrib h collective tag ranks status format dims elements s
  | .contribAck h collective tag ranks status => Sys2Proof.Machine.execContribAck h collective tag ranks status s
  | .responseTimeout requestId => Sys2Proof.Machine.execResponseTimeout requestId s
  | .epochGraceExpiry src requestId => Sys2Proof.Machine.execEpochGraceExpiry src requestId s
  | .ownPrepare h unit generation peer role => Sys2Proof.Machine.execOwnPrepare h unit generation peer role s
  | .ownState h unit entries => Sys2Proof.Machine.execOwnState h unit entries s
  | .ownReady h unit generation => Sys2Proof.Machine.execOwnReady h unit generation s
  | .ownCommit h unit generation => Sys2Proof.Machine.execOwnCommit h unit generation s
  | .ownAbort h unit generation => Sys2Proof.Machine.execOwnAbort h unit generation s
  | .ownQuery h unit state complete => Sys2Proof.Machine.execOwnQuery h unit state complete s
  | .ownReport h unit state complete => Sys2Proof.Machine.execOwnReport h unit state complete s
  | .ownershipAudit composition unit => Sys2Proof.Machine.execOwnershipAudit composition unit s
  | .shadowStart h composition rank working shadow => Sys2Proof.Machine.execShadowStart h composition rank working shadow s
  | .mirror h raw len data => Sys2Proof.Machine.execMirror h raw len data s
  | .shadowResult h record lists => Sys2Proof.Machine.execShadowResult h record lists s
  | .spdmRequest port code param version ed448 sha3 nonce => Sys2Proof.Machine.execSpdmRequest port code param version ed448 sha3 nonce s
  | .oculusSlice inLimits => Sys2Proof.Machine.execOculusSlice inLimits s
  | .oculusSliceEnd result => Sys2Proof.Machine.execOculusSliceEnd result s
  | .linkTrainingComplete link lanes => Sys2Proof.Machine.execLinkTrainingComplete link lanes s
  | .timeReq h sent correction => Sys2Proof.Machine.execTimeReq h sent correction s
  | .triggerRulesRelease stack pc => Sys2Proof.Machine.execTriggerRulesRelease stack pc s
  | .generatorHealthFailure => Sys2Proof.Machine.execGeneratorHealthFailure s
  | .linkKeyRenewal link => Sys2Proof.Machine.execLinkKeyRenewal link s
  | .sessionCounterLimit path number => Sys2Proof.Machine.execSessionCounterLimit path number s
  | .flashOperationTimeout operation => Sys2Proof.Machine.execFlashOperationTimeout operation s
  | .vfDisable port => Sys2Proof.Machine.execVfDisable port s
  | .portEgress point => Sys2Proof.Machine.execPortEgress point s
  | .managementLinkUp => Sys2Proof.Machine.execManagementLinkUp s
  | .managementLinkDown => Sys2Proof.Machine.execManagementLinkDown s

end Sys2Proof.Machine
end

