-- ==== Sys2Proof/Machine/Step.lean ====
section
/-! DEFINITION. One step: the front command of the queue, or one tick of the time base where nothing waits. -/

namespace Sys2Proof.Machine

/-- What the block does while nothing waits: the global time base counts one tick (R26), if the device has power (log entry 7). -/
def State.tick (s : State) : State := { s with time := s.time.tick }

/-- A step takes the command at the front of the queue and runs it on the rest. -/
def step (s : State) : Host.Outcome State Fault Refusal :=
  match s.pending with
  | [] => .next s.tick
  | i :: rest => exec i { s with pending := rest }

/-- The state with the command that a word spells put in front of its queue; no word spells one. -/
def State.withFetchWord (s : State) (nbits w : Nat) : State :=
  match Sys2Proof.decodeTableWord nbits w with
  | some i => { s with pending := i :: s.pending }
  | none => s

end Sys2Proof.Machine
end

