-- ==== Sys2Proof/WellFormed.lean ====
section
/-! DEFINITION. Which commands are well formed: every operand that numbers a thing the device has lies in that thing's range. -/

namespace Sys2Proof

/-- Is a number below a bound? -/
def below (n x : Nat) : Bool := decide (x < n)

/-- A request header: a path of R101, and fields that fit their widths. -/
def wfReq (q : Req) : Bool := below 3 q.path && below 65536 q.sender && below 65536 q.number && below 65536 q.seq && below 256 q.flags && below (2 ^ 128) q.tag

/-- An AFP header: its link, and fields that fit their widths (*AFP header*). -/
def wfAfp (h : Afp) : Bool :=
  below 32 h.link && below 8 h.cls && below 256 h.realm && below 256 h.status && below 65536 h.src && below 65536 h.dst &&
  below 65536 h.composition && below (2 ^ 32) h.epoch && below 65536 h.dstRank && below (2 ^ 64) h.requestId

/-- Where a capsule comes from: a port's function and aperture, or an AFP message. -/
def wfSource : CapsuleSource → Bool
  | .host p f a _ _ => below 2 p && below 64 f && below 32 a
  | .fabric h _ _ => wfAfp h

/-- An ordinary access: a source of R643, a realm, a device address, and as many bytes as it says. -/
def wfAccess (a : OrdAccess) : Bool :=
  below 8 a.source && below 256 a.realm && below (2 ^ 48) a.addr &&
  (match a.data with | some l => l.length == a.len | none => true)

/-- A sample: one reading for each sensor (R679). -/
def wfReadings (r : SensorReadings) : Bool :=
  r.quarter.length == 32 && r.stack.length == 32 && r.belfry.length == 2 && r.railMv.length == 12 && r.railMa.length == 12

/-- Is a command well formed? -/
def wellFormed : Instr → Bool
  | .pwrgoodRise lcStrap _ => below 4 lcStrap
  | .pwrgoodFall => true
  | .sysRstNAssert _ => true
  | .sysRstNRelease lcStrap _ => below 4 lcStrap
  | .perstNAssert port _ => below 2 port
  | .perstNRelease port => below 2 port
  | .pcieLinkUp port width speed _ => below 2 port && below 17 width && below 7 speed
  | .surpriseRemoval port => below 2 port
  | .functionLevelReset port function => below 2 port && below 64 function
  | .bootSelfTest _ _ _ _ _ => true
  | .stackTrainingWave wave _ => below 32 wave
  | .flashEnumeration _ => true
  | .mapLoad _ => true
  | .mapRebuildComplete => true
  | .operational => true
  | .startSuccess => true
  | .startFailed case => below 7 case
  | .watchdogExpiry => true
  | .cupolaReloadComplete => true
  | .sensorSample readings => wfReadings readings
  | .thermtrip sensor => below 32 sensor
  | .pmbusPoll slot statusWord => below 16 slot && below 65536 statusWord
  | .frequencyChange group _ _ => below 36 group
  | .eventLogFlush => true
  | .sessionOpen path opener _ highest lowest mode keySlot _ _ => below 3 path && below 65536 opener.sender && below 65536 opener.seq && below 65536 highest && below 65536 lowest && below 256 mode && below 256 keySlot
  | .close q => wfReq q
  | .read q idx sub => wfReq q && below 65536 idx && below 256 sub
  | .readSeg q idx sub seg => wfReq q && below 65536 idx && below 256 sub && below (2 ^ 24) seg
  | .write q idx sub _ _ => wfReq q && below 65536 idx && below 256 sub
  | .writeSeg q idx sub seg _ _ => wfReq q && below 65536 idx && below 256 sub && below (2 ^ 24) seg
  | .hdapSessionIdle path number => below 3 path && below 65536 number
  | .configurationCommit q _ _ _ => wfReq q
  | .generationHoldRelease kind number => below 3 kind && below 64 number
  | .validate q _ _ => wfReq q
  | .draftDiscard q _ => wfReq q
  | .counterClear q _ => wfReq q
  | .tileUnfence q tile _ => wfReq q && below 576 tile
  | .indexOpen q slot _ => wfReq q && below 64 slot
  | .consolidationStart q slot _ => wfReq q && below 64 slot
  | .planImage q seg _ _ => wfReq q && below (2 ^ 24) seg
  | .sequenceReset q pool _ => wfReq q && below 16 pool
  | .pendingTokenSet q pool _ => wfReq q && below 16 pool
  | .poolFlush q _ => wfReq q
  | .reclaim q _ => wfReq q
  | .cleanShutdown q _ => wfReq q
  | .transitionRequest q target => wfReq q && below 256 target
  | .commitSecurityVersion q _ => wfReq q
  | .revokeRootKey q slot => wfReq q && below 256 slot
  | .attestationNonce q _ => wfReq q
  | .sessionProof q _ => wfReq q
  | .imagePackage q seg _ _ => wfReq q && below (2 ^ 24) seg
  | .activate q _ => wfReq q
  | .restartRequest q _ => wfReq q
  | .confirm q _ => wfReq q
  | .alertAcknowledge q _ => wfReq q
  | .programRequest q _ => wfReq q
  | .programComplete _ => true
  | .quiesce port function _ => below 2 port && below 64 function
  | .ringConfiguration port function ring register _ => below 2 port && below 64 function && below 32 ring && below 2 register
  | .apertureConfiguration port function aperture _ => below 2 port && below 64 function && below 32 aperture
  | .run src _ => wfSource src
  | .planLoad src _ => wfSource src
  | .planUnload src _ => wfSource src
  | .planUnloadComplete plan => below 65536 plan
  | .update src _ => wfSource src
  | .volume src _ => wfSource src
  | .kvService src _ => wfSource src
  | .admission realm => below 256 realm
  | .carillonSlot => true
  | .instanceStart plan => below 65536 plan
  | .deadlineExpiry _ => true
  | .tileDispatch tile unit ecc => below 576 tile && below 5 unit && below 4 ecc
  | .tileOperationComplete tile slot => below 576 tile && below 64 slot
  | .coalescingTimer port function ring => below 2 port && below 64 function && below 32 ring
  | .panelMoveComplete tile _ ecc => below 576 tile && below 3 ecc
  | .flitCrcError flit => below 4096 flit.link
  | .matmul _ desc => below 4096 desc
  | .matmulSp _ desc => below 4096 desc
  | .add _ desc => below 4096 desc
  | .mul _ desc => below 4096 desc
  | .act _ desc => below 4096 desc
  | .norm _ desc => below 4096 desc
  | .softmax _ desc => below 4096 desc
  | .rope _ desc => below 4096 desc
  | .attend _ desc => below 4096 desc
  | .quant _ desc => below 4096 desc
  | .dequant _ desc => below 4096 desc
  | .route _ desc => below 4096 desc
  | .combine _ desc => below 4096 desc
  | .gather _ desc => below 4096 desc
  | .scatter _ desc => below 4096 desc
  | .copy _ desc => below 4096 desc
  | .panelLoad _ desc => below 4096 desc
  | .panelStore _ desc => below 4096 desc
  | .fetchFlash _ desc => below 4096 desc
  | .probe _ desc => below 4096 desc
  | .scan _ desc => below 4096 desc
  | .channelResultRecord stack channel => below 32 stack && below 16 channel
  | .graphStep _ desc => below 4096 desc
  | .filter _ desc => below 4096 desc
  | .rerankExact _ desc => below 4096 desc
  | .select _ desc => below 4096 desc
  | .thresholdPublish _ desc => below 4096 desc
  | .thresholdReceive stack _ desc => below 32 stack && below 4096 desc
  | .merge _ desc => below 4096 desc
  | .dedup _ desc => below 4096 desc
  | .branchIf _ desc => below 4096 desc
  | .budget _ desc => below 4096 desc
  | .barrier _ desc => below 4096 desc
  | .emit _ desc => below 4096 desc
  | .collect _ desc => below 4096 desc
  | .verifyTreeBuild _ desc => below 4096 desc
  | .verifyTreeAccept _ desc => below 4096 desc
  | .kvAppend _ desc => below 4096 desc
  | .trigger _ desc _ => below 4096 desc
  | .querySlotGrant stack => below 32 stack
  | .querySlotHold _ => true
  | .sequenceStart bank => below 24576 bank
  | .stepBoundary bank => below 24576 bank
  | .governorWindow stack temps => below 32 stack && temps.length == 12
  | .refreshDue bank => below 24576 bank
  | .ordinaryAccess a corrected => wfAccess a && corrected.all (fun i => decide (i * 32 < a.addr % 32 + a.len)) && decide corrected.Nodup
  | .preemptionTimeout bank => below 24576 bank
  | .c0Yield bank => below 24576 bank
  | .bankNop bank => below 24576 bank
  | .bankEnd bank => below 24576 bank
  | .loop bank _ _ => below 24576 bank
  | .br bank _ _ => below 24576 bank
  | .bar bank => below 24576 bank
  | .setx bank _ _ => below 24576 bank
  | .addx bank _ _ _ _ _ => below 24576 bank
  | .cmpx bank _ _ _ => below 24576 bank
  | .extb bank _ _ _ => below 24576 bank
  | .shx bank _ _ _ => below 24576 bank
  | .setcp bank _ => below 24576 bank
  | .fetch bank _ _ _ ecc => below 24576 bank && below 3 ecc
  | .fetchx bank _ _ _ ecc => below 24576 bank && below 3 ecc
  | .strm bank _ ecc => below 24576 bank && below 3 ecc
  | .sskip bank _ => below 24576 bank
  | .qld bank _ => below 24576 bank
  | .setqp bank _ => below 24576 bank
  | .dq bank _ _ _ _ _ _ _ => below 24576 bank
  | .mac bank _ _ _ => below 24576 bank
  | .ssa bank _ _ _ => below 24576 bank
  | .dot bank _ _ _ _ _ _ _ ecc => below 24576 bank && below 3 ecc
  | .red bank _ _ => below 24576 bank
  | .clra bank => below 24576 bank
  | .chk bank _ _ => below 24576 bank
  | .cmpth bank _ _ _ => below 24576 bank
  | .tskip bank _ _ _ => below 24576 bank
  | .topins bank _ _ => below 24576 bank
  | .toprd bank _ _ _ => below 24576 bank
  | .topinsv bank _ => below 24576 bank
  | .engineEmit bank => below 24576 bank
  | .send bank _ _ => below 24576 bank
  | .recv bank _ _ => below 24576 bank
  | .busx bank _ _ => below 24576 bank
  | .busr bank _ => below 24576 bank
  | .tombstoneSet index id => below 64 index && below (2 ^ 48) id
  | .retirement index id => below 64 index && below (2 ^ 48) id
  | .retirementWaitLimit index id => below 64 index && below (2 ^ 48) id
  | .consolidationMove index bank slot => below 64 index && below 24576 bank && below 4096 slot
  | .segmentUnlink index => below 64 index
  | .segmentFree index => below 64 index
  | .rowCopyComplete table row => below 64 table && below (2 ^ 40) row
  | .formerCopyRelease table row => below 64 table && below (2 ^ 40) row
  | .formattingComplete handle => below 65536 handle
  | .zeroFillComplete kind number => below 3 kind && below 24576 number
  | .writeBackAge realm sector => below 256 realm && below (2 ^ 35) sector
  | .writeBackAck h sector => wfAfp h && below (2 ^ 35) sector
  | .lendOffer => true
  | .grant h segment grantGen borrower realm homeNode homeGib => wfAfp h && below 65536 segment && below (2 ^ 64) grantGen && below 65536 borrower && below 256 realm && below 65536 homeNode && below 3072 homeGib
  | .access h segment grantGen offset _ => wfAfp h && below 65536 segment && below (2 ^ 64) grantGen && below (2 ^ 30) offset
  | .poolWrite h segment grantGen offset _ => wfAfp h && below 65536 segment && below (2 ^ 64) grantGen && below (2 ^ 30) offset
  | .poolReclaim h segment grantGen _ => wfAfp h && below 65536 segment && below (2 ^ 64) grantGen
  | .successor h segment grantGen node gib => wfAfp h && below 65536 segment && below (2 ^ 64) grantGen && below 65536 node && below 3072 gib
  | .migrationCopyComplete gib => below 3072 gib
  | .switch h segment grantGen node gib => wfAfp h && below 65536 segment && below (2 ^ 64) grantGen && below 65536 node && below 3072 gib
  | .unmap h segment grantGen => wfAfp h && below 65536 segment && below (2 ^ 64) grantGen
  | .graceTimeExpiry segment => below 65536 segment
  | .coalescingWindow volume channel => below 128 volume && below 16 channel
  | .flashReadComplete _ _ _ => true
  | .programStatus _ _ => true
  | .eraseComplete _ _ => true
  | .copyVerify _ _ => true
  | .sourceErase _ => true
  | .volumeKeyDestroy volume => below 128 volume
  | .hello link highest lowest _ _ _ => below 32 link && below 65536 highest && below 65536 lowest
  | .linkClose link cause => below 32 link && below 256 cause
  | .keepalive link => below 32 link
  | .linkLoss link _ => below 32 link
  | .fecUncorrectable link _ => below 32 link
  | .timeExchange => true
  | .timeResp h _ _ _ _ _ => wfAfp h
  | .announce => true
  | .topology h _ slot _ _ => wfAfp h && below 64 slot
  | .identity h node _ _ => wfAfp h && below 65536 node
  | .compose h id realm epoch _ _ => wfAfp h && below 65536 id && below 256 realm && below (2 ^ 32) epoch
  | .memberLost h id epoch rank node => wfAfp h && below 65536 id && below (2 ^ 32) epoch && below 1024 rank && below 65536 node
  | .ack h requestId status => wfAfp h && below (2 ^ 64) requestId && below 256 status
  | .afpCompletion h _ _ _ => wfAfp h
  | .afpEmit h plan _ slot _ _ _ => wfAfp h && below 65536 plan && below 64 slot
  | .contrib h _ _ _ status _ _ _ => wfAfp h && below 256 status
  | .contribAck h _ _ _ status => wfAfp h && below 256 status
  | .responseTimeout requestId => below (2 ^ 64) requestId
  | .epochGraceExpiry _ requestId => below (2 ^ 64) requestId
  | .ownPrepare h unit _ _ role => wfAfp h && below 4096 unit && below 2 role
  | .ownState h unit _ => wfAfp h && below 4096 unit
  | .ownReady h unit _ => wfAfp h && below 4096 unit
  | .ownCommit h unit _ => wfAfp h && below 4096 unit
  | .ownAbort h unit _ => wfAfp h && below 4096 unit
  | .ownQuery h unit state _ => wfAfp h && below 4096 unit && below 6 state
  | .ownReport h unit state _ => wfAfp h && below 4096 unit && below 6 state
  | .ownershipAudit composition unit => below 65536 composition && below 4096 unit
  | .shadowStart h _ rank working shadow => wfAfp h && below 1024 rank && below 65536 working && below 65536 shadow
  | .mirror h _ _ _ => wfAfp h
  | .shadowResult h _ _ => wfAfp h
  | .spdmRequest port code _ version _ _ _ => below 2 port && below 256 code && below 256 version
  | .oculusSlice _ => true
  | .oculusSliceEnd result => below 3 result
  | .linkTrainingComplete link lanes => below 32 link && below 9 lanes
  | .timeReq h _ _ => wfAfp h
  | .triggerRulesRelease stack pc => below 32 stack && below 32 pc
  | .generatorHealthFailure => true
  | .linkKeyRenewal link => below 32 link
  | .sessionCounterLimit path number => below 3 path && below 65536 number
  | .flashOperationTimeout _ => true
  | .vfDisable port => below 2 port
  | .portEgress point => below 38 point
  | .managementLinkUp => true
  | .managementLinkDown => true

end Sys2Proof
end

