-- ==== Sys2Proof/Safety.lean ====
section
/-! DEFINITION. What counts as a safe run, and the words in which claims speak of a state: what a command finds, and what it leaves alone. -/

namespace Sys2Proof.Machine

/-! ### Safe runs -/

/-- The state's memories are canonical. -/
def State.memoryOk (s : State) : Bool :=
  Memory.wf s.dev.mem && Memory.wf s.dev.hostMem && Memory.wf s.dev.tiers.home && Memory.wf s.dev.tiers.cache

/-- A step from the state neither faults nor is refused. -/
def State.stepsOn (s : State) : Prop := ∃ t, step s = .next t

/-- Is a command the event of a pin, whose level the device sees whether or not it runs? -/
def pinRow : Instr → Bool
  | .pwrgoodRise .. | .pwrgoodFall | .sysRstNAssert .. | .sysRstNRelease .. | .perstNAssert .. | .perstNRelease .. => true
  | _ => false

/-! ### The fuses (R650, R660, R661) -/

/-- The fuses hold what fuses can: a life-cycle code of the table, and UDS burned in every life cycle after MANUFACTURE. -/
def Fuses.legal (f : Fuses) : Prop := f.lifeCycle ≤ 5

/-- Fuses `g` can follow fuses `f`: nothing burned is unburned, no counter falls, the root digests stay. -/
def Fuses.follow (f g : Fuses) : Prop :=
  (f.udsBurned = true → g.udsBurned = true) ∧ g.rootDigests = f.rootDigests ∧
  (∀ k, bit f.revoked k = true → bit g.revoked k = true) ∧ (∀ n, nth f.counters n ≤ nth g.counters n) ∧
  (g.lifeCycle = f.lifeCycle ∨ (f.lifeCycle, g.lifeCycle) ∈ [(0, 1), (1, 2), (1, 3), (2, 4), (3, 4), (0, 5), (1, 5), (2, 5), (3, 5), (4, 5)])

/-! ### The time base (R26, R28) -/

/-- The part of a tick left over is below one tick, and the slew is at most 200 ppm. -/
def TimeBase.legal (t : TimeBase) : Prop := t.phase < 1000000 ∧ -200 ≤ t.slewPpm ∧ t.slewPpm ≤ 200

/-! ### What a command leaves alone -/

/-- The state with another device. -/
def State.withDev (s : State) (d : Dev) : State := { s with dev := d }

/-- Nothing but banks, their triggers and stacks, and the model's draws differs between two states. -/
def State.onlyBanks (s t : State) : Prop :=
  t = s.withDev { s.dev with banks := t.dev.banks, freeCtr := t.dev.freeCtr }

/-- Nothing but the fabric's records and what is sent differs between two states. -/
def State.onlyFabric (s t : State) : Prop :=
  t = s.withDev { s.dev with fabric := t.dev.fabric, out := t.dev.out, freeCtr := t.dev.freeCtr }

/-- No byte of memory differs between two states: T1 and T0, host memory, the homes of T2 and its cache. -/
def State.sameMemory (s t : State) : Prop :=
  (∀ a, memGet t.dev.mem a = memGet s.dev.mem a) ∧ (∀ a, memGet t.dev.hostMem a = memGet s.dev.hostMem a) ∧
  (∀ a, memGet t.dev.tiers.home a = memGet s.dev.tiers.home a) ∧ (∀ a, memGet t.dev.tiers.cache a = memGet s.dev.tiers.cache a)

/-- Is a command one that stores nothing: of a link, a pin, a sensor or a session, or an instruction on an engine's registers? -/
def storesNothing : Instr → Bool
  | .pcieLinkUp .. | .operational .. | .cupolaReloadComplete .. | .thermtrip .. | .pmbusPoll .. | .hdapSessionIdle ..
  | .generationHoldRelease .. | .coalescingTimer .. | .thresholdReceive .. | .querySlotHold .. | .bankNop ..
  | .loop .. | .br .. | .setx .. | .addx .. | .cmpx .. | .extb .. | .shx .. | .qld .. | .setqp .. | .dq .. | .red ..
  | .clra .. | .chk .. | .cmpth .. | .tskip .. | .topins .. | .toprd .. | .topinsv .. | .coalescingWindow .. | .keepalive ..
  | .fecUncorrectable .. | .linkTrainingComplete .. | .generatorHealthFailure .. | .sessionCounterLimit .. | .managementLinkUp ..
  | .managementLinkDown .. => true
  | _ => false

/-- Where the byte of an address of T1 or T0 is kept. -/
def Dev.byteKey (d : Dev) (a : Nat) : Option Nat := if inT1 a then d.t1Key a else some a

/-! ### Bank engines -/

/-- A bank's engine issues a word: the device runs, run `r` of trigger `t` is on the bank, in a step and not being restored, and stands at
that word. -/
def State.issues (s : State) (bank word : Nat) (t : Trigger) (r : BankRun) : Prop :=
  s.running = true ∧ (s.dev.bank bank).run = some r ∧ s.dev.trigger? r.trigger = some t ∧ r.inStep = true ∧ r.restoring = false ∧
  s.dev.wordAt t r.pc = word

/-- The state with another run on a bank, and nothing else changed. -/
def State.setRun (s : State) (bank : Nat) (r : BankRun) : State :=
  s.withDev (s.dev.modBank bank fun b => { b with run := some r })

/-- The run one instruction further, with another engine. -/
def BankRun.next (r : BankRun) (e : Engine) : BankRun := { r with engine := e, pc := r.pc + 1 }

/-! ### The dictionary -/

/-- A write of an action entry is taken up: the device runs, the request is in turn in its open session `x`, every row of *Access results*
lets it through, and `d` is the device with the request noted. -/
def State.takesUp (s : State) (q : Req) (idx sub value : Nat) (d : Dev) (x : Session) : Prop :=
  s.running = true ∧ s.dev.actionIn (fun _ => none) s.ctx q idx sub value (fun d x => some (d, x)) = some (d, x)

/-- A request of any kind, with what it carries, is taken up in its session. -/
def State.takesRequest (s : State) (q : Req) (op idx sub : Nat) (b : Body) (d : Dev) (x : Session) : Prop :=
  s.running = true ∧ s.dev.requestIn (fun _ => none) s.ctx q op idx sub b (fun d x => some (d, x)) = some (d, x)

/-! ### Operators -/

/-- A tile operation of a descriptor runs, the last of those that it is cut into (R142): `d` is the device under its capsule's configuration,
`o` its context, its slot is RUNNING on a tile from which routes serve what it reaches (R141), the descriptor has been placed and not yet run,
and its inputs in memory may be read. -/
def State.operates (s : State) (capsule desc : Nat) (d : Dev) (o : OpCtx) : Prop :=
  s.running = true ∧
  (∃ cap, s.dev.capsule? capsule = some cap ∧ d = (s.dev.setDict { s.dev.dict with cfg := cap.cfg }).setFillWait false) ∧
  d.opCtx capsule desc = some o ∧
  (∃ x, d.slotOf capsule desc = some x ∧ x.2.state = .running ∧ d.transferBlocked o (x.1 / 64) = none) ∧
  tabGet desc o.run.descs = some .placed ∧ (let k := tabGetD desc ⟨1, 1, 0, 0, 0⟩ o.run.cuts; k.total ≤ k.ran + 1) ∧ d.inputStatus o = (stOk, d)

/-- The outputs of a tile operation are kept in its run: none is an external output in memory (LOC 0). -/
def OpCtx.keepsOutputs (o : OpCtx) (writes : List (Nat × Tensor)) : Prop :=
  ∀ e ∈ writes, ¬(tnKind (o.record e.1) = 4 ∧ (o.run.args.getD (tnArg (o.record e.1)) ⟨0, 0, 0⟩).loc = 0)

/-- The machine with the device as an operator leaves it: back under the active configuration, with the accesses that it left waiting at banks
noted as its own. -/
def State.ranOp (s : State) (capsule desc : Nat) (d : Dev) : State :=
  s.withDev ((d.setDict { d.dict with cfg := s.dev.dict.cfg }).hear s.ctx (some (capsule, desc)))

/-- An operator's row: its command, the code that selects it, and its work. -/
structure OpRow where
  command : Instr
  selects : Nat → Bool
  work : Ctx → Dev → OpCtx → OpResult × Dev

/-- A row selected by an operator code. -/
def OpRow.code (i : Instr) (code : Nat) (f : Ctx → Dev → OpCtx → OpResult × Dev) : OpRow := ⟨i, fun w => dcOp w == code, f⟩

/-- The operators that compute on their inputs alone (R112–R123). -/
def computeRows (k n : Nat) : List OpRow :=
  [.code (.matmul k n) 0x10 (opMatmul false), .code (.matmulSp k n) 0x11 (opMatmul true), .code (.add k n) 0x12 (opBinary Num.add),
   .code (.mul k n) 0x13 (opBinary Num.mul), .code (.act k n) 0x14 opAct, .code (.norm k n) 0x15 opNorm, .code (.softmax k n) 0x16 opSoftmax,
   .code (.rope k n) 0x17 opRope, .code (.quant k n) 0x19 opQuant, .code (.dequant k n) 0x1A (opUnary fun _ x => x),
   .code (.route k n) 0x1B opRoute, .code (.combine k n) 0x1C opCombine, .code (.copy k n) 0x22 (opUnary fun _ x => x),
   .code (.budget k n) 0x41 opBudget]

/-- The operators that reach into indexes, tables, pools, lists and compositions. -/
def dataRows (k n : Nat) : List OpRow :=
  [.code (.attend k n) 0x18 opAttend, .code (.gather k n) 0x20 opGather, .code (.scatter k n) 0x21 opScatter,
   .code (.panelLoad k n) 0x23 opPanel, .code (.panelStore k n) 0x24 opPanel, .code (.fetchFlash k n) 0x25 opFetchFlash,
   .code (.probe k n) 0x30 opProbe, .code (.graphStep k n) 0x32 opGraphStep, .code (.filter k n) 0x33 opFilter,
   .code (.rerankExact k n) 0x34 opRerankExact, .code (.select k n) 0x35 opSelect, .code (.merge k n) 0x36 opMerge,
   .code (.dedup k n) 0x37 opDedup, .code (.emit k n) 0x43 opEmit, .code (.collect k n) 0x44 opCollect,
   ⟨.verifyTreeBuild k n, fun w => dcOp w == 0x50 && !dcPb w 16, opTreeBuild⟩,
   ⟨.verifyTreeAccept k n, fun w => dcOp w == 0x50 && dcPb w 16, opTreeAccept⟩, .code (.kvAppend k n) 0x51 opKvAppend]

/-- An operator's work meets no ground of its rules to end its capsule (R148): it is done, or waits for other events. -/
def OpRow.goesOn (row : OpRow) (c : Ctx) (d : Dev) (o : OpCtx) : Prop := ∀ st, (row.work c d o).1 ≠ .stops st

/-- The device once an operator's answer has been taken. -/
def OpRow.leaves (row : OpRow) (c : Ctx) (d : Dev) (o : OpCtx) : Dev := (row.work c d o).2.applyOp c o (row.work c d o).1

/-! ### Capsules -/

/-- What the ingress checks of a host capsule answer (R579). -/
def Dev.hostIngress (d : Dev) (p n raw : Nat) : Option (Nat × Nat) :=
  let f := d.fn p n
  let realm := bits raw 23 16
  d.ingressCheck raw (if bits raw 11 8 = 2 then 0 else bits raw 28 27) f.quiesce
    (if n = 0 then d.cfg 0x1104 (p + 1) == 0 else f.realm != 0 && f.realm == realm && d.realmActive realm) (n != 0 || d.realmActive realm)

/-- A host capsule of an opcode is accepted: the device runs, its function is there and its aperture enabled, with room; every ingress check is
passed; its realm has no composition, and nothing is mirrored. `cap` is the capsule, `d` the device that has taken it, before metering. -/
def State.accepts (s : State) (op p n a : Nat) (raw : BitVec 512) (cap : Capsule) (d : Dev) : Prop :=
  let f := s.dev.fn p n
  let x := f.aperture a
  s.running = true ∧ bits raw.toNat 7 0 = op ∧ s.dev.fnThere p n = true ∧ a < aperturesOf n ∧ (n = 0 ∨ f.enabled = true) ∧
  x.enable = true ∧ x.outstanding < 2 ^ x.depthLog2 ∧ s.dev.hostIngress p n raw.toNat = none ∧
  s.dev.compositionOfRealm (bits raw.toNat 23 16) = none ∧ s.dev.fabric.shadow.role ≠ 2 ∧
  (∃ e, s.dev.newCapsule s.ctx (.host p n a 64 true) raw.toNat (f.ring x.ring).disables (bits raw.toNat 26 24) 0 0 0 [] = (cap, e) ∧
    d = (e.modFn p n fun f => { f with
      wasQuiesced := false, apertures := tabMod a .reset (fun x => { x with outstanding := x.outstanding + 1 }) f.apertures }).modPort p
        fun h => { h with accepted := satAdd 64 h.accepted 1 })

/-- The metering of an accepted capsule lets it through in class `k`, or it is a PLAN_UNLOAD, which is not metered; its deadline has not passed,
and its class's cap is not 0 (R541, R542, R580). -/
def State.meters (s : State) (cap : Capsule) (d : Dev) (k : Nat) (e : Dev) : Prop :=
  ∃ e', (if cap.opcode = 0x03 then (some cap.cls, d) else d.police s.ctx cap.realm cap.cls 64 (if cap.version = 2 then 0 else bits cap.raw 28 27)) =
      (some k, e') ∧
    e = (e'.modCapsule cap.order fun x => { x with cls := k }) ∧ cap.deadlineUs ≠ 0 ∧ (k = 0 ∨ e.classCap cap.realm k ≠ 0)

/-! ### Messages of the fabric -/

/-- A message arrives: the device runs, its link carries, the header is one of AFP's with every reserved field zero, and its sender
has an identity; one of the manager's comes from the manager over its authenticated session. -/
def State.hears (s : State) (h : Afp) (fromManager : Bool) : Prop :=
  s.running = true ∧ (s.dev.link h.link).carries = true ∧ afpFormed h = true ∧ h.src ≠ 0 ∧
  (fromManager = true → h.src = 0xFFFF ∧ s.dev.fabric.fmSession = 1)

/-- The device once a message's arrival is noted at its link. -/
def State.heard (s : State) (h : Afp) : Dev := s.dev.modLink h.link fun l => { l with lastRx := s.time.count, retry := [] }

/-- A request arrives for the first time, in a colour that exists: none of its sender with its REQUEST_ID has been seen. -/
def State.hearsOnce (s : State) (h : Afp) : Prop :=
  s.hears h false ∧ h.colour ≠ 3 ∧ ∀ x ∈ s.dev.fabric.seen, ¬(x.src = h.src ∧ x.requestId = h.requestId)

/-- The device once a request's arrival is noted at its link and among the requests seen (R608). -/
def State.heardOnce (s : State) (h : Afp) : Dev :=
  let d := s.heard h
  d.setFabric { d.fabric with
    seen := ⟨h.src, h.requestId, s.time.count, none⟩ :: d.fabric.seen.filter fun x => decide (s.time.count ≤ x.at_ + d.cfg 0x2A50 3 * msTicks) }

end Sys2Proof.Machine
end

