-- ==== Sys2Proof/Certificates/Slice0/Obligations.lean ====
section
/-! DEFINITION. The statements for the provers. -/

open Sys2Proof Sys2Proof.Machine

/-- Every command runs through the queue: a step takes the one in front and executes it on the rest (the model's queue; log entry 7). -/
def Obligations.StepRunsTheFrontCommand : Prop :=
  ∀ (i : Instr) (rest : List Instr) (s : State), step { s with pending := i :: rest } = exec i { s with pending := rest }

/-- With no command waiting a step is 10 ns of a powered time base and changes nothing else: one tick in 64 bits, or at a slewed rate what the
rate and the part of a tick left over make of it (R26, R28; that an idle step is such a tick is the model's choice, log entry 7). -/
def Obligations.IdleStepTicks : Prop :=
  ∀ s : State, s.pending = [] →
    (s.time.powered = false → step s = .next s) ∧
    (s.time.powered = true → ∃ t, step s = .next t ∧ t = { s with time := t.time } ∧
      (let parts := s.time.phase + (1000000 + s.time.slewPpm).toNat
       t.time = { s.time with count := (s.time.count + parts / 1000000) % 2 ^ 64, phase := parts % 1000000 }) ∧
      (s.time.slewPpm = 0 → s.time.phase < 1000000 →
        t.time = { s.time with count := (s.time.count + 1) % 2 ^ 64 }))

/-- The reset state is a delivered part before PWRGOOD: no command waits, no capsule is in flight, no memory is listed (log entries 6, 95). -/
def Obligations.ResetIsBeforePower : Prop :=
  State.reset.pending = [] ∧ State.reset.time.powered = false ∧ State.reset.running = false ∧ State.reset.memoryOk = true ∧
  State.reset.dev.mem = [] ∧ State.reset.dev.capsules.live = [] ∧ State.reset.fuses.legal ∧
  (∀ i : Instr, ∃ t, exec i State.reset = .next t)

/-- No command faults and none is refused: every step answers a next state. No command touches the queue: a step takes the front command and adds
none (log entry 7). -/
def Obligations.EveryStepTakesOneCommand : Prop :=
  (∀ s : State, s.stepsOn) ∧
  ((∀ (i : Instr) (s t : State), exec i s = .next t → t.pending = s.pending) ∧
  (∀ s t : State, step s = .next t → t.pending = s.pending.tail))

/-- A device that does not run takes only its pins (log entry 8). -/
def Obligations.StoppedDeviceTakesOnlyPins : Prop :=
  ∀ (i : Instr) (s : State), s.running = false → pinRow i = false → exec i s = .next s

/-- The fuses stay legal in every step. -/
def Obligations.FusesStayLegal : Prop := ∀ s t : State, s.fuses.legal → step s = .next t → t.fuses.legal

/-- Fuses only ever burn: in every step of every state no bit is unburned, no anti-rollback counter falls, and the life cycle moves along a
listed transition only (R650, R660, R661). -/
def Obligations.FusesOnlyBurn : Prop := ∀ s t : State, step s = .next t → s.fuses.follow t.fuses

/-- Five commands alone can burn a fuse: the three that are there for it, and a write of their entries as WRITE or WRITE_SEG. Four alone can
change anything of the time base: PWRGOOD's two edges, IDENTITY, which can only end the wait for the first alignment, and TIME_RESP
(R26, R28, R608, R609). -/
def Obligations.FewCommandsReachFusesAndTime : Prop :=
  ∀ (i : Instr) (s t : State), exec i s = .next t →
    (t.fuses ≠ s.fuses →
      (∃ q v, i = .transitionRequest q v) ∨ (∃ q v, i = .commitSecurityVersion q v) ∨ (∃ q v, i = .revokeRootKey q v) ∨
      (∃ q x n l v, i = .write q x n l v) ∨ (∃ q x n g l v, i = .writeSeg q x n g l v)) ∧
    (t.time ≠ s.time →
      (∃ l b, i = .pwrgoodRise l b) ∨ i = .pwrgoodFall ∨ (∃ h a b c x y, i = .timeResp h a b c x y) ∨
      ((∃ h n p r, i = .identity h n p r) ∧ t.time = { s.time with stepped := true }))

/-- Commands that store nothing leave every byte of every memory as it was, whatever the state. -/
def Obligations.CommandsThatStoreNothing : Prop :=
  ∀ (i : Instr) (s t : State), storesNothing i = true → exec i s = .next t → s.sameMemory t

/-- The time base stays legal in every step: its part of a tick is below one tick, and it is slewed by at most 200 ppm (R28). While power is on it
moves in one of three ways (R26, R28): it stays; in an idle step it counts on, by one tick, or by none or two where it is slewed; or it
steps forward, by at least 20 ticks and at most once per power-on. -/
def Obligations.TimeBaseStepsForwardOnce : Prop :=
  ∀ s t : State, s.time.legal → step s = .next t → t.time.legal ∧ (s.time.powered = true → t.time.powered = true →
    (t.time.count = s.time.count ∧ (s.time.stepped = true → t.time.stepped = true)) ∨
    ((∃ n, n ≤ 2 ∧ (s.time.slewPpm = 0 → n = 1) ∧ t.time.count = (s.time.count + n) % 2 ^ 64) ∧ t.time.stepped = s.time.stepped) ∨
    (s.time.stepped = false ∧ t.time.stepped = true ∧ ∃ n, 20 ≤ n ∧ t.time.count = (s.time.count + n) % 2 ^ 64))

/-- The control and scalar instructions of a bank engine: their registers, the predicate, the next word, and nothing else (R172). -/
def Obligations.ScalarBankInstructions : Prop :=
  ∀ (s : State) (bank : Nat) (t : Trigger) (r : BankRun),
    let e := r.engine
    let x (i : RegNo) : Word := e.x.get i
    let sets (d : RegNo) (v : Word) : BankRun := r.next { e with x := e.x.set d v }
    (s.issues bank 0 t r → exec (.bankNop bank) s = .next (s.setRun bank (r.next e))) ∧
    (∀ (a : RegNo) tgt, s.issues bank (bankWord 0x02 0 a 0 0 tgt.toNat) t r →
      exec (.loop bank a tgt) s = .next (s.setRun bank (if 1 < (x a).toInt
        then { r with engine := { e with x := e.x.set a (x a - 1) }, pc := tgt.toNat } else sets a 0))) ∧
    (∀ m tgt, s.issues bank (bankWord 0x03 0 0 0 m.toNat tgt.toNat) t r →
      exec (.br bank m tgt) s = .next (s.setRun bank
        { r with pc := if m = 0 ∨ (m = 1 ∧ e.p = true) ∨ (m = 2 ∧ e.p = false) then tgt.toNat else r.pc + 1 })) ∧
    (∀ (d : RegNo) imm, s.issues bank (0x05 * 2 ^ 26 + d.val * 2 ^ 23 + imm.toNat) t r →
      exec (.setx bank d imm) s = .next (s.setRun bank (sets d (imm.signExtend 32)))) ∧
    (∀ (d a b : RegNo) imm, s.issues bank (bankWord 0x06 d a b 0 imm.toNat) t r →
      exec (.addx bank d a b false imm) s = .next (s.setRun bank (sets d (x a + x b)))) ∧
    (∀ (d a b : RegNo) imm, s.issues bank (bankWord 0x06 d a b 1 imm.toNat) t r →
      exec (.addx bank d a b true imm) s = .next (s.setRun bank (sets d (x a + imm.signExtend 32)))) ∧
    (∀ (a b : RegNo), s.issues bank (bankWord 0x07 0 a b 0 0) t r →
      exec (.cmpx bank a b 0) s = .next (s.setRun bank (r.next { e with p := decide (x a = x b) }))) ∧
    (∀ (a b : RegNo), s.issues bank (bankWord 0x07 0 a b 1 0) t r →
      exec (.cmpx bank a b 1) s = .next (s.setRun bank (r.next { e with p := decide ((x a).toInt < (x b).toInt) }))) ∧
    (∀ (a b : RegNo), s.issues bank (bankWord 0x07 0 a b 2 0) t r →
      exec (.cmpx bank a b 2) s = .next (s.setRun bank (r.next { e with p := decide ((x a).toInt ≤ (x b).toInt) }))) ∧
    (∀ (d a : RegNo) imm, s.issues bank (bankWord 0x08 d a 0 0 imm.toNat) t r →
      exec (.extb bank d a imm) s = .next (s.setRun bank (sets d (((x a).extractLsb' (8 * imm.toNat) 8).signExtend 32)))) ∧
    (∀ (d a : RegNo) imm, s.issues bank (bankWord 0x09 d a 0 0 imm.toNat) t r → 0 ≤ imm.toInt →
      exec (.shx bank d a imm) s = .next (s.setRun bank (sets d (x a <<< imm.toNat)))) ∧
    (∀ (d a : RegNo) imm, s.issues bank (bankWord 0x09 d a 0 0 imm.toNat) t r → imm.toInt < 0 →
      exec (.shx bank d a imm) s = .next (s.setRun bank (sets d ((x a).sshiftRight (-imm.toInt).toNat)))) ∧
    (∀ (a : RegNo), s.issues bank (bankWord 0x16 0 a 0 0 0) t r →
      exec (.setqp bank a) s = .next (s.setRun bank (r.next { e with qp := (x a).toNat % 4096 })))

/-- The lanes of a bank engine (R36, R172, R176, R740): query elements loaded, codes dequantised by shift, products and squared differences
accumulated, ACC cleared; every saturated lane is counted. MAC and SSA with the other accumulator type end the sequence with a fault.

An accumulation is lane by lane: lane i of ACC takes lane i of both operands, and nothing else of the engine changes but the count of saturated
lanes. An INT32 lane of ACC saturates, and the saturation is counted once (R36, R740). -/
def Obligations.LaneBankInstructions : Prop :=
  (∀ (s : State) (bank : Nat) (t : Trigger) (r : BankRun),
    let e := r.engine
    (∀ (d : RegNo), s.issues bank (bankWord 0x15 d 0 0 0 0) t r →
      exec (.qld bank d) s = .next (s.setRun bank (r.next
        { e with v := e.v.set d (ofLanes ((List.range 32).map fun i => nth t.query (e.qp + i))), qp := (e.qp + 32) % 4096 }))) ∧
    (∀ (d a b : RegNo) half part q8 bf16,
      s.issues bank (bankWord 0x20 d a b (mbit half 0 + mbit part 1 + mbit q8 2 + mbit bf16 3) 0) t r →
      let codes := codesOf (halfOf (e.v.get a) half) q8
      let lanes := (if q8 = false ∧ part = true then codes.drop 32 else codes.take 32).map (dequantLane bf16 (shiftOf (e.x.get b)))
      exec (.dq bank d a b half part q8 bf16) s = .next (s.setRun bank (r.next
        { e with v := e.v.set d (ofLanes (lanes.map Prod.fst)), sat := e.sat + (lanes.filter Prod.snd).length }))) ∧
    (∀ (a b : RegNo) bf16, s.issues bank (bankWord 0x21 0 a b (mbit bf16 3) 0) t r → t.accFp = bf16 →
      exec (.mac bank a b bf16) s = .next (s.setRun bank (r.next
        (e.accumulate (macLane bf16) (lanesOf (e.v.get a)) (lanesOf (e.v.get b)))))) ∧
    (∀ (a b : RegNo) bf16, s.issues bank (bankWord 0x22 0 a b (mbit bf16 3) 0) t r → t.accFp = bf16 →
      exec (.ssa bank a b bf16) s = .next (s.setRun bank (r.next
        (e.accumulate (ssaLane bf16) (lanesOf (e.v.get a)) (lanesOf (e.v.get b)))))) ∧
    (∀ (a b : RegNo) bf16, t.accFp ≠ bf16 → let failed := s.withDev (s.dev.faultSequence s.ctx bank (e.cp % 2 ^ 27) .laneType)
      (s.issues bank (bankWord 0x21 0 a b (mbit bf16 3) 0) t r → exec (.mac bank a b bf16) s = .next failed) ∧
      (s.issues bank (bankWord 0x22 0 a b (mbit bf16 3) 0) t r → exec (.ssa bank a b bf16) s = .next failed)) ∧
    (s.issues bank (bankWord 0x25 0 0 0 0 0) t r →
      exec (.clra bank) s = .next (s.setRun bank (r.next { e with acc := Vector.replicate 32 0 })))) ∧
  (∀ (e : Engine) (f : Word → Nat → Nat → Word × Bool) (a b : List Nat),
    let lane (i : Fin 32) : Word × Bool := f (e.acc.get i) (nth a i.val) (nth b i.val)
    e.accumulate f a b = { e with
      acc := Vector.ofFn fun i => (lane i).1, sat := e.sat + ((List.finRange 32).filter fun i => (lane i).2).length }) ∧
  (∀ (acc : Word) (a b : Nat),
    (let v := acc.toInt + signed 16 a * signed 16 b
     macLane false acc a b = (BitVec.ofInt 32 (max (-2 ^ 31) (min (2 ^ 31 - 1) v)), decide (v < -2 ^ 31 ∨ 2 ^ 31 - 1 < v))) ∧
    (let v := acc.toInt + (signed 16 a - signed 16 b) ^ 2
     ssaLane false acc a b = (BitVec.ofInt 32 (max (-2 ^ 31) (min (2 ^ 31 - 1) v)), decide (2 ^ 31 - 1 < v))))

/-- DOT over a register's half, or over the oldest column of the stream, which leaves it and makes room for the stream's next (R172, R174, R740):
the codes are dequantised by the shift in Xb, each saturated one counted, and combined 32 at a time, by MAC's rule or SSA's, with the query
elements from QP, which moves on by their number. An empty stream is waited for. With the other accumulator type the sequence ends with a
fault instead. -/
def Obligations.DotAccumulates : Prop :=
  ∀ (s : State) (bank : Nat) (t : Trigger) (r : BankRun) (a b : RegNo) (half stream q8 bf16 square : Bool) (ecc : Nat),
    let e := r.engine
    let f := if square then ssaLane bf16 else macLane bf16
    let column (k : Nat) : List Nat := (List.range 32).map fun i => nth t.query (e.qp + (32 * k + i))
    let dot (e : Engine) (codes : List Int) : Engine :=
      let lanes := codes.map (dequantLane bf16 (shiftOf (e.x.get b)))
      (List.range (codes.length / 32)).foldl
        (fun e k => e.accumulate f (column k) (((lanes.map Prod.fst).drop (32 * k)).take 32))
        { e with sat := e.sat + (lanes.filter Prod.snd).length, qp := (e.qp + codes.length) % 4096 }
    s.issues bank (bankWord 0x23 0 a b (mbit half 0 + mbit stream 1 + mbit q8 2 + mbit bf16 3 + mbit square 4) 0) t r →
    (t.accFp = bf16 → stream = false → exec (.dot bank a b half stream q8 bf16 square ecc) s =
      .next (s.setRun bank (r.next (dot e (codesOf (halfOf (e.v.get a) half) q8))))) ∧
    (∀ x rest, t.accFp = bf16 → stream = true → e.stream = x :: rest →
      let t := s.setRun bank (r.next (dot { e with stream := rest } (codesOf x q8)))
      exec (.dot bank a b half stream q8 bf16 square ecc) s = .next (t.withDev (t.dev.streamOn s.ctx bank (some ecc))) ∧
      (e.streamLeft = 0 → exec (.dot bank a b half stream q8 bf16 square ecc) s = .next t)) ∧
    (t.accFp = bf16 → stream = true → e.stream = [] →
      exec (.dot bank a b half stream q8 bf16 square ecc) s = .next (s.withDev (s.dev.streamOn s.ctx bank (some ecc)))) ∧
    (t.accFp ≠ bf16 → exec (.dot bank a b half stream q8 bf16 square ecc) s =
      .next (s.withDev (s.dev.faultSequence s.ctx bank (e.cp % 2 ^ 27) .laneType)))

/-- Sums, thresholds and tombstones (R172, R184): RED and CHK with an integer accumulator by the exact sum of its lanes, and with an FP32 one by
its sum in an order of the device's (R64); CMPTH; TSKIP's branch. -/
def Obligations.TestBankInstructions : Prop :=
  ∀ (s : State) (bank : Nat) (t : Trigger) (r : BankRun),
    let e := r.engine
    let total : Int := (e.acc.toList.map fun w => signed 32 w.toNat).foldl (· + ·) 0
    (∀ (d : RegNo) clear, s.issues bank (bankWord 0x24 d 0 0 (mbit clear 0) 0) t r → t.accFp = false → ∃ u,
      exec (.red bank d clear) s = .next u ∧ s.onlyBanks u ∧ (u.dev.bank bank).run = some (r.next
        { e with
          x := e.x.set d (BitVec.ofInt 32 (max (-2 ^ 31) (min (2 ^ 31 - 1) total)))
          acc := if clear then Vector.replicate 32 0 else e.acc
          sat := e.sat + if total < -2 ^ 31 ∨ 2 ^ 31 - 1 < total then 1 else 0 })) ∧
    (∀ count tb, s.issues bank (bankWord 0x26 0 0 0 (mbit count 0 + mbit tb 1) 0) t r → t.accFp = false → ∃ u,
      let th := (e.threshold t tb).toInt
      let worse := if t.lowerBetter then decide (th < total) else decide (total < th)
      exec (.chk bank count tb) s = .next u ∧ s.onlyBanks u ∧ (u.dev.bank bank).run = some (r.next
        { e with p := worse, abandoned := e.abandoned + if worse && count then 1 else 0 })) ∧
    (∀ (d : RegNo) clear, s.issues bank (bankWord 0x24 d 0 0 (mbit clear 0) 0) t r → t.accFp = true → ∃ u order,
      exec (.red bank d clear) s = .next u ∧ s.onlyBanks u ∧ (u.dev.bank bank).run = some (r.next
        { e with
          x := e.x.set d (BitVec.ofNat 32 (f32SumBy order (e.acc.toList.map BitVec.toNat)))
          acc := if clear then Vector.replicate 32 0 else e.acc })) ∧
    (∀ count tb, s.issues bank (bankWord 0x26 0 0 0 (mbit count 0 + mbit tb 1) 0) t r → t.accFp = true → ∃ u order,
      let worse := strictlyWorse t (BitVec.ofNat 32 (f32SumBy order (e.acc.toList.map BitVec.toNat))) (e.threshold t tb)
      exec (.chk bank count tb) s = .next u ∧ s.onlyBanks u ∧ (u.dev.bank bank).run = some (r.next
        { e with p := worse, abandoned := e.abandoned + if worse && count then 1 else 0 })) ∧
    (∀ (a : RegNo) count tb, s.issues bank (bankWord 0x30 0 a 0 (mbit count 0 + mbit tb 1) 0) t r →
      let worse := strictlyWorse t (e.x.get a) (e.threshold t tb)
      exec (.cmpth bank a count tb) s = .next (s.setRun bank (r.next
        { e with p := !worse, abandoned := e.abandoned + if worse && count then 1 else 0 }))) ∧
    (∀ (a b : RegNo) tgt, s.issues bank (bankWord 0x31 0 a b 0 tgt.toNat) t r →
      exec (.tskip bank a b tgt) s = .next (s.setRun bank (if (e.v.get a).toNat.testBit ((e.x.get b).toNat % 512)
        then { r with engine := { e with tombstoned := e.tombstoned + 1 }, pc := tgt.toNat } else r.next e)))

/-- The local top buffer (R172, R185): TOPINS offers one score, of an engine where nothing else changes; TOPRD reads eight entries into a vector
register, an absent one with ID 0xFFFFFFFF, and may take them out; TOPINSV offers eight, and counts them as moved in; each keeps OFFERED +
MOVED_IN = entries + EVICTED + MOVED_OUT. -/
def Obligations.TopBufferKeepsItsCount : Prop :=
  ∀ (s : State) (bank : Nat) (t : Trigger) (r : BankRun),
    let x := r.engine
    let kept (e : Engine) : Prop := e.offered + e.movedIn = e.tb.length + e.evicted + e.movedOut ∧ e.tb.length ≤ t.tbSize
    let leaves (u : State) (e : Engine) : Prop := s.onlyBanks u ∧ (u.dev.bank bank).run = some (r.next e) ∧ kept e
    kept x →
    (∀ (a b : RegNo), s.issues bank (bankWord 0x32 0 a b 0 0) t r → ∃ u e,
      exec (.topins bank a b) s = .next u ∧ leaves u e ∧ e.offered + e.nan = x.offered + x.nan + 1 ∧
      e = { x with tb := e.tb, offered := e.offered, evicted := e.evicted, nan := e.nan }) ∧
    (∀ (d : RegNo) imm move, s.issues bank (bankWord 0x33 d 0 0 (mbit move 0) imm.toNat) t r → ∃ u e w,
      exec (.toprd bank d imm move) s = .next u ∧ leaves u e ∧ e = { x with v := x.v.set d w, tb := e.tb, movedOut := e.movedOut } ∧
      (∀ i < 8, match x.tb[8 * imm.toNat + i]? with
        | some y => elem w.toNat 8 i = y.1.toNat + y.2 % 2 ^ 32 * 2 ^ 32
        | none => elem w.toNat 8 i / 2 ^ 32 = 0xFFFFFFFF) ∧
      e.tb = if move then x.tb.take (8 * imm.toNat) ++ x.tb.drop (8 * imm.toNat + 8) else x.tb) ∧
    (∀ (a : RegNo), s.issues bank (bankWord 0x34 0 a 0 0 0) t r → ∃ u e,
      exec (.topinsv bank a) s = .next u ∧ leaves u e ∧
      e = { x with tb := e.tb, evicted := e.evicted, nan := e.nan, movedIn := e.movedIn } ∧
      e.movedIn + e.nan = x.movedIn + x.nan + ((List.range 8).filter fun i => elem (x.v.get a).toNat 8 i / 2 ^ 32 != 0xFFFFFFFF).length)

/-- TOPINS (R185, TB of 32 entries): it inserts while there is room; a better score takes the place of a worst entry, an equal one may, a worse
one is discarded, and each counts an eviction; a NaN is counted and nothing else. TB is best first and holds no NaN, and stays so. -/
def Obligations.TopInsertionKeepsTheBest : Prop :=
  ∀ (s : State) (bank : Nat) (t : Trigger) (r : BankRun) (a b : RegNo),
    let e := r.engine
    let x : Word × Nat := (e.x.get a, (e.x.get b).toNat)
    let nan (w : Word) : Bool := t.accFp && f32IsNaN w.toNat
    let ordered (l : List (Word × Nat)) : Prop :=
      l.Pairwise (fun y z => strictlyWorse t y.1 z.1 = false) ∧ ∀ y ∈ l, nan y.1 = false
    s.issues bank (bankWord 0x32 0 a b 0 0) t r → t.abi ≠ 2 → ordered e.tb → e.tb.length ≤ 32 →
    ∃ u e', exec (.topins bank a b) s = .next u ∧ s.onlyBanks u ∧ (u.dev.bank bank).run = some (r.next e') ∧ ordered e'.tb ∧
      (nan x.1 = true → e' = { e with nan := e.nan + 1 }) ∧
      (nan x.1 = false → e.tb.length < 32 → e'.tb.Perm (x :: e.tb) ∧ e'.evicted = e.evicted ∧ e'.nan = e.nan) ∧
      (nan x.1 = false → e.tb.length = 32 → ∀ w ∈ e.tb, (∀ y ∈ e.tb, strictlyWorse t y.1 w.1 = false) →
        let replaced : Prop := ∃ v ∈ e.tb, sameScore t v.1 w.1 = true ∧ e'.tb.Perm (x :: e.tb.erase v)
        e'.evicted = e.evicted + 1 ∧ e'.nan = e.nan ∧
        (strictlyWorse t w.1 x.1 = true → replaced) ∧
        (sameScore t x.1 w.1 = true → e'.tb = e.tb ∨ replaced) ∧
        (strictlyWorse t x.1 w.1 = true → e'.tb = e.tb))

/-- The fetch port (R163, R172, R175, R188, R192, R732): a column inside the trigger's window, of the open row or the first of a step, goes where
the instruction says; STRM takes on a stream of columns from CP and begins to read it, SSKIP drops its next columns without reading them, and
SETCP, FETCH and STRM wait while a stream is in progress, whose columns are read first. -/
def Obligations.FetchPortInstructions : Prop :=
  ∀ (s : State) (bank : Nat) (t : Trigger) (r : BankRun),
    let e := r.engine
    let reads (a ecc : Nat) (col : BitVec 256) : Prop := t.winLo ≤ a ∧ a + 32 ≤ t.winHi ∧ ecc ≠ 2 ∧ r.columns < 32 ∧
      (r.row = none ∨ ∃ x, r.row = some (a / 1024, x)) ∧
      col = BitVec.ofNat 256 (byteField (match r.row with
        | some (_, x) => x
        | none => (tabGet (a / 1024) (s.dev.bank bank).shadow).getD (memNum s.dev.mem (bankKey bank (a / 1024 * 1024)) 1024)) (a % 1024) 32)
    let leaves (u : State) (e' : Engine) : Prop := s.onlyBanks u ∧
      ((u.dev.bank bank).run.map fun x => (x.engine, x.pc)) = some (e', r.pc + 1)
    let streams (e' : Engine) (first : Option Nat) : Dev := (s.setRun bank (r.next e')).dev.streamOn s.ctx bank first
    (∀ (a : RegNo), s.issues bank (bankWord 0x10 0 a 0 0 0) t r → e.streamLeft = 0 → ∃ u,
      exec (.setcp bank a) s = .next u ∧ leaves u { e with cp := (e.x.get a).toNat % 2 ^ 27 / 32 * 32 }) ∧
    (∀ (d : RegNo) half inc ecc col, s.issues bank (bankWord 0x11 d 0 0 (mbit half 0 + mbit inc 1) 0) t r → e.streamLeft = 0 → reads e.cp ecc col → ∃ u,
      exec (.fetch bank d half inc ecc) s = .next u ∧ leaves u
        { e with v := e.v.set d (setHalf (e.v.get d) half col), cp := if inc then (e.cp + 32) % 2 ^ 27 else e.cp }) ∧
    (∀ (d a : RegNo) imm ecc col, s.issues bank (bankWord 0x12 d a 0 0 imm.toNat) t r → reads ((e.x.get a).toNat / 32 * 32) ecc col → ∃ u,
      exec (.fetchx bank d a imm ecc) s = .next u ∧ leaves u { e with x := e.x.set d (col.extractLsb' (32 * imm.toNat) 32) }) ∧
    (∀ (a : RegNo) ecc, s.issues bank (bankWord 0x13 0 a 0 0 0) t r → e.streamLeft = 0 →
      exec (.strm bank a ecc) s = .next (s.withDev ((streams { e with streamLeft := (e.x.get a).toNat } (some ecc)).afterColumns s.ctx bank)) ∧
      (e.x.get a = 0 → ∃ u, exec (.strm bank a ecc) s = .next u ∧ leaves u e)) ∧
    (∀ (a : RegNo), s.issues bank (bankWord 0x14 0 a 0 0 0) t r →
      let n := min ((e.x.get a).toNat - e.stream.length) e.streamLeft
      let e' : Engine := { e with stream := e.stream.drop (e.x.get a).toNat, streamLeft := e.streamLeft - n, cp := (e.cp + 32 * n) % 2 ^ 27 }
      exec (.sskip bank a) s = .next (s.withDev (streams e' none)) ∧
      (e.streamLeft = n → ∃ u, exec (.sskip bank a) s = .next u ∧ leaves u e')) ∧
    (e.streamLeft ≠ 0 → let goesOn := s.withDev (s.dev.streamOn s.ctx bank none)
      (∀ a : RegNo, s.issues bank (bankWord 0x10 0 a 0 0 0) t r → exec (.setcp bank a) s = .next goesOn) ∧
      (∀ (d : RegNo) half inc ecc, s.issues bank (bankWord 0x11 d 0 0 (mbit half 0 + mbit inc 1) 0) t r →
        exec (.fetch bank d half inc ecc) s = .next goesOn) ∧
      (∀ (a : RegNo) ecc, s.issues bank (bankWord 0x13 0 a 0 0 0) t r → exec (.strm bank a ecc) s = .next goesOn))

/-- Records, the end of a sequence and exchange (R186, R187, R199–R201): EMIT sends the buffer's entries and counts and clears them; END sends
what there is to send and ends the sequence, which leaves a bank where nothing waits to ordinary accesses; BAR lets the bank go on where every other
of its group has reached it, and has it wait, its step over, where one has not; a register goes to a neighbour or a group member and is taken
from its queue; one to or from outside the group ends the sequence with a fault. -/
def Obligations.ExchangeBankInstructions : Prop :=
  ∀ (s : State) (bank : Nat) (t : Trigger) (r : BankRun),
    let e := r.engine
    let failed := s.withDev (s.dev.faultSequence s.ctx bank (e.cp % 2 ^ 27) .exchange)
    (s.issues bank (bankWord 0x38 0 0 0 0 0) t r → r.cancelled = false → s.dev.resultFull bank = false → ∃ u e',
      exec (.engineEmit bank) s = .next u ∧ s.onlyBanks u ∧ (u.dev.bank bank).run = some (r.next e') ∧
      e'.tb = [] ∧ e'.hasRecord = false ∧ e'.x = e.x ∧ e'.v = e.v ∧ e'.acc = e.acc ∧
      (tabGetD (resultKey bank) [] u.dev.banks.results).length = (tabGetD (resultKey bank) [] s.dev.banks.results).length + 1) ∧
    (s.issues bank (bankWord 0x01 0 0 0 0 0) t r → r.cancelled = true ∨ e.hasRecord = false →
      exec (.bankEnd bank) s = .next (s.withDev (s.dev.endSequence s.ctx bank))) ∧
    (s.issues bank (bankWord 0x01 0 0 0 0 0) t r → r.cancelled = false → e.hasRecord = true → s.dev.resultFull bank = false →
      exec (.bankEnd bank) s = .next (s.withDev ((s.dev.sendRecord bank t e).endSequence s.ctx bank))) ∧
    (s.issues bank (bankWord 0x01 0 0 0 0 0) t r → r.cancelled = true ∨ e.hasRecord = false → (∃ m ∈ t.left, m ≠ bank % 768) →
      (s.dev.bank bank).saved = none → (s.dev.bank bank).accesses = [] → (s.dev.bank bank).quiet = [] → ∃ u,
      exec (.bankEnd bank) s = .next u ∧ (u.dev.bank bank).run = none ∧ (u.dev.bank bank).state = .mem) ∧
    (s.issues bank (bankWord 0x04 0 0 0 0 0) t r → r.inBar = false → bank ∈ s.dev.groupBanks bank →
      ((∀ m ∈ s.dev.groupBanks bank, m ≠ bank → s.dev.barReached t m = true) → ∃ u,
        exec (.bar bank) s = .next u ∧ s.onlyBanks u ∧ (u.dev.bank bank).run = some (r.next e)) ∧
      ((∃ m ∈ s.dev.groupBanks bank, m ≠ bank ∧ s.dev.barReached t m = false) → ∃ u,
        exec (.bar bank) s = .next u ∧ s.onlyBanks u ∧
        (u.dev.bank bank).run = some { r with inBar := true, inStep := false, row := none, columns := 0 })) ∧
    (∀ (a : RegNo) dir n, s.issues bank (bankWord 0x39 0 a 0 (mbit dir 0) 0) t r → s.dev.neighbour bank dir = some n → n ≠ bank →
      (s.dev.bank n).rxFull (if dir then 0 else 1) = false → ∃ u,
      exec (.send bank a dir) s = .next u ∧ s.onlyBanks u ∧ (u.dev.bank bank).run = some (r.next e) ∧
      (if dir then (u.dev.bank n).rxLow = (s.dev.bank n).rxLow ++ [e.v.get a] else (u.dev.bank n).rxHigh = (s.dev.bank n).rxHigh ++ [e.v.get a])) ∧
    (∀ (a : RegNo) dir, s.issues bank (bankWord 0x39 0 a 0 (mbit dir 0) 0) t r → s.dev.neighbour bank dir = none →
      exec (.send bank a dir) s = .next failed) ∧
    (∀ (d : RegNo) dir v rest, s.issues bank (bankWord 0x3A d 0 0 (mbit dir 0) 0) t r → (s.dev.neighbour bank dir).isSome = true →
      (if dir then (s.dev.bank bank).rxHigh else (s.dev.bank bank).rxLow) = v :: rest → ∃ u,
      exec (.recv bank d dir) s = .next u ∧ s.onlyBanks u ∧ (u.dev.bank bank).run = some (r.next { e with v := e.v.set d v }) ∧
      (if dir then (u.dev.bank bank).rxHigh else (u.dev.bank bank).rxLow) = rest) ∧
    (∀ (d : RegNo) dir, s.issues bank (bankWord 0x3A d 0 0 (mbit dir 0) 0) t r → s.dev.neighbour bank dir = none →
      exec (.recv bank d dir) s = .next failed) ∧
    (∀ (a : RegNo) imm n, s.issues bank (bankWord 0x3B 0 a 0 0 imm.toNat) t r → s.dev.groupMember bank imm.toNat = some n → n ≠ bank →
      (s.dev.bank n).rxFull 2 = false → ∃ u,
      exec (.busx bank a imm) s = .next u ∧ s.onlyBanks u ∧ (u.dev.bank bank).run = some (r.next e) ∧
      (u.dev.bank n).rxBus = (s.dev.bank n).rxBus ++ [e.v.get a]) ∧
    (∀ (a : RegNo) imm, s.issues bank (bankWord 0x3B 0 a 0 0 imm.toNat) t r → s.dev.groupMember bank imm.toNat = none →
      exec (.busx bank a imm) s = .next failed) ∧
    (∀ (d : RegNo) v rest, s.issues bank (bankWord 0x3C d 0 0 0 0) t r → (s.dev.bank bank).rxBus = v :: rest → ∃ u,
      exec (.busr bank d) s = .next u ∧ s.onlyBanks u ∧ (u.dev.bank bank).run = some (r.next { e with v := e.v.set d v }) ∧
      (u.dev.bank bank).rxBus = rest)

/-- The first trigger that its SCAN offers (R293), where no threshold prunes it and no rule refuses it, is accepted with the next number, and is
offered no more (R180, R181, R294, R295).

Query slots (R182): one waiting trigger that fits takes its runs, the longest waiter has slots held for it after 10 µs, and nothing else
changes. -/
def Obligations.TriggersAreTakenUp : Prop :=
  (∀ (s : State) (capsule desc tag : Nat) (rest : List Nat) (x : ScanRun) (cap : Capsule) (o : OpCtx),
    let d := s.dev.setDict { s.dev.dict with cfg := cap.cfg }
    let t := d.scanTrigger s.ctx o x tag
    s.running = true → s.dev.capsule? capsule = some cap → s.dev.scanRun? capsule desc = some x → s.dev.opCtx capsule desc = some o →
    x.offers = tag :: rest → prunes (ixLower (d.index x.index)) (ixSlack (d.index x.index)) x.threshold (x.cells.getD (tag - 1) (0, 0, 0)).2.1 = false →
    d.unroutable (tileRouter (d.tileFor capsule desc)) (stackRouter t.stack) = none →
    d.triggerRefusal t = none → t.banks ≠ [] → d.heldAt 0 t.stack capsule = false → (∀ b ∈ t.banks, (d.bank b).queue.length < 8) →
    ∃ u, exec (.trigger capsule desc tag) s = .next u ∧
      (∃ g ∈ u.dev.banks.triggers, g.order = s.dev.banks.nextTrigger ∧ g.capsule = x.capsule ∧ g.tag = tag ∧ g.banks = t.banks) ∧
      (∀ y, u.dev.scanRun? capsule desc = some y → y.offers = rest ∧ tag ∈ y.rows)) ∧
  ((∀ (s : State) (stack : Nat) (t : Trigger),
    s.running = true → (s.dev.banks.triggers.filter fun g => g.stack == stack && !g.granted) = [t] →
    (∀ pc ∈ bitsSet 32 t.pcMask, (s.dev.slotRun t pc).isSome = true) →
    ∃ u, exec (.querySlotGrant stack) s = .next u ∧ s.onlyBanks u ∧ { t with granted := true, holding := false } ∈ u.dev.banks.triggers ∧
      ∀ pc ∈ bitsSet 32 t.pcMask, ∀ l, s.dev.slotRun t pc = some l → ∀ k ∈ l, tabGet k u.dev.banks.querySlots = some t.order) ∧
  (∀ (s : State) (k : Nat) (t : Trigger),
    s.running = true → s.dev.trigger? k = some t → t.cls ≠ 0 → t.granted = false → t.since + 1000 ≤ s.time.count →
    ∃ u, exec (.querySlotHold k) s = .next u ∧ s.onlyBanks u ∧ u.dev.trigger? k = some { t with holding := true }))

/-- A sequence starts on every bank of its engine group at once, when each is free for it: X0, X1 and X2 hold the trigger's arguments and the
bank, the program counter its entry (R170, R181, R190).

A sequence gives way (R193, R196): a save step puts it aside for a waiting C0 sequence, with its state whole, and is counted; the preemption
timeout of an exclusive one is noted while its step is open, and counted. -/
def Obligations.SequencesStartAndGiveWay : Prop :=
  (∀ (s : State) (bank : Nat) (t : Trigger),
    s.running = true → s.dev.nextTrigger bank = some t →
    (∀ b ∈ s.dev.groupBanks bank, (s.dev.bank b).run = none ∧ (t.cls = 0 ∨ (s.dev.bank b).saved = none) ∧ s.dev.nextTrigger b = some t) →
    ∃ u, exec (.sequenceStart bank) s = .next u ∧ s.onlyBanks u ∧
      ∀ b ∈ s.dev.groupBanks bank, ∃ r, (u.dev.bank b).run = some r ∧ r.trigger = t.order ∧ r.pc = t.entry ∧ r.inStep = false ∧
        r.engine.x.get 0 = BitVec.ofNat 32 t.arg0 ∧ r.engine.x.get 1 = BitVec.ofNat 32 t.arg1 ∧
        r.engine.x.get 2 = BitVec.ofNat 32 (b % 768) ∧ r.engine.acc = Vector.replicate 32 0 ∧ r.engine.tb = [] ∧
        ((u.dev.bank b).state = .pimShared ∨ (u.dev.bank b).state = .pimExclusive)) ∧
  (∀ (s : State) (bank : Nat) (r : BankRun),
    let b := s.dev.bank bank
    s.running = true → b.run = some r →
    (r.inStep = false → s.dev.yields s.ctx bank = true → s.dev.mayStart s.ctx bank = true →
      ∃ u, exec (.c0Yield bank) s = .next u ∧ s.onlyBanks u ∧ (u.dev.bank bank).saved = some { r with counted := false } ∧
        (u.dev.bank bank).yields = satAdd 64 b.yields 1) ∧
    (r.inStep = true → b.state = .pimExclusive → b.expired = false → s.dev.preempted s.ctx bank = true →
      ∃ u, exec (.preemptionTimeout bank) s = .next u ∧ s.onlyBanks u ∧
        u.dev.bank bank = { b with expired := true, preemptions := satAdd 64 b.preemptions 1 }))

/-- Steps (R188, R189, R194, R204, R205): at a boundary with nothing to serve a sequence with no stream to go on with, whose grant the window or
the trigger rules allow, takes its next step; a refresh that falls due in a step waits for its end, and is issued at once on an idle bank.

The governor's window (R204): at a multiple of 1 µs a stack in service gets the budget of its hottest core die, whole. -/
def Obligations.StepsAreTakenInWindows : Prop :=
  (∀ (s : State) (bank : Nat) (r : BankRun) (t : Trigger),
    let b := s.dev.bank bank
    let k := s.dev.stack (bank / 768)
    let idle : Prop := b.run = some r ∧ s.dev.trigger? r.trigger = some t ∧ r.inStep = false ∧ r.restoring = false ∧ r.cancelled = false ∧
      r.failed = false ∧ r.engine.streamLeft = 0 ∧ b.accesses = [] ∧ b.quiet = [] ∧ b.shadow = [] ∧ b.refreshes = 0 ∧ s.dev.yields s.ctx bank = false ∧ s.dev.mayStart s.ctx bank = true
    let taken (u : State) : Prop := s.onlyBanks u ∧ (u.dev.bank bank).run = some
      { r with inStep := true, columns := 0, row := none, grantedAt := s.time.count, counted := false } ∧
      (u.dev.bank bank).steps = satAdd 64 b.steps 1
    s.running = true →
    (idle → s.dev.mustWait bank t r = false → bank ∉ k.waiting → ∃ u, exec (.stepBoundary bank) s = .next u ∧ taken u) ∧
    (idle → s.dev.governed (bank / 768) = false → k.waiting = [bank] → t.cls < 8 → bank / 768 < s.dev.banks.units.length →
      ∃ u, exec (.triggerRulesRelease (bank / 768) (bank % 768 / 24)) s = .next u ∧ taken u) ∧
    (b.run = some r → r.inStep = true → b.refreshes < 8 →
      ∃ u, exec (.refreshDue bank) s = .next u ∧ s.onlyBanks u ∧ u.dev.bank bank = { b with refreshes := b.refreshes + 1 }) ∧
    (b.run = none → b.accesses = [] → b.quiet = [] → b.shadow = [] → ∃ u, exec (.refreshDue bank) s = .next u ∧ s.onlyBanks u ∧ (u.dev.bank bank).refreshes = 0)) ∧
  (∀ (s : State) (stack : Nat) (temps : List Nat),
    let k := s.dev.stack stack
    let budget := governorBudget (s.dev.stackCfg stack 0x2406) (temps.foldl max 0)
    s.running = true → s.time.count % 100 = 0 → stack < s.dev.banks.units.length → k.state = 0 → s.dev.governed stack = true → k.waiting = [] →
    ∃ u, exec (.governorWindow stack temps) s = .next u ∧ s.onlyBanks u ∧
      u.dev.stack stack = { k with temps := temps, lastBudget := k.budget, budget := budget, remaining := budget, hot := false } ∧
      ∀ n, n ≠ stack → u.dev.stack n = s.dev.stack n)

/-- An ordinary access of T1 that its realm may make, inside one row of a bank with nothing to run (R191): a write stores exactly its bytes, a
read sends them and stores nothing, whatever errors its columns are corrected of. No other byte of storage changes. -/
def Obligations.OrdinaryAccessesReachMemory : Prop :=
  ∀ (s : State) (a : OrdAccess) (bs : List Byte) (corrected : List Nat),
    s.running = true → a.capsule = none → inT2 a.addr = false → s.dev.accessScrubbed a = false → 0 < a.len →
    a.addr / 256 = (a.addr + a.len - 1) / 256 →
    (let b := s.dev.bank (s.dev.bankOf a.addr); b.run = none ∧ b.accesses = [] ∧ b.quiet = [] ∧ b.state ≠ .pimExclusive) →
    (a.data = some bs → bs.length = a.len → s.dev.checkWrite a.realm a.addr a.len = (stOk, s.dev) →
      ∃ u, exec (.ordinaryAccess a corrected) s = .next u ∧ u.dev.mem = (s.dev.t1Store a.addr bs).mem ∧ u.dev.out = s.dev.out ∧
        u.dev.hostMem = s.dev.hostMem ∧ u.dev.tiers = s.dev.tiers ∧
        (s.memoryOk = true → ∀ k, (∀ i < a.len, s.dev.byteKey (a.addr + i) ≠ some k) → memGet u.dev.mem k = memGet s.dev.mem k)) ∧
    (a.data = none → s.dev.checkRead a.realm a.addr a.len = (stOk, s.dev) →
      ∃ u, exec (.ordinaryAccess a corrected) s = .next u ∧ u.dev.mem = s.dev.mem ∧ u.dev.hostMem = s.dev.hostMem ∧ u.dev.tiers = s.dev.tiers ∧
        u.dev.out = .readData a.source a.sourceId a.addr (s.dev.t1Read a.addr a.len) :: s.dev.out)

/-- Every compute operator completes on every operand (R112–R123): its work always answers done, and unless memory that it writes is being
cleared (R637) the command leaves the descriptor with those outputs. -/
def Obligations.ComputeOperatorsComplete : Prop :=
  ∀ (s : State) (capsule desc : Nat) (d : Dev) (o : OpCtx) (row : OpRow),
    s.operates capsule desc d o → row ∈ computeRows capsule desc → row.selects o.word = true → o.emptyInput = false →
    ∃ writes k d', row.work s.ctx d o = (.done writes k, d') ∧
      ((d'.finishOp s.ctx o writes k).fillWait = false → exec row.command s = .next (s.ranOp capsule desc (d'.finishOp s.ctx o writes k))) ∧
      (o.keepsOutputs writes → d'.fillWait = false → exec row.command s = .next (s.ranOp capsule desc (d'.finishOp s.ctx o writes k)))

/-- BRANCH_IF and BARRIER run on empty inputs as well (*Zero values*): a branch writes its decision, 1 or 0, and counts the saturations of its
element's conversion; a barrier writes nothing.

An operator that reads an empty tensor writes empty outputs and reads nothing else (*Zero values*). -/
def Obligations.ControlAndEmptyOperators : Prop :=
  (∀ (s : State) (capsule desc : Nat) (d : Dev) (o : OpCtx),
    s.operates capsule desc d o →
    (dcOp o.word = 0x40 →
      let a := d.inValuesD o 0
      let v := intTensor (o.outDims 0) [if decision (o.inFmt 0) o.word a.1.2.head? then 1 else 0]
      let d' := a.2.finishOp s.ctx o (o.put 0 v) (decisionCounts (o.inFmt 0) o.word a.1.2.head?)
      d'.fillWait = false → exec (.branchIf capsule desc) s = .next (s.ranOp capsule desc d')) ∧
    (dcOp o.word = 0x42 → exec (.barrier capsule desc) s = .next (s.ranOp capsule desc (d.finishOp s.ctx o [] .none)))) ∧
  (∀ (s : State) (capsule desc : Nat) (d : Dev) (o : OpCtx) (row : OpRow),
    let nothing := (dcOuts o.word).map fun p => (p.2, (⟨[0, 1, 1, 1], []⟩ : Tensor))
    s.operates capsule desc d o → row ∈ computeRows capsule desc ++ dataRows capsule desc → row.selects o.word = true →
    o.emptyInput = true → (d.finishOp s.ctx o nothing .none).fillWait = false →
    exec row.command s = .next (s.ranOp capsule desc (d.finishOp s.ctx o nothing .none)))

/-- Where an operator's work is done and its outputs stay in the run, the descriptor has operated, the run holds each output, its slot drains
and memory is as it was (R143). Of a descriptor that is cut into several tile operations (R142) each but the last leaves its slot draining
and is counted, and nothing else. -/
def Obligations.FinishedOperationsDrain : Prop :=
  (∀ (c : Ctx) (d : Dev) (o : OpCtx) (writes : List (Nat × Tensor)) (k : Counts) (r : PlanRun),
    d.run? o.cap.order = some r → o.keepsOutputs writes → (writes.map (·.1)).Nodup →
    let e := d.finishOp c o writes k
    (∃ q, e.run? o.cap.order = some q ∧ tabGet o.desc q.descs = some .operated ∧ ∀ w ∈ writes, tabGet w.1 q.values = some w.2) ∧
    (∀ x ∈ e.tiles.slots, x.2.capsule = o.cap.order → x.2.desc = o.desc → x.2.state = .draining) ∧
    e.mem = d.mem ∧ e.hostMem = d.hostMem ∧ e.tiers = d.tiers) ∧
  (∀ (s : State) (capsule desc key : Nat) (d : Dev) (o : OpCtx) (k : Slot) (row : OpRow),
    let cut := tabGetD desc ⟨1, 1, 0, 0, 0⟩ o.run.cuts
    s.running = true →
    (∃ cap, s.dev.capsule? capsule = some cap ∧ d = (s.dev.setDict { s.dev.dict with cfg := cap.cfg }).setFillWait false) →
    d.opCtx capsule desc = some o → d.slotOf capsule desc = some (key, k) → k.state = .running →
    tabGet desc o.run.descs = some .placed → cut.ran + 1 < cut.total →
    row ∈ computeRows capsule desc ++ dataRows capsule desc → row.selects o.word = true →
    exec row.command s = .next (s.ranOp capsule desc ((d.modRun capsule fun r =>
      { r with cuts := tabUpdate desc (fun c => { c with ran := c.ran + 1 }) r.cuts }).slotTo key .draining)))

/-- The operators that reach into indexes, tables, pools, lists, flash and other members complete unless a rule of theirs ends the capsule: the
command leaves the descriptor operated, with its outputs where its work is done, and without where it waits for flash, a move or another
member. Where a rule ends the capsule, the command ends it with that rule's status.

Of each of them it is said under which conditions no rule ends the capsule: ATTEND, KV_APPEND and both VERIFY_TREEs of page tables that may be
read and claimed (R424–R430), a tree besides of pending tokens, or drafts, that are there; a panel move of an output kept in the run; SELECT, MERGE,
FILTER and DEDUP where what they keep fits (R319, R340); GATHER, SCATTER and FILTER of a table that serves, with no row refused (R386);
PROBE and GRAPH_STEP of an index that serves, with a budget without limit and a query that is no zero vector under cosine; FETCH_FLASH and
RERANK_EXACT of blocks that may be asked for, or a sparse query in order; EMIT and COLLECT of members that are there and parts that fit. -/
def Obligations.DataOperatorsComplete : Prop :=
  (∀ (s : State) (capsule desc : Nat) (d : Dev) (o : OpCtx) (row : OpRow),
    s.operates capsule desc d o → row ∈ dataRows capsule desc → row.selects o.word = true → o.emptyInput = false →
    (row.leaves s.ctx d o).fillWait = false →
    exec row.command s = .next (s.ranOp capsule desc (row.leaves s.ctx d o)) ∧
    (row.goesOn s.ctx d o →
      (∃ writes k d', row.work s.ctx d o = (.done writes k, d') ∧
        exec row.command s = .next (s.ranOp capsule desc (d'.finishOp s.ctx o writes k))) ∨
      (∃ d', row.work s.ctx d o = (.waits, d') ∧ exec row.command s = .next (s.ranOp capsule desc (d'.modRun o.cap.order fun r =>
        { r with descs := tabSet o.desc .operated r.descs }))))) ∧
  (∀ (c : Ctx) (d : Dev) (o : OpCtx),
    let done (r : OpResult × Dev) : Prop := ∃ writes k d', r = (.done writes k, d')
    let goes (r : OpResult × Dev) : Prop := done r ∨ r.1 = .waits
    let a := d.inputD o 0
    let b := a.2.inputD o 1
    let t := dcP o.word 15 0 % 0x1000
    let room := dimAt (o.outDims 0) 1 - 4
    let streams (i : Nat) : Prop := streamingList o.plan.image (dcOut o.word i) = true
    let w := d.index o.indexSlot
    let free (unit : Nat) : Prop := ∃ r p, d.run? o.cap.order = some r ∧ d.plan? r.plan = some p ∧ imBudget p.image unit = 2 ^ 64 - 1
    ((a.2.openTable o 1 (some (dimAt a.1.dims 2)) false).1 = stOk → done (opAttend c d o)) ∧
    (∀ cols e, b.2.openTable o 2 (some (dimAt a.1.dims 2)) true = (stOk, cols, e) → (e.stageAll o.cap.order o.poolSlot cols).1 = true →
      done (opKvAppend c d o)) ∧
    (∀ cols e, (d.inValuesD o 0).2.openTable o 1 (some (volumeOf ((d.inValuesD o 0).1.1.drop 1))) true = (stOk, cols, e) →
      (∀ k ∈ cols, k.tree = true ∧ sqTree (e.seqHead o.poolSlot k.seq) = true) → done (opTreeAccept c d o)) ∧
    (∀ cols e, d.openTable o 1 none true = (stOk, cols, e) → dcPb o.word 17 = false →
      (∀ k ∈ cols, sqPending ((e.inputD o 0).2.seqHead o.poolSlot k.seq) ≠ 0xFFFFFFFF) → done (opTreeBuild c d o)) ∧
    (∀ col e, d.openTable o 1 none true = (stOk, [col], e) → dcPb o.word 17 = true →
      let x := e.inputD o 0
      let slot := dcP o.word 47 32 - 0x2000
      let l := x.2.listDrafts slot (((listEntries x.1).take 64).filter fun e => e.1 != emptyHandle)
      x.2.tableServes slot = true → l.1 = stOk → sqPending (l.2.2.seqHead o.poolSlot col.seq) ≠ 0xFFFFFFFF → done (opTreeBuild c d o)) ∧
    (inputsFit o.selectSpec (d.inputLists o (List.range 8)).1 = true → done (opSelect c d o) ∧ (dcPb o.word 19 = false → done (opMerge c d o))) ∧
    (dcPb o.word 19 = true → (let x := d.inputLists o [0]; let y := x.2.inputLists o [1]
      inputsFit { o.selectSpec with streams := false } (x.1 ++ y.1) = true) → done (opMerge c d o)) ∧
    (((d.inputLists o [0]).1.all fun i => decide ((i.2.filter validCand).length ≤ room)) = true ∨ streams 0 → done (opDedup c d o)) ∧
    (let e := b.2.filterCands o.word t b.1.elems (listEntries a.1)
     d.tableServes t = true → e.1 = stOk → (e.2.1.length ≤ room ∨ streams 0) → done (opFilter c d o)) ∧
    (let epoch := ((a.2.updates.gathers.find? fun g => g.capsule == o.cap.order && g.desc == o.desc).map fun g => g.epoch).getD (a.2.tableState t).epoch
     d.tableServes t = true → (a.2.gatherRows c t epoch (distinct a.1.elems)).1 = stOk → done (opGather c d o)) ∧
    (let x := d.scattered o t
     d.tableServes t = true → (x.2.scatterRows c t (x.1.map fun e => (e.1, e.2.1))).1 = stOk → done (opScatter c d o)) ∧
    ((∀ v, o.keepsOutputs (o.put 0 v)) → (opPanel c d o).1 = .waits) ∧
    (d.flash.mapState = 2 → (let blocks := distinct (blockNumbers a.1)
      (∀ k ∈ blocks, k < (a.2.volume o.volumeSlot).capacity) ∧ (a.2.beginWait c o none (blocks.map fun k => (o.volumeSlot, k)) []).1 = stOk) →
      goes (opFetchFlash c d o)) ∧
    (d.indexServes o.indexSlot = true → (ixMetric w ≠ 2 ∨ zeroVector (d.queryOf o 0).1.1 = false) → free 0 → done (opProbe c d o)) ∧
    (d.indexServes o.indexSlot = true → (ixKind w ≠ 1 ∨ ixMetric w ≠ 2 ∨ zeroVector (d.queryOf o 0).1.1 = false) →
      free (if ixKind w = 1 then 0 else 1) → (let f := ((d.queryOf o 0).2.inputD o 1).1
        ixKind w ≠ 2 ∨ dcOut o.word 1 = noOperand ∨ streams 1 ∨
        (nth f.elems 0 ≤ dimAt (o.outDims 1) 1 - 4 ∧ dimAt f.dims 1 - 8193 ≤ dimAt (o.outDims 1) 1 - 4)) → done (opGraphStep c d o)) ∧
    (d.indexServes o.indexSlot = true → (listEntries a.1).length ≤ room →
      (dcP o.word 19 16 ≠ 3 → (let x := a.2.sourcesOf o.indexSlot w (listEntries a.1)
        let blocks := distinct ((x.1.map (originalBlocks w)).flatten)
        let stale := ((listEntries a.1).zip x.1).filter fun e => e.1.1 != emptyHandle && e.2 == .stale
        (blocks = [] ∨ x.2.flash.mapState = 2) ∧
        ((x.2.modIndex o.indexSlot fun k => { k with stale := satAdd 64 k.stale stale.length }).beginWait c o (some o.indexSlot) blocks x.1).1 = stOk) →
        goes (opRerankExact c d o)) ∧
      (dcP o.word 19 16 = 3 → (let l := a.2.inputD o 0
        let q := l.2.inputD o 1
        let query := (chunks 2 (q.1.elems.length + 1) q.1.elems).map fun p => (nth p 0, nth p 1)
        let x := q.2.pick ((2 * query.length + 2) * (listEntries l.1).length)
        query ≠ [] ∧ query.length ≤ 1024 ∧ ascending (query.map Prod.fst) = true ∧
        q.2.tableServes (ixSparse (a.2.index o.indexSlot) - 0x2000) = true ∧
        (x.2.sparseScores (ixSparse (a.2.index o.indexSlot) - 0x2000) query (fun i j => x.1 ((2 * query.length + 2) * i + j)) 0
          (listEntries l.1)).1 = stOk) →
        done (opRerankExact c d o))) ∧
    (o.cap.mirrored = true → done (opEmit c d o)) ∧
    (let rank := dcP o.word 15 0
     let node := nth o.cap.members rank
     o.cap.mirrored = false → o.cap.composition ≠ 0 → rank < o.cap.members.length → node ≠ 0 →
      (node = d.fabric.node → a.2.emitPlace o.cap.realm (dcP o.word 31 16) (dcP o.word 37 32) = true → done (opEmit c d o)) ∧
      (node ≠ d.fabric.node → (a.2.portBlocked o.cap.order o.desc).1 = none → (opEmit c d o).1 = .waits)) ∧
    (let g := gatheringOf o.word
     let k := d.collectiveD (o.cap.composition - 1) g.number o.cap.tag
     let e := if o.cap.ownRank = g.root then d else (d.portBlocked o.cap.order o.desc).2
     let own := ownPart o (e.inputD o 0).1
     o.cap.composition ≠ 0 → g.m = o.cap.members.length → o.cap.ownRank < g.m → k.status = stOk →
      needsLost g o.cap.members o.cap.ownRank (coveredBy k.parts) = false →
      (o.cap.ownRank = g.root ∨ (d.portBlocked o.cap.order o.desc).1 = none) → (∀ p ∈ own :: k.parts, partFits g.op own p = true) →
      goes (opCollect c d o)))

/-- A SCAN of an index that serves begins (R293) where its query is no zero vector under cosine and the plan's budget holds its list's vectors: it is
kept with the cells of its list, nothing found and no threshold, and it advances to its first triggers.

Records and thresholds of a SCAN (R183, R186, R209, R296, R136): a record that arrives adds its candidates and its counts to the SCAN, and one
whose SCAN is gone is discarded; the K-th score of its select unit becomes its threshold and is sent to the stacks of its index; a memory
controller that receives the oldest message on its way writes it into the TH of every sequence of the SCAN that it runs. -/
def Obligations.ScansRun : Prop :=
  (∀ (s : State) (capsule desc : Nat) (d : Dev) (o : OpCtx),
    let q := d.queryOf o 0
    let l := q.2.inputD o 1
    s.operates capsule desc d o → dcOp o.word = 0x31 → d.indexServes o.indexSlot = true →
    (ixMetric (d.index o.indexSlot) ≠ 2 ∨ zeroVector q.1.1 = false) →
    (l.2.charge o.cap.order 1 (nth l.1.elems 1 + nth l.1.elems 2 * 2 ^ 32)).1 = true → (opScan s.ctx d o).2.fillWait = false →
    ∃ d' query, opScan s.ctx d o = (.waits, d') ∧
      exec (.scan capsule desc) s = .next (s.withDev ((s.ranOp capsule desc (d'.modRun o.cap.order fun r =>
        { r with descs := tabSet o.desc .operated r.descs })).dev.scanAdvance s.ctx capsule desc)) ∧
      d'.search.scans = d.search.scans ++ [{
        capsule := o.cap.order, desc := o.desc, index := o.indexSlot, cells := cellsOf l.1, next := 0, offers := [], rows := [], threshold := none,
        sentAt := none, inFlight := [], received := [], query := query, found := [], nan := 0, abandoned := 0, met := 0, triggered := 0,
        skipped := 0 }]) ∧
  (∀ (s : State) (stack channel : Nat) (r : ResultRecord) (rest : List ResultRecord),
    let key := 16 * stack + channel
    let d := s.dev.setBanks { s.dev.banks with
      results := if rest.isEmpty then tabDel key s.dev.banks.results else tabSet key rest s.dev.banks.results }
    s.running = true → tabGetD key [] s.dev.banks.results = r :: rest →
    (s.dev.scanRun? r.capsule r.desc = none → exec (.channelResultRecord stack channel) s = .next (s.withDev d)) ∧
    (∀ (x : ScanRun) (es : List Cand), s.dev.scanRun? r.capsule r.desc = some x → r.fault = false →
      (∀ cap, s.dev.capsule? r.capsule = some cap → ∀ e, e = d.setDict { d.dict with cfg := cap.cfg } →
        e.recordCands (e.index x.index) ((x.cells.getD (r.tag - 1) (0, 0, 0)).1) (768 * r.stack + r.bank) r.entries = some es) →
      (s.dev.capsule? r.capsule).isSome = true → s.dev.unroutable (stackRouter r.stack) (tileRouter (s.dev.tileFor r.capsule r.desc)) = none →
      exec (.channelResultRecord stack channel) s = .next (s.withDev (d.under r.capsule fun d =>
        (d.modScan r.capsule r.desc fun y => { y with
          found := y.found ++ es, nan := y.nan + r.nan, abandoned := y.abandoned + r.abandoned, met := y.met + r.tombstoned }).scanAdvance
          s.ctx r.capsule r.desc)))) ∧
  (∀ (s : State) (capsule desc i : Nat) (o : OpCtx) (t : Nat) (x : ScanRun),
    s.running = true → s.dev.opCtx capsule desc = some o → dcOp o.word = 0x35 → s.dev.kthScore o = some t →
    s.dev.scanRun? capsule i = some x → dcP (imDesc o.plan.image i) 31 20 = desc →
    (∀ old, x.threshold = some old → better (dcPb o.word 17) t old = true) →
    (∀ k, s.dev.unroutable (tileRouter (s.dev.someTile o).1) (stackRouter k) = none) → s.dev.thresholdDue s.ctx o (s.dev.someTile o).1 = true →
    ∃ u, exec (.thresholdPublish capsule desc) s = .next u ∧ u.dev.scanRun? capsule i = some { x with
        threshold := some t, sentAt := some s.time.count, inFlight := x.inFlight ++ (s.dev.scanStacks x).map fun k => (k, t) } ∧
      u = s.withDev { s.dev with search := { s.dev.search with scans := u.dev.search.scans }, freeCtr := u.dev.freeCtr }) ∧
  (∀ (s : State) (stack capsule desc t b : Nat) (x : ScanRun) (r : BankRun) (g : Trigger),
    let x' : ScanRun := { x with received := tabSet stack t x.received, inFlight := eraseFirst (fun m => m.1 == stack) x.inFlight }
    s.running = true → s.dev.scanRun? capsule desc = some x → x.inFlight.find? (fun m => m.1 == stack) = some (stack, t) →
    (s.dev.bank b).run = some r →
    s.dev.banks.triggers = [g] → g.order = r.trigger → g.capsule = capsule → g.desc = desc → g.stack = stack → g.abi ≠ 2 →
    ∃ u, exec (.thresholdReceive stack capsule desc) s = .next u ∧ u.dev.mem = s.dev.mem ∧ u.dev.scanRun? capsule desc = some x' ∧
      (u.dev.bank b).run = some { r with engine := { r.engine with th := x'.th stack g.accFp g.lowerBetter g.thSE } })

/-- A free unit fires the first READY slot (R146): it runs, and nothing but the tile scheduler's records changes, but that a GATHER that fires takes
its table's epoch and an ATTEND the views of its page table.

Ends of tile work (R129, R143): a slot that has drained, with every access of its own acknowledged, is freed and its operation counted; with
the last of a descriptor's slots the descriptor has fired, and its run goes on. A panel move that ends and pins no panel of the cache leaves its
operation draining, and waiting moves take its place.

A flit that fails its check is sent again (R139): both ends count the retry, the link notes it, and the eighth of one flit in a row fails the
link. -/
def Obligations.TilesAndMesh : Prop :=
  (∀ (s : State) (tile unit n : Nat) (k : Slot),
    let d := s.dev.resumeCutting s.ctx
    s.running = true → (d.tile tile).fenced = false → d.unitFree tile (unitOf unit) = true →
    (2, tileGroup tile) ∉ d.scrubs → d.nextReady tile (unitOf unit) = some (n, k) → d.groupOwner (tileGroup tile) = k.realm →
    ∃ u, exec (.tileDispatch tile unit 0) s = .next u ∧
      u = s.withDev { d with tiles := u.dev.tiles, updates := u.dev.updates, plans := u.dev.plans } ∧
      u.dev.tiles.slots = tabSet (64 * tile + n) { k with state := .running } d.tiles.slots ∧
      tabGet (64 * tile + n) u.dev.tiles.slots = some { k with state := .running } ∧
      ∀ o, d.opCtx k.capsule k.desc = some o →
        let e := (d.setTiles { d.tiles with slots := u.dev.tiles.slots }).tileError s.ctx tile 0
        let t := dcP o.word 15 0 % 0x1000
        (dcOp o.word ≠ 0x20 → u.dev.updates = d.updates) ∧ (dcOp o.word ≠ 0x18 → u.dev.plans = d.plans) ∧
        (dcOp o.word = 0x20 → u.dev.updates = { d.updates with
          gathers := ⟨k.capsule, k.desc, t, (tabGetD t .fresh d.updates.tables).epoch⟩ :: d.updates.gathers }) ∧
        (dcOp o.word = 0x18 → tabGet k.desc o.run.views = none → u.dev.plans = (e.modRun k.capsule fun r => { r with
          views := tabSet k.desc (e.takeViews o.poolSlot (columnsOf (e.inputD o 1).1)) r.views }).plans)) ∧
  (∀ s : State, (∀ r ∈ s.dev.plans.runs, ∀ e ∈ r.cuts, e.2.total ≤ e.2.cut) → s.dev.resumeCutting s.ctx = s.dev) ∧
  ((∀ (s : State) (tile slot : Nat) (k : Slot) (o : OpCtx),
    let d := s.dev.freeTheSlot tile slot
    let e := d.modTile tile fun t => { t with completed := satAdd 64 t.completed 1 }
    let last : Prop := tabGet k.desc o.run.descs = some .operated ∧ e.slotsFor k.capsule k.desc = []
    s.running = true → tabGet (64 * tile + slot) s.dev.tiles.slots = some k → k.state = .draining →
    s.dev.unacknowledged k.capsule k.desc = false → d.opCtx k.capsule k.desc = some o →
    (¬last → exec (.tileOperationComplete tile slot) s = .next (s.withDev (e.resumeCutting s.ctx))) ∧
    (last → exec (.tileOperationComplete tile slot) s = .next (s.withDev ((e.fireDesc s.ctx o tile).resumeCutting s.ctx))) ∧
    (s.dev.tiles.held = [] → d.tiles.slots = tabDel (64 * tile + slot) s.dev.tiles.slots)) ∧
  (∀ (s : State) (tile move : Nat) (m : PanelMove) (r : PlanRun) (p : Plan),
    s.running = true → (tabGetD tile [] s.dev.tiles.moves).find? (fun x => x.number == move) = some m → s.dev.run? m.capsule = some r →
    s.dev.plan? r.plan = some p → r.status = stOk → m.desc < 0x10000 → move < s.dev.tiles.nextMove →
    (∀ x ∈ tabGetD tile [] s.dev.tiles.moves, x.number = move → x.pins = []) →
    ∃ u, exec (.panelMoveComplete tile move 0) s = .next u ∧
      u = s.withDev (Dev.hear s.ctx { s.dev with tiles := u.dev.tiles, tiers := { s.dev.tiers with panels := u.dev.tiers.panels } } none) ∧
      (∀ x ∈ tabGetD tile [] u.dev.tiles.moves, x.number ≠ move) ∧
      ∀ x ∈ u.dev.tiles.slots, x.2.capsule = m.capsule → x.2.desc = m.desc → x.2.state = .draining)) ∧
  (∀ (s : State) (link : Nat) (again : Bool),
    let m := tabGetD link ⟨0, 0⟩ s.dev.tiles.links
    let n := if again then m.inRow + 1 else 1
    s.running = true → m.state ≠ 2 → link < 1104 →
    (n < 8 → ∃ u, exec (.flitCrcError ⟨link, again⟩) s = .next u ∧ u = s.withDev { s.dev with tiles := u.dev.tiles } ∧
      u.dev.tiles.links = tabSet link ⟨1, n⟩ s.dev.tiles.links ∧ u.dev.tiles.slots = s.dev.tiles.slots ∧
      ((linkEnds link).1 ≠ (linkEnds link).2 →
        (u.dev.tile (linkEnds link).1).retries = satAdd 32 (s.dev.tile (linkEnds link).1).retries 1 ∧
        (u.dev.tile (linkEnds link).2).retries = satAdd 32 (s.dev.tile (linkEnds link).2).retries 1)) ∧
    (8 ≤ n → ∃ d : Dev, d = { s.dev with tiles := d.tiles } ∧ d.tiles.links = tabSet link ⟨2, n⟩ s.dev.tiles.links ∧
      exec (.flitCrcError ⟨link, again⟩) s = .next (s.withDev ((d.event s.ctx 0x0202 1 0 link 0 0).endUnroutable s.ctx))))

/-- Capsules from host functions are accepted in the order of arrival (R571–R574): the capsule has the next number, its aperture has one more
outstanding and its port counts it.

A capsule refused at ingress (R579, R583): its port counts it, and the record it completes with holds the status and the reason of the first
failing check. -/
def Obligations.CapsulesAtTheIngress : Prop :=
  (∀ (s : State) (op p n a : Nat) (raw : BitVec 512) (cap : Capsule) (d : Dev),
    s.accepts op p n a raw cap d →
    cap.order = s.dev.capsules.next ∧ cap.acceptedAt = s.time.count ∧ cap.tag = bits raw.toNat 63 48 ∧ cap.realm = bits raw.toNat 23 16 ∧
    d.capsules.live = s.dev.capsules.live ++ [cap] ∧ d.capsules.next = s.dev.capsules.next + 1 ∧
    ((d.fn p n).aperture a).outstanding = ((s.dev.fn p n).aperture a).outstanding + 1 ∧
    (d.port p).accepted = satAdd 64 (s.dev.port p).accepted 1) ∧
  (∀ (s : State) (op p n a st reason : Nat) (raw : BitVec 512) (i : Instr),
    let src : CapsuleSource := .host p n a 64 true
    let f := s.dev.fn p n
    let x := f.aperture a
    (op, i) ∈ [(0x01, Instr.run src raw), (0x02, .planLoad src raw), (0x03, .planUnload src raw), (0x10, .update src raw), (0x11, .volume src raw),
      (0x12, .kvService src raw)] →
    s.running = true → bits raw.toNat 7 0 = op → s.dev.fnThere p n = true → a < aperturesOf n → (n = 0 ∨ f.enabled = true) → x.enable = true →
    x.outstanding < 2 ^ x.depthLog2 → s.dev.compositionOfRealm (bits raw.toNat 23 16) = none → s.dev.hostIngress p n raw.toNat = some (st, reason) →
    ∃ cap e g, s.dev.newCapsule s.ctx src raw.toNat (f.ring x.ring).disables (bits raw.toNat 26 24) 0 0 0 [] = (cap, e) ∧
      g = ((e.modFn p n fun f => { f with
        wasQuiesced := false, apertures := tabMod a .reset (fun x => { x with outstanding := x.outstanding + 1 }) f.apertures }).modPort p
          fun h => { h with accepted := satAdd 64 h.accepted 1 }).refuseCapsule s.ctx cap (if n = 0 then 0 else f.realm) st reason ∧
      exec i s = .next (s.withDev (if op = 0x02 ∨ op = 0x11 ∨ op = 0x12 then g.hear s.ctx none else g)) ∧
      let record := completionRecord s.ctx cap st false false reason (emptyResult cap)
      bits record 7 0 = st ∧ bits record 63 48 = reason)

/-- An accepted and metered capsule of any opcode waits in its class for admission, which begins its work (R542): it arrives last at its realm's
admission point. A RUN is one that its plan takes. -/
def Obligations.AcceptedCapsulesGoOn : Prop :=
  ∀ (s : State) (op p n a k : Nat) (i : Instr) (raw : BitVec 512) (cap : Capsule) (d e : Dev),
    let src : CapsuleSource := .host p n a 64 true
    (op, i) ∈ [(0x01, Instr.run src raw), (0x02, .planLoad src raw), (0x03, .planUnload src raw), (0x10, .update src raw), (0x11, .volume src raw),
      (0x12, .kvService src raw)] →
    s.accepts op p n a raw cap d → s.meters cap d k e → (op = 0x01 → e.runCheck { cap with cls := k } = stOk) →
    let q := e.queueCapsule s.ctx { cap with cls := k }
    exec i s = .next (s.withDev (if op = 0x02 ∨ op = 0x11 ∨ op = 0x12 then q.hear s.ctx none else q)) ∧
    q = { e with traffic := q.traffic } ∧ q.traffic.arrivals = e.traffic.arrivals + 1 ∧
    ∃ x, ((tabGetD cap.realm .reset q.traffic.admission).items.map fun i => (i.capsule, i.cls)) =
      ((tabGetD cap.realm .reset e.traffic.admission).items.map fun i => (i.capsule, i.cls)) ++ [x] ∧ x = (cap.order, k)

/-- Plans load, run and unload (R231, R236, R247, R251): an image that is read and passes the checks is loaded and its capsule completes with what
the load answers; of one waiting capsule with valid bindings the run begins; an unload asked for marks the plan, and once its last instance
has ended the plan is gone and each capsule that asked completes. -/
def Obligations.PlansStartAndEnd : Prop :=
  (∀ (s : State) (h : Nat) (p : Plan) (cap : Capsule) (raw : List Nat) (d : Dev),
    let e := (s.dev.choose 1).2.setFillWait false
    s.running = true → s.dev.plan? h = some p → s.dev.startHeads s.ctx h p = [cap] →
    (s.dev.plans.runs.filter fun r => r.plan == h).length < imInflight p.image → p.damaged = false →
    (∀ g ∈ List.range (imGroups p.image), e.groupTiles p g ≠ []) → e.readArgs cap p.image = (0, raw, d) →
    bindingsValid p.image raw = true → outputsApart p.image (raw.map argOf) = true → d.boundShapesOk p.image cap.realm (raw.map argOf) = true →
    panelsAligned p.image (raw.map argOf) = true → d.argOutside p.image cap.realm (raw.map argOf) = none →
    (d.beginRun s.ctx cap p (raw.map argOf)).fillWait = false →
    exec (.instanceStart h) s = .next (s.withDev ((d.beginRun s.ctx cap p (raw.map argOf)).hear s.ctx none))) ∧
  (∀ (c : Ctx) (d e f : Dev) (order : Nat) (cap : Capsule) (bs : List Byte) (r : LoadResult),
    d.capsule? order = some cap → cap.version ≠ 2 → cap.field 191 128 % 128 = 0 →
    (d.setFillWait false).bufRead cap (cap.field 257 256) (cap.field 191 128) (cap.field 255 192) = (0, bs, e) →
    e.loadPlan cap.realm ⟨cap.field 255 192, ofLE bs⟩ = (r, f) → r.status = stOk → (f.endPlain c order stOk r.reason r.handle).fillWait = false →
    workPlanLoad c d order = f.endPlain c order stOk r.reason r.handle) ∧
  (∀ (s : State) (h : Nat) (p : Plan),
    s.running = true → s.dev.plan? h = some p → p.state = 2 → s.dev.planIdle h = true →
    exec (.planUnloadComplete h) s = .next (s.withDev (p.unloadWaiters.foldl (fun d k => d.endPlain s.ctx k stOk 0 0) (s.dev.freePlan h)))) ∧
  (∀ (c : Ctx) (d : Dev) (order : Nat) (cap : Capsule) (p : Plan),
    d.capsule? order = some cap → d.plan? cap.plan = some p → p.state ≠ 2 → (cap.realm = 0 ∨ p.realm = cap.realm) →
    let e := workPlanUnload c d order
    e.plan? cap.plan = some { p with state := 2, unloadWaiters := p.unloadWaiters ++ [order] } ∧
    e.capsule? order = some { cap with stage := .running })

/-- Admission (R541, R552, R553): the realm's point serves its next ready capsule, whose work begins by its opcode; a RUN waits for its instance to
start. -/
def Obligations.AdmissionServesTheNext : Prop :=
  ∀ (s : State) (realm : Nat) (q : QueuePoint) (i : QueueItem) (cap : Capsule),
    let p := { q with items := q.items.filter fun i => (s.dev.capsule? i.capsule).isSome }
    let d := s.dev.awaitItems s.ctx p.items
    let e := d.setTraffic { d.traffic with admission := tabSet realm (p.serve i d.classWeight) d.traffic.admission }
    s.running = true → tabGet realm s.dev.traffic.admission = some q → p.next d.itemReady d.classWeight = some i →
    e.capsule? i.capsule = some cap → (cap.cls = 0 ∨ e.classCap realm cap.cls ≠ 0) → cap.realm = realm →
    exec (.admission realm) s = .next (s.withDev ((workOf cap.opcode s.ctx ((e.shapeAdmission s.ctx cap).awaitItems s.ctx
      (p.items.filter fun k => k.capsule != cap.order)) cap.order).hear s.ctx none)) ∧
    ∀ c d k, workOf 0x01 c d k = d.modCapsule k (fun x => { x with stage := .waiting }) ∧ workOf 0x02 c d k = workPlanLoad c d k ∧
      workOf 0x03 c d k = workPlanUnload c d k ∧ workOf 0x10 c d k = workUpdate c d k ∧ workOf 0x11 c d k = workVolume c d k ∧
      workOf 0x12 c d k = workKvService c d k

/-- Deadlines, the coalescing timer and egress (R552, R580, R587): a capsule whose deadline has passed ends with ST_DEADLINE, a root's missing
contributions counted, an update by the statuses of the records that it has left; a ring whose time has passed sends its message; a port
where no class 0 item waits sends the next item.

The Carillon advances to the slot of the present instant (R555, R556): nothing that is due stays in the fine level but what is carried over. -/
def Obligations.TimersCarillonAndEgress : Prop :=
  ((∀ (s : State) (k : Nat) (cap : Capsule) (r : PlanRun) (p : Plan),
    s.running = true → s.dev.capsule? k = some cap → cap.deadlineAt ≤ s.time.count → s.dev.run? cap.order = some r → s.dev.plan? r.plan = some p →
    exec (.deadlineExpiry k) s = .next (s.withDev
      ((((if r.status = stOk then s.dev.missCollectives cap (some r) p.image else s.dev).endRun s.ctx cap.order stDeadline 0x10000).expireMirror
        s.ctx k).hear s.ctx none))) ∧
  (∀ (s : State) (k : Nat) (cap : Capsule),
    s.running = true → s.dev.capsule? k = some cap → cap.deadlineAt ≤ s.time.count → s.dev.run? cap.order = none →
    exec (.deadlineExpiry k) s = .next (s.withDev (((if cap.opcode = 0x10 then s.dev.expireJob s.ctx cap.order
      else (s.dev.missAt cap).endCapsule s.ctx cap.order stDeadline).expireMirror s.ctx k).hear s.ctx none)) ∧
    (cap.opcode ≠ 0x01 → s.dev.missAt cap = s.dev)) ∧
  (∀ (s : State) (p n q : Nat),
    let r := (s.dev.fn p n).ring q
    s.running = true → p < s.dev.ports.length → r.enable = true → r.unsignalled ≠ 0 → r.firstAt + r.coalTime * usTicks ≤ s.time.count →
    ∃ u, exec (.coalescingTimer p n q) s = .next u ∧ u.dev.out = .msix p n r.vector :: s.dev.out ∧
      (u.dev.fn p n).ring q = { r with unsignalled := 0 } ∧ u = s.withDev { s.dev with ports := u.dev.ports, out := u.dev.out }) ∧
  (∀ (s : State) (point : Nat) (i : QueueItem),
    let p := s.dev.egressPoint point
    s.running = true → (if point < 2 then s.dev.portUp point else point < 6 || (s.dev.link (point - 6)).carries) = true →
    (∀ x ∈ p.items, x.cls ≠ 0) → p.next (fun i => i.cls != 0 || !s.dev.shaped (egressFlow i.realm point)) (s.dev.egressWeight point) = some i →
    ∃ u, exec (.portEgress point) s = .next u ∧ u.dev.out = .egress point i.realm i.cls i.size :: s.dev.out ∧
      u = s.withDev { s.dev with traffic := u.dev.traffic, out := u.dev.out } ∧
      tabGet point u.dev.traffic.egress = some (p.serve i (s.dev.egressWeight point)))) ∧
  (∀ s : State, s.running = true → s.dev.traffic.fineSlot < s.time.count * 10 / fineNs →
    ∃ u, exec .carillonSlot s = .next u ∧ u = s.withDev { s.dev with traffic := u.dev.traffic } ∧
      u.dev.traffic.fineSlot = s.time.count * 10 / fineNs ∧ (∀ e ∈ u.dev.traffic.fine, s.time.count * 10 / fineNs < e.slot))

/-- PERSTp_N, link training and removal (R563, R592, R710, R713): a long enough pulse resets the port and takes its link down, a short one does
nothing; its release lets the port train; a trained link comes up with its width and speed; one that is lost goes down, and is counted
where it was not quiesced. What the two that reset a port leave is said where none of its capsules is in flight. -/
def Obligations.HostLinks : Prop :=
  ∀ (s : State) (p : Nat),
    let quiet : Prop := ∀ k ∈ s.dev.capsules.live, ∀ n a z al, k.src ≠ .host p n a z al
    (∀ lowNs, lowNs < 200 → exec (.perstNAssert p lowNs) s = .next s) ∧
    (∀ lowNs, 1000 ≤ lowNs → p < s.dev.ports.length → p < s.dev.pins.perstN.length →
      let d := s.dev.setPins { s.dev.pins with perstN := s.dev.pins.perstN.set p false }
      ∃ u, exec (.perstNAssert p lowNs) s = .next u ∧ u = s.withDev (if s.running then d.loseLink s.ctx p else d) ∧
        (quiet → u.dev.perstReleased p = false ∧ (s.running = true → (u.dev.port p).link = 0))) ∧
    (s.running = true → p < s.dev.ports.length → p < s.dev.pins.perstN.length → (s.dev.port p).link = 0 →
      ∃ u, exec (.perstNRelease p) s = .next u ∧ u.dev.perstReleased p = true ∧ u.dev.port p = { s.dev.port p with link := 1 } ∧
        u = s.withDev { s.dev with pins := u.dev.pins, ports := u.dev.ports }) ∧
    (∀ width speed, s.running = true → p < s.dev.ports.length → s.dev.perstReleased p = true → s.dev.portUp p = false →
      s.dev.linkFits width speed = true →
      ∃ u, exec (.pcieLinkUp p width speed true) s = .next u ∧
        u = s.withDev { s.dev with ports := u.dev.ports, out := .readiness p :: s.dev.out } ∧
        u.dev.port p = { s.dev.port p with link := if s.dev.isMinimal then 3 else 2, width := width, speed := speed }) ∧
    (s.running = true → s.dev.portUp p = true →
      ∃ u, exec (.surpriseRemoval p) s = .next u ∧ u = s.withDev (s.dev.loseLink s.ctx p) ∧
        (quiet → (u.dev.port p).link = 0 ∧ (u.dev.port p).width = 0 ∧
          (s.dev.portQuiesced p = false → (u.dev.port p).removals = satAdd 64 (s.dev.port p).removals 1)))

/-- Resets of functions (R568, R591): a function reset is as after reset, bound as committed if it stays enabled; VFs that are disabled are
as after reset. What they leave is said where none of the port's capsules is in flight.

Registers of a function and the management link (R571, R572, R588, R594): a write changes the one register, by its own rules; QUIESCED
follows where nothing is outstanding. -/
def Obligations.FunctionsOfThePorts : Prop :=
  (∀ (s : State) (p : Nat), s.running = true →
    let quiet : Prop := ∀ k ∈ s.dev.capsules.live, ∀ n a z al, k.src ≠ .host p n a z al
    let counted (d : Dev) : Dev := d.modPort p fun h => { h with resets := satAdd 64 h.resets 1 }
    (∀ n, n ≠ 0 → s.dev.fnThere p n = true →
      ∃ u, exec (.functionLevelReset p n) s = .next u ∧ u = s.withDev (counted (s.dev.resetFunction s.ctx p n (s.dev.fn p n).enabled)) ∧
        (quiet → u.dev.fn p n = { Function.reset with
            enabled := (s.dev.fn p n).enabled, realm := if (s.dev.fn p n).enabled then s.dev.cfg (0x1120 + p) n else 0 } ∧
          (u.dev.port p).resets = satAdd 64 (s.dev.port p).resets 1 ∧ u.dev.mem = s.dev.mem ∧ u.dev.out = s.dev.out)) ∧
    (s.dev.fnThere p 0 = true → ∃ u, exec (.functionLevelReset p 0) s = .next u ∧
      u = s.withDev (counted ((s.dev.disableVfs s.ctx p).resetFunction s.ctx p 0 false)) ∧
      (quiet → ∀ n < 64, u.dev.fn p n = Function.reset)) ∧
    (s.dev.portUp p = true → ∃ u, exec (.vfDisable p) s = .next u ∧ u = s.withDev (s.dev.disableVfs s.ctx p) ∧
      (quiet → u.dev.fn p 0 = s.dev.fn p 0 ∧ ∀ n, 0 < n → n < 64 → u.dev.fn p n = Function.reset))) ∧
  (∀ (s : State) (p n : Nat),
    let f := s.dev.fn p n
    s.running = true →
    (s.dev.fnThere p n = true → (n = 0 ∨ f.enabled = true) →
      (∀ v, bit v 0 = false ∨ f.outstanding ≠ 0 ∨ f.wasQuiesced = true →
        ∃ u, exec (.quiesce p n v) s = .next u ∧ u = s.withDev { s.dev with ports := u.dev.ports } ∧
          u.dev.fn p n = { f with quiesce := bit v 0, wasQuiesced := bit v 0 && f.outstanding == 0 }) ∧
      (∀ v, bit v 0 = true → f.outstanding = 0 → f.wasQuiesced = false →
        ∃ u, exec (.quiesce p n v) s = .next u ∧ u.dev.out = .msix p n 31 :: s.dev.out ∧
          u.dev.fn p n = { f with quiesce := true, wasQuiesced := true }) ∧
      (∀ q v, q < aperturesOf n → ∃ u, exec (.ringConfiguration p n q 0 v) s = .next u ∧ u = s.withDev { s.dev with ports := u.dev.ports } ∧
        u.dev.fn p n = { f with rings := tabSet q ((f.ring q).writeBase v) f.rings }) ∧
      (∀ q v, q < aperturesOf n → ∃ u, exec (.ringConfiguration p n q 1 v) s = .next u ∧ u = s.withDev { s.dev with ports := u.dev.ports } ∧
        u.dev.fn p n = { f with rings := tabSet q ((f.ring q).writeConfig v) f.rings }) ∧
      (∀ a v, a < aperturesOf n → ∃ u, exec (.apertureConfiguration p n a v) s = .next u ∧ u = s.withDev { s.dev with ports := u.dev.ports } ∧
        u.dev.fn p n = f.writeAperture (aperturesOf n) a v)) ∧
    (exec .managementLinkUp s = .next (s.withDev { s.dev with fabric := { s.dev.fabric with
      mgmtLink := if s.dev.cfg 0x1111 1 = 255 then 1 else 2 } })) ∧
    (exec .managementLinkDown s = .next (s.withDev { s.dev with fabric := { s.dev.fabric with mgmtLink := 0 } })))

/-- When a request of a management or fabric session is taken up (R100, R102, R104, R731): it arrives from the sender that the session is open for,
its tag is right where the session protects its messages, its SEQ is in turn, and nothing refuses the session's access; SEQ is then the
session's last. -/
def Obligations.RequestsInTurnAreTaken : Prop :=
  ∀ (s : State) (q : Req) (op idx sub : Nat) (b : Body) (x : Session),
    let d := ((s.dev.countIn x q op idx sub b).modSession q.path q.number fun t => { t with lastTime := s.time.count }).takeRequest s.ctx
      { q with seq := q.seq % 65536 }
    s.running = true → q.path ≠ 1 → s.dev.arrives q = true → s.dev.boot.reloading = false → s.dev.session? q.path q.number = some x →
    x.sender = q.sender → x.authentic q op idx sub b = true →
    (x.lastSeq = none ∨ ∃ n, x.lastSeq = some n ∧ (n + 1) % 65536 = q.seq % 65536 ∧ n ≠ q.seq % 65536) →
    d.sessionRefuses x op idx sub = false →
    s.takesRequest q op idx sub b d x ∧
    ∃ y, d.session? q.path q.number = some y ∧ y.lastSeq = some (q.seq % 65536) ∧ y.lastResponse = none ∧ y.lastTime = s.time.count

/-- Sessions open and close (R101, R103, R655): an OPEN in plain mode within the limit answers the number of a new session at its realm, with the SEQ of the OPEN; CLOSE, 60 s
of idleness and a message counter at its limit close one, with its drafts. -/
def Obligations.SessionsOpenAndClose : Prop :=
  (∀ (s : State) (path sender seq : Nat) (k : Option Nat) (highest lowest slot key nonce v realm n : Nat) (d : Dev),
    s.running = true → s.dev.opens path = true → hdapVersion highest lowest = some v → s.dev.openRealm path sender k = some realm →
    (s.dev.dict.sessions.filter fun x => x.path == path).length < sessionLimit path → s.dev.freeNumber path = (n, d) →
    ∃ u, exec (.sessionOpen path ⟨sender, seq⟩ k highest lowest 0 slot key nonce) s = .next u ∧
      u.dev.dict.sessions = s.dev.dict.sessions ++ [.opened path n sender realm v s.time.count] ∧
      u.dev.out = .openAck path n seq v [] :: s.dev.out ∧
      u = s.withDev { s.dev with dict := u.dev.dict, out := u.dev.out, freeCtr := u.dev.freeCtr }) ∧
  (∀ (s : State) (q : Req) (d : Dev) (x : Session),
    s.takesRequest q 0x03 0 0 .none d x → q.path ≠ 1 →
    ∃ u, exec (.close q) s = .next u ∧ u = s.withDev ((d.answer q 0 0 stOk).closeSession q.path q.number) ∧
      u.dev.session? q.path q.number = none) ∧
  (∀ (s : State) (path number : Nat) (x : Session),
    s.running = true → s.dev.session? path number = some x → path ≠ 1 → x.lastTime + 60 * secondTicks ≤ s.time.count →
    ∃ u, exec (.hdapSessionIdle path number) s = .next u ∧ u.dev.session? path number = none) ∧
  (∀ (s : State) (path number : Nat) (x : Session),
    s.running = true → s.dev.session? path number = some x → x.isProtected = true → (x.msgIn = 2 ^ 40 - 1 ∨ x.msgOut = 2 ^ 40 - 1) →
    ∃ u, exec (.sessionCounterLimit path number) s = .next u ∧ u.dev.session? path number = none)

/-- READ and READ_SEG (R75, R78, R79, R102): an entry that the session may read is answered with its value, whole or a segment of it, and no byte of
memory changes. -/
def Obligations.ReadsAnswerTheValue : Prop :=
  ∀ (s : State) (q : Req) (idx sub : Nat) (d : Dev) (x : Session) (r : EntryRow),
    d.accessed x (nativeOf idx sub) sub false = (stOk, some r) →
    (s.takesRequest q 0x10 idx sub .none d x → r.segmented = false →
      let v := d.readEntry s.ctx x q r (nativeOf idx sub) sub
      exec (.read q idx sub) s = .next (s.withDev (d.answerValue q idx sub true ⟨v.len, aliasRead idx sub v.num⟩)) ∧
        (d.answerValue q idx sub true ⟨v.len, aliasRead idx sub v.num⟩).mem = s.dev.mem) ∧
    (∀ seg v e, s.takesRequest q 0x12 idx sub ⟨seg, 0, 0⟩ d x → segmentReaches x.version seg = true →
      d.segmentSource s.ctx q x r (nativeOf idx sub) sub seg = (v, e) → (seg = 0 ∨ segBytes * seg < v.len) →
      exec (.readSeg q idx sub seg) s = .next (s.withDev (e.answerSegment q x idx sub seg v)) ∧
      (e.answerSegment q x idx sub seg v).mem = s.dev.mem)

/-- WRITE and WRITE_SEG (R77, R82, R84, R102) of a value that every row of *Access results* lets through take effect by the entry's access right: a
value in range for an RWC entry goes into the session's draft and changes nothing in force; one for an RW entry goes into the session's
selections, or into NOR where it is kept; one for a WO entry acts. A segment that is not the last is only gathered; with the last one the bytes
gathered take effect as one value. PLAN_IMAGE and IMAGE_PACKAGE are last segments of their WO entries, which load a plan and take a package. -/
def Obligations.WritesTakeEffect : Prop :=
  let values (s : State) (run : State → Host.Outcome State Fault Refusal) (q : Req) (idx sub : Nat) (d : Dev) (x : Session) (r : EntryRow)
      (len n : Nat) : Prop :=
    let i := nativeOf idx sub
    let domain := x.domainOf i
    let v : DictVal := ⟨len, stored i sub domain n⟩
    let draft := tabGetD domain [] x.drafts
    let new := d.drafted x domain
    (r.access = .rwc → (realmEntry i = true → domain ≠ 0 ∧ (d.slotOwner i = 0 ∨ d.slotOwner i = domain)) →
      new.inEntryRange d r domain i sub v = true → new.withinLimit d domain i sub v = true →
      (draft ≠ [] ∨ sumOf (d.dict.sessions.map fun t => (t.drafts.filter fun e => !e.2.isEmpty).length) < 16) →
      (tabGet (entryKey i sub) draft ≠ none ∨ draft.length < 4096) →
      run s = .next (s.withDev ((d.modSession x.path x.number fun t => { t with
        drafts := tabSet domain (tabSet (entryKey i sub) v draft) t.drafts }).answer q idx sub stOk))) ∧
    (r.access = .rw → (i = 0x1800 → x.realm = 0 ∨ n = x.realm) → d.inEntryRange d r 0 i sub ⟨len, n⟩ = true →
      run s = .next (s.withDev ((d.modSession x.path x.number fun t => { t with sel := tabSet (entryKey i sub) n t.sel }).answer q i sub stOk))) ∧
    (r.access = .rwKept → i ≠ 0x1800 → d.inEntryRange d r 0 i sub ⟨len, n⟩ = true →
      run s = .next (s.withDev ((d.setNor { d.nor with kept := tabSet (entryKey i sub) ⟨len, n⟩ d.nor.kept }).answer q i sub stOk))) ∧
    (r.access = .wo → run s = .next (let e := d.actEntry s.ctx q x i sub ⟨len, n⟩
      { s with fuses := e.1, dev := e.2 }))
  (∀ (s : State) (q : Req) (idx sub len value n : Nat) (d : Dev) (x : Session) (r : EntryRow),
    let i := nativeOf idx sub
    s.takesRequest q 0x11 idx sub ⟨0, len, value⟩ d x → entryAt i sub = some r → d.accessStatus x i sub true = stOk → r.lengthOk ⟨len, value⟩ = true →
    (r.access = .wo → d.inEntryRange d r 0 i sub ⟨len, value⟩ = true) → r.segmented = false → aliasWrite idx value = some n →
    values s (exec (.write q idx sub len value)) q idx sub d x r len n) ∧
  (∀ (s : State) (q : Req) (idx sub seg len value : Nat) (d : Dev) (x : Session) (r : EntryRow) (b : SegBuffer),
    let i := nativeOf idx sub
    s.takesRequest q 0x13 idx sub ⟨seg, len, value⟩ d x → d.accessed x i sub true = (stOk, some r) → segmentReaches x.version seg = true →
    i ≠ 0x5F01 → x.gather (entryKey i sub) seg len value = some b →
    (bit q.flags 0 = false → len = segBytes → exec (.writeSeg q idx sub seg len value) s =
      .next (s.withDev ((d.modSession q.path q.number fun t => { t with writeSeg := putSegment b t.writeSeg }).answer q idx sub stOk))) ∧
    (∀ n, let e := d.modSession q.path q.number fun t => { t with writeSeg := dropSegment b.key t.writeSeg }
      bit q.flags 0 = true → len ≤ segBytes → r.lengthOk ⟨b.len, b.num⟩ = true →
      (r.access = .wo → e.inEntryRange e r 0 i sub ⟨b.len, b.num⟩ = true) → aliasWrite idx b.num = some n →
      values s (exec (.writeSeg q idx sub seg len value)) q idx sub e x r b.len n)) ∧
  (∀ (s : State) (q : Req) (seg len value : Nat) (d : Dev) (x : Session) (r : EntryRow) (b : SegBuffer),
    let e := d.modSession q.path q.number fun t => { t with writeSeg := dropSegment b.key t.writeSeg }
    s.takesRequest (withLast q) 0x13 0x3306 0 ⟨seg, len, value⟩ d x → d.accessed x 0x3306 0 true = (stOk, some r) → segmentReaches x.version seg = true →
    len ≤ segBytes → x.gather (entryKey 0x3306 0) seg len value = some b → r.lengthOk ⟨b.len, b.num⟩ = true → r.access = .wo →
    e.inEntryRange e r 0 0x3306 0 ⟨b.len, b.num⟩ = true →
    let l := e.loadPlan x.realm ⟨b.len, b.num⟩
    let f := l.2.modSession q.path q.number fun t => { t with
      loadStatus := l.1.status, loadReason := l.1.reason, loadItem := l.1.item, loadHandle := if l.1.status = stOk then l.1.handle else t.loadHandle }
    exec (.planImage q seg len value) s = .next (s.withDev (((if l.1.status = stViolation then
      f.violate s.ctx x.realm 4 x.number 0x13 0 0 f.refused.1 0 0xFFFF else f)).answer (withLast q) 0x3306 0 l.1.status))) ∧
  (∀ (s : State) (q : Req) (seg len value : Nat) (d : Dev) (x : Session) (r : EntryRow) (b : SegBuffer),
    let e := (if seg = 0 then d.packageBegins else d).modSession q.path q.number fun t => { t with
      writeSeg := dropSegment b.key t.writeSeg }
    let region := 1 - e.nor.boot.active
    s.takesRequest (withLast q) 0x13 0x5F01 0 ⟨seg, len, value⟩ d x → d.accessed x 0x5F01 0 true = (stOk, some r) → segmentReaches x.version seg = true →
    len ≤ segBytes → d.packageBusy x = false → x.gather (entryKey 0x5F01 0) seg len value = some b → r.lengthOk ⟨b.len, b.num⟩ = true →
    r.access = .wo → e.inEntryRange e r 0 0x5F01 0 ⟨b.len, b.num⟩ = true → b.len ≤ packageLimit →
    (e.refusedIn s.ctx ⟨b.len, b.num, 1⟩ components = none → exec (.imagePackage q seg len value) s = .next (s.withDev
      ((((e.modImage region fun _ => ⟨b.len, b.num, 1⟩).setFirmware ⟨stOk, 0xFF⟩).event s.ctx 0x0B01 0 0 region 0 0).answer (withLast q)
        0x5F01 0 stOk))) ∧
    (∀ k, e.refusedIn s.ctx ⟨b.len, b.num, 1⟩ components = some k → ∃ st f, st ∈ errorStatuses ∧ f = (e.choose errorStatuses.length).2 ∧
      exec (.imagePackage q seg len value) s = .next (s.withDev
        ((((f.modImage region fun _ => ⟨b.len, b.num, 2⟩).setFirmware ⟨st, k⟩).event s.ctx 0x0B02 2 0 region k 0).answer (withLast q) 0x5F01 0 st))))

/-- Drafts, validation and commits (R71, R73, R83, R86, R88, R90, R93): a discarded draft is gone; validation answers the first check that fails and
puts nothing in force; a commit that passes puts the values and the generation in force and into NOR, one that fails puts nothing; the oldest
hold of a stack or board ends with the earlier work; a cleared counter restarts from nothing where no instance of its descriptor runs. -/
def Obligations.DraftsBecomeGenerations : Prop :=
  (∀ (s : State) (q : Req) (d : Dev) (x : Session),
    s.takesUp q 0x1804 0 1 d x →
    exec (.draftDiscard q 1) s = .next (s.withDev ((d.modSession x.path x.number fun t =>
      { t with drafts := tabDel (x.select 0x1800 0) t.drafts }).answer q 0x1804 0 stOk))) ∧
  (∀ (s : State) (q : Req) (value : Nat) (room : NorAck) (d : Dev) (x : Session),
    let f := d.runChecks x (x.select 0x1800 0) value room
    let st := if f.isSome then stConfigReject else stOk
    s.takesUp q 0x1806 0 value d x →
    ∃ u, exec (.validate q value room) s = .next u ∧ u = s.withDev ((d.noteResult q st value f).answer q 0x1806 0 st) ∧
      u.dev.dict.cfg = s.dev.dict.cfg ∧ u.dev.dict.gens = s.dev.dict.gens) ∧
  (∀ (s : State) (q : Req) (value : Nat) (room : NorAck) (d : Dev) (x : Session),
    let domain := x.select 0x1800 0
    let new := d.drafted x domain
    s.takesUp q 0x1810 0 value d x → d.runChecks x domain value room = none → d.generatorFailed = false →
    exec (.configurationCommit q value room ⟨true, true⟩) s = .next (s.withDev (d.commitValues s.ctx q x domain value)) ∧
    (∀ e : Dev, let a := e.adopt s.ctx domain value new.dict.cfg
      a.dict.cfg = new.dict.cfg ∧ a.nor.cfg = new.dict.cfg ∧ tabGet domain a.dict.gens = some value ∧ tabGet domain a.nor.gens = some value ∧
      ∀ y ∈ a.dict.sessions, (∀ z ∈ e.dict.sessions, (z.drafts.map (·.1)).Nodup) → tabGet domain y.drafts = none)) ∧
  (∀ (s : State) (q : Req) (value : Nat) (room ack : NorAck) (d : Dev) (x : Session) (f : Failure),
    s.takesUp q 0x1810 0 value d x → d.runChecks x (x.select 0x1800 0) value room = some f →
    exec (.configurationCommit q value room ack) s =
      .next (s.withDev ((d.noteResult q stConfigReject value (some f)).answer q 0x1810 0 stConfigReject))) ∧
  (∀ (s : State) (kind number : Nat) (h : Hold),
    s.running = true → s.dev.holdOn kind number = some h → s.dev.earlierWork number h.since = false →
    exec (.generationHoldRelease kind number) s = .next (s.withDev (s.dev.setDict { s.dev.dict with
      holds := s.dev.dict.holds.eraseP fun x => x.kind == kind && x.number == number }))) ∧
  (∀ (s : State) (q : Req) (d : Dev) (x : Session) (p : Plan),
    s.takesUp q 0x23F0 5 1 d x → d.plan? (x.select 0x23F0 1) = some p → x.reaches p.realm = true →
    (∀ r ∈ d.plans.runs, r.runs (x.select 0x23F0 1) (x.select 0x23F0 2) = false) →
    exec (.counterClear q 1) s = .next (s.withDev ((d.modPlan (x.select 0x23F0 1) fun p =>
      { p with counts := tabSet (x.select 0x23F0 2) .none p.counts }).answer q 0x23F0 5 stOk)))

/-- Actions on tiles, indexes, pools, tiers and flash (R160, R271, R381, R423, R473, R475, R519): each that is taken up acts on its object and
answers with its status. -/
def Obligations.ObjectActionsAct : Prop :=
  ∀ (s : State) (q : Req) (d : Dev) (x : Session),
    (∀ tile, s.takesUp q 0x2002 0 tile d x →
      exec (.tileUnfence q tile true) s = .next (s.withDev ((d.modTile tile fun t =>
        { t with fenced := false, corrected := 0, uncorrectable := 0, corrected24 := [], uncorrected24 := [] }).answer q 0x2002 0 stOk)) ∧
      exec (.tileUnfence q tile false) s = .next (s.withDev (d.answer q 0x2002 0 stFault))) ∧
    (∀ slot, s.takesUp q (0x3020 + slot) 3 1 d x → ixKind (d.index slot) ≠ 0 → (d.indexState slot).state = 2 →
      d.entryCells (d.index slot) ≠ [] →
      exec (.indexOpen q slot 1) s = .next (s.withDev ((d.modIndex slot fun k => { k with state := 3 }).answer q (0x3020 + slot) 3 stOk))) ∧
    (∀ slot value, s.takesUp q (0x3060 + slot) 6 value d x → ixKind (d.index slot) = 1 → value < ixCount (d.index slot) → value ≠ 0xFFFFFFFF →
      ∃ e, d.startPasses slot value = (stOk, e) ∧ exec (.consolidationStart q slot value) s = .next (s.withDev (e.answer q (0x3060 + slot) 6 stOk)) ∧
        (let l := (d.cellSegments (d.index slot) value).filter fun p => !sgSealed (d.seg p.1 p.2)
         l ≠ [] → ⟨slot, value, l, 0⟩ ∈ e.updates.passes)) ∧
    (∀ pool value e, s.takesUp q (0x3200 + pool) 5 value d x → d.resetSequence pool value = (stOk, e) →
      exec (.sequenceReset q pool value) s = .next (s.withDev (e.answer q (0x3200 + pool) 5 stOk))) ∧
    (∀ pool value e, s.takesUp q (0x3200 + pool) 6 value d x → d.setPending pool (bits value 15 0) (bits value 63 32) = (stOk, e) →
      exec (.pendingTokenSet q pool value) s = .next (s.withDev (e.answer q (0x3200 + pool) 6 stOk))) ∧
    (s.takesUp q 0x2462 8 1 d x → exec (.poolFlush q 1) s = .next (s.withDev (d.poolFlush q.path q.number q.seq x.realm))) ∧
    (∀ value, s.takesUp q 0x2B80 5 value d x →
      exec (.reclaim q value) s = .next (s.withDev (((d.lentNewest.take value).foldl (fun d g => d.reclaimGib s.ctx g) d).answer q 0x2B80 5 stOk))) ∧
    (∀ e, s.takesUp q 0x2840 6 1 d x → d.cleanShutdown s.ctx = (stOk, e) →
      exec (.cleanShutdown q 1) s = .next (s.withDev ((e.cleanEnd s.ctx 0 id).answer q 0x2840 6 stOk)))

/-- The fuses' commands. A counter of anti-rollback moves by its command or a write of that entry alone; the command burns counter c up to v
where both images hold a verified image of c with SVN ≥ v, is rejected where they do not, and changes nothing at or below the counter (R660). A
revocation bit burns unless its slot signed an image or is the last unrevoked production slot (R661). A listed transition under the strap, in a
session of realm 0, burns the new life cycle; any other is a violation (R650). -/
def Obligations.FuseCommandsBurn : Prop :=
  (∀ (i : Instr) (s t : State), exec i s = .next t → t.fuses.counters ≠ s.fuses.counters →
    (∃ q v, i = .commitSecurityVersion q v) ∨ (∃ q n l v, i = .write q 0x5C01 n l v) ∨ (∃ q n g l v, i = .writeSeg q 0x5C01 n g l v)) ∧
  ∀ (s : State) (q : Req) (d : Dev) (x : Session),
    (∀ value, let c := bits value 15 8
      let v := bits value 7 0
      s.takesUp q 0x5C01 3 value d x → c < 6 →
      let both : Prop := ∀ i, i = 0 ∨ i = 1 → d.componentOk s.ctx (d.image i) c = true ∧ v ≤ sbSvn ((d.image i).sig c)
      (v ≤ nth s.fuses.counters c → exec (.commitSecurityVersion q value) s = .next (s.withDev (d.answer q 0x5C01 3 stOk))) ∧
      (nth s.fuses.counters c < v → both → exec (.commitSecurityVersion q value) s =
        .next { s with fuses := { s.fuses with counters := s.fuses.counters.set c v }, dev := d.answer q 0x5C01 3 stOk }) ∧
      (nth s.fuses.counters c < v → ¬both →
        exec (.commitSecurityVersion q value) s = .next (s.withDev (d.answer q 0x5C01 3 stConfigReject)))) ∧
    (∀ k, s.takesUp q 0x5C01 4 k d x → k < 8 →
      let signed : Prop := ∃ i n, (i = 0 ∨ i = 1) ∧ n < 6 ∧ (d.image i).len ≠ 0 ∧ sbSlot ((d.image i).sig n) = k
      let last : Prop := k < 4 ∧ bit s.fuses.revoked k = false ∧ ∀ j < 4, j ≠ k → s.fuses.rootStatus j ≠ 1
      (¬signed → ¬last → exec (.revokeRootKey q k) s = .next { s with
        fuses := { s.fuses with revoked := s.fuses.revoked ||| 2 ^ k }, dev := d.answer q 0x5C01 4 stOk }) ∧
      (signed ∨ last → exec (.revokeRootKey q k) s = .next (s.withDev (d.answer q 0x5C01 4 stConfigReject)))) ∧
    (∀ target, s.takesUp q 0x5C00 2 target d x →
      let allowed : Prop := x.realm = 0 ∧ d.transitionListed s.ctx target = true ∧ d.pins.lcStrap = 1
      (allowed → (target ≠ 1 ∨ d.generatorFailed = false) →
        exec (.transitionRequest q target) s = .next { s with
          fuses := { s.fuses with lifeCycle := target, udsBurned := s.fuses.udsBurned || target == 1 },
          dev := (d.eraseFor s.fuses.lifeCycle target).answer q 0x5C00 2 stOk }) ∧
      (¬allowed → exec (.transitionRequest q target) s =
        .next (s.withDev ((d.violateEntry s.ctx x 0x11 0x5C00 2).answer q 0x5C00 2 stViolation))))

/-- Attestation, proofs and the other control actions (R654, R656, R681, R689, R692, R699).

SPDM (R14, R653): GET_VERSION answers 1.2, an older requester is refused and logged, and other codes are answered. -/
def Obligations.ControlActionsAct : Prop :=
  (∀ (s : State) (q : Req) (d : Dev) (x : Session),
    (∀ nonce, s.takesUp q 0x5C10 1 nonce d x → d.generatorFailed = false →
      exec (.attestationNonce q nonce) s = .next (s.withDev ((d.modSession q.path q.number fun t =>
        { t with report := d.attestation s.ctx x.realm nonce }).answer q 0x5C10 1 stOk))) ∧
    (∀ sig, s.takesUp q 0x5C20 1 sig d x → x.proofPending = true → d.proofHolds x sig = true → q.path = 0 →
      exec (.sessionProof q sig) s = .next (s.withDev ((d.modSession q.path q.number fun t =>
        { t with proofPending := false, isProtected := true }).answer q 0x5C20 1 stOk))) ∧
    (s.takesUp q 0x5004 2 1 d x →
      exec (.alertAcknowledge q 1) s = .next (s.withDev (((d.setSensors { d.sensors with unacked := false }).checkAlert).answer q 0x5004 2 stOk))) ∧
    (s.takesUp q 0x5F02 0 1 d x → ((d.image (1 - d.nor.boot.active)).state = 1 ∨ (d.image (1 - d.nor.boot.active)).state = 4) →
      d.nor.boot.trial = false →
      exec (.activate q 1) s = .next (s.withDev (((d.writeBoot fun b => { b with active := 1 - d.nor.boot.active, trial := true, tried := false }).modImage
        (1 - d.nor.boot.active) fun i => { i with state := 3 }).answer q 0x5F02 0 stOk))) ∧
    (s.takesUp q 0x5F04 0 1 d x → d.nor.boot.trial = true →
      exec (.confirm q 1) s = .next (s.withDev ((((d.writeBoot fun b => { b with trial := false }).modImage d.nor.boot.active fun i =>
        { i with state := 4 }).event s.ctx 0x0B04 0 0 d.nor.boot.active 0 0).answer q 0x5F04 0 stOk))) ∧
    (∀ value, value = 1 ∨ value = 2 → s.takesUp q 0x5F03 0 value d x →
      exec (.restartRequest q value) s = .next (s.withDev (d.restart s.ctx q value))) ∧
    (∀ value, let blocks := programBlocks (bits value 7 0) (bits value 15 8)
      s.takesUp q 0x5820 0 value d x → programsAllowed d.keep.lifeCycle = true → blocks ≠ [] → d.oculus.program % 256 ≠ 1 →
      d.oculus.slice = none →
      exec (.programRequest q value) s = .next (s.withDev (((d.setOculus { d.oculus with
        program := 1 + 256 * bits value 7 0, programBlocks := blocks, results := setResults d.oculus.results blocks 4 }).programUnits
          blocks true).answer q 0x5820 0 stOk)))) ∧
  (∀ (s : State) (port param version nonce : Nat) (ed448 sha3 : Bool),
    s.running = true → s.dev.fnThere port 0 = true → s.dev.boot.reloading = false → s.dev.boot.node ≠ 0x81 →
    exec (.spdmRequest port 0x84 param version ed448 sha3 nonce) s = .next (s.withDev (s.dev.send (.spdm 0x04 [0x12]))) ∧
    (∀ code, code ≠ 0x84 → version ≠ 0x12 → exec (.spdmRequest port code param version ed448 sha3 nonce) s =
      .next (s.withDev ((s.dev.spdmError 0x41).event s.ctx 0x0C01 1 0 1 version 0))) ∧
    exec (.spdmRequest port 0xE1 param 0x12 ed448 sha3 nonce) s = .next (s.withDev (s.dev.send (.spdm 0x61 [0x16]))) ∧
    exec (.spdmRequest port 0xE3 param 0x12 true sha3 nonce) s = .next (s.withDev (s.dev.send (.spdm 0x63 [1, b2n sha3]))) ∧
    exec (.spdmRequest port 0x81 param 0x12 ed448 sha3 nonce) s = .next (s.withDev (s.dev.send
      (.spdm 0x01 [1, sha3Digest (Config.document 0 0) (Config.document 0 1)]))))

/-- PWRGOOD and SYS_RST_N (R28, R707, R710–R712): with power the time base begins at 0 and start step 1 begins, unless the reset holds; the fall stops
everything; a reset pulse long enough holds the node, one under 200 ns does nothing, and its release begins a start of cause 2. The fuses
stay. -/
def Obligations.PowerAndResetPins : Prop :=
  (∀ (s : State) (lc : Nat) (test : Bool), s.time.powered = false →
    ∃ u, exec (.pwrgoodRise lc test) s = .next u ∧ u.time = { count := 0, phase := 0, stepped := false, slewPpm := 0, powered := true } ∧ u.fuses = s.fuses ∧
      u.dev = (let d := s.dev.sampleStraps lc test
        if d.pins.sysRstN then d.beginStart ⟨0, s.fuses⟩ d.powerOnCause else d.afterReset ⟨0, s.fuses⟩ true)) ∧
  (∀ (s : State) (lc : Nat) (test : Bool), s.time.powered = true → exec (.pwrgoodRise lc test) s = .next s) ∧
  (∀ s : State, ∃ u, exec .pwrgoodFall s = .next u ∧ u.time = { s.time with powered := false } ∧ u.dev.boot.node = 0 ∧ u.running = false ∧
    u.dev.nor = s.dev.nor ∧ u.dev.flash = s.dev.flash ∧ u.fuses = s.fuses) ∧
  (∀ (s : State) (lowNs : Nat), s.dev.pins.sysRstN = true → 1000 ≤ lowNs →
    ∃ u, exec (.sysRstNAssert lowNs) s = .next u ∧ u.dev.pins.sysRstN = false ∧ u.dev.boot.node = 0 ∧ u.running = false ∧ u.time = s.time) ∧
  (∀ (s : State) (lowNs : Nat), lowNs < 200 → exec (.sysRstNAssert lowNs) s = .next s) ∧
  (∀ (s : State) (lc : Nat) (test : Bool), s.dev.pins.sysRstN = false → s.time.powered = true → s.dev.pins.thermtrip = false →
    exec (.sysRstNRelease lc test) s = .next (s.withDev
      (((s.dev.setPins { s.dev.pins with sysRstN := true }).sampleStraps lc test).beginStart s.ctx 2)))

/-- The start's steps 3 to 7 (R520, R521, R667, R668, R670, R671, R674, R693): the self-test's results are kept and step 4 begins; a wave trains its stacks
alone; the LUNs are enumerated; the map is loaded from its checkpoint or is to be rebuilt, and step 6 begins; the rebuilt map serves; with it
step 7 ends and the node is operational; after 60 s the start has succeeded. Out of its step a row changes nothing. -/
def Obligations.StartStepsFollow : Prop :=
  (∀ (s : State) (failed marginal mesh tiles : List Nat),
    s.running = true → s.dev.boot.node = 3 → failed.any (inRange 712 719) = false → sensorsLost failed = false →
    let e := ((s.dev.setOculus { s.dev.oculus with
      results := bootResults failed marginal, failedAtStart := failed, next := 0 }).bootEvents s.ctx failed marginal).leaveOut
      s.ctx failed mesh tiles
    exec (.bootSelfTest failed marginal false mesh tiles) s = .next (s.withDev ((e.setBoot { e.boot with node := 4 }).stepEnds s.ctx 3))) ∧
  (∀ (s : State) (failed : List Nat), let wave := s.dev.boot.waves.length
    s.running = true → s.dev.boot.node = 4 → wave < 3 → s.dev.banks.units.length = 32 →
    ∃ u, exec (.stackTrainingWave wave failed) s = .next u ∧ u.dev.boot.waves = s.dev.boot.waves ++ [wave] ∧ u.dev.boot.node = 4 ∧
      (∀ n ∈ waveStacks wave, (u.dev.stack n).state = if failed.contains n || !s.dev.stackTrains n then 1 else 0) ∧
      (∀ n, n ∉ waveStacks wave → u.dev.stack n = s.dev.stack n)) ∧
  (∀ (s : State) (failed : List Nat), s.running = true → s.dev.boot.node = 4 → s.dev.boot.waves.length = 3 →
    ∃ d : Dev, d.boot.waves = s.dev.boot.waves ++ [3] ∧ exec (.stackTrainingWave 3 failed) s = .next (s.withDev (d.wavesEnd s.ctx)) ∧
      ((∀ q < 4, ∃ i < 8, (d.stack (8 * q + i)).state = 0) → (d.wavesEnd s.ctx).boot.node = 5)) ∧
  (∀ (s : State) (luns : List LunAnswer), s.running = true → s.dev.boot.node = 5 → s.dev.flash.mapState = 0 →
    ∃ u, exec (.flashEnumeration luns) s = .next u ∧ u.dev.flash = { s.dev.flash with
      luns := ((List.range 2048).filter s.dev.lunExpected).map fun n => (n, s.dev.enumerated luns n), mapState := 1, mapSource := 0, progress := 0,
      loadFrom := s.time.count }) ∧
  (∀ s : State, s.running = true → s.dev.flash.mapState = 1 → s.dev.flash.mapSource = 0 →
    let took := (s.time.count - s.dev.flash.loadFrom) / msTicks
    (s.dev.flash.volumes ≠ [] → s.dev.flash.rootClean = true → ∃ u, exec (.mapLoad true) s = .next u ∧
      u.dev.flash.map = s.dev.flash.checkpoint ∧ u.dev.flash.seq = s.dev.flash.rootSeq + 1 ∧ u.dev.flash.blocks = s.dev.flash.blocks ∧
      u.dev.flash.mapState = 2 ∧ u.dev.flash.mapSource = 1 ∧ u.dev.flash.progress = 100 ∧ u.dev.flash.loadTime = took ∧
      (s.dev.boot.node = 5 → u.dev.boot.node = 6)) ∧
    (s.dev.flash.volumes = [] → ∀ reads, ∃ u, exec (.mapLoad reads) s = .next u ∧ u.dev.flash = { s.dev.flash with
      mapState := 2, progress := 100, loadTime := took } ∧ (s.dev.boot.node = 5 → u.dev.boot.node = 6)) ∧
    (s.dev.flash.volumes ≠ [] → ∃ u, exec (.mapLoad false) s = .next u ∧ u.dev.flash = { s.dev.flash with mapSource := 2, progress := 0 } ∧
      (s.dev.boot.node = 5 → u.dev.boot.node = 6))) ∧
  (∀ s : State, s.running = true → s.dev.flash.mapState = 1 → s.dev.flash.mapSource = 2 →
    (∀ e ∈ s.dev.scannedBlocks, e.2.summaryReads s.dev.nor.boot.starts e.1 = true) →
    ∃ u, exec .mapRebuildComplete s = .next u ∧ u.dev.flash.mapState = 2 ∧ u.dev.flash.map = s.dev.scanMap.map (fun e => (e.1, e.2.2)) ∧
      u.dev.flash.progress = 100 ∧ u.dev.flash.copies = s.dev.flash.copies) ∧
  (∀ s : State, s.running = true → s.dev.boot.node = 6 → s.dev.flash.mapState = 2 →
    ∃ u, exec .operational s = .next u ∧ u.dev.boot.node = 7 ∧ u.dev.boot.operationalAt = s.time.count ∧ u.dev.mem = s.dev.mem) ∧
  (∀ s : State, s.running = true → s.dev.boot.node = 7 → s.dev.boot.succeeded = false → s.dev.boot.operationalAt + 60 * secondTicks ≤ s.time.count →
    (tabValue s.dev.nor.kept 0x5F05 0).num ≠ 1 →
    ∃ u, exec .startSuccess s = .next u ∧ u.dev.boot = { s.dev.boot with succeeded := true } ∧ u.dev.nor.boot.failedStarts = 0) ∧
  (∀ s : State,
    (s.dev.boot.node ≠ 3 → ∀ failed marginal bandGap mesh tiles, exec (.bootSelfTest failed marginal bandGap mesh tiles) s = .next s) ∧
    (∀ wave failed, s.dev.boot.node ≠ 4 ∨ wave ≠ s.dev.boot.waves.length → exec (.stackTrainingWave wave failed) s = .next s) ∧
    (∀ luns, s.dev.boot.node ≠ 5 ∨ s.dev.flash.mapState ≠ 0 → exec (.flashEnumeration luns) s = .next s) ∧
    (∀ reads, s.dev.flash.mapState ≠ 1 ∨ s.dev.flash.mapSource ≠ 0 → exec (.mapLoad reads) s = .next s) ∧
    (s.dev.flash.mapState ≠ 1 ∨ s.dev.flash.mapSource ≠ 2 → exec .mapRebuildComplete s = .next s) ∧
    (s.dev.boot.node ≠ 6 ∨ s.dev.flash.mapState ≠ 2 → exec .operational s = .next s) ∧
    (s.dev.boot.node ≠ 7 ∨ s.dev.boot.succeeded = true ∨ s.time.count < s.dev.boot.operationalAt + 60 * secondTicks →
      exec .startSuccess s = .next s))

/-- Starts that fail, the watchdog and the generator (R648, R666, R672): where its case fits the step that the start has reached, a failed start ends
in a new start of cause 4, the case and the step kept, and no capsule, session or byte of memory outlives it; elsewhere it changes nothing. A
watchdog expiry has the Cupola reload and closes all but mailbox sessions; the third in 600 s is such a failed start instead, of case 6; the
Cupola's reload ends. A failed health test of the generator is kept, counted and logged as critical, and asserts ALERT_N. -/
def Obligations.FailuresAreHandled : Prop :=
  let restarts (s u : State) (case : Nat) : Prop := u = s.withDev (s.dev.failStart s.ctx case) ∧ (s.fuses.lifeCycle ≠ 5 →
    u.dev.boot.cause = 4 ∧ u.dev.boot.began = s.time.count ∧ u.dev.boot.lastFailed = min s.dev.boot.node 7 + 256 * case ∧
    (u.dev.boot.node = 3 ∨ u.dev.boot.node = 0x80 ∨ u.dev.boot.node = 0x81) ∧
    u.dev.mem = [] ∧ u.dev.capsules.live = [] ∧ u.dev.dict.sessions = [])
  (∀ (s : State) (case : Nat),
    let b := s.dev.boot
    let fits : Prop := s.dev.isMinimal = false ∧ (((case = 1 ∨ case = 3) ∧ b.node = 3) ∨ (case = 2 ∧ b.node = 4) ∨ case = 4 ∨
      (case = 5 ∧ b.node < 7 ∧ ¬(s.dev.flash.mapState = 1 ∧ s.dev.flash.mapSource = 2) ∧ b.began + 600 * secondTicks ≤ s.time.count))
    s.running = true →
    (fits → ∃ u, exec (.startFailed case) s = .next u ∧ restarts s u case) ∧ (¬fits → exec (.startFailed case) s = .next s)) ∧
  (∀ s : State,
    let recent := s.dev.boot.expiries.filter fun t => decide (s.time.count < t + 600 * secondTicks)
    s.running = true →
    (s.dev.boot.node ≠ 0x81 → recent.length < 2 → ∃ u, exec .watchdogExpiry s = .next u ∧
      u.dev.boot = { s.dev.boot with expiries := s.time.count :: recent, reloading := true } ∧
      u.dev.dict.sessions = s.dev.dict.sessions.filter (fun x => x.path == 1) ∧ u.dev.mem = s.dev.mem) ∧
    (s.dev.boot.node ≠ 0x81 → 2 ≤ recent.length → ∃ u v, exec .watchdogExpiry s = .next u ∧ restarts v u 6 ∧ v.time = s.time ∧ v.fuses = s.fuses ∧
      v.dev.boot = { s.dev.boot with expiries := s.time.count :: recent, reloading := true }) ∧
    (s.dev.boot.node = 0x81 → exec .watchdogExpiry s = .next s)) ∧
  (∀ s : State, s.running = true → exec .cupolaReloadComplete s = .next (s.withDev (s.dev.setBoot { s.dev.boot with reloading := false }))) ∧
  (∀ s : State, s.running = true → ∃ u, exec .generatorHealthFailure s = .next u ∧ u.dev.keep = { s.dev.keep with
      health := 1, faults := satAdd 64 s.dev.keep.faults 1 } ∧ u.dev.pins.alert = true ∧
    (u.dev.nor.events.head?.map fun e => (e.code, e.severity, e.time)) = some (0x0802, 3, s.time.count) ∧ u.dev.mem = s.dev.mem)

/-- Sensors, the thermal trip, regulators and the log's flush (R679–R682, R686, R703): a sample's readings are taken in, and the board's power is the mean over the
samples of the last millisecond; the trip stops every clock; a configured regulator's status is kept; every record of the log is then in NOR's keeping.

FREQUENCY_CHANGE (R150–R153, R703): a legal step down is made; a step up is made once the regulator has acknowledged enough and settled, or, where
no regulator sets the quarter die's rail, up to 1,050 MHz. -/
def Obligations.SupervisionActs : Prop :=
  (∀ s : State, s.running = true →
    (∀ r : SensorReadings, ∃ u, exec (.sensorSample r) s = .next u ∧
      u.dev.sensors.quarter = s.dev.sensorReadings 0 32 s.dev.sensors.quarter r.quarter ∧
      u.dev.sensors.stack = s.dev.sensorReadings 32 32 s.dev.sensors.stack r.stack ∧
      (let l := s.dev.sensors.recent s.time.count (railPower ((List.range 12).map (nth r.railMv)) ((List.range 12).map (nth r.railMa)))
       u.dev.sensors.samples = l ∧ u.dev.sensors.power = sumOf (l.map (·.2)) / (1000000 * l.length)) ∧
      u.dev.sensors.peakPower = max s.dev.sensors.peakPower u.dev.sensors.power) ∧
    (∀ sensor, ∃ u, exec (.thermtrip sensor) s = .next u ∧ u.dev.pins.thermtrip = true ∧ u.running = false) ∧
    (∀ slot w, s.dev.regulatorAddress slot ≠ 0 → slot < 16 → ∃ u, exec (.pmbusPoll slot w) s = .next u ∧
      u.dev.sensors.regulator = s.dev.sensors.regulator.set slot (w % 65536)) ∧
    (∃ u, exec .eventLogFlush s = .next u ∧ (∀ e ∈ u.dev.log.ring, e.2 = true) ∧ u.dev.log.ring.map (·.1) = s.dev.log.ring.map (·.1))) ∧
  (∀ (s : State) (group mhz : Nat) (acked : Bool),
    let now := nth s.dev.power.mhz group
    s.running = true → group < 36 → s.dev.power.mhz.length = 36 → inRange 600 1150 mhz = true → mhz % 25 = 0 →
    mhz ≤ s.dev.cfg 0x2010 (group + 1) → s.dev.mayChange s.ctx group = true →
    (mhz < now ∨ (now < mhz ∧ s.dev.mayRaise group mhz = true ∧ if s.dev.railControlled (groupQuarter group) then
        curveMv (groupQuarter group) mhz ≤ nth s.dev.power.ackedMv (groupQuarter group) ∧
        nth s.dev.power.ackedAt (groupQuarter group) + 50 * usTicks ≤ s.time.count
      else mhz ≤ 1050)) →
    ∃ u, exec (.frequencyChange group mhz acked) s = .next u ∧ nth u.dev.power.mhz group = mhz ∧
      (∀ g, g ≠ group → nth u.dev.power.mhz g = nth s.dev.power.mhz g) ∧ u.dev.power.changedAt = s.dev.power.changedAt.set group s.time.count)

/-- Oculus (R694–R699): a slice runs on the next eligible block inside the limits and is put off outside them; its end records the result; a full
program's end does so for its blocks. -/
def Obligations.OculusTests : Prop :=
  ∀ s : State, s.running = true →
    (s.dev.boot.node = 7 → s.dev.cfg 0x5800 2 = 1 → s.dev.oculus.slice = none → s.dev.oculus.program % 256 ≠ 1 →
      ∀ b skipped, s.dev.nextEligible s.dev.oculus.next 806 = (b, skipped) →
      (∃ u, exec (.oculusSlice true) s = .next u ∧ u.dev.oculus = { s.dev.oculus with
        next := b, passedOver := satAdd 64 s.dev.oculus.passedOver skipped, slice := some b, run := satAdd 64 s.dev.oculus.run 1 }) ∧
      exec (.oculusSlice false) s = .next (s.withDev (s.dev.setOculus { s.dev.oculus with
        next := b, passedOver := satAdd 64 s.dev.oculus.passedOver skipped, deferred := satAdd 64 s.dev.oculus.deferred 1 }))) ∧
    (∀ b, s.dev.oculus.slice = some b → ∃ u, exec (.oculusSliceEnd 0) s = .next u ∧ u.dev.oculus = { s.dev.oculus with
      slice := none, aborts := 0, failedOnce := none, next := nextBlock b, results := s.dev.oculus.results.set b 1 }) ∧
    (∀ passed : Bool, s.dev.oculus.program % 256 = 1 → ∃ u, exec (.programComplete passed) s = .next u ∧ u.dev.oculus = { s.dev.oculus with
      program := (if passed then 2 else 3) + s.dev.oculus.program / 256 * 256, programBlocks := [],
      results := setResults s.dev.oculus.results s.dev.oculus.programBlocks (if passed then 1 else 3) })

/-- Updates retire (R377, R378): the tombstones of a published update are set once earlier instances have ended; once they stand in the array (none
waits in a closed bank's shadow, R155), the old version loses VALID, at its time or at the wait limit, which is counted; the update waits no more.

Row copies of tables (R409–R412): a copied row is switched to its new place at a new epoch; one that was written meanwhile is copied again and
counted; a demotion whose home will not stay is given up; a former copy is released once no earlier GATHER can read it, and a promotion
that waited for its slot then begins. -/
def Obligations.UpdatesRetireAndCopiesEnd : Prop :=
  (∀ (s : State) (index id : Nat) (p : PendingUpdate),
    s.running = true →
    (s.dev.updates.pending.find? (fun q => q.index == index && q.id == id && q.since.isNone) = some p → s.dev.earlierInstance index p.publish = false →
      exec (.tombstoneSet index id) s = .next (s.withDev (
        let d := p.places.foldl (fun d q => d.setTombstone (s.dev.index index) q) s.dev
        (d.setUpdates { d.updates with pending := d.updates.pending.map fun q =>
          if q.index = index ∧ q.id = id ∧ q.since = none then { q with since := some s.time.count } else q }).runJobs s.ctx))) ∧
    (∀ t, s.dev.updates.pending.filter (fun q => q.index == index && q.id == id) = [p] → p.since = some t → s.dev.tombstoneDue p = false →
      s.dev.updates.jobs = [] →
      let former (d : Dev) : Dev := match d.locatorOf (s.dev.index index) id p.version with
        | some k => d.putLocator (s.dev.index index) id k (setBits (d.locator (s.dev.index index) id k) 16 16 0)
        | none => d
      (s.dev.earlierInstance index t = false → ∃ u, exec (.retirement index id) s = .next u ∧ u.dev.mem = (former s.dev).mem ∧
        (∀ q ∈ u.dev.updates.pending, ¬(q.index = index ∧ q.id = id))) ∧
      (t + s.dev.cfg (0x3060 + index) 3 * msTicks ≤ s.time.count → ∃ u, exec (.retirementWaitLimit index id) s = .next u ∧
        u.dev.mem = (former s.dev).mem ∧ (∀ q ∈ u.dev.updates.pending, ¬(q.index = index ∧ q.id = id)) ∧
        (u.dev.indexState index).early = satAdd 64 (s.dev.indexState index).early 1))) ∧
  ((∀ (s : State) (t r i e : Nat) (k : RowCopy),
    let w := s.dev.table t
    s.running = true → s.dev.updates.copies.find? (fun k => k.table == t && k.row == r && k.switched.isNone) = some k →
    s.dev.fwdOf w r = some (i, e) →
    (k.out = true → s.dev.homeStays w = false →
      exec (.rowCopyComplete t r) s = .next (s.withDev ((s.dev.keepLocal t r i e).hear s.ctx none))) ∧
    (∀ row d f, (k.out = true → s.dev.homeStays w = true) →
      let at_ (home : Bool) := if home then homeAt w r else localAt w (fwSlot e)
      s.dev.readRecord (tbRealm w) (at_ !k.out) (tbRS w) (tbSS w) = (stOk, row, d) →
      d.replaceRecord s.ctx (tbRealm w) (at_ k.out) (tbSS w) row = (stOk, f) →
      (fwDirty e = true → exec (.rowCopyComplete t r) s = .next (s.withDev ((((f.putFwd w i (setBits e 35 35 0)).modCopy t r
        fun x => { x with copies := x.copies + 1 }).modTable t fun x => { x with recopies := satAdd 64 x.recopies 1 }).hear s.ctx none))) ∧
      (fwDirty e = false →
        let epoch := (f.tableState t).epoch + 1
        exec (.rowCopyComplete t r) s = .next (s.withDev ((((f.putFwd w i
          (if k.out then setBits e 191 128 epoch else setBits (setBits e 127 64 epoch) 34 33 1)).modTable t fun x => { x with
            epoch := epoch, promotions := x.promotions + b2n (!k.out), demotions := x.demotions + b2n k.out }).modCopy t r
              fun x => { x with switched := some epoch }).hear s.ctx none))))) ∧
  (∀ (s : State) (t r epoch : Nat) (k : RowCopy),
    s.running = true → s.dev.updates.copies.find? (fun k => k.table == t && k.row == r) = some k → k.switched = some epoch →
    (∀ g ∈ s.dev.updates.gathers, ¬(g.table = t ∧ g.epoch < epoch)) →
    let d : Dev := match s.dev.fwdOf (s.dev.table t) r with
      | some (i, _) => if k.out then s.dev.putFwd (s.dev.table t) i 0 else s.dev
      | none => s.dev
    let e := d.setUpdates { d.updates with copies := d.updates.copies.filter fun x => !(x.table == t && x.row == r) }
    exec (.formerCopyRelease t r) s = .next (s.withDev (Dev.hear s.ctx (match k.follow with
      | some n => e.promoteTo t n k.slot
      | none => e) none)) ∧
    (∀ x ∈ e.updates.copies, ¬(x.table = t ∧ x.row = r))))

/-- Consolidation (R381–R385): the live entries of a segment that is due move to a new segment and the move is noted; after a grace in which no
earlier instance runs it is unlinked, and after another its rows are free. -/
def Obligations.ConsolidationMovesSegments : Prop :=
  (∀ (s : State) (index bank slot n tj row a : Nat) (d e : Dev),
    let w := s.dev.index index
    let h := s.dev.seg bank slot
    let cell := sgCell h
    let banks := cellBanks w cell
    let least := (banks.map (s.dev.liveIn w cell)).foldl min (s.dev.liveIn w cell (banks.headD 0))
    let cands := banks.filter fun b => s.dev.liveIn w cell b == least
    s.running = true → ixKind w = 1 → ixHasBank w bank = true → sgCap h ≠ 0 → sgSealed h = false → s.dev.mayConsolidate index = true →
    s.dev.segmentDue index w bank slot = true → s.dev.choose cands.length = (n, d) →
    d.takeStorage index w cell (cands.getD n 0) false = (some (tj, row, a), e) →
    ∃ u, exec (.consolidationMove index bank slot) s = .next u ∧
      ⟨index, cell, bank, slot, cands.getD n 0, tj, .switched, s.time.count, 0⟩ ∈ u.dev.updates.moves ∧
      (u.dev.indexState index).moved = satAdd 64 (e.indexState index).moved 1) ∧
  (∀ (s : State) (index : Nat) (m : MoveJob),
    s.running = true → s.dev.updates.moves = [m] → m.index = index → m.stage = .switched → s.dev.earlierInstance index m.since = false →
    ∃ u, exec (.segmentUnlink index) s = .next u ∧ u.dev.updates.moves = [{ m with
        stage := .unlinked, since := s.time.count, header := s.dev.seg m.bank m.slot }]) ∧
  (∀ (s : State) (index : Nat) (m : MoveJob),
    s.running = true → s.dev.updates.moves = [m] → m.index = index → m.stage = .unlinked → s.dev.earlierInstance index m.since = false →
    ∃ u, exec (.segmentFree index) s = .next u ∧ u.dev.updates.moves = [] ∧
      u.dev.updates.freed = s.dev.updates.freed ++ [⟨index, m.bank, m.slot, sgCode (s.dev.seg m.bank m.slot) / 1024, ixSegRows (s.dev.index index)⟩])

/-- Formatting and clearing (R269, R391, R417, R637): an object whose memory has been cleared is formatted and serves next; a resource whose clearing ends is
no longer listed. -/
def Obligations.FormattingAndClearingEnd : Prop :=
  ∀ s : State, s.running = true →
    (∀ x, x < 64 → (s.dev.indexState x).state = 1 → s.dev.objectCleared (0x3020 + x) = true →
      ∃ u, exec (.formattingComplete (0x1000 + x)) s = .next u ∧ u = s.withDev (s.dev.formatIndex x) ∧ (u.dev.indexState x).state = 2) ∧
    (∀ t, t < 64 → (s.dev.tableState t).state = 1 → s.dev.objectCleared (0x3120 + t) = true →
      exec (.formattingComplete (0x2000 + t)) s = .next (s.withDev (s.dev.formatTable s.ctx t))) ∧
    (∀ k, k < 16 → (s.dev.poolState k).state = 1 → s.dev.objectCleared (0x3200 + k) = true →
      exec (.formattingComplete (0x3000 + k)) s = .next (s.withDev (s.dev.formatPool k))) ∧
    (∀ kind n, (kind, n) ∈ s.dev.scrubs → s.dev.tiers.waitingAccesses = [] →
      exec (.zeroFillComplete kind n) s = .next (s.withDev ((((s.dev.setScrubs (s.dev.scrubs.filter fun x => x != (kind, n))).setTiers
        { s.dev.tiers with waitingAccesses := [] }).resumeCleared s.ctx).hear s.ctx none)))

/-- Flash operations end (R494, R513, R516, R526, R527, R530). A page buffer whose coalescing window has run is being programmed whole, with filler behind
its slots, and is empty. A read that a LUN serves and that decodes ends on its LUN and is handed to what asked for it; one that does not decode is
repeated at the next retry level, and counted. A program that ends well puts its page's slots on the medium, a summary that does closes its
block, and an erase that does frees its block and raises the block's erase count; writes, copies and collection then go on. A program or an erase that a
read has suspended does not end, and nothing ends on a channel under test. A copy that reads back takes over in the map, and the erase of its
source begins once no operation is left there. -/
def Obligations.FlashOperationsEnd : Prop :=
  ∀ s : State, s.running = true →
    (∀ (v ch : Nat) (o : OpenBlock), tabGet (64 * v + ch) s.dev.flash.opens = some o → o.buffer ≠ [] →
      o.firstAt + s.dev.cfg 0x2840 7 * usTicks ≤ s.time.count →
      let b := s.dev.fblock o.block
      let n := pageSlots (s.dev.profile (lunGroup (blockLun o.block))) - o.buffer.length
      ∃ u, exec (.coalescingWindow v ch) s = .next u ∧ tabGet (64 * v + ch) u.dev.flash.opens = some { o with buffer := [] } ∧
        ∃ p ∈ u.dev.flash.ops, p.block = o.block ∧
          p.programmed = some (o.buffer ++ List.replicate n (fillerSlot b.volume (s.dev.volume b.volume).realm, none))) ∧
    (∀ (n : Nat) (o : FlashOp), s.dev.flashOp? n = some o → s.dev.opTested n = false →
      let lun := blockLun o.block
      let g := lunGroup lun
      (∀ (corrected : Nat) (k v lba : Nat) (desc : Option Nat) (x : FlashSlot), o.use = .read k desc v lba → s.dev.served lun = some o →
        (s.dev.fblock o.block).slots[o.index]? = some x →
        exec (.flashReadComplete n true corrected) s = .next (s.withDev
          (((((s.dev.dropOp n).sample s.ctx g 1 corrected 0 0).lunResult s.ctx lun true).readGiven s.ctx o x).health s.ctx g)) ∧
        (o.retries < mpRetries (s.dev.profile g) → ∃ u, exec (.flashReadComplete n false corrected) s = .next u ∧
          u.dev.flash.retries = satAdd 64 s.dev.flash.retries 1 ∧ u.dev.flashOp? n = some { o with retries := o.retries + 1 } ∧
          u.dev.out = .onfi lun (.read o.block o.index (o.retries + 1)) :: s.dev.out)) ∧
      (∀ l, o.use = .program l → s.dev.busyOp lun = some o → s.dev.served lun = none →
        exec (.programStatus n true) s = .next (s.withDev ((((((s.dev.sample s.ctx g 0 0 1 0).dropOp n).lunResult s.ctx lun true).pageProgrammed s.ctx
          o.block l)).health s.ctx g))) ∧
      (∀ t, o.use = .summary t → s.dev.busyOp lun = some o → s.dev.served lun = none →
        exec (.programStatus n true) s = .next (s.withDev (((((s.dev.sample s.ctx g 0 0 1 0).dropOp n).lunResult s.ctx lun true).modBlock o.block
          fun b => { b with state := .closed, summary := some t }).health s.ctx g))) ∧
      (o.use = .erase → s.dev.busyOp lun = some o → s.dev.served lun = none →
        exec (.eraseComplete n true) s = .next (s.withDev (((((((s.dev.dropOp n).sample s.ctx g 0 0 1 0).blockErased o.block).lunResult s.ctx lun
          true).blockFreed s.ctx g).health s.ctx g)))) ∧
      ((s.dev.served lun).isSome = true → ∀ passed, exec (.programStatus n passed) s = .next s ∧ exec (.eraseComplete n passed) s = .next s)) ∧
    (∀ (d : Dev) (k : Nat), (d.blockErased k).fblock k = { FlashBlock.fresh with erases := (d.fblock k).erases + 1 }) ∧
    (∀ n, s.dev.opTested n = true → ∀ passed corrected, exec (.flashReadComplete n passed corrected) s = .next s ∧
      exec (.programStatus n passed) s = .next s ∧ exec (.eraseComplete n passed) s = .next s ∧ exec (.flashOperationTimeout n) s = .next s) ∧
    (∀ (n : Nat) (x : FlashCopy), s.dev.flash.copies.find? (fun y => y.number == n) = some x → x.left = [] → s.dev.copyProgrammed x = true →
      x.verified = false →
      ∃ u, exec (.copyVerify n true) s = .next u ∧ (∀ y ∈ u.dev.flash.copies, y.number = n → y.verified = true) ∧
        u.dev.flash.map = (s.dev.switchMap x).flash.map) ∧
    (∀ (n : Nat) (x : FlashCopy), s.dev.flash.copies.find? (fun y => y.number == n) = some x → x.verified = true → x.retire = false →
      (∀ o ∈ s.dev.flash.ops, o.block ≠ x.source) →
      exec (.sourceErase n) s = .next (s.withDev ((s.dev.setFlash { s.dev.flash with copies := s.dev.flash.copies.filter fun y => y.number != n }).startErase
        x.source)))


/-- Removed volumes and slow LUNs (R499, R531, R534): a removed volume's keys are destroyed once no earlier capsule of its realm is there, and where no
volume takes its place its key and its map are gone; an erase or program that times out ends as a failed one.

Write-back (R471, R473): a sector dirty for the write-back age is copied to its home, byte for byte, and is on its way; acknowledged, it is done. -/
def Obligations.FlashAndWriteBack : Prop :=
  (∀ s : State, s.running = true →
    (∀ v, (s.dev.volume v).state = 3 → (∀ k ∈ s.dev.capsules.live, ¬(k.realm = (s.dev.volume v).realm ∧ k.acceptedAt ≤ (s.dev.volume v).removedAt)) →
      exec (.volumeKeyDestroy v) s = .next (s.withDev (s.dev.destroyVolume s.ctx v)) ∧
      ((s.dev.volume v).next = none → (s.dev.destroyVolume s.ctx v).nor.volumeKeys = tabDel v s.dev.nor.volumeKeys ∧ (s.dev.destroyVolume s.ctx v).flash.map =
        s.dev.flash.map.filter fun e => e.1 / 2 ^ 48 != v)) ∧
    (∀ n o, s.dev.flashOp? n = some o → o.use = .erase → exec (.flashOperationTimeout n) s = exec (.eraseComplete n false) s) ∧
    (∀ n o l, s.dev.flashOp? n = some o → o.use = .program l → exec (.flashOperationTimeout n) s = exec (.programStatus n false) s) ∧
    (∀ n o b, s.dev.flashOp? n = some o → o.use = .summary b → exec (.flashOperationTimeout n) s = exec (.programStatus n false) s) ∧
    (∀ n, ∃ u, exec (.flashOperationTimeout n) s = .next u)) ∧
  ((∀ (s : State) (realm sector : Nat) (p : CachePanel),
    s.running = true → s.dev.panel realm (panelTag sector) = some p → bit p.dirty (sector % 16) = true → s.dev.onItsWay sector = false →
    p.dirtySince + s.dev.cfg 0x2461 2 * msTicks ≤ s.time.count →
    ∃ u, exec (.writeBackAge realm sector) s = .next u ∧ u.dev.tiers.home = copySector s.dev.tiers.cache s.dev.tiers.home sector ∧
      ⟨sector, realm, false, false, none⟩ ∈ u.dev.tiers.writeBacks ∧ u.dev.mem = s.dev.mem) ∧
  (∀ (s : State) (h : Afp) (sector : Nat) (b : WriteBack),
    s.hears h false → h.status = stOk → s.dev.tiers.writeBacks.find? (fun x => x.sector == sector) = some b →
    exec (.writeBackAck h sector) s = .next (s.withDev ((s.heard h).writeBackDone b))))

/-- The lender (R466, R475, R476, R483): it offers free GiB; a grant of one it offered takes effect and is acknowledged; a borrower's access is answered with the bytes
of its segment, and its write stores exactly its bytes. -/
def Obligations.LendersServe : Prop :=
  (∀ (s : State) (k : Nat) (d : Dev),
    let free := s.dev.keptGib.filter fun g => (tabGet g s.dev.tiers.lent).isNone && !s.dev.tiers.offered.contains g && !s.dev.scrubs.contains (1, g)
    let n := s.dev.lendLimit - s.dev.tiers.lent.length - s.dev.tiers.offered.length
    let new := ((free.drop k) ++ (free.take k)).take n
    s.running = true → n ≠ 0 → free ≠ [] → s.dev.choose free.length = (k, d) →
    ∃ u, exec .lendOffer s = .next u ∧ u.dev.tiers.offered = s.dev.tiers.offered ++ new ∧ u.dev.tiers.lent = s.dev.tiers.lent) ∧
  (∀ (s : State) (h : Afp) (segment gen borrower realm home g : Nat),
    s.hears h true → (s.dev.segment segment).gen < gen → borrower ≠ s.dev.fabric.node → home = s.dev.fabric.node → g ∈ s.dev.tiers.offered →
    ∃ u, exec (.grant h segment gen borrower realm home g) s = .next u ∧
      tabGet g u.dev.tiers.lent = some ⟨borrower, segment, gen, s.dev.tiers.grants, none, none, [], 0, false, [], none⟩ ∧
      g ∉ u.dev.tiers.offered ∧ u.dev.segment segment = ⟨1, realm, home, g, gen, false, false, 0⟩) ∧
  (∀ (s : State) (h : Afp) (segment gen offset len g : Nat) (l : LentGib),
    s.hearsOnce h → s.dev.lentOf segment = some (g, l) → l.gen = gen → l.admits h.src = true → offset + len ≤ gib → l.copied = false →
    exec (.access h segment gen offset len) s = .next (s.withDev ((s.heardOnce h).reply h.src h.requestId 0x52
      (stOk :: ((s.dev.t1Read (gibAddr g + offset) len).map BitVec.toNat)))) ∧
    ∀ bytes, bytes.length = len → l.holdsWrites = false → l.next = none →
      exec (.poolWrite h segment gen offset bytes) s =
        .next (s.withDev ((((s.heardOnce h).t1Write (gibAddr g + offset) bytes).reply h.src h.requestId 0x53 [stOk]).hear s.ctx none)))

/-- Segments move and end (R477–R482): a reclaimed segment drains; its successor is named and copied; the switch moves its home; an unmapped one is gone; a
node that stays away loses what the grace time has left. What waited for the segment then goes on (`Dev.resumeWaiting`). -/
def Obligations.SegmentsMoveAndEnd : Prop :=
  (∀ (s : State) (h : Afp) (segment gen graceMs : Nat),
    s.hears h false → (s.dev.segment segment).mine = true → (s.dev.segment segment).state = 1 → (s.dev.segment segment).gen = gen →
    (s.dev.segment segment).homeNode = h.src →
    ∃ u, exec (.poolReclaim h segment gen graceMs) s = .next u ∧ (u.dev.segment segment).state = 2 ∧
      (u.dev.segment segment).until_ = s.time.count + graceMs * msTicks) ∧
  (∀ (s : State) (h : Afp) (segment gen node g0 g t : Nat) (l : LentGib),
    s.hears h true → s.dev.lentOf segment = some (g, l) → l.reclaimed = some t → l.gen = gen → l.next = none →
    s.time.count < t + s.dev.cfg 0x2B80 3 * msTicks →
    ∃ u, exec (.successor h segment gen node g0) s = .next u ∧ (u.dev.segment segment).state = 3 ∧
      tabGet g u.dev.tiers.lent = (tabGet g s.dev.tiers.lent).map fun l => { l with next := some (node, g0), marked := [], recopies := 0, copied := false }) ∧
  (∀ (s : State) (g node g1 : Nat) (l : LentGib),
    s.running = true → tabGet g s.dev.tiers.lent = some l → l.next = some (node, g1) → l.copied = false → l.marked = [] →
    ∃ u, exec (.migrationCopyComplete g) s = .next u ∧ tabGet g u.dev.tiers.lent = some { l with copied := true } ∧ u.dev.mem = s.dev.mem) ∧
  (∀ (s : State) (h : Afp) (segment gen node g : Nat),
    s.hears h true → (s.dev.segment segment).gen < gen → s.dev.lentOf segment = none → (s.dev.segment segment).mine = false →
    ∃ d : Dev, exec (.switch h segment gen node g) s = .next (s.withDev ((d.resumeWaiting s.ctx).hear s.ctx none)) ∧ d.segment segment =
      { s.dev.segment segment with state := 1, homeNode := node, homeGib := g, gen := gen, told := false, until_ := 0 }) ∧
  (∀ (s : State) (h : Afp) (segment gen : Nat),
    s.hears h true → (s.dev.segment segment).gen ≤ gen → (s.dev.segment segment).state ≠ 0 → s.dev.lentOf segment = none →
    (s.dev.segment segment).mine = false →
    ∃ d : Dev, exec (.unmap h segment gen) s = .next (s.withDev ((d.resumeWaiting s.ctx).hear s.ctx none)) ∧
      d.segment segment = ⟨0, 0, 0, 0, gen, false, false, 0⟩) ∧
  (∀ (s : State) (segment : Nat),
    s.running = true → s.dev.lentOf segment = none → (s.dev.segment segment).mine = true → (s.dev.segment segment).state = 2 →
    (s.dev.segment segment).until_ ≤ s.time.count →
    exec (.graceTimeExpiry segment) s = .next (s.withDev (((s.dev.loseSegment s.ctx segment).resumeWaiting s.ctx).hear s.ctx none)) ∧
    ((s.dev.loseSegment s.ctx segment).segment segment).state = 4)

/-- Links (R595, R596, R599, R600, R602, R603): a trained link says HELLO; with a common version and no cipher asked for it carries; it closes, is kept alive, is
lost, counts its uncorrectable blocks and has its key renewed. -/
def Obligations.FabricLinks : Prop :=
  ∀ (s : State) (l : Nat), let k := s.dev.link l
    s.running = true →
    (∀ lanes, s.dev.fabricUp = true → l < 32 → s.dev.linkUsed l = true → k.carries = false → lanes = s.dev.linkWidth l →
      exec (.linkTrainingComplete l lanes) s = .next (s.withDev ((s.dev.modLink l fun k => { k with state := 1, lanes := lanes }).send
        (.afp 0x01 0 [l, 0x31, s.dev.lowestAfp l, if s.dev.needsCipher l then 1 else 0, 1])))) ∧
    (∀ highest lowest v offered auth, s.dev.fabricUp = true → k.state = 1 → k.lanes ≠ 0 → commonAfp highest lowest (s.dev.lowestAfp l) = some v →
      s.dev.needsCipher l = false →
      exec (.hello l highest lowest false offered auth) s = .next (s.withDev (s.dev.linkRuns s.ctx l v 0 false))) ∧
    (∀ highest lowest v required a, s.dev.fabricUp = true → k.state = 1 → k.lanes ≠ 0 → commonAfp highest lowest (s.dev.lowestAfp l) = some v →
      s.dev.needsCipher l = true → 0x30 ≤ v →
      exec (.hello l highest lowest required true (some a)) s =
        .next (s.withDev (s.dev.authenticateLink s.ctx l v (linkTranscript highest lowest a) a))) ∧
    (k.carries = true →
      (∀ cause, exec (.linkClose l cause) s = .next (s.withDev ((s.dev.dropLink l 4).event s.ctx 0x0601 1 0 l cause 0))) ∧
      exec (.keepalive l) s = .next (s.withDev (s.dev.modLink l fun k => { k with lastRx := s.time.count, retry := [] })) ∧
      (∃ d : Dev, d = ((s.dev.modLink l fun k => { k with downs := satAdd 64 k.downs 1 }).dropLink l 0).event s.ctx 0x0602 1 0 l 0 0 ∧
        exec (.linkLoss l true) s = .next (s.withDev (d.afp 0x10 0xFFFF (d.announcement s.ctx)))) ∧
      (∀ n, exec (.fecUncorrectable l n) s = .next (s.withDev (s.dev.modLink l fun k => { k with
        fecCorrected := satAdd 64 k.fecCorrected n, fecUncorrectable := satAdd 64 k.fecUncorrectable 1, resends := satAdd 64 k.resends 1 }))) ∧
      (∀ key d, k.encrypted = true → s.dev.generatorFailed = false → s.dev.fresh 64 = (key, d) →
        exec (.linkKeyRenewal l) s = .next (s.withDev (d.modLink l fun k => { k with key := key, messages := 0, keyedAt := s.time.count }))))

/-- Time and place on the fabric (R28, R605, R608–R610): the exchange with the reference goes out when it is due, a request is answered with the instants,
a response corrects the time base by half the doubled lead; announcements, topology and identity are taken in, and
a node that is its own reference is aligned and steps no more. -/
def Obligations.TimeAndPlace : Prop :=
  ∀ s : State,
    (s.running = true → 2 ≤ s.dev.fabric.domain → s.dev.fabric.timeRef ≠ 0 → s.dev.fabric.timeRef ≠ s.dev.fabric.node →
      s.dev.fabric.exchangeAt ≤ s.time.count →
      exec .timeExchange s = .next (s.withDev ((s.dev.setFabric { s.dev.fabric with exchangeAt := s.time.count + msTicks }).afp 0x04 s.dev.fabric.timeRef
        [0, s.time.count, 0]))) ∧
    (∀ h sent correction, s.hears h false →
      exec (.timeReq h sent correction) s = .next (s.withDev ((s.heard h).afp 0x04 h.src [1, sent, s.time.count, s.time.count, correction, 0]))) ∧
    (∀ h sent received back request correction, s.hears h false → s.dev.fromReference h = true →
      ∃ u, exec (.timeResp h sent received back request correction) s = .next u ∧
        u.time = s.time.correct (doubleLead sent received back s.time.count request correction) s.dev.draw.1 ∧ u.fuses = s.fuses) ∧
    (s.running = true → s.dev.fabric.domain = 1 → s.dev.boot.node = 7 →
      ∃ u, exec .announce s = .next u ∧ u.dev.fabric.announces = satAdd 32 s.dev.fabric.announces 1 ∧ u.dev.fabric.announceAt = s.time.count ∧
        u.dev.mem = s.dev.mem) ∧
    (∀ h rack slot domain neighbours, s.hears h false →
      exec (.topology h rack slot domain neighbours) s = .next (s.withDev ((s.heard h).setFabric { (s.heard h).fabric with
        place := placeOf rack slot domain, neighbours := neighbours }))) ∧
    (∀ h node place ref, s.hears h true → 0 < node → node ≤ 4095 →
      ∃ u, exec (.identity h node place ref) s = .next u ∧ u.dev.fabric.node = node ∧ u.dev.fabric.place = place ∧ u.dev.fabric.timeRef = ref ∧
        u.dev.fabric.domain = max s.dev.fabric.domain 2 ∧ u.dev.mem = s.dev.mem ∧ (ref = node → u.time = { s.time with stepped := true }))

/-- Compositions (R611, R617, R618, R625): a newer epoch is installed and acknowledged, an older one changes nothing, no members remove it; a lost member leaves
its rank vacant, and what waited goes on; a shadow begins where this node is the working member or the shadow.

Shadows (R625, R626): the shadow takes a mirrored capsule; the working member keeps the result that it is compared with. -/
def Obligations.CompositionsAndShadows : Prop :=
  (∀ (s : State) (h : Afp), s.hears h true →
    (∀ id realm epoch members owners k c, s.dev.compositionSlot id = some k → s.dev.composition? k = some c → c.epoch < epoch → members ≠ [] →
      exec (.compose h id realm epoch members owners) s = .next (s.withDev (((s.heard h).install s.ctx k id realm epoch members owners).ackManager
        h stOk epoch))) ∧
    (∀ id realm epoch members owners k c, s.dev.compositionSlot id = some k → s.dev.composition? k = some c → epoch ≤ c.epoch →
      exec (.compose h id realm epoch members owners) s = .next (s.withDev ((s.heard h).ackManager h stOk c.epoch))) ∧
    (∀ id realm epoch owners k c, s.dev.compositionSlot id = some k → s.dev.composition? k = some c → c.epoch < epoch →
      exec (.compose h id realm epoch [] owners) s = .next (s.withDev (((s.heard h).uninstall s.ctx k c epoch).ackManager h stOk epoch))) ∧
    (∀ id epoch rank node k c, s.dev.compositionSlot id = some k → s.dev.composition? k = some c → c.epoch < epoch →
      exec (.memberLost h id epoch rank node) s = .next (s.withDev (((((((((s.heard h).installVacant s.ctx k epoch rank node c).instancesLost
        s.ctx k node).poolNodeLost s.ctx node).unitsLost s.ctx k node).releaseHeld s.ctx id epoch).ackManager h stOk epoch).resumeWaiting
          s.ctx).hear s.ctx none))) ∧
    (∀ id rank working shadow k c, s.dev.compositionSlot id = some k → s.dev.composition? k = some c → working = s.dev.fabric.node → c.ownRank = rank →
      exec (.shadowStart h id rank working shadow) s = .next (s.withDev (((s.heard h).setFabric { (s.heard h).fabric with
        shadow := { Shadow.reset with role := 2, partner := shadow, composition := k, rank := rank } }).ackManager h stOk 0))) ∧
    (∀ id rank working shadow k c, s.dev.compositionSlot id = some k → s.dev.composition? k = some c → c.ownRank = 0xFFFF →
      shadow = s.dev.fabric.node → working ≠ s.dev.fabric.node →
      exec (.shadowStart h id rank working shadow) s = .next (s.withDev (((s.heard h).setFabric { (s.heard h).fabric with
        shadow := { Shadow.reset with role := 1, partner := working, composition := k, rank := rank } }).ackManager h stOk 0)))) ∧
  (∀ (s : State) (h : Afp), 0x30 ≤ (s.dev.link h.link).version → s.dev.fabric.shadow.partner = h.src → h.link < s.dev.fabric.links.length →
    (∀ raw len data, s.hearsOnce h → s.dev.fabric.shadow.role = 1 →
      exec (.mirror h raw len data) s = .next (s.withDev ((s.heardOnce h).takeMirror s.ctx h raw.toNat len data))) ∧
    (∀ record lists, s.hears h false → s.dev.fabric.shadow.role = 2 →
      exec (.shadowResult h record lists) s = .next (s.withDev ((((s.heard h).expireMirror s.ctx h.requestId).modAwaited h.requestId fun w =>
        { w with result := some (record % 256, lists) }).settleMirror h.requestId))))

/-- Requests between nodes and their answers (R352, R354, R606, R607, R612, R614, R615): an answer ends the request it names; an EMIT is held for the capsule that will
take it; a contribution joins its collective, and a status from above is passed on to the members below, also by a node whose own capsule
has ended; a request unanswered is sent again; one held for an epoch that does not come is refused. -/
def Obligations.RequestsBetweenNodes : Prop :=
  ∀ (s : State) (h : Afp),
    (∀ requestId r, s.hears h false → s.dev.asked h requestId = some r → r.type = 0x32 →
      exec (.ack h requestId stOk) s = .next (s.withDev (((s.heard h).answered requestId).lateFinish s.ctx r.capsule r.desc fun d _ =>
        (.done [] .none, d)))) ∧
    (∀ record data r cap, s.hears h false → s.dev.asked h h.requestId = some r → s.dev.capsule? r.capsule = some cap → record % 256 < 0x80 →
      exec (.afpCompletion h record 0 data) s = .next (s.withDev (((s.heard h).answered h.requestId).endPlain s.ctx cap.order (record % 256) 0
        (bits record 127 64)))) ∧
    (∀ plan tag slot us dims elements k c, s.hearsOnce h → s.dev.compositionSlot h.composition = some k → s.dev.composition? k = some c →
      h.epoch = c.epoch → h.epoch ≠ 0 → c.members.contains h.src = true → h.src ≠ 0 → nth c.members h.dstRank ≠ 0 →
      (s.heardOnce h).emitPlace c.realm plan slot = true →
      ∃ d : Dev, d = (s.heardOnce h).countEpoch (.served k c.epoch c.ownRank c.members) ∧
        exec (.afpEmit h plan tag slot us dims elements) s =
          .next (s.withDev ((d.holdEmit s.ctx k c.realm plan tag slot us dims elements).ackRequest h stOk []))) ∧
    (∀ number tag ranks format dims elements k c, s.hearsOnce h → s.dev.compositionSlot h.composition = some k → s.dev.composition? k = some c →
      h.epoch = c.epoch → h.epoch ≠ 0 → c.members.contains h.src = true → h.src ≠ 0 → nth c.members h.dstRank ≠ 0 →
      s.dev.collective? k number tag = none →
      (∀ x r, s.dev.queryCapsule k number tag = some x → s.dev.run? x.order = some r → r.status = stOk) →
      exec (.contrib h number tag ranks stOk format dims elements) s = .next (s.withDev
        (((s.heardOnce h).countEpoch (.served k c.epoch c.ownRank c.members)).putCollective
          { Collective.fresh k number tag with parts := [(ranks, format :: dims, elements)] }))) ∧
    (∀ number tag ranks status k x who m root, s.hears h false → status < 0x80 → s.dev.compositionSlot h.composition = some k →
      s.dev.queryCapsule k number tag = none → s.dev.collective? k number tag = some x → x.former = some (who, m, root) →
      who.members.contains h.src = true →
      exec (.contribAck h number tag ranks status) s = .next (s.withDev ((s.heard h).tellDown who tag ⟨number, m, root, 0⟩ ranks status))) ∧
    (∀ number tag ranks status k cap g, s.hears h false → status < 0x80 → s.dev.compositionSlot h.composition = some k → s.dev.queryCapsule k number tag = some cap →
      s.dev.gathering cap.realm number = some g → cap.members.contains h.src = true →
      exec (.contribAck h number tag ranks status) s = .next (s.withDev ((s.heard h).fromAbove s.ctx cap g ranks status))) ∧
    (∀ requestId r, s.running = true → s.dev.fabric.requests.find? (fun r => r.requestId == requestId) = some r →
      r.sentAt + s.dev.cfg 0x2A50 2 * usTicks ≤ s.time.count → s.time.count < r.deadline →
      exec (.responseTimeout requestId) s = .next (s.withDev ((s.dev.setFabric { s.dev.fabric with requests := s.dev.fabric.requests.map fun x =>
        if x.requestId = requestId then { x with sentAt := s.time.count } else x }).afpAgain r.type r.dest r.fields))) ∧
    (∀ src requestId r, s.running = true → s.dev.fabric.held.find? (fun r => r.header.src == src && r.header.requestId == requestId) = some r →
      r.since + s.dev.cfg 0x2A50 1 * msTicks ≤ s.time.count →
      exec (.epochGraceExpiry src requestId) s = .next (s.withDev ((s.dev.setFabric { s.dev.fabric with
        held := s.dev.fabric.held.filter fun x => x != r }).refuseHeld s.ctx r stBusy)))

/-- Ownership of a unit moves in steps (R619–R624): prepare, the state, ready, commit or abort, and questions and reports about them; an audit asks the
peer about a unit left between. -/
def Obligations.OwnershipMoves : Prop :=
  ∀ (s : State) (h : Afp) (unit slot : Nat),
    let o := s.dev.ownUnit slot unit
    unit < 4096 → s.dev.compositionSlot h.composition = some slot →
    (∀ peer, s.hears h true → o.state = .none →
      ∃ u, exec (.ownPrepare h unit (o.generation + 1) peer 1) s = .next u ∧ u.dev.ownUnit slot unit = ⟨.prepared, o.generation, peer, s.time.count, [], []⟩) ∧
    (∀ peer, s.hears h true → o.state = .owner →
      exec (.ownPrepare h unit (o.generation + 1) peer 0) s = .next (s.withDev
        ((((s.heard h).setUnit slot unit ⟨.sending, o.generation, peer, s.time.count, [], []⟩).sendEntries slot unit peer
          (match s.dev.composition? slot with | some k => (s.dev.unitKeys k.realm unit).map fun e => e.2.1 | none => [])).ackManager h stOk o.generation))) ∧
    (∀ entries, s.hears h false → s.dev.unitSending h unit = none → o.peer = h.src → o.state = .prepared →
      exec (.ownState h unit entries) s = .next (s.withDev ((s.heard h).setUnit slot unit { o with received := joinEntries o.received entries }))) ∧
    (s.hears h false → s.dev.unitSending h unit = none → o.peer = h.src → o.state = .prepared →
      ∃ u, exec (.ownReady h unit (o.generation + 1)) s = .next u ∧ u.dev.ownUnit slot unit = { o with state := .complete, since := s.time.count }) ∧
    (s.hears h true → o.state = .complete → ∃ d : Dev, d = (s.heard h).takeUnit s.ctx slot unit ∧
      exec (.ownCommit h unit (o.generation + 1)) s = .next (s.withDev (d.ackManager h stOk (d.ownUnit slot unit).generation))) ∧
    (s.hears h true → o.state = .prepared → ∃ u, exec (.ownAbort h unit (o.generation + 1)) s = .next u ∧
      u.dev.ownUnit slot unit = ⟨.none, o.generation, 0, s.time.count, [], []⟩) ∧
    (∀ state complete, s.hears h false → o.peer = h.src →
      exec (.ownQuery h unit state complete) s = .next (s.withDev (((s.heard h).resolveAndReport s.ctx slot unit state complete).reportUnit
        h.src slot unit))) ∧
    (∀ state complete, s.hears h false → o.peer = h.src → o.state ≠ .complete →
      exec (.ownReport h unit state complete) s = .next (s.withDev ((s.heard h).resolveAndReport s.ctx slot unit state complete))) ∧
    (s.running = true → (o.state = .surrendered ∨ o.state = .prepared ∨ o.state = .complete) → o.since + s.dev.cfg 0x2A50 4 * msTicks ≤ s.time.count →
      ∃ u, exec (.ownershipAudit h.composition unit) s = .next u ∧
        u = s.withDev (((s.dev.setUnit slot unit { o with since := s.time.count }).setFabric { (s.dev.setUnit slot unit { o with
          since := s.time.count }).fabric with audits := satAdd 64 s.dev.fabric.audits 1 }).afp 0x64 o.peer
            [h.composition, unit, o.state.code, o.completeAt]) ∧ u.dev.fabric.audits = satAdd 64 s.dev.fabric.audits 1 ∧
        u.dev.ownUnit slot unit = { o with since := s.time.count } ∧ u.dev.mem = s.dev.mem)
end

