-- ==== Sys2Proof/Laws/State.lean ====
section
/-! SUPPORT. One lemma per field per update of State and of Dev, each true by rfl. -/

namespace Sys2Proof.Machine

@[simp] theorem Dev.setPins_pins (d : Dev) (x : Pins) : (d.setPins x).pins = x := rfl
@[simp] theorem Dev.setPins_boot (d : Dev) (x : Pins) : (d.setPins x).boot = d.boot := rfl
@[simp] theorem Dev.setPins_nor (d : Dev) (x : Pins) : (d.setPins x).nor = d.nor := rfl
@[simp] theorem Dev.setPins_sensors (d : Dev) (x : Pins) : (d.setPins x).sensors = d.sensors := rfl
@[simp] theorem Dev.setPins_log (d : Dev) (x : Pins) : (d.setPins x).log = d.log := rfl
@[simp] theorem Dev.setPins_power (d : Dev) (x : Pins) : (d.setPins x).power = d.power := rfl
@[simp] theorem Dev.setPins_oculus (d : Dev) (x : Pins) : (d.setPins x).oculus = d.oculus := rfl
@[simp] theorem Dev.setPins_firmware (d : Dev) (x : Pins) : (d.setPins x).firmware = d.firmware := rfl
@[simp] theorem Dev.setPins_dict (d : Dev) (x : Pins) : (d.setPins x).dict = d.dict := rfl
@[simp] theorem Dev.setPins_violations (d : Dev) (x : Pins) : (d.setPins x).violations = d.violations := rfl
@[simp] theorem Dev.setPins_scrubs (d : Dev) (x : Pins) : (d.setPins x).scrubs = d.scrubs := rfl
@[simp] theorem Dev.setPins_keep (d : Dev) (x : Pins) : (d.setPins x).keep = d.keep := rfl
@[simp] theorem Dev.setPins_ports (d : Dev) (x : Pins) : (d.setPins x).ports = d.ports := rfl
@[simp] theorem Dev.setPins_capsules (d : Dev) (x : Pins) : (d.setPins x).capsules = d.capsules := rfl
@[simp] theorem Dev.setPins_traffic (d : Dev) (x : Pins) : (d.setPins x).traffic = d.traffic := rfl
@[simp] theorem Dev.setPins_fabric (d : Dev) (x : Pins) : (d.setPins x).fabric = d.fabric := rfl
@[simp] theorem Dev.setPins_tiles (d : Dev) (x : Pins) : (d.setPins x).tiles = d.tiles := rfl
@[simp] theorem Dev.setPins_plans (d : Dev) (x : Pins) : (d.setPins x).plans = d.plans := rfl
@[simp] theorem Dev.setPins_banks (d : Dev) (x : Pins) : (d.setPins x).banks = d.banks := rfl
@[simp] theorem Dev.setPins_search (d : Dev) (x : Pins) : (d.setPins x).search = d.search := rfl
@[simp] theorem Dev.setPins_updates (d : Dev) (x : Pins) : (d.setPins x).updates = d.updates := rfl
@[simp] theorem Dev.setPins_kv (d : Dev) (x : Pins) : (d.setPins x).kv = d.kv := rfl
@[simp] theorem Dev.setPins_tiers (d : Dev) (x : Pins) : (d.setPins x).tiers = d.tiers := rfl
@[simp] theorem Dev.setPins_flash (d : Dev) (x : Pins) : (d.setPins x).flash = d.flash := rfl
@[simp] theorem Dev.setPins_mem (d : Dev) (x : Pins) : (d.setPins x).mem = d.mem := rfl
@[simp] theorem Dev.setPins_hostMem (d : Dev) (x : Pins) : (d.setPins x).hostMem = d.hostMem := rfl
@[simp] theorem Dev.setPins_out (d : Dev) (x : Pins) : (d.setPins x).out = d.out := rfl
@[simp] theorem Dev.setPins_refused (d : Dev) (x : Pins) : (d.setPins x).refused = d.refused := rfl
@[simp] theorem Dev.setPins_fillWait (d : Dev) (x : Pins) : (d.setPins x).fillWait = d.fillWait := rfl
@[simp] theorem Dev.setPins_freeCtr (d : Dev) (x : Pins) : (d.setPins x).freeCtr = d.freeCtr := rfl

@[simp] theorem Dev.setBoot_pins (d : Dev) (x : Boot) : (d.setBoot x).pins = d.pins := rfl
@[simp] theorem Dev.setBoot_boot (d : Dev) (x : Boot) : (d.setBoot x).boot = x := rfl
@[simp] theorem Dev.setBoot_nor (d : Dev) (x : Boot) : (d.setBoot x).nor = d.nor := rfl
@[simp] theorem Dev.setBoot_sensors (d : Dev) (x : Boot) : (d.setBoot x).sensors = d.sensors := rfl
@[simp] theorem Dev.setBoot_log (d : Dev) (x : Boot) : (d.setBoot x).log = d.log := rfl
@[simp] theorem Dev.setBoot_power (d : Dev) (x : Boot) : (d.setBoot x).power = d.power := rfl
@[simp] theorem Dev.setBoot_oculus (d : Dev) (x : Boot) : (d.setBoot x).oculus = d.oculus := rfl
@[simp] theorem Dev.setBoot_firmware (d : Dev) (x : Boot) : (d.setBoot x).firmware = d.firmware := rfl
@[simp] theorem Dev.setBoot_dict (d : Dev) (x : Boot) : (d.setBoot x).dict = d.dict := rfl
@[simp] theorem Dev.setBoot_violations (d : Dev) (x : Boot) : (d.setBoot x).violations = d.violations := rfl
@[simp] theorem Dev.setBoot_scrubs (d : Dev) (x : Boot) : (d.setBoot x).scrubs = d.scrubs := rfl
@[simp] theorem Dev.setBoot_keep (d : Dev) (x : Boot) : (d.setBoot x).keep = d.keep := rfl
@[simp] theorem Dev.setBoot_ports (d : Dev) (x : Boot) : (d.setBoot x).ports = d.ports := rfl
@[simp] theorem Dev.setBoot_capsules (d : Dev) (x : Boot) : (d.setBoot x).capsules = d.capsules := rfl
@[simp] theorem Dev.setBoot_traffic (d : Dev) (x : Boot) : (d.setBoot x).traffic = d.traffic := rfl
@[simp] theorem Dev.setBoot_fabric (d : Dev) (x : Boot) : (d.setBoot x).fabric = d.fabric := rfl
@[simp] theorem Dev.setBoot_tiles (d : Dev) (x : Boot) : (d.setBoot x).tiles = d.tiles := rfl
@[simp] theorem Dev.setBoot_plans (d : Dev) (x : Boot) : (d.setBoot x).plans = d.plans := rfl
@[simp] theorem Dev.setBoot_banks (d : Dev) (x : Boot) : (d.setBoot x).banks = d.banks := rfl
@[simp] theorem Dev.setBoot_search (d : Dev) (x : Boot) : (d.setBoot x).search = d.search := rfl
@[simp] theorem Dev.setBoot_updates (d : Dev) (x : Boot) : (d.setBoot x).updates = d.updates := rfl
@[simp] theorem Dev.setBoot_kv (d : Dev) (x : Boot) : (d.setBoot x).kv = d.kv := rfl
@[simp] theorem Dev.setBoot_tiers (d : Dev) (x : Boot) : (d.setBoot x).tiers = d.tiers := rfl
@[simp] theorem Dev.setBoot_flash (d : Dev) (x : Boot) : (d.setBoot x).flash = d.flash := rfl
@[simp] theorem Dev.setBoot_mem (d : Dev) (x : Boot) : (d.setBoot x).mem = d.mem := rfl
@[simp] theorem Dev.setBoot_hostMem (d : Dev) (x : Boot) : (d.setBoot x).hostMem = d.hostMem := rfl
@[simp] theorem Dev.setBoot_out (d : Dev) (x : Boot) : (d.setBoot x).out = d.out := rfl
@[simp] theorem Dev.setBoot_refused (d : Dev) (x : Boot) : (d.setBoot x).refused = d.refused := rfl
@[simp] theorem Dev.setBoot_fillWait (d : Dev) (x : Boot) : (d.setBoot x).fillWait = d.fillWait := rfl
@[simp] theorem Dev.setBoot_freeCtr (d : Dev) (x : Boot) : (d.setBoot x).freeCtr = d.freeCtr := rfl

@[simp] theorem Dev.setNor_pins (d : Dev) (x : Nor) : (d.setNor x).pins = d.pins := rfl
@[simp] theorem Dev.setNor_boot (d : Dev) (x : Nor) : (d.setNor x).boot = d.boot := rfl
@[simp] theorem Dev.setNor_nor (d : Dev) (x : Nor) : (d.setNor x).nor = x := rfl
@[simp] theorem Dev.setNor_sensors (d : Dev) (x : Nor) : (d.setNor x).sensors = d.sensors := rfl
@[simp] theorem Dev.setNor_log (d : Dev) (x : Nor) : (d.setNor x).log = d.log := rfl
@[simp] theorem Dev.setNor_power (d : Dev) (x : Nor) : (d.setNor x).power = d.power := rfl
@[simp] theorem Dev.setNor_oculus (d : Dev) (x : Nor) : (d.setNor x).oculus = d.oculus := rfl
@[simp] theorem Dev.setNor_firmware (d : Dev) (x : Nor) : (d.setNor x).firmware = d.firmware := rfl
@[simp] theorem Dev.setNor_dict (d : Dev) (x : Nor) : (d.setNor x).dict = d.dict := rfl
@[simp] theorem Dev.setNor_violations (d : Dev) (x : Nor) : (d.setNor x).violations = d.violations := rfl
@[simp] theorem Dev.setNor_scrubs (d : Dev) (x : Nor) : (d.setNor x).scrubs = d.scrubs := rfl
@[simp] theorem Dev.setNor_keep (d : Dev) (x : Nor) : (d.setNor x).keep = d.keep := rfl
@[simp] theorem Dev.setNor_ports (d : Dev) (x : Nor) : (d.setNor x).ports = d.ports := rfl
@[simp] theorem Dev.setNor_capsules (d : Dev) (x : Nor) : (d.setNor x).capsules = d.capsules := rfl
@[simp] theorem Dev.setNor_traffic (d : Dev) (x : Nor) : (d.setNor x).traffic = d.traffic := rfl
@[simp] theorem Dev.setNor_fabric (d : Dev) (x : Nor) : (d.setNor x).fabric = d.fabric := rfl
@[simp] theorem Dev.setNor_tiles (d : Dev) (x : Nor) : (d.setNor x).tiles = d.tiles := rfl
@[simp] theorem Dev.setNor_plans (d : Dev) (x : Nor) : (d.setNor x).plans = d.plans := rfl
@[simp] theorem Dev.setNor_banks (d : Dev) (x : Nor) : (d.setNor x).banks = d.banks := rfl
@[simp] theorem Dev.setNor_search (d : Dev) (x : Nor) : (d.setNor x).search = d.search := rfl
@[simp] theorem Dev.setNor_updates (d : Dev) (x : Nor) : (d.setNor x).updates = d.updates := rfl
@[simp] theorem Dev.setNor_kv (d : Dev) (x : Nor) : (d.setNor x).kv = d.kv := rfl
@[simp] theorem Dev.setNor_tiers (d : Dev) (x : Nor) : (d.setNor x).tiers = d.tiers := rfl
@[simp] theorem Dev.setNor_flash (d : Dev) (x : Nor) : (d.setNor x).flash = d.flash := rfl
@[simp] theorem Dev.setNor_mem (d : Dev) (x : Nor) : (d.setNor x).mem = d.mem := rfl
@[simp] theorem Dev.setNor_hostMem (d : Dev) (x : Nor) : (d.setNor x).hostMem = d.hostMem := rfl
@[simp] theorem Dev.setNor_out (d : Dev) (x : Nor) : (d.setNor x).out = d.out := rfl
@[simp] theorem Dev.setNor_refused (d : Dev) (x : Nor) : (d.setNor x).refused = d.refused := rfl
@[simp] theorem Dev.setNor_fillWait (d : Dev) (x : Nor) : (d.setNor x).fillWait = d.fillWait := rfl
@[simp] theorem Dev.setNor_freeCtr (d : Dev) (x : Nor) : (d.setNor x).freeCtr = d.freeCtr := rfl

@[simp] theorem Dev.setSensors_pins (d : Dev) (x : Sensors) : (d.setSensors x).pins = d.pins := rfl
@[simp] theorem Dev.setSensors_boot (d : Dev) (x : Sensors) : (d.setSensors x).boot = d.boot := rfl
@[simp] theorem Dev.setSensors_nor (d : Dev) (x : Sensors) : (d.setSensors x).nor = d.nor := rfl
@[simp] theorem Dev.setSensors_sensors (d : Dev) (x : Sensors) : (d.setSensors x).sensors = x := rfl
@[simp] theorem Dev.setSensors_log (d : Dev) (x : Sensors) : (d.setSensors x).log = d.log := rfl
@[simp] theorem Dev.setSensors_power (d : Dev) (x : Sensors) : (d.setSensors x).power = d.power := rfl
@[simp] theorem Dev.setSensors_oculus (d : Dev) (x : Sensors) : (d.setSensors x).oculus = d.oculus := rfl
@[simp] theorem Dev.setSensors_firmware (d : Dev) (x : Sensors) : (d.setSensors x).firmware = d.firmware := rfl
@[simp] theorem Dev.setSensors_dict (d : Dev) (x : Sensors) : (d.setSensors x).dict = d.dict := rfl
@[simp] theorem Dev.setSensors_violations (d : Dev) (x : Sensors) : (d.setSensors x).violations = d.violations := rfl
@[simp] theorem Dev.setSensors_scrubs (d : Dev) (x : Sensors) : (d.setSensors x).scrubs = d.scrubs := rfl
@[simp] theorem Dev.setSensors_keep (d : Dev) (x : Sensors) : (d.setSensors x).keep = d.keep := rfl
@[simp] theorem Dev.setSensors_ports (d : Dev) (x : Sensors) : (d.setSensors x).ports = d.ports := rfl
@[simp] theorem Dev.setSensors_capsules (d : Dev) (x : Sensors) : (d.setSensors x).capsules = d.capsules := rfl
@[simp] theorem Dev.setSensors_traffic (d : Dev) (x : Sensors) : (d.setSensors x).traffic = d.traffic := rfl
@[simp] theorem Dev.setSensors_fabric (d : Dev) (x : Sensors) : (d.setSensors x).fabric = d.fabric := rfl
@[simp] theorem Dev.setSensors_tiles (d : Dev) (x : Sensors) : (d.setSensors x).tiles = d.tiles := rfl
@[simp] theorem Dev.setSensors_plans (d : Dev) (x : Sensors) : (d.setSensors x).plans = d.plans := rfl
@[simp] theorem Dev.setSensors_banks (d : Dev) (x : Sensors) : (d.setSensors x).banks = d.banks := rfl
@[simp] theorem Dev.setSensors_search (d : Dev) (x : Sensors) : (d.setSensors x).search = d.search := rfl
@[simp] theorem Dev.setSensors_updates (d : Dev) (x : Sensors) : (d.setSensors x).updates = d.updates := rfl
@[simp] theorem Dev.setSensors_kv (d : Dev) (x : Sensors) : (d.setSensors x).kv = d.kv := rfl
@[simp] theorem Dev.setSensors_tiers (d : Dev) (x : Sensors) : (d.setSensors x).tiers = d.tiers := rfl
@[simp] theorem Dev.setSensors_flash (d : Dev) (x : Sensors) : (d.setSensors x).flash = d.flash := rfl
@[simp] theorem Dev.setSensors_mem (d : Dev) (x : Sensors) : (d.setSensors x).mem = d.mem := rfl
@[simp] theorem Dev.setSensors_hostMem (d : Dev) (x : Sensors) : (d.setSensors x).hostMem = d.hostMem := rfl
@[simp] theorem Dev.setSensors_out (d : Dev) (x : Sensors) : (d.setSensors x).out = d.out := rfl
@[simp] theorem Dev.setSensors_refused (d : Dev) (x : Sensors) : (d.setSensors x).refused = d.refused := rfl
@[simp] theorem Dev.setSensors_fillWait (d : Dev) (x : Sensors) : (d.setSensors x).fillWait = d.fillWait := rfl
@[simp] theorem Dev.setSensors_freeCtr (d : Dev) (x : Sensors) : (d.setSensors x).freeCtr = d.freeCtr := rfl

@[simp] theorem Dev.setLog_pins (d : Dev) (x : EventLog) : (d.setLog x).pins = d.pins := rfl
@[simp] theorem Dev.setLog_boot (d : Dev) (x : EventLog) : (d.setLog x).boot = d.boot := rfl
@[simp] theorem Dev.setLog_nor (d : Dev) (x : EventLog) : (d.setLog x).nor = d.nor := rfl
@[simp] theorem Dev.setLog_sensors (d : Dev) (x : EventLog) : (d.setLog x).sensors = d.sensors := rfl
@[simp] theorem Dev.setLog_log (d : Dev) (x : EventLog) : (d.setLog x).log = x := rfl
@[simp] theorem Dev.setLog_power (d : Dev) (x : EventLog) : (d.setLog x).power = d.power := rfl
@[simp] theorem Dev.setLog_oculus (d : Dev) (x : EventLog) : (d.setLog x).oculus = d.oculus := rfl
@[simp] theorem Dev.setLog_firmware (d : Dev) (x : EventLog) : (d.setLog x).firmware = d.firmware := rfl
@[simp] theorem Dev.setLog_dict (d : Dev) (x : EventLog) : (d.setLog x).dict = d.dict := rfl
@[simp] theorem Dev.setLog_violations (d : Dev) (x : EventLog) : (d.setLog x).violations = d.violations := rfl
@[simp] theorem Dev.setLog_scrubs (d : Dev) (x : EventLog) : (d.setLog x).scrubs = d.scrubs := rfl
@[simp] theorem Dev.setLog_keep (d : Dev) (x : EventLog) : (d.setLog x).keep = d.keep := rfl
@[simp] theorem Dev.setLog_ports (d : Dev) (x : EventLog) : (d.setLog x).ports = d.ports := rfl
@[simp] theorem Dev.setLog_capsules (d : Dev) (x : EventLog) : (d.setLog x).capsules = d.capsules := rfl
@[simp] theorem Dev.setLog_traffic (d : Dev) (x : EventLog) : (d.setLog x).traffic = d.traffic := rfl
@[simp] theorem Dev.setLog_fabric (d : Dev) (x : EventLog) : (d.setLog x).fabric = d.fabric := rfl
@[simp] theorem Dev.setLog_tiles (d : Dev) (x : EventLog) : (d.setLog x).tiles = d.tiles := rfl
@[simp] theorem Dev.setLog_plans (d : Dev) (x : EventLog) : (d.setLog x).plans = d.plans := rfl
@[simp] theorem Dev.setLog_banks (d : Dev) (x : EventLog) : (d.setLog x).banks = d.banks := rfl
@[simp] theorem Dev.setLog_search (d : Dev) (x : EventLog) : (d.setLog x).search = d.search := rfl
@[simp] theorem Dev.setLog_updates (d : Dev) (x : EventLog) : (d.setLog x).updates = d.updates := rfl
@[simp] theorem Dev.setLog_kv (d : Dev) (x : EventLog) : (d.setLog x).kv = d.kv := rfl
@[simp] theorem Dev.setLog_tiers (d : Dev) (x : EventLog) : (d.setLog x).tiers = d.tiers := rfl
@[simp] theorem Dev.setLog_flash (d : Dev) (x : EventLog) : (d.setLog x).flash = d.flash := rfl
@[simp] theorem Dev.setLog_mem (d : Dev) (x : EventLog) : (d.setLog x).mem = d.mem := rfl
@[simp] theorem Dev.setLog_hostMem (d : Dev) (x : EventLog) : (d.setLog x).hostMem = d.hostMem := rfl
@[simp] theorem Dev.setLog_out (d : Dev) (x : EventLog) : (d.setLog x).out = d.out := rfl
@[simp] theorem Dev.setLog_refused (d : Dev) (x : EventLog) : (d.setLog x).refused = d.refused := rfl
@[simp] theorem Dev.setLog_fillWait (d : Dev) (x : EventLog) : (d.setLog x).fillWait = d.fillWait := rfl
@[simp] theorem Dev.setLog_freeCtr (d : Dev) (x : EventLog) : (d.setLog x).freeCtr = d.freeCtr := rfl

@[simp] theorem Dev.setPower_pins (d : Dev) (x : Power) : (d.setPower x).pins = d.pins := rfl
@[simp] theorem Dev.setPower_boot (d : Dev) (x : Power) : (d.setPower x).boot = d.boot := rfl
@[simp] theorem Dev.setPower_nor (d : Dev) (x : Power) : (d.setPower x).nor = d.nor := rfl
@[simp] theorem Dev.setPower_sensors (d : Dev) (x : Power) : (d.setPower x).sensors = d.sensors := rfl
@[simp] theorem Dev.setPower_log (d : Dev) (x : Power) : (d.setPower x).log = d.log := rfl
@[simp] theorem Dev.setPower_power (d : Dev) (x : Power) : (d.setPower x).power = x := rfl
@[simp] theorem Dev.setPower_oculus (d : Dev) (x : Power) : (d.setPower x).oculus = d.oculus := rfl
@[simp] theorem Dev.setPower_firmware (d : Dev) (x : Power) : (d.setPower x).firmware = d.firmware := rfl
@[simp] theorem Dev.setPower_dict (d : Dev) (x : Power) : (d.setPower x).dict = d.dict := rfl
@[simp] theorem Dev.setPower_violations (d : Dev) (x : Power) : (d.setPower x).violations = d.violations := rfl
@[simp] theorem Dev.setPower_scrubs (d : Dev) (x : Power) : (d.setPower x).scrubs = d.scrubs := rfl
@[simp] theorem Dev.setPower_keep (d : Dev) (x : Power) : (d.setPower x).keep = d.keep := rfl
@[simp] theorem Dev.setPower_ports (d : Dev) (x : Power) : (d.setPower x).ports = d.ports := rfl
@[simp] theorem Dev.setPower_capsules (d : Dev) (x : Power) : (d.setPower x).capsules = d.capsules := rfl
@[simp] theorem Dev.setPower_traffic (d : Dev) (x : Power) : (d.setPower x).traffic = d.traffic := rfl
@[simp] theorem Dev.setPower_fabric (d : Dev) (x : Power) : (d.setPower x).fabric = d.fabric := rfl
@[simp] theorem Dev.setPower_tiles (d : Dev) (x : Power) : (d.setPower x).tiles = d.tiles := rfl
@[simp] theorem Dev.setPower_plans (d : Dev) (x : Power) : (d.setPower x).plans = d.plans := rfl
@[simp] theorem Dev.setPower_banks (d : Dev) (x : Power) : (d.setPower x).banks = d.banks := rfl
@[simp] theorem Dev.setPower_search (d : Dev) (x : Power) : (d.setPower x).search = d.search := rfl
@[simp] theorem Dev.setPower_updates (d : Dev) (x : Power) : (d.setPower x).updates = d.updates := rfl
@[simp] theorem Dev.setPower_kv (d : Dev) (x : Power) : (d.setPower x).kv = d.kv := rfl
@[simp] theorem Dev.setPower_tiers (d : Dev) (x : Power) : (d.setPower x).tiers = d.tiers := rfl
@[simp] theorem Dev.setPower_flash (d : Dev) (x : Power) : (d.setPower x).flash = d.flash := rfl
@[simp] theorem Dev.setPower_mem (d : Dev) (x : Power) : (d.setPower x).mem = d.mem := rfl
@[simp] theorem Dev.setPower_hostMem (d : Dev) (x : Power) : (d.setPower x).hostMem = d.hostMem := rfl
@[simp] theorem Dev.setPower_out (d : Dev) (x : Power) : (d.setPower x).out = d.out := rfl
@[simp] theorem Dev.setPower_refused (d : Dev) (x : Power) : (d.setPower x).refused = d.refused := rfl
@[simp] theorem Dev.setPower_fillWait (d : Dev) (x : Power) : (d.setPower x).fillWait = d.fillWait := rfl
@[simp] theorem Dev.setPower_freeCtr (d : Dev) (x : Power) : (d.setPower x).freeCtr = d.freeCtr := rfl

@[simp] theorem Dev.setOculus_pins (d : Dev) (x : Oculus) : (d.setOculus x).pins = d.pins := rfl
@[simp] theorem Dev.setOculus_boot (d : Dev) (x : Oculus) : (d.setOculus x).boot = d.boot := rfl
@[simp] theorem Dev.setOculus_nor (d : Dev) (x : Oculus) : (d.setOculus x).nor = d.nor := rfl
@[simp] theorem Dev.setOculus_sensors (d : Dev) (x : Oculus) : (d.setOculus x).sensors = d.sensors := rfl
@[simp] theorem Dev.setOculus_log (d : Dev) (x : Oculus) : (d.setOculus x).log = d.log := rfl
@[simp] theorem Dev.setOculus_power (d : Dev) (x : Oculus) : (d.setOculus x).power = d.power := rfl
@[simp] theorem Dev.setOculus_oculus (d : Dev) (x : Oculus) : (d.setOculus x).oculus = x := rfl
@[simp] theorem Dev.setOculus_firmware (d : Dev) (x : Oculus) : (d.setOculus x).firmware = d.firmware := rfl
@[simp] theorem Dev.setOculus_dict (d : Dev) (x : Oculus) : (d.setOculus x).dict = d.dict := rfl
@[simp] theorem Dev.setOculus_violations (d : Dev) (x : Oculus) : (d.setOculus x).violations = d.violations := rfl
@[simp] theorem Dev.setOculus_scrubs (d : Dev) (x : Oculus) : (d.setOculus x).scrubs = d.scrubs := rfl
@[simp] theorem Dev.setOculus_keep (d : Dev) (x : Oculus) : (d.setOculus x).keep = d.keep := rfl
@[simp] theorem Dev.setOculus_ports (d : Dev) (x : Oculus) : (d.setOculus x).ports = d.ports := rfl
@[simp] theorem Dev.setOculus_capsules (d : Dev) (x : Oculus) : (d.setOculus x).capsules = d.capsules := rfl
@[simp] theorem Dev.setOculus_traffic (d : Dev) (x : Oculus) : (d.setOculus x).traffic = d.traffic := rfl
@[simp] theorem Dev.setOculus_fabric (d : Dev) (x : Oculus) : (d.setOculus x).fabric = d.fabric := rfl
@[simp] theorem Dev.setOculus_tiles (d : Dev) (x : Oculus) : (d.setOculus x).tiles = d.tiles := rfl
@[simp] theorem Dev.setOculus_plans (d : Dev) (x : Oculus) : (d.setOculus x).plans = d.plans := rfl
@[simp] theorem Dev.setOculus_banks (d : Dev) (x : Oculus) : (d.setOculus x).banks = d.banks := rfl
@[simp] theorem Dev.setOculus_search (d : Dev) (x : Oculus) : (d.setOculus x).search = d.search := rfl
@[simp] theorem Dev.setOculus_updates (d : Dev) (x : Oculus) : (d.setOculus x).updates = d.updates := rfl
@[simp] theorem Dev.setOculus_kv (d : Dev) (x : Oculus) : (d.setOculus x).kv = d.kv := rfl
@[simp] theorem Dev.setOculus_tiers (d : Dev) (x : Oculus) : (d.setOculus x).tiers = d.tiers := rfl
@[simp] theorem Dev.setOculus_flash (d : Dev) (x : Oculus) : (d.setOculus x).flash = d.flash := rfl
@[simp] theorem Dev.setOculus_mem (d : Dev) (x : Oculus) : (d.setOculus x).mem = d.mem := rfl
@[simp] theorem Dev.setOculus_hostMem (d : Dev) (x : Oculus) : (d.setOculus x).hostMem = d.hostMem := rfl
@[simp] theorem Dev.setOculus_out (d : Dev) (x : Oculus) : (d.setOculus x).out = d.out := rfl
@[simp] theorem Dev.setOculus_refused (d : Dev) (x : Oculus) : (d.setOculus x).refused = d.refused := rfl
@[simp] theorem Dev.setOculus_fillWait (d : Dev) (x : Oculus) : (d.setOculus x).fillWait = d.fillWait := rfl
@[simp] theorem Dev.setOculus_freeCtr (d : Dev) (x : Oculus) : (d.setOculus x).freeCtr = d.freeCtr := rfl

@[simp] theorem Dev.setFirmware_pins (d : Dev) (x : Firmware) : (d.setFirmware x).pins = d.pins := rfl
@[simp] theorem Dev.setFirmware_boot (d : Dev) (x : Firmware) : (d.setFirmware x).boot = d.boot := rfl
@[simp] theorem Dev.setFirmware_nor (d : Dev) (x : Firmware) : (d.setFirmware x).nor = d.nor := rfl
@[simp] theorem Dev.setFirmware_sensors (d : Dev) (x : Firmware) : (d.setFirmware x).sensors = d.sensors := rfl
@[simp] theorem Dev.setFirmware_log (d : Dev) (x : Firmware) : (d.setFirmware x).log = d.log := rfl
@[simp] theorem Dev.setFirmware_power (d : Dev) (x : Firmware) : (d.setFirmware x).power = d.power := rfl
@[simp] theorem Dev.setFirmware_oculus (d : Dev) (x : Firmware) : (d.setFirmware x).oculus = d.oculus := rfl
@[simp] theorem Dev.setFirmware_firmware (d : Dev) (x : Firmware) : (d.setFirmware x).firmware = x := rfl
@[simp] theorem Dev.setFirmware_dict (d : Dev) (x : Firmware) : (d.setFirmware x).dict = d.dict := rfl
@[simp] theorem Dev.setFirmware_violations (d : Dev) (x : Firmware) : (d.setFirmware x).violations = d.violations := rfl
@[simp] theorem Dev.setFirmware_scrubs (d : Dev) (x : Firmware) : (d.setFirmware x).scrubs = d.scrubs := rfl
@[simp] theorem Dev.setFirmware_keep (d : Dev) (x : Firmware) : (d.setFirmware x).keep = d.keep := rfl
@[simp] theorem Dev.setFirmware_ports (d : Dev) (x : Firmware) : (d.setFirmware x).ports = d.ports := rfl
@[simp] theorem Dev.setFirmware_capsules (d : Dev) (x : Firmware) : (d.setFirmware x).capsules = d.capsules := rfl
@[simp] theorem Dev.setFirmware_traffic (d : Dev) (x : Firmware) : (d.setFirmware x).traffic = d.traffic := rfl
@[simp] theorem Dev.setFirmware_fabric (d : Dev) (x : Firmware) : (d.setFirmware x).fabric = d.fabric := rfl
@[simp] theorem Dev.setFirmware_tiles (d : Dev) (x : Firmware) : (d.setFirmware x).tiles = d.tiles := rfl
@[simp] theorem Dev.setFirmware_plans (d : Dev) (x : Firmware) : (d.setFirmware x).plans = d.plans := rfl
@[simp] theorem Dev.setFirmware_banks (d : Dev) (x : Firmware) : (d.setFirmware x).banks = d.banks := rfl
@[simp] theorem Dev.setFirmware_search (d : Dev) (x : Firmware) : (d.setFirmware x).search = d.search := rfl
@[simp] theorem Dev.setFirmware_updates (d : Dev) (x : Firmware) : (d.setFirmware x).updates = d.updates := rfl
@[simp] theorem Dev.setFirmware_kv (d : Dev) (x : Firmware) : (d.setFirmware x).kv = d.kv := rfl
@[simp] theorem Dev.setFirmware_tiers (d : Dev) (x : Firmware) : (d.setFirmware x).tiers = d.tiers := rfl
@[simp] theorem Dev.setFirmware_flash (d : Dev) (x : Firmware) : (d.setFirmware x).flash = d.flash := rfl
@[simp] theorem Dev.setFirmware_mem (d : Dev) (x : Firmware) : (d.setFirmware x).mem = d.mem := rfl
@[simp] theorem Dev.setFirmware_hostMem (d : Dev) (x : Firmware) : (d.setFirmware x).hostMem = d.hostMem := rfl
@[simp] theorem Dev.setFirmware_out (d : Dev) (x : Firmware) : (d.setFirmware x).out = d.out := rfl
@[simp] theorem Dev.setFirmware_refused (d : Dev) (x : Firmware) : (d.setFirmware x).refused = d.refused := rfl
@[simp] theorem Dev.setFirmware_fillWait (d : Dev) (x : Firmware) : (d.setFirmware x).fillWait = d.fillWait := rfl
@[simp] theorem Dev.setFirmware_freeCtr (d : Dev) (x : Firmware) : (d.setFirmware x).freeCtr = d.freeCtr := rfl

@[simp] theorem Dev.setDict_pins (d : Dev) (x : Dict) : (d.setDict x).pins = d.pins := rfl
@[simp] theorem Dev.setDict_boot (d : Dev) (x : Dict) : (d.setDict x).boot = d.boot := rfl
@[simp] theorem Dev.setDict_nor (d : Dev) (x : Dict) : (d.setDict x).nor = d.nor := rfl
@[simp] theorem Dev.setDict_sensors (d : Dev) (x : Dict) : (d.setDict x).sensors = d.sensors := rfl
@[simp] theorem Dev.setDict_log (d : Dev) (x : Dict) : (d.setDict x).log = d.log := rfl
@[simp] theorem Dev.setDict_power (d : Dev) (x : Dict) : (d.setDict x).power = d.power := rfl
@[simp] theorem Dev.setDict_oculus (d : Dev) (x : Dict) : (d.setDict x).oculus = d.oculus := rfl
@[simp] theorem Dev.setDict_firmware (d : Dev) (x : Dict) : (d.setDict x).firmware = d.firmware := rfl
@[simp] theorem Dev.setDict_dict (d : Dev) (x : Dict) : (d.setDict x).dict = x := rfl
@[simp] theorem Dev.setDict_violations (d : Dev) (x : Dict) : (d.setDict x).violations = d.violations := rfl
@[simp] theorem Dev.setDict_scrubs (d : Dev) (x : Dict) : (d.setDict x).scrubs = d.scrubs := rfl
@[simp] theorem Dev.setDict_keep (d : Dev) (x : Dict) : (d.setDict x).keep = d.keep := rfl
@[simp] theorem Dev.setDict_ports (d : Dev) (x : Dict) : (d.setDict x).ports = d.ports := rfl
@[simp] theorem Dev.setDict_capsules (d : Dev) (x : Dict) : (d.setDict x).capsules = d.capsules := rfl
@[simp] theorem Dev.setDict_traffic (d : Dev) (x : Dict) : (d.setDict x).traffic = d.traffic := rfl
@[simp] theorem Dev.setDict_fabric (d : Dev) (x : Dict) : (d.setDict x).fabric = d.fabric := rfl
@[simp] theorem Dev.setDict_tiles (d : Dev) (x : Dict) : (d.setDict x).tiles = d.tiles := rfl
@[simp] theorem Dev.setDict_plans (d : Dev) (x : Dict) : (d.setDict x).plans = d.plans := rfl
@[simp] theorem Dev.setDict_banks (d : Dev) (x : Dict) : (d.setDict x).banks = d.banks := rfl
@[simp] theorem Dev.setDict_search (d : Dev) (x : Dict) : (d.setDict x).search = d.search := rfl
@[simp] theorem Dev.setDict_updates (d : Dev) (x : Dict) : (d.setDict x).updates = d.updates := rfl
@[simp] theorem Dev.setDict_kv (d : Dev) (x : Dict) : (d.setDict x).kv = d.kv := rfl
@[simp] theorem Dev.setDict_tiers (d : Dev) (x : Dict) : (d.setDict x).tiers = d.tiers := rfl
@[simp] theorem Dev.setDict_flash (d : Dev) (x : Dict) : (d.setDict x).flash = d.flash := rfl
@[simp] theorem Dev.setDict_mem (d : Dev) (x : Dict) : (d.setDict x).mem = d.mem := rfl
@[simp] theorem Dev.setDict_hostMem (d : Dev) (x : Dict) : (d.setDict x).hostMem = d.hostMem := rfl
@[simp] theorem Dev.setDict_out (d : Dev) (x : Dict) : (d.setDict x).out = d.out := rfl
@[simp] theorem Dev.setDict_refused (d : Dev) (x : Dict) : (d.setDict x).refused = d.refused := rfl
@[simp] theorem Dev.setDict_fillWait (d : Dev) (x : Dict) : (d.setDict x).fillWait = d.fillWait := rfl
@[simp] theorem Dev.setDict_freeCtr (d : Dev) (x : Dict) : (d.setDict x).freeCtr = d.freeCtr := rfl

@[simp] theorem Dev.setViolations_pins (d : Dev) (x : Tab ViolationLog) : (d.setViolations x).pins = d.pins := rfl
@[simp] theorem Dev.setViolations_boot (d : Dev) (x : Tab ViolationLog) : (d.setViolations x).boot = d.boot := rfl
@[simp] theorem Dev.setViolations_nor (d : Dev) (x : Tab ViolationLog) : (d.setViolations x).nor = d.nor := rfl
@[simp] theorem Dev.setViolations_sensors (d : Dev) (x : Tab ViolationLog) : (d.setViolations x).sensors = d.sensors := rfl
@[simp] theorem Dev.setViolations_log (d : Dev) (x : Tab ViolationLog) : (d.setViolations x).log = d.log := rfl
@[simp] theorem Dev.setViolations_power (d : Dev) (x : Tab ViolationLog) : (d.setViolations x).power = d.power := rfl
@[simp] theorem Dev.setViolations_oculus (d : Dev) (x : Tab ViolationLog) : (d.setViolations x).oculus = d.oculus := rfl
@[simp] theorem Dev.setViolations_firmware (d : Dev) (x : Tab ViolationLog) : (d.setViolations x).firmware = d.firmware := rfl
@[simp] theorem Dev.setViolations_dict (d : Dev) (x : Tab ViolationLog) : (d.setViolations x).dict = d.dict := rfl
@[simp] theorem Dev.setViolations_violations (d : Dev) (x : Tab ViolationLog) : (d.setViolations x).violations = x := rfl
@[simp] theorem Dev.setViolations_scrubs (d : Dev) (x : Tab ViolationLog) : (d.setViolations x).scrubs = d.scrubs := rfl
@[simp] theorem Dev.setViolations_keep (d : Dev) (x : Tab ViolationLog) : (d.setViolations x).keep = d.keep := rfl
@[simp] theorem Dev.setViolations_ports (d : Dev) (x : Tab ViolationLog) : (d.setViolations x).ports = d.ports := rfl
@[simp] theorem Dev.setViolations_capsules (d : Dev) (x : Tab ViolationLog) : (d.setViolations x).capsules = d.capsules := rfl
@[simp] theorem Dev.setViolations_traffic (d : Dev) (x : Tab ViolationLog) : (d.setViolations x).traffic = d.traffic := rfl
@[simp] theorem Dev.setViolations_fabric (d : Dev) (x : Tab ViolationLog) : (d.setViolations x).fabric = d.fabric := rfl
@[simp] theorem Dev.setViolations_tiles (d : Dev) (x : Tab ViolationLog) : (d.setViolations x).tiles = d.tiles := rfl
@[simp] theorem Dev.setViolations_plans (d : Dev) (x : Tab ViolationLog) : (d.setViolations x).plans = d.plans := rfl
@[simp] theorem Dev.setViolations_banks (d : Dev) (x : Tab ViolationLog) : (d.setViolations x).banks = d.banks := rfl
@[simp] theorem Dev.setViolations_search (d : Dev) (x : Tab ViolationLog) : (d.setViolations x).search = d.search := rfl
@[simp] theorem Dev.setViolations_updates (d : Dev) (x : Tab ViolationLog) : (d.setViolations x).updates = d.updates := rfl
@[simp] theorem Dev.setViolations_kv (d : Dev) (x : Tab ViolationLog) : (d.setViolations x).kv = d.kv := rfl
@[simp] theorem Dev.setViolations_tiers (d : Dev) (x : Tab ViolationLog) : (d.setViolations x).tiers = d.tiers := rfl
@[simp] theorem Dev.setViolations_flash (d : Dev) (x : Tab ViolationLog) : (d.setViolations x).flash = d.flash := rfl
@[simp] theorem Dev.setViolations_mem (d : Dev) (x : Tab ViolationLog) : (d.setViolations x).mem = d.mem := rfl
@[simp] theorem Dev.setViolations_hostMem (d : Dev) (x : Tab ViolationLog) : (d.setViolations x).hostMem = d.hostMem := rfl
@[simp] theorem Dev.setViolations_out (d : Dev) (x : Tab ViolationLog) : (d.setViolations x).out = d.out := rfl
@[simp] theorem Dev.setViolations_refused (d : Dev) (x : Tab ViolationLog) : (d.setViolations x).refused = d.refused := rfl
@[simp] theorem Dev.setViolations_fillWait (d : Dev) (x : Tab ViolationLog) : (d.setViolations x).fillWait = d.fillWait := rfl
@[simp] theorem Dev.setViolations_freeCtr (d : Dev) (x : Tab ViolationLog) : (d.setViolations x).freeCtr = d.freeCtr := rfl

@[simp] theorem Dev.setScrubs_pins (d : Dev) (x : List (Nat × Nat)) : (d.setScrubs x).pins = d.pins := rfl
@[simp] theorem Dev.setScrubs_boot (d : Dev) (x : List (Nat × Nat)) : (d.setScrubs x).boot = d.boot := rfl
@[simp] theorem Dev.setScrubs_nor (d : Dev) (x : List (Nat × Nat)) : (d.setScrubs x).nor = d.nor := rfl
@[simp] theorem Dev.setScrubs_sensors (d : Dev) (x : List (Nat × Nat)) : (d.setScrubs x).sensors = d.sensors := rfl
@[simp] theorem Dev.setScrubs_log (d : Dev) (x : List (Nat × Nat)) : (d.setScrubs x).log = d.log := rfl
@[simp] theorem Dev.setScrubs_power (d : Dev) (x : List (Nat × Nat)) : (d.setScrubs x).power = d.power := rfl
@[simp] theorem Dev.setScrubs_oculus (d : Dev) (x : List (Nat × Nat)) : (d.setScrubs x).oculus = d.oculus := rfl
@[simp] theorem Dev.setScrubs_firmware (d : Dev) (x : List (Nat × Nat)) : (d.setScrubs x).firmware = d.firmware := rfl
@[simp] theorem Dev.setScrubs_dict (d : Dev) (x : List (Nat × Nat)) : (d.setScrubs x).dict = d.dict := rfl
@[simp] theorem Dev.setScrubs_violations (d : Dev) (x : List (Nat × Nat)) : (d.setScrubs x).violations = d.violations := rfl
@[simp] theorem Dev.setScrubs_scrubs (d : Dev) (x : List (Nat × Nat)) : (d.setScrubs x).scrubs = x := rfl
@[simp] theorem Dev.setScrubs_keep (d : Dev) (x : List (Nat × Nat)) : (d.setScrubs x).keep = d.keep := rfl
@[simp] theorem Dev.setScrubs_ports (d : Dev) (x : List (Nat × Nat)) : (d.setScrubs x).ports = d.ports := rfl
@[simp] theorem Dev.setScrubs_capsules (d : Dev) (x : List (Nat × Nat)) : (d.setScrubs x).capsules = d.capsules := rfl
@[simp] theorem Dev.setScrubs_traffic (d : Dev) (x : List (Nat × Nat)) : (d.setScrubs x).traffic = d.traffic := rfl
@[simp] theorem Dev.setScrubs_fabric (d : Dev) (x : List (Nat × Nat)) : (d.setScrubs x).fabric = d.fabric := rfl
@[simp] theorem Dev.setScrubs_tiles (d : Dev) (x : List (Nat × Nat)) : (d.setScrubs x).tiles = d.tiles := rfl
@[simp] theorem Dev.setScrubs_plans (d : Dev) (x : List (Nat × Nat)) : (d.setScrubs x).plans = d.plans := rfl
@[simp] theorem Dev.setScrubs_banks (d : Dev) (x : List (Nat × Nat)) : (d.setScrubs x).banks = d.banks := rfl
@[simp] theorem Dev.setScrubs_search (d : Dev) (x : List (Nat × Nat)) : (d.setScrubs x).search = d.search := rfl
@[simp] theorem Dev.setScrubs_updates (d : Dev) (x : List (Nat × Nat)) : (d.setScrubs x).updates = d.updates := rfl
@[simp] theorem Dev.setScrubs_kv (d : Dev) (x : List (Nat × Nat)) : (d.setScrubs x).kv = d.kv := rfl
@[simp] theorem Dev.setScrubs_tiers (d : Dev) (x : List (Nat × Nat)) : (d.setScrubs x).tiers = d.tiers := rfl
@[simp] theorem Dev.setScrubs_flash (d : Dev) (x : List (Nat × Nat)) : (d.setScrubs x).flash = d.flash := rfl
@[simp] theorem Dev.setScrubs_mem (d : Dev) (x : List (Nat × Nat)) : (d.setScrubs x).mem = d.mem := rfl
@[simp] theorem Dev.setScrubs_hostMem (d : Dev) (x : List (Nat × Nat)) : (d.setScrubs x).hostMem = d.hostMem := rfl
@[simp] theorem Dev.setScrubs_out (d : Dev) (x : List (Nat × Nat)) : (d.setScrubs x).out = d.out := rfl
@[simp] theorem Dev.setScrubs_refused (d : Dev) (x : List (Nat × Nat)) : (d.setScrubs x).refused = d.refused := rfl
@[simp] theorem Dev.setScrubs_fillWait (d : Dev) (x : List (Nat × Nat)) : (d.setScrubs x).fillWait = d.fillWait := rfl
@[simp] theorem Dev.setScrubs_freeCtr (d : Dev) (x : List (Nat × Nat)) : (d.setScrubs x).freeCtr = d.freeCtr := rfl

@[simp] theorem Dev.setKeep_pins (d : Dev) (x : Keep) : (d.setKeep x).pins = d.pins := rfl
@[simp] theorem Dev.setKeep_boot (d : Dev) (x : Keep) : (d.setKeep x).boot = d.boot := rfl
@[simp] theorem Dev.setKeep_nor (d : Dev) (x : Keep) : (d.setKeep x).nor = d.nor := rfl
@[simp] theorem Dev.setKeep_sensors (d : Dev) (x : Keep) : (d.setKeep x).sensors = d.sensors := rfl
@[simp] theorem Dev.setKeep_log (d : Dev) (x : Keep) : (d.setKeep x).log = d.log := rfl
@[simp] theorem Dev.setKeep_power (d : Dev) (x : Keep) : (d.setKeep x).power = d.power := rfl
@[simp] theorem Dev.setKeep_oculus (d : Dev) (x : Keep) : (d.setKeep x).oculus = d.oculus := rfl
@[simp] theorem Dev.setKeep_firmware (d : Dev) (x : Keep) : (d.setKeep x).firmware = d.firmware := rfl
@[simp] theorem Dev.setKeep_dict (d : Dev) (x : Keep) : (d.setKeep x).dict = d.dict := rfl
@[simp] theorem Dev.setKeep_violations (d : Dev) (x : Keep) : (d.setKeep x).violations = d.violations := rfl
@[simp] theorem Dev.setKeep_scrubs (d : Dev) (x : Keep) : (d.setKeep x).scrubs = d.scrubs := rfl
@[simp] theorem Dev.setKeep_keep (d : Dev) (x : Keep) : (d.setKeep x).keep = x := rfl
@[simp] theorem Dev.setKeep_ports (d : Dev) (x : Keep) : (d.setKeep x).ports = d.ports := rfl
@[simp] theorem Dev.setKeep_capsules (d : Dev) (x : Keep) : (d.setKeep x).capsules = d.capsules := rfl
@[simp] theorem Dev.setKeep_traffic (d : Dev) (x : Keep) : (d.setKeep x).traffic = d.traffic := rfl
@[simp] theorem Dev.setKeep_fabric (d : Dev) (x : Keep) : (d.setKeep x).fabric = d.fabric := rfl
@[simp] theorem Dev.setKeep_tiles (d : Dev) (x : Keep) : (d.setKeep x).tiles = d.tiles := rfl
@[simp] theorem Dev.setKeep_plans (d : Dev) (x : Keep) : (d.setKeep x).plans = d.plans := rfl
@[simp] theorem Dev.setKeep_banks (d : Dev) (x : Keep) : (d.setKeep x).banks = d.banks := rfl
@[simp] theorem Dev.setKeep_search (d : Dev) (x : Keep) : (d.setKeep x).search = d.search := rfl
@[simp] theorem Dev.setKeep_updates (d : Dev) (x : Keep) : (d.setKeep x).updates = d.updates := rfl
@[simp] theorem Dev.setKeep_kv (d : Dev) (x : Keep) : (d.setKeep x).kv = d.kv := rfl
@[simp] theorem Dev.setKeep_tiers (d : Dev) (x : Keep) : (d.setKeep x).tiers = d.tiers := rfl
@[simp] theorem Dev.setKeep_flash (d : Dev) (x : Keep) : (d.setKeep x).flash = d.flash := rfl
@[simp] theorem Dev.setKeep_mem (d : Dev) (x : Keep) : (d.setKeep x).mem = d.mem := rfl
@[simp] theorem Dev.setKeep_hostMem (d : Dev) (x : Keep) : (d.setKeep x).hostMem = d.hostMem := rfl
@[simp] theorem Dev.setKeep_out (d : Dev) (x : Keep) : (d.setKeep x).out = d.out := rfl
@[simp] theorem Dev.setKeep_refused (d : Dev) (x : Keep) : (d.setKeep x).refused = d.refused := rfl
@[simp] theorem Dev.setKeep_fillWait (d : Dev) (x : Keep) : (d.setKeep x).fillWait = d.fillWait := rfl
@[simp] theorem Dev.setKeep_freeCtr (d : Dev) (x : Keep) : (d.setKeep x).freeCtr = d.freeCtr := rfl

@[simp] theorem Dev.setPorts_pins (d : Dev) (x : List HostPort) : (d.setPorts x).pins = d.pins := rfl
@[simp] theorem Dev.setPorts_boot (d : Dev) (x : List HostPort) : (d.setPorts x).boot = d.boot := rfl
@[simp] theorem Dev.setPorts_nor (d : Dev) (x : List HostPort) : (d.setPorts x).nor = d.nor := rfl
@[simp] theorem Dev.setPorts_sensors (d : Dev) (x : List HostPort) : (d.setPorts x).sensors = d.sensors := rfl
@[simp] theorem Dev.setPorts_log (d : Dev) (x : List HostPort) : (d.setPorts x).log = d.log := rfl
@[simp] theorem Dev.setPorts_power (d : Dev) (x : List HostPort) : (d.setPorts x).power = d.power := rfl
@[simp] theorem Dev.setPorts_oculus (d : Dev) (x : List HostPort) : (d.setPorts x).oculus = d.oculus := rfl
@[simp] theorem Dev.setPorts_firmware (d : Dev) (x : List HostPort) : (d.setPorts x).firmware = d.firmware := rfl
@[simp] theorem Dev.setPorts_dict (d : Dev) (x : List HostPort) : (d.setPorts x).dict = d.dict := rfl
@[simp] theorem Dev.setPorts_violations (d : Dev) (x : List HostPort) : (d.setPorts x).violations = d.violations := rfl
@[simp] theorem Dev.setPorts_scrubs (d : Dev) (x : List HostPort) : (d.setPorts x).scrubs = d.scrubs := rfl
@[simp] theorem Dev.setPorts_keep (d : Dev) (x : List HostPort) : (d.setPorts x).keep = d.keep := rfl
@[simp] theorem Dev.setPorts_ports (d : Dev) (x : List HostPort) : (d.setPorts x).ports = x := rfl
@[simp] theorem Dev.setPorts_capsules (d : Dev) (x : List HostPort) : (d.setPorts x).capsules = d.capsules := rfl
@[simp] theorem Dev.setPorts_traffic (d : Dev) (x : List HostPort) : (d.setPorts x).traffic = d.traffic := rfl
@[simp] theorem Dev.setPorts_fabric (d : Dev) (x : List HostPort) : (d.setPorts x).fabric = d.fabric := rfl
@[simp] theorem Dev.setPorts_tiles (d : Dev) (x : List HostPort) : (d.setPorts x).tiles = d.tiles := rfl
@[simp] theorem Dev.setPorts_plans (d : Dev) (x : List HostPort) : (d.setPorts x).plans = d.plans := rfl
@[simp] theorem Dev.setPorts_banks (d : Dev) (x : List HostPort) : (d.setPorts x).banks = d.banks := rfl
@[simp] theorem Dev.setPorts_search (d : Dev) (x : List HostPort) : (d.setPorts x).search = d.search := rfl
@[simp] theorem Dev.setPorts_updates (d : Dev) (x : List HostPort) : (d.setPorts x).updates = d.updates := rfl
@[simp] theorem Dev.setPorts_kv (d : Dev) (x : List HostPort) : (d.setPorts x).kv = d.kv := rfl
@[simp] theorem Dev.setPorts_tiers (d : Dev) (x : List HostPort) : (d.setPorts x).tiers = d.tiers := rfl
@[simp] theorem Dev.setPorts_flash (d : Dev) (x : List HostPort) : (d.setPorts x).flash = d.flash := rfl
@[simp] theorem Dev.setPorts_mem (d : Dev) (x : List HostPort) : (d.setPorts x).mem = d.mem := rfl
@[simp] theorem Dev.setPorts_hostMem (d : Dev) (x : List HostPort) : (d.setPorts x).hostMem = d.hostMem := rfl
@[simp] theorem Dev.setPorts_out (d : Dev) (x : List HostPort) : (d.setPorts x).out = d.out := rfl
@[simp] theorem Dev.setPorts_refused (d : Dev) (x : List HostPort) : (d.setPorts x).refused = d.refused := rfl
@[simp] theorem Dev.setPorts_fillWait (d : Dev) (x : List HostPort) : (d.setPorts x).fillWait = d.fillWait := rfl
@[simp] theorem Dev.setPorts_freeCtr (d : Dev) (x : List HostPort) : (d.setPorts x).freeCtr = d.freeCtr := rfl

@[simp] theorem Dev.setCapsules_pins (d : Dev) (x : Capsules) : (d.setCapsules x).pins = d.pins := rfl
@[simp] theorem Dev.setCapsules_boot (d : Dev) (x : Capsules) : (d.setCapsules x).boot = d.boot := rfl
@[simp] theorem Dev.setCapsules_nor (d : Dev) (x : Capsules) : (d.setCapsules x).nor = d.nor := rfl
@[simp] theorem Dev.setCapsules_sensors (d : Dev) (x : Capsules) : (d.setCapsules x).sensors = d.sensors := rfl
@[simp] theorem Dev.setCapsules_log (d : Dev) (x : Capsules) : (d.setCapsules x).log = d.log := rfl
@[simp] theorem Dev.setCapsules_power (d : Dev) (x : Capsules) : (d.setCapsules x).power = d.power := rfl
@[simp] theorem Dev.setCapsules_oculus (d : Dev) (x : Capsules) : (d.setCapsules x).oculus = d.oculus := rfl
@[simp] theorem Dev.setCapsules_firmware (d : Dev) (x : Capsules) : (d.setCapsules x).firmware = d.firmware := rfl
@[simp] theorem Dev.setCapsules_dict (d : Dev) (x : Capsules) : (d.setCapsules x).dict = d.dict := rfl
@[simp] theorem Dev.setCapsules_violations (d : Dev) (x : Capsules) : (d.setCapsules x).violations = d.violations := rfl
@[simp] theorem Dev.setCapsules_scrubs (d : Dev) (x : Capsules) : (d.setCapsules x).scrubs = d.scrubs := rfl
@[simp] theorem Dev.setCapsules_keep (d : Dev) (x : Capsules) : (d.setCapsules x).keep = d.keep := rfl
@[simp] theorem Dev.setCapsules_ports (d : Dev) (x : Capsules) : (d.setCapsules x).ports = d.ports := rfl
@[simp] theorem Dev.setCapsules_capsules (d : Dev) (x : Capsules) : (d.setCapsules x).capsules = x := rfl
@[simp] theorem Dev.setCapsules_traffic (d : Dev) (x : Capsules) : (d.setCapsules x).traffic = d.traffic := rfl
@[simp] theorem Dev.setCapsules_fabric (d : Dev) (x : Capsules) : (d.setCapsules x).fabric = d.fabric := rfl
@[simp] theorem Dev.setCapsules_tiles (d : Dev) (x : Capsules) : (d.setCapsules x).tiles = d.tiles := rfl
@[simp] theorem Dev.setCapsules_plans (d : Dev) (x : Capsules) : (d.setCapsules x).plans = d.plans := rfl
@[simp] theorem Dev.setCapsules_banks (d : Dev) (x : Capsules) : (d.setCapsules x).banks = d.banks := rfl
@[simp] theorem Dev.setCapsules_search (d : Dev) (x : Capsules) : (d.setCapsules x).search = d.search := rfl
@[simp] theorem Dev.setCapsules_updates (d : Dev) (x : Capsules) : (d.setCapsules x).updates = d.updates := rfl
@[simp] theorem Dev.setCapsules_kv (d : Dev) (x : Capsules) : (d.setCapsules x).kv = d.kv := rfl
@[simp] theorem Dev.setCapsules_tiers (d : Dev) (x : Capsules) : (d.setCapsules x).tiers = d.tiers := rfl
@[simp] theorem Dev.setCapsules_flash (d : Dev) (x : Capsules) : (d.setCapsules x).flash = d.flash := rfl
@[simp] theorem Dev.setCapsules_mem (d : Dev) (x : Capsules) : (d.setCapsules x).mem = d.mem := rfl
@[simp] theorem Dev.setCapsules_hostMem (d : Dev) (x : Capsules) : (d.setCapsules x).hostMem = d.hostMem := rfl
@[simp] theorem Dev.setCapsules_out (d : Dev) (x : Capsules) : (d.setCapsules x).out = d.out := rfl
@[simp] theorem Dev.setCapsules_refused (d : Dev) (x : Capsules) : (d.setCapsules x).refused = d.refused := rfl
@[simp] theorem Dev.setCapsules_fillWait (d : Dev) (x : Capsules) : (d.setCapsules x).fillWait = d.fillWait := rfl
@[simp] theorem Dev.setCapsules_freeCtr (d : Dev) (x : Capsules) : (d.setCapsules x).freeCtr = d.freeCtr := rfl

@[simp] theorem Dev.setTraffic_pins (d : Dev) (x : Traffic) : (d.setTraffic x).pins = d.pins := rfl
@[simp] theorem Dev.setTraffic_boot (d : Dev) (x : Traffic) : (d.setTraffic x).boot = d.boot := rfl
@[simp] theorem Dev.setTraffic_nor (d : Dev) (x : Traffic) : (d.setTraffic x).nor = d.nor := rfl
@[simp] theorem Dev.setTraffic_sensors (d : Dev) (x : Traffic) : (d.setTraffic x).sensors = d.sensors := rfl
@[simp] theorem Dev.setTraffic_log (d : Dev) (x : Traffic) : (d.setTraffic x).log = d.log := rfl
@[simp] theorem Dev.setTraffic_power (d : Dev) (x : Traffic) : (d.setTraffic x).power = d.power := rfl
@[simp] theorem Dev.setTraffic_oculus (d : Dev) (x : Traffic) : (d.setTraffic x).oculus = d.oculus := rfl
@[simp] theorem Dev.setTraffic_firmware (d : Dev) (x : Traffic) : (d.setTraffic x).firmware = d.firmware := rfl
@[simp] theorem Dev.setTraffic_dict (d : Dev) (x : Traffic) : (d.setTraffic x).dict = d.dict := rfl
@[simp] theorem Dev.setTraffic_violations (d : Dev) (x : Traffic) : (d.setTraffic x).violations = d.violations := rfl
@[simp] theorem Dev.setTraffic_scrubs (d : Dev) (x : Traffic) : (d.setTraffic x).scrubs = d.scrubs := rfl
@[simp] theorem Dev.setTraffic_keep (d : Dev) (x : Traffic) : (d.setTraffic x).keep = d.keep := rfl
@[simp] theorem Dev.setTraffic_ports (d : Dev) (x : Traffic) : (d.setTraffic x).ports = d.ports := rfl
@[simp] theorem Dev.setTraffic_capsules (d : Dev) (x : Traffic) : (d.setTraffic x).capsules = d.capsules := rfl
@[simp] theorem Dev.setTraffic_traffic (d : Dev) (x : Traffic) : (d.setTraffic x).traffic = x := rfl
@[simp] theorem Dev.setTraffic_fabric (d : Dev) (x : Traffic) : (d.setTraffic x).fabric = d.fabric := rfl
@[simp] theorem Dev.setTraffic_tiles (d : Dev) (x : Traffic) : (d.setTraffic x).tiles = d.tiles := rfl
@[simp] theorem Dev.setTraffic_plans (d : Dev) (x : Traffic) : (d.setTraffic x).plans = d.plans := rfl
@[simp] theorem Dev.setTraffic_banks (d : Dev) (x : Traffic) : (d.setTraffic x).banks = d.banks := rfl
@[simp] theorem Dev.setTraffic_search (d : Dev) (x : Traffic) : (d.setTraffic x).search = d.search := rfl
@[simp] theorem Dev.setTraffic_updates (d : Dev) (x : Traffic) : (d.setTraffic x).updates = d.updates := rfl
@[simp] theorem Dev.setTraffic_kv (d : Dev) (x : Traffic) : (d.setTraffic x).kv = d.kv := rfl
@[simp] theorem Dev.setTraffic_tiers (d : Dev) (x : Traffic) : (d.setTraffic x).tiers = d.tiers := rfl
@[simp] theorem Dev.setTraffic_flash (d : Dev) (x : Traffic) : (d.setTraffic x).flash = d.flash := rfl
@[simp] theorem Dev.setTraffic_mem (d : Dev) (x : Traffic) : (d.setTraffic x).mem = d.mem := rfl
@[simp] theorem Dev.setTraffic_hostMem (d : Dev) (x : Traffic) : (d.setTraffic x).hostMem = d.hostMem := rfl
@[simp] theorem Dev.setTraffic_out (d : Dev) (x : Traffic) : (d.setTraffic x).out = d.out := rfl
@[simp] theorem Dev.setTraffic_refused (d : Dev) (x : Traffic) : (d.setTraffic x).refused = d.refused := rfl
@[simp] theorem Dev.setTraffic_fillWait (d : Dev) (x : Traffic) : (d.setTraffic x).fillWait = d.fillWait := rfl
@[simp] theorem Dev.setTraffic_freeCtr (d : Dev) (x : Traffic) : (d.setTraffic x).freeCtr = d.freeCtr := rfl

@[simp] theorem Dev.setFabric_pins (d : Dev) (x : Fabric) : (d.setFabric x).pins = d.pins := rfl
@[simp] theorem Dev.setFabric_boot (d : Dev) (x : Fabric) : (d.setFabric x).boot = d.boot := rfl
@[simp] theorem Dev.setFabric_nor (d : Dev) (x : Fabric) : (d.setFabric x).nor = d.nor := rfl
@[simp] theorem Dev.setFabric_sensors (d : Dev) (x : Fabric) : (d.setFabric x).sensors = d.sensors := rfl
@[simp] theorem Dev.setFabric_log (d : Dev) (x : Fabric) : (d.setFabric x).log = d.log := rfl
@[simp] theorem Dev.setFabric_power (d : Dev) (x : Fabric) : (d.setFabric x).power = d.power := rfl
@[simp] theorem Dev.setFabric_oculus (d : Dev) (x : Fabric) : (d.setFabric x).oculus = d.oculus := rfl
@[simp] theorem Dev.setFabric_firmware (d : Dev) (x : Fabric) : (d.setFabric x).firmware = d.firmware := rfl
@[simp] theorem Dev.setFabric_dict (d : Dev) (x : Fabric) : (d.setFabric x).dict = d.dict := rfl
@[simp] theorem Dev.setFabric_violations (d : Dev) (x : Fabric) : (d.setFabric x).violations = d.violations := rfl
@[simp] theorem Dev.setFabric_scrubs (d : Dev) (x : Fabric) : (d.setFabric x).scrubs = d.scrubs := rfl
@[simp] theorem Dev.setFabric_keep (d : Dev) (x : Fabric) : (d.setFabric x).keep = d.keep := rfl
@[simp] theorem Dev.setFabric_ports (d : Dev) (x : Fabric) : (d.setFabric x).ports = d.ports := rfl
@[simp] theorem Dev.setFabric_capsules (d : Dev) (x : Fabric) : (d.setFabric x).capsules = d.capsules := rfl
@[simp] theorem Dev.setFabric_traffic (d : Dev) (x : Fabric) : (d.setFabric x).traffic = d.traffic := rfl
@[simp] theorem Dev.setFabric_fabric (d : Dev) (x : Fabric) : (d.setFabric x).fabric = x := rfl
@[simp] theorem Dev.setFabric_tiles (d : Dev) (x : Fabric) : (d.setFabric x).tiles = d.tiles := rfl
@[simp] theorem Dev.setFabric_plans (d : Dev) (x : Fabric) : (d.setFabric x).plans = d.plans := rfl
@[simp] theorem Dev.setFabric_banks (d : Dev) (x : Fabric) : (d.setFabric x).banks = d.banks := rfl
@[simp] theorem Dev.setFabric_search (d : Dev) (x : Fabric) : (d.setFabric x).search = d.search := rfl
@[simp] theorem Dev.setFabric_updates (d : Dev) (x : Fabric) : (d.setFabric x).updates = d.updates := rfl
@[simp] theorem Dev.setFabric_kv (d : Dev) (x : Fabric) : (d.setFabric x).kv = d.kv := rfl
@[simp] theorem Dev.setFabric_tiers (d : Dev) (x : Fabric) : (d.setFabric x).tiers = d.tiers := rfl
@[simp] theorem Dev.setFabric_flash (d : Dev) (x : Fabric) : (d.setFabric x).flash = d.flash := rfl
@[simp] theorem Dev.setFabric_mem (d : Dev) (x : Fabric) : (d.setFabric x).mem = d.mem := rfl
@[simp] theorem Dev.setFabric_hostMem (d : Dev) (x : Fabric) : (d.setFabric x).hostMem = d.hostMem := rfl
@[simp] theorem Dev.setFabric_out (d : Dev) (x : Fabric) : (d.setFabric x).out = d.out := rfl
@[simp] theorem Dev.setFabric_refused (d : Dev) (x : Fabric) : (d.setFabric x).refused = d.refused := rfl
@[simp] theorem Dev.setFabric_fillWait (d : Dev) (x : Fabric) : (d.setFabric x).fillWait = d.fillWait := rfl
@[simp] theorem Dev.setFabric_freeCtr (d : Dev) (x : Fabric) : (d.setFabric x).freeCtr = d.freeCtr := rfl

@[simp] theorem Dev.setTiles_pins (d : Dev) (x : Tiles) : (d.setTiles x).pins = d.pins := rfl
@[simp] theorem Dev.setTiles_boot (d : Dev) (x : Tiles) : (d.setTiles x).boot = d.boot := rfl
@[simp] theorem Dev.setTiles_nor (d : Dev) (x : Tiles) : (d.setTiles x).nor = d.nor := rfl
@[simp] theorem Dev.setTiles_sensors (d : Dev) (x : Tiles) : (d.setTiles x).sensors = d.sensors := rfl
@[simp] theorem Dev.setTiles_log (d : Dev) (x : Tiles) : (d.setTiles x).log = d.log := rfl
@[simp] theorem Dev.setTiles_power (d : Dev) (x : Tiles) : (d.setTiles x).power = d.power := rfl
@[simp] theorem Dev.setTiles_oculus (d : Dev) (x : Tiles) : (d.setTiles x).oculus = d.oculus := rfl
@[simp] theorem Dev.setTiles_firmware (d : Dev) (x : Tiles) : (d.setTiles x).firmware = d.firmware := rfl
@[simp] theorem Dev.setTiles_dict (d : Dev) (x : Tiles) : (d.setTiles x).dict = d.dict := rfl
@[simp] theorem Dev.setTiles_violations (d : Dev) (x : Tiles) : (d.setTiles x).violations = d.violations := rfl
@[simp] theorem Dev.setTiles_scrubs (d : Dev) (x : Tiles) : (d.setTiles x).scrubs = d.scrubs := rfl
@[simp] theorem Dev.setTiles_keep (d : Dev) (x : Tiles) : (d.setTiles x).keep = d.keep := rfl
@[simp] theorem Dev.setTiles_ports (d : Dev) (x : Tiles) : (d.setTiles x).ports = d.ports := rfl
@[simp] theorem Dev.setTiles_capsules (d : Dev) (x : Tiles) : (d.setTiles x).capsules = d.capsules := rfl
@[simp] theorem Dev.setTiles_traffic (d : Dev) (x : Tiles) : (d.setTiles x).traffic = d.traffic := rfl
@[simp] theorem Dev.setTiles_fabric (d : Dev) (x : Tiles) : (d.setTiles x).fabric = d.fabric := rfl
@[simp] theorem Dev.setTiles_tiles (d : Dev) (x : Tiles) : (d.setTiles x).tiles = x := rfl
@[simp] theorem Dev.setTiles_plans (d : Dev) (x : Tiles) : (d.setTiles x).plans = d.plans := rfl
@[simp] theorem Dev.setTiles_banks (d : Dev) (x : Tiles) : (d.setTiles x).banks = d.banks := rfl
@[simp] theorem Dev.setTiles_search (d : Dev) (x : Tiles) : (d.setTiles x).search = d.search := rfl
@[simp] theorem Dev.setTiles_updates (d : Dev) (x : Tiles) : (d.setTiles x).updates = d.updates := rfl
@[simp] theorem Dev.setTiles_kv (d : Dev) (x : Tiles) : (d.setTiles x).kv = d.kv := rfl
@[simp] theorem Dev.setTiles_tiers (d : Dev) (x : Tiles) : (d.setTiles x).tiers = d.tiers := rfl
@[simp] theorem Dev.setTiles_flash (d : Dev) (x : Tiles) : (d.setTiles x).flash = d.flash := rfl
@[simp] theorem Dev.setTiles_mem (d : Dev) (x : Tiles) : (d.setTiles x).mem = d.mem := rfl
@[simp] theorem Dev.setTiles_hostMem (d : Dev) (x : Tiles) : (d.setTiles x).hostMem = d.hostMem := rfl
@[simp] theorem Dev.setTiles_out (d : Dev) (x : Tiles) : (d.setTiles x).out = d.out := rfl
@[simp] theorem Dev.setTiles_refused (d : Dev) (x : Tiles) : (d.setTiles x).refused = d.refused := rfl
@[simp] theorem Dev.setTiles_fillWait (d : Dev) (x : Tiles) : (d.setTiles x).fillWait = d.fillWait := rfl
@[simp] theorem Dev.setTiles_freeCtr (d : Dev) (x : Tiles) : (d.setTiles x).freeCtr = d.freeCtr := rfl

@[simp] theorem Dev.setPlans_pins (d : Dev) (x : Plans) : (d.setPlans x).pins = d.pins := rfl
@[simp] theorem Dev.setPlans_boot (d : Dev) (x : Plans) : (d.setPlans x).boot = d.boot := rfl
@[simp] theorem Dev.setPlans_nor (d : Dev) (x : Plans) : (d.setPlans x).nor = d.nor := rfl
@[simp] theorem Dev.setPlans_sensors (d : Dev) (x : Plans) : (d.setPlans x).sensors = d.sensors := rfl
@[simp] theorem Dev.setPlans_log (d : Dev) (x : Plans) : (d.setPlans x).log = d.log := rfl
@[simp] theorem Dev.setPlans_power (d : Dev) (x : Plans) : (d.setPlans x).power = d.power := rfl
@[simp] theorem Dev.setPlans_oculus (d : Dev) (x : Plans) : (d.setPlans x).oculus = d.oculus := rfl
@[simp] theorem Dev.setPlans_firmware (d : Dev) (x : Plans) : (d.setPlans x).firmware = d.firmware := rfl
@[simp] theorem Dev.setPlans_dict (d : Dev) (x : Plans) : (d.setPlans x).dict = d.dict := rfl
@[simp] theorem Dev.setPlans_violations (d : Dev) (x : Plans) : (d.setPlans x).violations = d.violations := rfl
@[simp] theorem Dev.setPlans_scrubs (d : Dev) (x : Plans) : (d.setPlans x).scrubs = d.scrubs := rfl
@[simp] theorem Dev.setPlans_keep (d : Dev) (x : Plans) : (d.setPlans x).keep = d.keep := rfl
@[simp] theorem Dev.setPlans_ports (d : Dev) (x : Plans) : (d.setPlans x).ports = d.ports := rfl
@[simp] theorem Dev.setPlans_capsules (d : Dev) (x : Plans) : (d.setPlans x).capsules = d.capsules := rfl
@[simp] theorem Dev.setPlans_traffic (d : Dev) (x : Plans) : (d.setPlans x).traffic = d.traffic := rfl
@[simp] theorem Dev.setPlans_fabric (d : Dev) (x : Plans) : (d.setPlans x).fabric = d.fabric := rfl
@[simp] theorem Dev.setPlans_tiles (d : Dev) (x : Plans) : (d.setPlans x).tiles = d.tiles := rfl
@[simp] theorem Dev.setPlans_plans (d : Dev) (x : Plans) : (d.setPlans x).plans = x := rfl
@[simp] theorem Dev.setPlans_banks (d : Dev) (x : Plans) : (d.setPlans x).banks = d.banks := rfl
@[simp] theorem Dev.setPlans_search (d : Dev) (x : Plans) : (d.setPlans x).search = d.search := rfl
@[simp] theorem Dev.setPlans_updates (d : Dev) (x : Plans) : (d.setPlans x).updates = d.updates := rfl
@[simp] theorem Dev.setPlans_kv (d : Dev) (x : Plans) : (d.setPlans x).kv = d.kv := rfl
@[simp] theorem Dev.setPlans_tiers (d : Dev) (x : Plans) : (d.setPlans x).tiers = d.tiers := rfl
@[simp] theorem Dev.setPlans_flash (d : Dev) (x : Plans) : (d.setPlans x).flash = d.flash := rfl
@[simp] theorem Dev.setPlans_mem (d : Dev) (x : Plans) : (d.setPlans x).mem = d.mem := rfl
@[simp] theorem Dev.setPlans_hostMem (d : Dev) (x : Plans) : (d.setPlans x).hostMem = d.hostMem := rfl
@[simp] theorem Dev.setPlans_out (d : Dev) (x : Plans) : (d.setPlans x).out = d.out := rfl
@[simp] theorem Dev.setPlans_refused (d : Dev) (x : Plans) : (d.setPlans x).refused = d.refused := rfl
@[simp] theorem Dev.setPlans_fillWait (d : Dev) (x : Plans) : (d.setPlans x).fillWait = d.fillWait := rfl
@[simp] theorem Dev.setPlans_freeCtr (d : Dev) (x : Plans) : (d.setPlans x).freeCtr = d.freeCtr := rfl

@[simp] theorem Dev.setBanks_pins (d : Dev) (x : Banks) : (d.setBanks x).pins = d.pins := rfl
@[simp] theorem Dev.setBanks_boot (d : Dev) (x : Banks) : (d.setBanks x).boot = d.boot := rfl
@[simp] theorem Dev.setBanks_nor (d : Dev) (x : Banks) : (d.setBanks x).nor = d.nor := rfl
@[simp] theorem Dev.setBanks_sensors (d : Dev) (x : Banks) : (d.setBanks x).sensors = d.sensors := rfl
@[simp] theorem Dev.setBanks_log (d : Dev) (x : Banks) : (d.setBanks x).log = d.log := rfl
@[simp] theorem Dev.setBanks_power (d : Dev) (x : Banks) : (d.setBanks x).power = d.power := rfl
@[simp] theorem Dev.setBanks_oculus (d : Dev) (x : Banks) : (d.setBanks x).oculus = d.oculus := rfl
@[simp] theorem Dev.setBanks_firmware (d : Dev) (x : Banks) : (d.setBanks x).firmware = d.firmware := rfl
@[simp] theorem Dev.setBanks_dict (d : Dev) (x : Banks) : (d.setBanks x).dict = d.dict := rfl
@[simp] theorem Dev.setBanks_violations (d : Dev) (x : Banks) : (d.setBanks x).violations = d.violations := rfl
@[simp] theorem Dev.setBanks_scrubs (d : Dev) (x : Banks) : (d.setBanks x).scrubs = d.scrubs := rfl
@[simp] theorem Dev.setBanks_keep (d : Dev) (x : Banks) : (d.setBanks x).keep = d.keep := rfl
@[simp] theorem Dev.setBanks_ports (d : Dev) (x : Banks) : (d.setBanks x).ports = d.ports := rfl
@[simp] theorem Dev.setBanks_capsules (d : Dev) (x : Banks) : (d.setBanks x).capsules = d.capsules := rfl
@[simp] theorem Dev.setBanks_traffic (d : Dev) (x : Banks) : (d.setBanks x).traffic = d.traffic := rfl
@[simp] theorem Dev.setBanks_fabric (d : Dev) (x : Banks) : (d.setBanks x).fabric = d.fabric := rfl
@[simp] theorem Dev.setBanks_tiles (d : Dev) (x : Banks) : (d.setBanks x).tiles = d.tiles := rfl
@[simp] theorem Dev.setBanks_plans (d : Dev) (x : Banks) : (d.setBanks x).plans = d.plans := rfl
@[simp] theorem Dev.setBanks_banks (d : Dev) (x : Banks) : (d.setBanks x).banks = x := rfl
@[simp] theorem Dev.setBanks_search (d : Dev) (x : Banks) : (d.setBanks x).search = d.search := rfl
@[simp] theorem Dev.setBanks_updates (d : Dev) (x : Banks) : (d.setBanks x).updates = d.updates := rfl
@[simp] theorem Dev.setBanks_kv (d : Dev) (x : Banks) : (d.setBanks x).kv = d.kv := rfl
@[simp] theorem Dev.setBanks_tiers (d : Dev) (x : Banks) : (d.setBanks x).tiers = d.tiers := rfl
@[simp] theorem Dev.setBanks_flash (d : Dev) (x : Banks) : (d.setBanks x).flash = d.flash := rfl
@[simp] theorem Dev.setBanks_mem (d : Dev) (x : Banks) : (d.setBanks x).mem = d.mem := rfl
@[simp] theorem Dev.setBanks_hostMem (d : Dev) (x : Banks) : (d.setBanks x).hostMem = d.hostMem := rfl
@[simp] theorem Dev.setBanks_out (d : Dev) (x : Banks) : (d.setBanks x).out = d.out := rfl
@[simp] theorem Dev.setBanks_refused (d : Dev) (x : Banks) : (d.setBanks x).refused = d.refused := rfl
@[simp] theorem Dev.setBanks_fillWait (d : Dev) (x : Banks) : (d.setBanks x).fillWait = d.fillWait := rfl
@[simp] theorem Dev.setBanks_freeCtr (d : Dev) (x : Banks) : (d.setBanks x).freeCtr = d.freeCtr := rfl

@[simp] theorem Dev.setSearch_pins (d : Dev) (x : Search) : (d.setSearch x).pins = d.pins := rfl
@[simp] theorem Dev.setSearch_boot (d : Dev) (x : Search) : (d.setSearch x).boot = d.boot := rfl
@[simp] theorem Dev.setSearch_nor (d : Dev) (x : Search) : (d.setSearch x).nor = d.nor := rfl
@[simp] theorem Dev.setSearch_sensors (d : Dev) (x : Search) : (d.setSearch x).sensors = d.sensors := rfl
@[simp] theorem Dev.setSearch_log (d : Dev) (x : Search) : (d.setSearch x).log = d.log := rfl
@[simp] theorem Dev.setSearch_power (d : Dev) (x : Search) : (d.setSearch x).power = d.power := rfl
@[simp] theorem Dev.setSearch_oculus (d : Dev) (x : Search) : (d.setSearch x).oculus = d.oculus := rfl
@[simp] theorem Dev.setSearch_firmware (d : Dev) (x : Search) : (d.setSearch x).firmware = d.firmware := rfl
@[simp] theorem Dev.setSearch_dict (d : Dev) (x : Search) : (d.setSearch x).dict = d.dict := rfl
@[simp] theorem Dev.setSearch_violations (d : Dev) (x : Search) : (d.setSearch x).violations = d.violations := rfl
@[simp] theorem Dev.setSearch_scrubs (d : Dev) (x : Search) : (d.setSearch x).scrubs = d.scrubs := rfl
@[simp] theorem Dev.setSearch_keep (d : Dev) (x : Search) : (d.setSearch x).keep = d.keep := rfl
@[simp] theorem Dev.setSearch_ports (d : Dev) (x : Search) : (d.setSearch x).ports = d.ports := rfl
@[simp] theorem Dev.setSearch_capsules (d : Dev) (x : Search) : (d.setSearch x).capsules = d.capsules := rfl
@[simp] theorem Dev.setSearch_traffic (d : Dev) (x : Search) : (d.setSearch x).traffic = d.traffic := rfl
@[simp] theorem Dev.setSearch_fabric (d : Dev) (x : Search) : (d.setSearch x).fabric = d.fabric := rfl
@[simp] theorem Dev.setSearch_tiles (d : Dev) (x : Search) : (d.setSearch x).tiles = d.tiles := rfl
@[simp] theorem Dev.setSearch_plans (d : Dev) (x : Search) : (d.setSearch x).plans = d.plans := rfl
@[simp] theorem Dev.setSearch_banks (d : Dev) (x : Search) : (d.setSearch x).banks = d.banks := rfl
@[simp] theorem Dev.setSearch_search (d : Dev) (x : Search) : (d.setSearch x).search = x := rfl
@[simp] theorem Dev.setSearch_updates (d : Dev) (x : Search) : (d.setSearch x).updates = d.updates := rfl
@[simp] theorem Dev.setSearch_kv (d : Dev) (x : Search) : (d.setSearch x).kv = d.kv := rfl
@[simp] theorem Dev.setSearch_tiers (d : Dev) (x : Search) : (d.setSearch x).tiers = d.tiers := rfl
@[simp] theorem Dev.setSearch_flash (d : Dev) (x : Search) : (d.setSearch x).flash = d.flash := rfl
@[simp] theorem Dev.setSearch_mem (d : Dev) (x : Search) : (d.setSearch x).mem = d.mem := rfl
@[simp] theorem Dev.setSearch_hostMem (d : Dev) (x : Search) : (d.setSearch x).hostMem = d.hostMem := rfl
@[simp] theorem Dev.setSearch_out (d : Dev) (x : Search) : (d.setSearch x).out = d.out := rfl
@[simp] theorem Dev.setSearch_refused (d : Dev) (x : Search) : (d.setSearch x).refused = d.refused := rfl
@[simp] theorem Dev.setSearch_fillWait (d : Dev) (x : Search) : (d.setSearch x).fillWait = d.fillWait := rfl
@[simp] theorem Dev.setSearch_freeCtr (d : Dev) (x : Search) : (d.setSearch x).freeCtr = d.freeCtr := rfl

@[simp] theorem Dev.setUpdates_pins (d : Dev) (x : Updates) : (d.setUpdates x).pins = d.pins := rfl
@[simp] theorem Dev.setUpdates_boot (d : Dev) (x : Updates) : (d.setUpdates x).boot = d.boot := rfl
@[simp] theorem Dev.setUpdates_nor (d : Dev) (x : Updates) : (d.setUpdates x).nor = d.nor := rfl
@[simp] theorem Dev.setUpdates_sensors (d : Dev) (x : Updates) : (d.setUpdates x).sensors = d.sensors := rfl
@[simp] theorem Dev.setUpdates_log (d : Dev) (x : Updates) : (d.setUpdates x).log = d.log := rfl
@[simp] theorem Dev.setUpdates_power (d : Dev) (x : Updates) : (d.setUpdates x).power = d.power := rfl
@[simp] theorem Dev.setUpdates_oculus (d : Dev) (x : Updates) : (d.setUpdates x).oculus = d.oculus := rfl
@[simp] theorem Dev.setUpdates_firmware (d : Dev) (x : Updates) : (d.setUpdates x).firmware = d.firmware := rfl
@[simp] theorem Dev.setUpdates_dict (d : Dev) (x : Updates) : (d.setUpdates x).dict = d.dict := rfl
@[simp] theorem Dev.setUpdates_violations (d : Dev) (x : Updates) : (d.setUpdates x).violations = d.violations := rfl
@[simp] theorem Dev.setUpdates_scrubs (d : Dev) (x : Updates) : (d.setUpdates x).scrubs = d.scrubs := rfl
@[simp] theorem Dev.setUpdates_keep (d : Dev) (x : Updates) : (d.setUpdates x).keep = d.keep := rfl
@[simp] theorem Dev.setUpdates_ports (d : Dev) (x : Updates) : (d.setUpdates x).ports = d.ports := rfl
@[simp] theorem Dev.setUpdates_capsules (d : Dev) (x : Updates) : (d.setUpdates x).capsules = d.capsules := rfl
@[simp] theorem Dev.setUpdates_traffic (d : Dev) (x : Updates) : (d.setUpdates x).traffic = d.traffic := rfl
@[simp] theorem Dev.setUpdates_fabric (d : Dev) (x : Updates) : (d.setUpdates x).fabric = d.fabric := rfl
@[simp] theorem Dev.setUpdates_tiles (d : Dev) (x : Updates) : (d.setUpdates x).tiles = d.tiles := rfl
@[simp] theorem Dev.setUpdates_plans (d : Dev) (x : Updates) : (d.setUpdates x).plans = d.plans := rfl
@[simp] theorem Dev.setUpdates_banks (d : Dev) (x : Updates) : (d.setUpdates x).banks = d.banks := rfl
@[simp] theorem Dev.setUpdates_search (d : Dev) (x : Updates) : (d.setUpdates x).search = d.search := rfl
@[simp] theorem Dev.setUpdates_updates (d : Dev) (x : Updates) : (d.setUpdates x).updates = x := rfl
@[simp] theorem Dev.setUpdates_kv (d : Dev) (x : Updates) : (d.setUpdates x).kv = d.kv := rfl
@[simp] theorem Dev.setUpdates_tiers (d : Dev) (x : Updates) : (d.setUpdates x).tiers = d.tiers := rfl
@[simp] theorem Dev.setUpdates_flash (d : Dev) (x : Updates) : (d.setUpdates x).flash = d.flash := rfl
@[simp] theorem Dev.setUpdates_mem (d : Dev) (x : Updates) : (d.setUpdates x).mem = d.mem := rfl
@[simp] theorem Dev.setUpdates_hostMem (d : Dev) (x : Updates) : (d.setUpdates x).hostMem = d.hostMem := rfl
@[simp] theorem Dev.setUpdates_out (d : Dev) (x : Updates) : (d.setUpdates x).out = d.out := rfl
@[simp] theorem Dev.setUpdates_refused (d : Dev) (x : Updates) : (d.setUpdates x).refused = d.refused := rfl
@[simp] theorem Dev.setUpdates_fillWait (d : Dev) (x : Updates) : (d.setUpdates x).fillWait = d.fillWait := rfl
@[simp] theorem Dev.setUpdates_freeCtr (d : Dev) (x : Updates) : (d.setUpdates x).freeCtr = d.freeCtr := rfl

@[simp] theorem Dev.setKv_pins (d : Dev) (x : Kv) : (d.setKv x).pins = d.pins := rfl
@[simp] theorem Dev.setKv_boot (d : Dev) (x : Kv) : (d.setKv x).boot = d.boot := rfl
@[simp] theorem Dev.setKv_nor (d : Dev) (x : Kv) : (d.setKv x).nor = d.nor := rfl
@[simp] theorem Dev.setKv_sensors (d : Dev) (x : Kv) : (d.setKv x).sensors = d.sensors := rfl
@[simp] theorem Dev.setKv_log (d : Dev) (x : Kv) : (d.setKv x).log = d.log := rfl
@[simp] theorem Dev.setKv_power (d : Dev) (x : Kv) : (d.setKv x).power = d.power := rfl
@[simp] theorem Dev.setKv_oculus (d : Dev) (x : Kv) : (d.setKv x).oculus = d.oculus := rfl
@[simp] theorem Dev.setKv_firmware (d : Dev) (x : Kv) : (d.setKv x).firmware = d.firmware := rfl
@[simp] theorem Dev.setKv_dict (d : Dev) (x : Kv) : (d.setKv x).dict = d.dict := rfl
@[simp] theorem Dev.setKv_violations (d : Dev) (x : Kv) : (d.setKv x).violations = d.violations := rfl
@[simp] theorem Dev.setKv_scrubs (d : Dev) (x : Kv) : (d.setKv x).scrubs = d.scrubs := rfl
@[simp] theorem Dev.setKv_keep (d : Dev) (x : Kv) : (d.setKv x).keep = d.keep := rfl
@[simp] theorem Dev.setKv_ports (d : Dev) (x : Kv) : (d.setKv x).ports = d.ports := rfl
@[simp] theorem Dev.setKv_capsules (d : Dev) (x : Kv) : (d.setKv x).capsules = d.capsules := rfl
@[simp] theorem Dev.setKv_traffic (d : Dev) (x : Kv) : (d.setKv x).traffic = d.traffic := rfl
@[simp] theorem Dev.setKv_fabric (d : Dev) (x : Kv) : (d.setKv x).fabric = d.fabric := rfl
@[simp] theorem Dev.setKv_tiles (d : Dev) (x : Kv) : (d.setKv x).tiles = d.tiles := rfl
@[simp] theorem Dev.setKv_plans (d : Dev) (x : Kv) : (d.setKv x).plans = d.plans := rfl
@[simp] theorem Dev.setKv_banks (d : Dev) (x : Kv) : (d.setKv x).banks = d.banks := rfl
@[simp] theorem Dev.setKv_search (d : Dev) (x : Kv) : (d.setKv x).search = d.search := rfl
@[simp] theorem Dev.setKv_updates (d : Dev) (x : Kv) : (d.setKv x).updates = d.updates := rfl
@[simp] theorem Dev.setKv_kv (d : Dev) (x : Kv) : (d.setKv x).kv = x := rfl
@[simp] theorem Dev.setKv_tiers (d : Dev) (x : Kv) : (d.setKv x).tiers = d.tiers := rfl
@[simp] theorem Dev.setKv_flash (d : Dev) (x : Kv) : (d.setKv x).flash = d.flash := rfl
@[simp] theorem Dev.setKv_mem (d : Dev) (x : Kv) : (d.setKv x).mem = d.mem := rfl
@[simp] theorem Dev.setKv_hostMem (d : Dev) (x : Kv) : (d.setKv x).hostMem = d.hostMem := rfl
@[simp] theorem Dev.setKv_out (d : Dev) (x : Kv) : (d.setKv x).out = d.out := rfl
@[simp] theorem Dev.setKv_refused (d : Dev) (x : Kv) : (d.setKv x).refused = d.refused := rfl
@[simp] theorem Dev.setKv_fillWait (d : Dev) (x : Kv) : (d.setKv x).fillWait = d.fillWait := rfl
@[simp] theorem Dev.setKv_freeCtr (d : Dev) (x : Kv) : (d.setKv x).freeCtr = d.freeCtr := rfl

@[simp] theorem Dev.setTiers_pins (d : Dev) (x : Tiers) : (d.setTiers x).pins = d.pins := rfl
@[simp] theorem Dev.setTiers_boot (d : Dev) (x : Tiers) : (d.setTiers x).boot = d.boot := rfl
@[simp] theorem Dev.setTiers_nor (d : Dev) (x : Tiers) : (d.setTiers x).nor = d.nor := rfl
@[simp] theorem Dev.setTiers_sensors (d : Dev) (x : Tiers) : (d.setTiers x).sensors = d.sensors := rfl
@[simp] theorem Dev.setTiers_log (d : Dev) (x : Tiers) : (d.setTiers x).log = d.log := rfl
@[simp] theorem Dev.setTiers_power (d : Dev) (x : Tiers) : (d.setTiers x).power = d.power := rfl
@[simp] theorem Dev.setTiers_oculus (d : Dev) (x : Tiers) : (d.setTiers x).oculus = d.oculus := rfl
@[simp] theorem Dev.setTiers_firmware (d : Dev) (x : Tiers) : (d.setTiers x).firmware = d.firmware := rfl
@[simp] theorem Dev.setTiers_dict (d : Dev) (x : Tiers) : (d.setTiers x).dict = d.dict := rfl
@[simp] theorem Dev.setTiers_violations (d : Dev) (x : Tiers) : (d.setTiers x).violations = d.violations := rfl
@[simp] theorem Dev.setTiers_scrubs (d : Dev) (x : Tiers) : (d.setTiers x).scrubs = d.scrubs := rfl
@[simp] theorem Dev.setTiers_keep (d : Dev) (x : Tiers) : (d.setTiers x).keep = d.keep := rfl
@[simp] theorem Dev.setTiers_ports (d : Dev) (x : Tiers) : (d.setTiers x).ports = d.ports := rfl
@[simp] theorem Dev.setTiers_capsules (d : Dev) (x : Tiers) : (d.setTiers x).capsules = d.capsules := rfl
@[simp] theorem Dev.setTiers_traffic (d : Dev) (x : Tiers) : (d.setTiers x).traffic = d.traffic := rfl
@[simp] theorem Dev.setTiers_fabric (d : Dev) (x : Tiers) : (d.setTiers x).fabric = d.fabric := rfl
@[simp] theorem Dev.setTiers_tiles (d : Dev) (x : Tiers) : (d.setTiers x).tiles = d.tiles := rfl
@[simp] theorem Dev.setTiers_plans (d : Dev) (x : Tiers) : (d.setTiers x).plans = d.plans := rfl
@[simp] theorem Dev.setTiers_banks (d : Dev) (x : Tiers) : (d.setTiers x).banks = d.banks := rfl
@[simp] theorem Dev.setTiers_search (d : Dev) (x : Tiers) : (d.setTiers x).search = d.search := rfl
@[simp] theorem Dev.setTiers_updates (d : Dev) (x : Tiers) : (d.setTiers x).updates = d.updates := rfl
@[simp] theorem Dev.setTiers_kv (d : Dev) (x : Tiers) : (d.setTiers x).kv = d.kv := rfl
@[simp] theorem Dev.setTiers_tiers (d : Dev) (x : Tiers) : (d.setTiers x).tiers = x := rfl
@[simp] theorem Dev.setTiers_flash (d : Dev) (x : Tiers) : (d.setTiers x).flash = d.flash := rfl
@[simp] theorem Dev.setTiers_mem (d : Dev) (x : Tiers) : (d.setTiers x).mem = d.mem := rfl
@[simp] theorem Dev.setTiers_hostMem (d : Dev) (x : Tiers) : (d.setTiers x).hostMem = d.hostMem := rfl
@[simp] theorem Dev.setTiers_out (d : Dev) (x : Tiers) : (d.setTiers x).out = d.out := rfl
@[simp] theorem Dev.setTiers_refused (d : Dev) (x : Tiers) : (d.setTiers x).refused = d.refused := rfl
@[simp] theorem Dev.setTiers_fillWait (d : Dev) (x : Tiers) : (d.setTiers x).fillWait = d.fillWait := rfl
@[simp] theorem Dev.setTiers_freeCtr (d : Dev) (x : Tiers) : (d.setTiers x).freeCtr = d.freeCtr := rfl

@[simp] theorem Dev.setFlash_pins (d : Dev) (x : Flash) : (d.setFlash x).pins = d.pins := rfl
@[simp] theorem Dev.setFlash_boot (d : Dev) (x : Flash) : (d.setFlash x).boot = d.boot := rfl
@[simp] theorem Dev.setFlash_nor (d : Dev) (x : Flash) : (d.setFlash x).nor = d.nor := rfl
@[simp] theorem Dev.setFlash_sensors (d : Dev) (x : Flash) : (d.setFlash x).sensors = d.sensors := rfl
@[simp] theorem Dev.setFlash_log (d : Dev) (x : Flash) : (d.setFlash x).log = d.log := rfl
@[simp] theorem Dev.setFlash_power (d : Dev) (x : Flash) : (d.setFlash x).power = d.power := rfl
@[simp] theorem Dev.setFlash_oculus (d : Dev) (x : Flash) : (d.setFlash x).oculus = d.oculus := rfl
@[simp] theorem Dev.setFlash_firmware (d : Dev) (x : Flash) : (d.setFlash x).firmware = d.firmware := rfl
@[simp] theorem Dev.setFlash_dict (d : Dev) (x : Flash) : (d.setFlash x).dict = d.dict := rfl
@[simp] theorem Dev.setFlash_violations (d : Dev) (x : Flash) : (d.setFlash x).violations = d.violations := rfl
@[simp] theorem Dev.setFlash_scrubs (d : Dev) (x : Flash) : (d.setFlash x).scrubs = d.scrubs := rfl
@[simp] theorem Dev.setFlash_keep (d : Dev) (x : Flash) : (d.setFlash x).keep = d.keep := rfl
@[simp] theorem Dev.setFlash_ports (d : Dev) (x : Flash) : (d.setFlash x).ports = d.ports := rfl
@[simp] theorem Dev.setFlash_capsules (d : Dev) (x : Flash) : (d.setFlash x).capsules = d.capsules := rfl
@[simp] theorem Dev.setFlash_traffic (d : Dev) (x : Flash) : (d.setFlash x).traffic = d.traffic := rfl
@[simp] theorem Dev.setFlash_fabric (d : Dev) (x : Flash) : (d.setFlash x).fabric = d.fabric := rfl
@[simp] theorem Dev.setFlash_tiles (d : Dev) (x : Flash) : (d.setFlash x).tiles = d.tiles := rfl
@[simp] theorem Dev.setFlash_plans (d : Dev) (x : Flash) : (d.setFlash x).plans = d.plans := rfl
@[simp] theorem Dev.setFlash_banks (d : Dev) (x : Flash) : (d.setFlash x).banks = d.banks := rfl
@[simp] theorem Dev.setFlash_search (d : Dev) (x : Flash) : (d.setFlash x).search = d.search := rfl
@[simp] theorem Dev.setFlash_updates (d : Dev) (x : Flash) : (d.setFlash x).updates = d.updates := rfl
@[simp] theorem Dev.setFlash_kv (d : Dev) (x : Flash) : (d.setFlash x).kv = d.kv := rfl
@[simp] theorem Dev.setFlash_tiers (d : Dev) (x : Flash) : (d.setFlash x).tiers = d.tiers := rfl
@[simp] theorem Dev.setFlash_flash (d : Dev) (x : Flash) : (d.setFlash x).flash = x := rfl
@[simp] theorem Dev.setFlash_mem (d : Dev) (x : Flash) : (d.setFlash x).mem = d.mem := rfl
@[simp] theorem Dev.setFlash_hostMem (d : Dev) (x : Flash) : (d.setFlash x).hostMem = d.hostMem := rfl
@[simp] theorem Dev.setFlash_out (d : Dev) (x : Flash) : (d.setFlash x).out = d.out := rfl
@[simp] theorem Dev.setFlash_refused (d : Dev) (x : Flash) : (d.setFlash x).refused = d.refused := rfl
@[simp] theorem Dev.setFlash_fillWait (d : Dev) (x : Flash) : (d.setFlash x).fillWait = d.fillWait := rfl
@[simp] theorem Dev.setFlash_freeCtr (d : Dev) (x : Flash) : (d.setFlash x).freeCtr = d.freeCtr := rfl

@[simp] theorem Dev.setMem_pins (d : Dev) (x : List Host.Cell) : (d.setMem x).pins = d.pins := rfl
@[simp] theorem Dev.setMem_boot (d : Dev) (x : List Host.Cell) : (d.setMem x).boot = d.boot := rfl
@[simp] theorem Dev.setMem_nor (d : Dev) (x : List Host.Cell) : (d.setMem x).nor = d.nor := rfl
@[simp] theorem Dev.setMem_sensors (d : Dev) (x : List Host.Cell) : (d.setMem x).sensors = d.sensors := rfl
@[simp] theorem Dev.setMem_log (d : Dev) (x : List Host.Cell) : (d.setMem x).log = d.log := rfl
@[simp] theorem Dev.setMem_power (d : Dev) (x : List Host.Cell) : (d.setMem x).power = d.power := rfl
@[simp] theorem Dev.setMem_oculus (d : Dev) (x : List Host.Cell) : (d.setMem x).oculus = d.oculus := rfl
@[simp] theorem Dev.setMem_firmware (d : Dev) (x : List Host.Cell) : (d.setMem x).firmware = d.firmware := rfl
@[simp] theorem Dev.setMem_dict (d : Dev) (x : List Host.Cell) : (d.setMem x).dict = d.dict := rfl
@[simp] theorem Dev.setMem_violations (d : Dev) (x : List Host.Cell) : (d.setMem x).violations = d.violations := rfl
@[simp] theorem Dev.setMem_scrubs (d : Dev) (x : List Host.Cell) : (d.setMem x).scrubs = d.scrubs := rfl
@[simp] theorem Dev.setMem_keep (d : Dev) (x : List Host.Cell) : (d.setMem x).keep = d.keep := rfl
@[simp] theorem Dev.setMem_ports (d : Dev) (x : List Host.Cell) : (d.setMem x).ports = d.ports := rfl
@[simp] theorem Dev.setMem_capsules (d : Dev) (x : List Host.Cell) : (d.setMem x).capsules = d.capsules := rfl
@[simp] theorem Dev.setMem_traffic (d : Dev) (x : List Host.Cell) : (d.setMem x).traffic = d.traffic := rfl
@[simp] theorem Dev.setMem_fabric (d : Dev) (x : List Host.Cell) : (d.setMem x).fabric = d.fabric := rfl
@[simp] theorem Dev.setMem_tiles (d : Dev) (x : List Host.Cell) : (d.setMem x).tiles = d.tiles := rfl
@[simp] theorem Dev.setMem_plans (d : Dev) (x : List Host.Cell) : (d.setMem x).plans = d.plans := rfl
@[simp] theorem Dev.setMem_banks (d : Dev) (x : List Host.Cell) : (d.setMem x).banks = d.banks := rfl
@[simp] theorem Dev.setMem_search (d : Dev) (x : List Host.Cell) : (d.setMem x).search = d.search := rfl
@[simp] theorem Dev.setMem_updates (d : Dev) (x : List Host.Cell) : (d.setMem x).updates = d.updates := rfl
@[simp] theorem Dev.setMem_kv (d : Dev) (x : List Host.Cell) : (d.setMem x).kv = d.kv := rfl
@[simp] theorem Dev.setMem_tiers (d : Dev) (x : List Host.Cell) : (d.setMem x).tiers = d.tiers := rfl
@[simp] theorem Dev.setMem_flash (d : Dev) (x : List Host.Cell) : (d.setMem x).flash = d.flash := rfl
@[simp] theorem Dev.setMem_mem (d : Dev) (x : List Host.Cell) : (d.setMem x).mem = x := rfl
@[simp] theorem Dev.setMem_hostMem (d : Dev) (x : List Host.Cell) : (d.setMem x).hostMem = d.hostMem := rfl
@[simp] theorem Dev.setMem_out (d : Dev) (x : List Host.Cell) : (d.setMem x).out = d.out := rfl
@[simp] theorem Dev.setMem_refused (d : Dev) (x : List Host.Cell) : (d.setMem x).refused = d.refused := rfl
@[simp] theorem Dev.setMem_fillWait (d : Dev) (x : List Host.Cell) : (d.setMem x).fillWait = d.fillWait := rfl
@[simp] theorem Dev.setMem_freeCtr (d : Dev) (x : List Host.Cell) : (d.setMem x).freeCtr = d.freeCtr := rfl

@[simp] theorem Dev.setHostMem_pins (d : Dev) (x : List Host.Cell) : (d.setHostMem x).pins = d.pins := rfl
@[simp] theorem Dev.setHostMem_boot (d : Dev) (x : List Host.Cell) : (d.setHostMem x).boot = d.boot := rfl
@[simp] theorem Dev.setHostMem_nor (d : Dev) (x : List Host.Cell) : (d.setHostMem x).nor = d.nor := rfl
@[simp] theorem Dev.setHostMem_sensors (d : Dev) (x : List Host.Cell) : (d.setHostMem x).sensors = d.sensors := rfl
@[simp] theorem Dev.setHostMem_log (d : Dev) (x : List Host.Cell) : (d.setHostMem x).log = d.log := rfl
@[simp] theorem Dev.setHostMem_power (d : Dev) (x : List Host.Cell) : (d.setHostMem x).power = d.power := rfl
@[simp] theorem Dev.setHostMem_oculus (d : Dev) (x : List Host.Cell) : (d.setHostMem x).oculus = d.oculus := rfl
@[simp] theorem Dev.setHostMem_firmware (d : Dev) (x : List Host.Cell) : (d.setHostMem x).firmware = d.firmware := rfl
@[simp] theorem Dev.setHostMem_dict (d : Dev) (x : List Host.Cell) : (d.setHostMem x).dict = d.dict := rfl
@[simp] theorem Dev.setHostMem_violations (d : Dev) (x : List Host.Cell) : (d.setHostMem x).violations = d.violations := rfl
@[simp] theorem Dev.setHostMem_scrubs (d : Dev) (x : List Host.Cell) : (d.setHostMem x).scrubs = d.scrubs := rfl
@[simp] theorem Dev.setHostMem_keep (d : Dev) (x : List Host.Cell) : (d.setHostMem x).keep = d.keep := rfl
@[simp] theorem Dev.setHostMem_ports (d : Dev) (x : List Host.Cell) : (d.setHostMem x).ports = d.ports := rfl
@[simp] theorem Dev.setHostMem_capsules (d : Dev) (x : List Host.Cell) : (d.setHostMem x).capsules = d.capsules := rfl
@[simp] theorem Dev.setHostMem_traffic (d : Dev) (x : List Host.Cell) : (d.setHostMem x).traffic = d.traffic := rfl
@[simp] theorem Dev.setHostMem_fabric (d : Dev) (x : List Host.Cell) : (d.setHostMem x).fabric = d.fabric := rfl
@[simp] theorem Dev.setHostMem_tiles (d : Dev) (x : List Host.Cell) : (d.setHostMem x).tiles = d.tiles := rfl
@[simp] theorem Dev.setHostMem_plans (d : Dev) (x : List Host.Cell) : (d.setHostMem x).plans = d.plans := rfl
@[simp] theorem Dev.setHostMem_banks (d : Dev) (x : List Host.Cell) : (d.setHostMem x).banks = d.banks := rfl
@[simp] theorem Dev.setHostMem_search (d : Dev) (x : List Host.Cell) : (d.setHostMem x).search = d.search := rfl
@[simp] theorem Dev.setHostMem_updates (d : Dev) (x : List Host.Cell) : (d.setHostMem x).updates = d.updates := rfl
@[simp] theorem Dev.setHostMem_kv (d : Dev) (x : List Host.Cell) : (d.setHostMem x).kv = d.kv := rfl
@[simp] theorem Dev.setHostMem_tiers (d : Dev) (x : List Host.Cell) : (d.setHostMem x).tiers = d.tiers := rfl
@[simp] theorem Dev.setHostMem_flash (d : Dev) (x : List Host.Cell) : (d.setHostMem x).flash = d.flash := rfl
@[simp] theorem Dev.setHostMem_mem (d : Dev) (x : List Host.Cell) : (d.setHostMem x).mem = d.mem := rfl
@[simp] theorem Dev.setHostMem_hostMem (d : Dev) (x : List Host.Cell) : (d.setHostMem x).hostMem = x := rfl
@[simp] theorem Dev.setHostMem_out (d : Dev) (x : List Host.Cell) : (d.setHostMem x).out = d.out := rfl
@[simp] theorem Dev.setHostMem_refused (d : Dev) (x : List Host.Cell) : (d.setHostMem x).refused = d.refused := rfl
@[simp] theorem Dev.setHostMem_fillWait (d : Dev) (x : List Host.Cell) : (d.setHostMem x).fillWait = d.fillWait := rfl
@[simp] theorem Dev.setHostMem_freeCtr (d : Dev) (x : List Host.Cell) : (d.setHostMem x).freeCtr = d.freeCtr := rfl

@[simp] theorem Dev.setOut_pins (d : Dev) (x : List OutMsg) : (d.setOut x).pins = d.pins := rfl
@[simp] theorem Dev.setOut_boot (d : Dev) (x : List OutMsg) : (d.setOut x).boot = d.boot := rfl
@[simp] theorem Dev.setOut_nor (d : Dev) (x : List OutMsg) : (d.setOut x).nor = d.nor := rfl
@[simp] theorem Dev.setOut_sensors (d : Dev) (x : List OutMsg) : (d.setOut x).sensors = d.sensors := rfl
@[simp] theorem Dev.setOut_log (d : Dev) (x : List OutMsg) : (d.setOut x).log = d.log := rfl
@[simp] theorem Dev.setOut_power (d : Dev) (x : List OutMsg) : (d.setOut x).power = d.power := rfl
@[simp] theorem Dev.setOut_oculus (d : Dev) (x : List OutMsg) : (d.setOut x).oculus = d.oculus := rfl
@[simp] theorem Dev.setOut_firmware (d : Dev) (x : List OutMsg) : (d.setOut x).firmware = d.firmware := rfl
@[simp] theorem Dev.setOut_dict (d : Dev) (x : List OutMsg) : (d.setOut x).dict = d.dict := rfl
@[simp] theorem Dev.setOut_violations (d : Dev) (x : List OutMsg) : (d.setOut x).violations = d.violations := rfl
@[simp] theorem Dev.setOut_scrubs (d : Dev) (x : List OutMsg) : (d.setOut x).scrubs = d.scrubs := rfl
@[simp] theorem Dev.setOut_keep (d : Dev) (x : List OutMsg) : (d.setOut x).keep = d.keep := rfl
@[simp] theorem Dev.setOut_ports (d : Dev) (x : List OutMsg) : (d.setOut x).ports = d.ports := rfl
@[simp] theorem Dev.setOut_capsules (d : Dev) (x : List OutMsg) : (d.setOut x).capsules = d.capsules := rfl
@[simp] theorem Dev.setOut_traffic (d : Dev) (x : List OutMsg) : (d.setOut x).traffic = d.traffic := rfl
@[simp] theorem Dev.setOut_fabric (d : Dev) (x : List OutMsg) : (d.setOut x).fabric = d.fabric := rfl
@[simp] theorem Dev.setOut_tiles (d : Dev) (x : List OutMsg) : (d.setOut x).tiles = d.tiles := rfl
@[simp] theorem Dev.setOut_plans (d : Dev) (x : List OutMsg) : (d.setOut x).plans = d.plans := rfl
@[simp] theorem Dev.setOut_banks (d : Dev) (x : List OutMsg) : (d.setOut x).banks = d.banks := rfl
@[simp] theorem Dev.setOut_search (d : Dev) (x : List OutMsg) : (d.setOut x).search = d.search := rfl
@[simp] theorem Dev.setOut_updates (d : Dev) (x : List OutMsg) : (d.setOut x).updates = d.updates := rfl
@[simp] theorem Dev.setOut_kv (d : Dev) (x : List OutMsg) : (d.setOut x).kv = d.kv := rfl
@[simp] theorem Dev.setOut_tiers (d : Dev) (x : List OutMsg) : (d.setOut x).tiers = d.tiers := rfl
@[simp] theorem Dev.setOut_flash (d : Dev) (x : List OutMsg) : (d.setOut x).flash = d.flash := rfl
@[simp] theorem Dev.setOut_mem (d : Dev) (x : List OutMsg) : (d.setOut x).mem = d.mem := rfl
@[simp] theorem Dev.setOut_hostMem (d : Dev) (x : List OutMsg) : (d.setOut x).hostMem = d.hostMem := rfl
@[simp] theorem Dev.setOut_out (d : Dev) (x : List OutMsg) : (d.setOut x).out = x := rfl
@[simp] theorem Dev.setOut_refused (d : Dev) (x : List OutMsg) : (d.setOut x).refused = d.refused := rfl
@[simp] theorem Dev.setOut_fillWait (d : Dev) (x : List OutMsg) : (d.setOut x).fillWait = d.fillWait := rfl
@[simp] theorem Dev.setOut_freeCtr (d : Dev) (x : List OutMsg) : (d.setOut x).freeCtr = d.freeCtr := rfl

@[simp] theorem Dev.setRefused_pins (d : Dev) (x : Nat × Nat) : (d.setRefused x).pins = d.pins := rfl
@[simp] theorem Dev.setRefused_boot (d : Dev) (x : Nat × Nat) : (d.setRefused x).boot = d.boot := rfl
@[simp] theorem Dev.setRefused_nor (d : Dev) (x : Nat × Nat) : (d.setRefused x).nor = d.nor := rfl
@[simp] theorem Dev.setRefused_sensors (d : Dev) (x : Nat × Nat) : (d.setRefused x).sensors = d.sensors := rfl
@[simp] theorem Dev.setRefused_log (d : Dev) (x : Nat × Nat) : (d.setRefused x).log = d.log := rfl
@[simp] theorem Dev.setRefused_power (d : Dev) (x : Nat × Nat) : (d.setRefused x).power = d.power := rfl
@[simp] theorem Dev.setRefused_oculus (d : Dev) (x : Nat × Nat) : (d.setRefused x).oculus = d.oculus := rfl
@[simp] theorem Dev.setRefused_firmware (d : Dev) (x : Nat × Nat) : (d.setRefused x).firmware = d.firmware := rfl
@[simp] theorem Dev.setRefused_dict (d : Dev) (x : Nat × Nat) : (d.setRefused x).dict = d.dict := rfl
@[simp] theorem Dev.setRefused_violations (d : Dev) (x : Nat × Nat) : (d.setRefused x).violations = d.violations := rfl
@[simp] theorem Dev.setRefused_scrubs (d : Dev) (x : Nat × Nat) : (d.setRefused x).scrubs = d.scrubs := rfl
@[simp] theorem Dev.setRefused_keep (d : Dev) (x : Nat × Nat) : (d.setRefused x).keep = d.keep := rfl
@[simp] theorem Dev.setRefused_ports (d : Dev) (x : Nat × Nat) : (d.setRefused x).ports = d.ports := rfl
@[simp] theorem Dev.setRefused_capsules (d : Dev) (x : Nat × Nat) : (d.setRefused x).capsules = d.capsules := rfl
@[simp] theorem Dev.setRefused_traffic (d : Dev) (x : Nat × Nat) : (d.setRefused x).traffic = d.traffic := rfl
@[simp] theorem Dev.setRefused_fabric (d : Dev) (x : Nat × Nat) : (d.setRefused x).fabric = d.fabric := rfl
@[simp] theorem Dev.setRefused_tiles (d : Dev) (x : Nat × Nat) : (d.setRefused x).tiles = d.tiles := rfl
@[simp] theorem Dev.setRefused_plans (d : Dev) (x : Nat × Nat) : (d.setRefused x).plans = d.plans := rfl
@[simp] theorem Dev.setRefused_banks (d : Dev) (x : Nat × Nat) : (d.setRefused x).banks = d.banks := rfl
@[simp] theorem Dev.setRefused_search (d : Dev) (x : Nat × Nat) : (d.setRefused x).search = d.search := rfl
@[simp] theorem Dev.setRefused_updates (d : Dev) (x : Nat × Nat) : (d.setRefused x).updates = d.updates := rfl
@[simp] theorem Dev.setRefused_kv (d : Dev) (x : Nat × Nat) : (d.setRefused x).kv = d.kv := rfl
@[simp] theorem Dev.setRefused_tiers (d : Dev) (x : Nat × Nat) : (d.setRefused x).tiers = d.tiers := rfl
@[simp] theorem Dev.setRefused_flash (d : Dev) (x : Nat × Nat) : (d.setRefused x).flash = d.flash := rfl
@[simp] theorem Dev.setRefused_mem (d : Dev) (x : Nat × Nat) : (d.setRefused x).mem = d.mem := rfl
@[simp] theorem Dev.setRefused_hostMem (d : Dev) (x : Nat × Nat) : (d.setRefused x).hostMem = d.hostMem := rfl
@[simp] theorem Dev.setRefused_out (d : Dev) (x : Nat × Nat) : (d.setRefused x).out = d.out := rfl
@[simp] theorem Dev.setRefused_refused (d : Dev) (x : Nat × Nat) : (d.setRefused x).refused = x := rfl
@[simp] theorem Dev.setRefused_fillWait (d : Dev) (x : Nat × Nat) : (d.setRefused x).fillWait = d.fillWait := rfl
@[simp] theorem Dev.setRefused_freeCtr (d : Dev) (x : Nat × Nat) : (d.setRefused x).freeCtr = d.freeCtr := rfl

@[simp] theorem Dev.setFillWait_pins (d : Dev) (x : Bool) : (d.setFillWait x).pins = d.pins := rfl
@[simp] theorem Dev.setFillWait_boot (d : Dev) (x : Bool) : (d.setFillWait x).boot = d.boot := rfl
@[simp] theorem Dev.setFillWait_nor (d : Dev) (x : Bool) : (d.setFillWait x).nor = d.nor := rfl
@[simp] theorem Dev.setFillWait_sensors (d : Dev) (x : Bool) : (d.setFillWait x).sensors = d.sensors := rfl
@[simp] theorem Dev.setFillWait_log (d : Dev) (x : Bool) : (d.setFillWait x).log = d.log := rfl
@[simp] theorem Dev.setFillWait_power (d : Dev) (x : Bool) : (d.setFillWait x).power = d.power := rfl
@[simp] theorem Dev.setFillWait_oculus (d : Dev) (x : Bool) : (d.setFillWait x).oculus = d.oculus := rfl
@[simp] theorem Dev.setFillWait_firmware (d : Dev) (x : Bool) : (d.setFillWait x).firmware = d.firmware := rfl
@[simp] theorem Dev.setFillWait_dict (d : Dev) (x : Bool) : (d.setFillWait x).dict = d.dict := rfl
@[simp] theorem Dev.setFillWait_violations (d : Dev) (x : Bool) : (d.setFillWait x).violations = d.violations := rfl
@[simp] theorem Dev.setFillWait_scrubs (d : Dev) (x : Bool) : (d.setFillWait x).scrubs = d.scrubs := rfl
@[simp] theorem Dev.setFillWait_keep (d : Dev) (x : Bool) : (d.setFillWait x).keep = d.keep := rfl
@[simp] theorem Dev.setFillWait_ports (d : Dev) (x : Bool) : (d.setFillWait x).ports = d.ports := rfl
@[simp] theorem Dev.setFillWait_capsules (d : Dev) (x : Bool) : (d.setFillWait x).capsules = d.capsules := rfl
@[simp] theorem Dev.setFillWait_traffic (d : Dev) (x : Bool) : (d.setFillWait x).traffic = d.traffic := rfl
@[simp] theorem Dev.setFillWait_fabric (d : Dev) (x : Bool) : (d.setFillWait x).fabric = d.fabric := rfl
@[simp] theorem Dev.setFillWait_tiles (d : Dev) (x : Bool) : (d.setFillWait x).tiles = d.tiles := rfl
@[simp] theorem Dev.setFillWait_plans (d : Dev) (x : Bool) : (d.setFillWait x).plans = d.plans := rfl
@[simp] theorem Dev.setFillWait_banks (d : Dev) (x : Bool) : (d.setFillWait x).banks = d.banks := rfl
@[simp] theorem Dev.setFillWait_search (d : Dev) (x : Bool) : (d.setFillWait x).search = d.search := rfl
@[simp] theorem Dev.setFillWait_updates (d : Dev) (x : Bool) : (d.setFillWait x).updates = d.updates := rfl
@[simp] theorem Dev.setFillWait_kv (d : Dev) (x : Bool) : (d.setFillWait x).kv = d.kv := rfl
@[simp] theorem Dev.setFillWait_tiers (d : Dev) (x : Bool) : (d.setFillWait x).tiers = d.tiers := rfl
@[simp] theorem Dev.setFillWait_flash (d : Dev) (x : Bool) : (d.setFillWait x).flash = d.flash := rfl
@[simp] theorem Dev.setFillWait_mem (d : Dev) (x : Bool) : (d.setFillWait x).mem = d.mem := rfl
@[simp] theorem Dev.setFillWait_hostMem (d : Dev) (x : Bool) : (d.setFillWait x).hostMem = d.hostMem := rfl
@[simp] theorem Dev.setFillWait_out (d : Dev) (x : Bool) : (d.setFillWait x).out = d.out := rfl
@[simp] theorem Dev.setFillWait_refused (d : Dev) (x : Bool) : (d.setFillWait x).refused = d.refused := rfl
@[simp] theorem Dev.setFillWait_fillWait (d : Dev) (x : Bool) : (d.setFillWait x).fillWait = x := rfl
@[simp] theorem Dev.setFillWait_freeCtr (d : Dev) (x : Bool) : (d.setFillWait x).freeCtr = d.freeCtr := rfl

@[simp] theorem Dev.setFreeCtr_pins (d : Dev) (x : Nat) : (d.setFreeCtr x).pins = d.pins := rfl
@[simp] theorem Dev.setFreeCtr_boot (d : Dev) (x : Nat) : (d.setFreeCtr x).boot = d.boot := rfl
@[simp] theorem Dev.setFreeCtr_nor (d : Dev) (x : Nat) : (d.setFreeCtr x).nor = d.nor := rfl
@[simp] theorem Dev.setFreeCtr_sensors (d : Dev) (x : Nat) : (d.setFreeCtr x).sensors = d.sensors := rfl
@[simp] theorem Dev.setFreeCtr_log (d : Dev) (x : Nat) : (d.setFreeCtr x).log = d.log := rfl
@[simp] theorem Dev.setFreeCtr_power (d : Dev) (x : Nat) : (d.setFreeCtr x).power = d.power := rfl
@[simp] theorem Dev.setFreeCtr_oculus (d : Dev) (x : Nat) : (d.setFreeCtr x).oculus = d.oculus := rfl
@[simp] theorem Dev.setFreeCtr_firmware (d : Dev) (x : Nat) : (d.setFreeCtr x).firmware = d.firmware := rfl
@[simp] theorem Dev.setFreeCtr_dict (d : Dev) (x : Nat) : (d.setFreeCtr x).dict = d.dict := rfl
@[simp] theorem Dev.setFreeCtr_violations (d : Dev) (x : Nat) : (d.setFreeCtr x).violations = d.violations := rfl
@[simp] theorem Dev.setFreeCtr_scrubs (d : Dev) (x : Nat) : (d.setFreeCtr x).scrubs = d.scrubs := rfl
@[simp] theorem Dev.setFreeCtr_keep (d : Dev) (x : Nat) : (d.setFreeCtr x).keep = d.keep := rfl
@[simp] theorem Dev.setFreeCtr_ports (d : Dev) (x : Nat) : (d.setFreeCtr x).ports = d.ports := rfl
@[simp] theorem Dev.setFreeCtr_capsules (d : Dev) (x : Nat) : (d.setFreeCtr x).capsules = d.capsules := rfl
@[simp] theorem Dev.setFreeCtr_traffic (d : Dev) (x : Nat) : (d.setFreeCtr x).traffic = d.traffic := rfl
@[simp] theorem Dev.setFreeCtr_fabric (d : Dev) (x : Nat) : (d.setFreeCtr x).fabric = d.fabric := rfl
@[simp] theorem Dev.setFreeCtr_tiles (d : Dev) (x : Nat) : (d.setFreeCtr x).tiles = d.tiles := rfl
@[simp] theorem Dev.setFreeCtr_plans (d : Dev) (x : Nat) : (d.setFreeCtr x).plans = d.plans := rfl
@[simp] theorem Dev.setFreeCtr_banks (d : Dev) (x : Nat) : (d.setFreeCtr x).banks = d.banks := rfl
@[simp] theorem Dev.setFreeCtr_search (d : Dev) (x : Nat) : (d.setFreeCtr x).search = d.search := rfl
@[simp] theorem Dev.setFreeCtr_updates (d : Dev) (x : Nat) : (d.setFreeCtr x).updates = d.updates := rfl
@[simp] theorem Dev.setFreeCtr_kv (d : Dev) (x : Nat) : (d.setFreeCtr x).kv = d.kv := rfl
@[simp] theorem Dev.setFreeCtr_tiers (d : Dev) (x : Nat) : (d.setFreeCtr x).tiers = d.tiers := rfl
@[simp] theorem Dev.setFreeCtr_flash (d : Dev) (x : Nat) : (d.setFreeCtr x).flash = d.flash := rfl
@[simp] theorem Dev.setFreeCtr_mem (d : Dev) (x : Nat) : (d.setFreeCtr x).mem = d.mem := rfl
@[simp] theorem Dev.setFreeCtr_hostMem (d : Dev) (x : Nat) : (d.setFreeCtr x).hostMem = d.hostMem := rfl
@[simp] theorem Dev.setFreeCtr_out (d : Dev) (x : Nat) : (d.setFreeCtr x).out = d.out := rfl
@[simp] theorem Dev.setFreeCtr_refused (d : Dev) (x : Nat) : (d.setFreeCtr x).refused = d.refused := rfl
@[simp] theorem Dev.setFreeCtr_fillWait (d : Dev) (x : Nat) : (d.setFreeCtr x).fillWait = d.fillWait := rfl
@[simp] theorem Dev.setFreeCtr_freeCtr (d : Dev) (x : Nat) : (d.setFreeCtr x).freeCtr = x := rfl

end Sys2Proof.Machine
end

