-- ==== Sys2Proof/Laws/Step.lean ====
section
/-! SUPPORT. What a step can do, over whatever the device does: run it, or leave the state. -/

namespace Sys2Proof.Machine

/-- A command of the device in a running machine. -/
theorem devStep_run (f) (s : State) (h : s.running = true) : devStep f s = .next (s.withDev (f s.ctx s.dev)) := by simp [devStep, h, State.withDev]

/-- A command of the device in a machine that does not run. -/
theorem devStep_stopped (f) (s : State) (h : s.running = false) : devStep f s = .next s := by simp [devStep, h]

/-- A command of the device changes the device alone. -/
theorem devStep_any (f) (s : State) : ∃ d, devStep f s = .next (s.withDev d) := by
  unfold devStep; split
  · exact ⟨_, rfl⟩
  · exact ⟨s.dev, rfl⟩

theorem devStep_frame (f) (s t : State) (h : devStep f s = .next t) : t.fuses = s.fuses ∧ t.time = s.time ∧ t.pending = s.pending := by
  obtain ⟨d, hd⟩ := devStep_any f s
  rw [hd] at h; cases h; exact ⟨rfl, rfl, rfl⟩

/-- A command that may burn fuses changes them and the device alone. -/
theorem fuseStep_any (f) (s : State) : fuseStep f s = .next s ∨ (fuseStep f s = .next { s with fuses := (f s.ctx s.dev).1, dev := (f s.ctx s.dev).2 }) := by
  unfold fuseStep; split
  · exact .inr rfl
  · exact .inl rfl

theorem fuseStep_frame (f) (s t : State) (h : fuseStep f s = .next t) : t.time = s.time ∧ t.pending = s.pending := by
  rcases fuseStep_any f s with k | k <;> (rw [k] at h; cases h; exact ⟨rfl, rfl⟩)

end Sys2Proof.Machine
end

