-- ==== Sys2Proof/Laws/Tabs.lean ====
section
/-! SUPPORT. What the sorted tables answer after an update. -/

namespace Sys2Proof.Machine

variable {α : Type}

@[simp] theorem tabGet_tabSet_self (k : Nat) (v : α) (t : Tab α) : tabGet k (tabSet k v t) = some v := by
  induction t with
  | nil => simp [tabSet, tabGet]
  | cons e t ih =>
    obtain ⟨j, u⟩ := e
    simp only [tabSet]
    split
    · simp [tabGet]
    · split
      · simp [tabGet]
      · rename_i h; simp [tabGet, h, ih]

theorem tabGet_tabSet_other {k l : Nat} (h : l ≠ k) (v : α) (t : Tab α) : tabGet l (tabSet k v t) = tabGet l t := by
  induction t with
  | nil => simp [tabSet, tabGet, Ne.symm h]
  | cons e t ih =>
    obtain ⟨j, u⟩ := e
    simp only [tabSet]
    split
    · rw [tabGet, if_neg (Ne.symm h)]
    · split
      · rename_i hj; subst hj; rw [tabGet, if_neg (Ne.symm h), tabGet, if_neg (Ne.symm h)]
      · simp only [tabGet]; split
        · rfl
        · exact ih

@[simp] theorem tabGetD_tabSet_self (k : Nat) (d v : α) (t : Tab α) : tabGetD k d (tabSet k v t) = v := by
  simp [tabGetD]

theorem tabGetD_tabSet_other {k l : Nat} (h : l ≠ k) (d v : α) (t : Tab α) : tabGetD l d (tabSet k v t) = tabGetD l d t := by
  simp [tabGetD, tabGet_tabSet_other h]

@[simp] theorem tabGetD_tabMod_self (k : Nat) (d : α) (f : α → α) (t : Tab α) : tabGetD k d (tabMod k d f t) = f (tabGetD k d t) := by
  simp [tabMod]

theorem tabGetD_tabMod_other {k l : Nat} (h : l ≠ k) (d : α) (f : α → α) (t : Tab α) : tabGetD l d (tabMod k d f t) = tabGetD l d t := by
  simp [tabMod, tabGetD_tabSet_other h]

end Sys2Proof.Machine
end

