-- ==== Sys2Proof/Laws/Banks.lean ====
section
/-! SUPPORT. What an engine does with the instruction it stands at. -/

namespace Sys2Proof.Machine

/-- The instruction an engine stands at is issued. -/
theorem devStep_issue {s : State} {bank word : Nat} {t : Trigger} {r : BankRun} (h : s.issues bank word t r) (f) :
    devStep (issue bank word f) s = .next (s.withDev (f s.ctx s.dev t r)) := by
  obtain ⟨h1, h2, h3, h4, h5, h6⟩ := h
  simp [devStep, h1, issue, h2, h3, h4, h5, h6, State.withDev]

/-- The run on a bank, changed. -/
theorem modBankRun_eq {s : State} {bank : Nat} {r : BankRun} (h : (s.dev.bank bank).run = some r) (f) :
    s.withDev (s.dev.modBankRun bank f) = s.setRun bank (f r) := by
  simp only [State.setRun, Dev.modBankRun, Dev.modBank, tabMod, Dev.bank] at *
  rw [h]; rfl

theorem modBankRun_run {d : Dev} {bank : Nat} {r : BankRun} (h : (d.bank bank).run = some r) (f) :
    ((d.modBankRun bank f).bank bank).run = some (f r) := by
  simp only [Dev.modBankRun, Dev.modBank, Dev.bank, Dev.setBanks_banks] at *
  simp [h]

/-- An instruction on the engine's registers. -/
theorem devStep_issueOn {s : State} {bank word : Nat} {t : Trigger} {r : BankRun} (h : s.issues bank word t r) (f) :
    devStep (issueOn bank word f) s = .next (s.setRun bank (r.next (f t r.engine))) := by
  rw [issueOn, devStep_issue h, Dev.proceedWith, modBankRun_eq h.2.1]; rfl

/-- A branch. -/
theorem devStep_issueBranch {s : State} {bank word : Nat} {t : Trigger} {r : BankRun} (h : s.issues bank word t r) (tgt taken f) :
    devStep (issueBranch bank word tgt taken f) s = .next (s.setRun bank { r with engine := f r.engine, pc := if taken r.engine then tgt else r.pc + 1 }) := by
  rw [issueBranch, devStep_issue h, modBankRun_eq h.2.1]

end Sys2Proof.Machine
end

