-- ==== Sys2Proof/Laws/Capsules.lean ====
section
/-! SUPPORT. What becomes of a capsule that the ingress accepts and metering lets through. -/

namespace Sys2Proof.Machine

/-- Acceptance (R571–R574). -/
theorem takeCapsule_accepts (s : State) (op p n a raw cap d cmd) (h : s.accepts op p n a raw cap d):
   takeCapsule op cmd (.host p n a 64 true) raw.toNat s.ctx s.dev = d.meterCapsule s.ctx cap 64 (if cap.version = 2 then 0 else bits cap.raw 28 27) := by
  obtain ⟨h1, h2, h3, h4, h5, h6, h7, h8, h9, h10, e, he, hd⟩ := h
  unfold takeCapsule
  simp only [h2, bne_self_eq_false, Bool.false_and, Bool.false_eq_true, if_false]
  unfold Dev.takeHost
  have ht : s.dev.touchFn p n = s.dev := by unfold Dev.touchFn; rw [if_pos h5]
  have h4' : decide (aperturesOf n ≤ a) = false := by simpa using h4
  simp only [h3, h4', ht, h6]
  simp only [Bool.not_true, Bool.or_self, Bool.false_eq_true, if_false, bne_self_eq_false, show ¬ (2 ^ ((s.dev.fn p n).aperture a).depthLog2 ≤ ((s.dev.fn p n).aperture a).outstanding) by omega]
  unfold Dev.acceptHost
  simp only [h9, he]
  have hcap : cap = (s.dev.newCapsule s.ctx (.host p n a 64 true) raw.toNat ((s.dev.fn p n).ring ((s.dev.fn p n).aperture a).ring).disables (bits raw.toNat 26 24) 0 0 0 []).1 := by rw [he]
  have hee : e = (s.dev.newCapsule s.ctx (.host p n a 64 true) raw.toNat ((s.dev.fn p n).ring ((s.dev.fn p n).aperture a).ring).disables (bits raw.toNat 26 24) 0 0 0 []).2 := by rw [he]
  have hraw : cap.raw = raw.toNat := by rw [hcap]; rfl
  have hver : cap.version = bits raw.toNat 11 8 := by rw [hcap]; rfl
  have hcomp : cap.composition = 0 := by rw [hcap]; rfl
  have hing : ∀ v b x, (d.ingressCheck raw.toNat v b x (n != 0 || d.realmActive (bits raw.toNat 23 16))) = s.dev.ingressCheck raw.toNat v b x (n != 0 || s.dev.realmActive (bits raw.toNat 23 16)) := by
    intro v b x; rw [hd, hee]; rfl
  have hb : (if n = 0 then d.cfg 0x1104 (p + 1) == 0 else (s.dev.fn p n).realm != 0 && (s.dev.fn p n).realm == bits raw.toNat 23 16 && d.realmActive (bits raw.toNat 23 16)) = (if n = 0 then s.dev.cfg 0x1104 (p + 1) == 0 else (s.dev.fn p n).realm != 0 && (s.dev.fn p n).realm == bits raw.toNat 23 16 && s.dev.realmActive (bits raw.toNat 23 16)) := by rw [hd, hee]; rfl
  rw [← hd]
  have h8' : d.ingressCheck raw.toNat (if cap.version = 2 then 0 else bits raw.toNat 28 27) (s.dev.fn p n).quiesce (if n = 0 then d.cfg 0x1104 (p + 1) == 0 else (s.dev.fn p n).realm != 0 && (s.dev.fn p n).realm == bits raw.toNat 23 16 && d.realmActive (bits raw.toNat 23 16)) (n != 0 || d.realmActive (bits raw.toNat 23 16)) = none := by
    rw [hing, hb, hver]; exact h8
  rw [h8']
  simp only []
  rw [hraw]

/-- Metering and queueing (R541, R542) of a capsule of no composition. -/
theorem meterCapsule_meters (s : State) (op p n a raw cap d k e) (h : s.accepts op p n a raw cap d) (hm : s.meters cap d k e) :
   d.meterCapsule s.ctx cap 64 (if cap.version = 2 then 0 else bits cap.raw 28 27) = e.enterClass s.ctx { cap with cls := k } := by
  obtain ⟨-, -, -, -, -, -, -, -, -, -, e', he, -⟩ := h
  obtain ⟨f, hp, hf, -, -⟩ := hm
  have hmi : cap.mirrored = false := by rw [show cap = _ from (congrArg Prod.fst he).symm]; rfl
  unfold Dev.meterCapsule
  simp only [hmi, Bool.false_eq_true, or_false, hp, ← hf]

end Sys2Proof.Machine
end

