-- ==== Sys2Proof/Laws/Memory.lean ====
section
/-! SUPPORT. What the memory operations do: they keep the canonical form, a byte written is read back, and every other byte stays. -/

namespace Sys2Proof.Machine

/-- Do all addresses of a memory lie above a bound? -/
def Memory.above (n : Nat) (m : List Host.Cell) : Prop := ∀ c ∈ m, n < c.1

theorem Memory.wf_cons {c : Host.Cell} {m : List Host.Cell} :
    Memory.wf (c :: m) = true ↔ c.2 ≠ 0 ∧ Memory.above c.1 m ∧ Memory.wf m = true := by
  induction m generalizing c with
  | nil => simp [Memory.wf, Memory.above]
  | cons e m ih =>
    have he := ih (c := e)
    simp only [Memory.wf, Bool.and_eq_true, bne_iff_ne, decide_eq_true_eq, Memory.above, List.mem_cons, forall_eq_or_imp]
    constructor
    · rintro ⟨⟨h1, h2⟩, h3⟩
      obtain ⟨_, h5, _⟩ := he.1 h3
      exact ⟨h1, ⟨h2, fun x hx => Nat.lt_trans h2 (h5 x hx)⟩, h3⟩
    · rintro ⟨h1, ⟨h2, _⟩, h3⟩
      exact ⟨⟨h1, h2⟩, h3⟩

theorem memCons_wf {x : Nat} {b : Byte} {m : List Host.Cell} (h : Memory.wf m = true) (ha : Memory.above x m) :
    Memory.wf (memCons x b m) = true := by
  unfold memCons
  split
  · exact h
  · exact Memory.wf_cons.2 ⟨by assumption, ha, h⟩

theorem memPut_above {n x : Nat} {b : Byte} {m : List Host.Cell} (h : Memory.above n m) (hx : n < x) : Memory.above n (memPut m x b) := by
  induction m with
  | nil => intro c hc; simp only [memPut, memCons] at hc; split at hc <;> simp_all
  | cons e m ih =>
    have hm : Memory.above n m := fun c hc => h c (List.mem_cons_of_mem _ hc)
    have he : n < e.1 := h e List.mem_cons_self
    intro c hc
    simp only [memPut, memCons] at hc
    split at hc
    · split at hc
      · exact h c hc
      · rcases List.mem_cons.1 hc with rfl | hc
        · exact hx
        · exact h c hc
    · split at hc
      · split at hc
        · exact hm c hc
        · rcases List.mem_cons.1 hc with rfl | hc
          · exact hx
          · exact hm c hc
      · rcases List.mem_cons.1 hc with rfl | hc
        · exact he
        · exact ih hm c hc

/-- A byte written keeps memory canonical. -/
theorem memPut_wf {m : List Host.Cell} (x : Nat) (b : Byte) (h : Memory.wf m = true) : Memory.wf (memPut m x b) = true := by
  induction m with
  | nil => exact memCons_wf rfl (by intro c hc; cases hc)
  | cons e m ih =>
    obtain ⟨h1, h2, h3⟩ := Memory.wf_cons.1 h
    simp only [memPut]
    split
    · rename_i hlt
      exact memCons_wf h fun c hc => by
        rcases List.mem_cons.1 hc with rfl | hc
        · exact hlt
        · exact Nat.lt_trans hlt (h2 c hc)
    · split
      · rename_i heq; subst heq; exact memCons_wf h3 h2
      · exact Memory.wf_cons.2 ⟨h1, memPut_above h2 (by omega), ih h3⟩

/-- Bytes written keep memory canonical. -/
theorem memPutBytes_wf {m : List Host.Cell} (x : Nat) (bs : List Byte) (h : Memory.wf m = true) : Memory.wf (memPutBytes m x bs) = true := by
  induction bs generalizing m x with
  | nil => exact h
  | cons b bs ih => exact ih _ (memPut_wf x b h)

/-- A number written keeps memory canonical. -/
theorem memPutNum_wf {m : List Host.Cell} (x n v : Nat) (h : Memory.wf m = true) : Memory.wf (memPutNum m x n v) = true :=
  memPutBytes_wf x _ h

/-- Entries taken out keep memory canonical. -/
theorem Memory.wf_filter {m : List Host.Cell} (p : Host.Cell → Bool) (h : Memory.wf m = true) : Memory.wf (m.filter p) = true := by
  induction m with
  | nil => rfl
  | cons e m ih =>
    obtain ⟨h1, h2, h3⟩ := Memory.wf_cons.1 h
    simp only [List.filter]
    split
    · exact Memory.wf_cons.2 ⟨h1, fun c hc => h2 c (List.mem_filter.1 hc).1, ih h3⟩
    · exact ih h3

/-- A range zeroed keeps memory canonical. -/
theorem memZero_wf {m : List Host.Cell} (x n : Nat) (h : Memory.wf m = true) : Memory.wf (memZero m x n) = true := Memory.wf_filter _ h

theorem memGet_above {n : Nat} {m : List Host.Cell} (h : Memory.above n m) : memGet m n = 0 := by
  cases m with
  | nil => rfl
  | cons e m =>
    have : n < e.1 := h e List.mem_cons_self
    simp only [memGet]
    rw [if_neg (by omega), if_pos this]

/-- A byte written is read back, and every other byte stays. -/
theorem memGet_memPut {m : List Host.Cell} (x : Nat) (b : Byte) (y : Nat) (h : Memory.wf m = true) :
    memGet (memPut m x b) y = if y = x then b else memGet m y := by
  induction m with
  | nil =>
    simp only [memPut, memCons]
    split <;> split <;> simp_all [memGet]
    intro hxy; omega
  | cons e m ih =>
    obtain ⟨h1, h2, h3⟩ := Memory.wf_cons.1 h
    simp only [memPut, memCons]
    split
    · rename_i hlt
      split
      · rename_i hb
        split
        · rename_i hy; subst hy; subst hb
          simp only [memGet]; rw [if_neg (by omega), if_pos hlt]
        · rfl
      · simp only [memGet]
        split
        · rename_i hxy; subst hxy; simp
        · rename_i hxy
          split
          · rename_i hyx
            rw [if_neg (by omega), if_neg (by omega), if_pos (by omega)]
          · rw [if_neg (Ne.symm hxy)]
    · split
      · rename_i hne heq
        subst heq
        split
        · rename_i hb
          split
          · rename_i hy; subst hy; subst hb; exact memGet_above h2
          · rename_i hy
            simp only [memGet]
            rw [if_neg (by omega)]
            split
            · rename_i hlt; exact memGet_above fun c hc => Nat.lt_trans hlt (h2 c hc)
            · rfl
        · simp only [memGet]
          split
          · rename_i hy; subst hy; simp
          · rename_i hy; rw [if_neg (Ne.symm hy)]
      · simp only [memGet]
        split
        · rename_i hy; subst hy; rw [if_neg (by omega)]
        · split
          · rw [if_neg (by omega)]
          · exact ih h3

/-- Bytes written change no byte outside them. -/
theorem memGet_memPutBytes_other {m : List Host.Cell} (x : Nat) (bs : List Byte) (y : Nat) (h : Memory.wf m = true)
    (hy : y < x ∨ x + bs.length ≤ y) : memGet (memPutBytes m x bs) y = memGet m y := by
  induction bs generalizing m x with
  | nil => rfl
  | cons b bs ih =>
    simp only [List.length_cons] at hy
    simp only [memPutBytes]
    rw [ih (x + 1) (memPut_wf x b h) (by omega), memGet_memPut x b y h, if_neg (by omega)]

/-- Bytes written are read back. -/
theorem memBytes_memPutBytes {m : List Host.Cell} (x : Nat) (bs : List Byte) (h : Memory.wf m = true) :
    memBytes (memPutBytes m x bs) x bs.length = bs := by
  induction bs generalizing m x with
  | nil => rfl
  | cons b bs ih =>
    simp only [memPutBytes, List.length_cons, memBytes]
    rw [memGet_memPutBytes_other _ _ _ (memPut_wf x b h) (Or.inl (by omega)), memGet_memPut x b x h, if_pos rfl, ih _ (memPut_wf x b h)]

end Sys2Proof.Machine
end

