-- ==== Sys2Proof/Laws/Operators.lean ====
section
/-! SUPPORT. What a tile operation does once it runs, by what its work answers. -/

namespace Sys2Proof.Machine

/-- The operator at its descriptor, its inputs there. -/
theorem runOp_at (s : State) (capsule desc) (d o is onE f) (h : s.operates capsule desc d o) (h1 : is o.word = true) :
   runOp is onE f capsule desc s.ctx s.dev =
    let r := if (!onE && o.emptyInput) = true then d.finishOp s.ctx o ((dcOuts o.word).map fun p => (p.2, ⟨[0, 1, 1, 1], []⟩)) .none
      else (f s.ctx d o).2.applyOp s.ctx o (f s.ctx d o).1
    (if r.fillWait then s.dev else r.setDict {r.dict with cfg := s.dev.dict.cfg}).hear s.ctx (some (capsule, desc)) := by
  obtain ⟨hr, ⟨cap, hc, hd⟩, ho, ⟨x, hx, hs, hb⟩, ht, hl, hi⟩ := h
  unfold runOp Dev.under
  simp only [hc, Dev.unlessFilling, ← hd]
  have : runOpNow is onE f capsule desc s.ctx d = if (!onE && o.emptyInput) = true then d.finishOp s.ctx o ((dcOuts o.word).map fun p => (p.2, ⟨[0, 1, 1, 1], []⟩)) .none
      else (f s.ctx d o).2.applyOp s.ctx o (f s.ctx d o).1 := by
    unfold runOpNow
    rw [ho, hx]
    have hl' := Nat.not_lt.mpr hl
    simp only [h1, hs, ht, hi, hb, hl']
    simp
  rw [this]
  generalize (if (!onE && o.emptyInput) = true then _ else _ : Dev) = r
  split <;> rfl

/-- Outputs kept in the run raise no fault and wait for nothing. -/
theorem finishOp_keeps (c : Ctx) (d : Dev) (o : OpCtx) (w k) (h : o.keepsOutputs w) : (d.finishOp c o w k).fillWait = d.fillWait ∧ (d.putOutputs c o w).1 = stOk := by
  have : ∀ d : Dev, (d.putOutputs c o w).1 = stOk ∧ (d.putOutputs c o w).2.fillWait = d.fillWait := by
    induction w with
    | nil => intro d; exact ⟨rfl, rfl⟩
    | cons e l ih =>
      intro d
      have h1 := h e (by simp)
      have ih := ih (fun x hx => h x (by simp [hx]))
      unfold Dev.putOutputs Dev.putOutput
      simp only [if_neg h1]
      simp only [if_pos]
      exact ⟨(ih _).1, (ih _).2.trans rfl⟩
  refine ⟨?_, (this d).1⟩
  unfold Dev.finishOp
  obtain ⟨h2, h3⟩ := this (d.addCounts o.cap.order o.run.plan o.desc k)
  simp only [h2, bne_self_eq_false, Bool.false_eq_true, if_false]
  exact Eq.trans rfl (h3.trans rfl)

/-- The operator's work, whatever it answers. -/
theorem devStep_runOp (s : State) (capsule desc d o is onE f) (h : s.operates capsule desc d o) (h1 : is o.word = true)
   (he : onE = true ∨ o.emptyInput = false) (hw : ((f s.ctx d o).2.applyOp s.ctx o (f s.ctx d o).1).fillWait = false) :
   devStep (runOp is onE f capsule desc) s = .next (s.ranOp capsule desc ((f s.ctx d o).2.applyOp s.ctx o (f s.ctx d o).1)) := by
  rw [devStep_run _ _ h.1, runOp_at s capsule desc d o _ _ f h h1]
  have : (!onE && o.emptyInput) = false := by rcases he with h|h <;> simp [h]
  simp [this, hw, State.ranOp]

/-- Work that is done, with outputs kept in the run. -/
theorem devStep_runOp_done (s : State) (capsule desc d o is onE f w k d' ) (h : s.operates capsule desc d o) (h1 : is o.word = true) (he : onE = true ∨ o.emptyInput = false)
   (hf : f s.ctx d o = (.done w k, d')) (hk : o.keepsOutputs w) (hw : d'.fillWait = false) :
   devStep (runOp is onE f capsule desc) s = .next (s.ranOp capsule desc (d'.finishOp s.ctx o w k)) := by
  rw [devStep_runOp s capsule desc d o is onE f h h1 he (by rw [hf]; simpa [Dev.applyOp] using (finishOp_keeps s.ctx d' o w k hk).1.trans hw), hf]
  rfl

/-- Work that waits for other events. -/
theorem devStep_runOp_waits (s : State) (capsule desc d o is onE f d' ) (h : s.operates capsule desc d o) (h1 : is o.word = true) (he : onE = true ∨ o.emptyInput = false)
   (hf : f s.ctx d o = (.waits, d')) (hw : d'.fillWait = false) :
   devStep (runOp is onE f capsule desc) s = .next (s.ranOp capsule desc (d'.modRun o.cap.order fun r => { r with descs := tabSet o.desc .operated r.descs })) := by
  rw [devStep_runOp s capsule desc d o is onE f h h1 he (by rw [hf]; exact hw), hf]
  rfl

/-- An operation that runs waits for no fill. -/
theorem operates_fillWait {s : State} {a b d o} (h : s.operates a b d o) : d.fillWait = false := by
  obtain ⟨_, ⟨cap, _, rfl⟩, _⟩ := h; rfl

end Sys2Proof.Machine
end

