-- ==== Sys2Proof/Laws/Ports.lean ====
section
/-! SUPPORT. What a port and its functions hold after an update. -/

namespace Sys2Proof.Machine

theorem listMod_getD {α} (p : Nat) (f : α → α) (l : List α) (d : α) (h : p < l.length) : (listMod p f l).getD p d = f (l.getD p d) := by
  simp [listMod, List.getD_eq_getElem?_getD, h]
theorem listMod_length {α} (p : Nat) (f : α → α) (l : List α) : (listMod p f l).length = l.length := by
  simp [listMod]

theorem port_modPort (d : Dev) (p f) (h : p < d.ports.length) : (d.modPort p f).port p = f (d.port p) := listMod_getD p f d.ports _ h

/-- A function that is there is one of a port that the part has. -/
theorem port_there (d : Dev) (p n) (h : d.fnThere p n = true) : p < d.ports.length := by
  by_contra hh
  simp only [Dev.fnThere, Dev.portUp, Dev.port, Bool.and_eq_true, decide_eq_true_eq] at h
  rw [List.getD_eq_default _ _ (by omega)] at h
  simp [HostPort.reset] at h

theorem fn_modFn (d : Dev) (p n f) (h : p < d.ports.length) : (d.modFn p n f).fn p n = f (d.fn p n) := by
  unfold Dev.modFn Dev.fn
  rw [port_modPort _ _ _ h]
  simp [tabMod, tabGetD]

theorem ports_modFn_length (d : Dev) (p n f) : (d.modFn p n f).ports.length = d.ports.length := listMod_length _ _ _

end Sys2Proof.Machine
end

