-- ==== Sys2Proof/Laws/Requests.lean ====
section
/-! SUPPORT. What a request does once it is in turn and nothing refuses it. -/

namespace Sys2Proof.Machine

/-- A request in turn is served, whatever its answer is. -/
theorem inTurn_some {α} (ret : Dev → α) (c d q s op i j) (f : Dev → Session → α) (d' x)
  (h : Dev.inTurn (fun _ => none) c d q s op i j (fun d x => some (d, x)) = some (d', x)) : Dev.inTurn ret c d q s op i j f = f d' x := by
  unfold Dev.inTurn at h ⊢
  dsimp only at h ⊢
  split at h
  · split at h <;> cases h
  · rename_i h1; rw [if_neg h1]
    split at h
    · cases h
    · rename_i h2; rw [if_neg h2]
      split at h
      · cases h
      · rename_i h3; rw [if_neg h3]; cases h; rfl

/-- The same over the arrival of the request and its session. -/
theorem requestIn_some {α} (ret : Dev → α) (c d q op i j b) (f : Dev → Session → α) (d' x)
  (h : Dev.requestIn (fun _ => none) c d q op i j b (fun d x => some (d, x)) = some (d', x)) : Dev.requestIn ret c d q op i j b f = f d' x := by
  unfold Dev.requestIn at h ⊢
  split at h
  · cases h
  · rename_i h1; rw [if_neg h1]
    split at h
    · rename_i h2; rw [if_pos h2]
      split at h
      · cases h
      · rename_i h3; rw [if_neg h3]
        split at h
        · cases h
        · rename_i h4; rw [if_neg h4]
          dsimp only at h ⊢
          split at h
          · exact inTurn_some _ _ _ _ _ _ _ _ _ _ _ h
          · cases h
    · rename_i h2; rw [if_neg h2]
      split at h
      · cases h
      · rename_i h3; rw [if_neg h3]
        split at h
        · rename_i h4
          split at h
          · rename_i h5; simp only [h5, if_true]; exact inTurn_some _ _ _ _ _ _ _ _ _ _ _ h
          · cases h
        · cases h

/-- The ways a request is served commute with what becomes of their result. -/
theorem inTurn_nat {α β} (g : α → β) (ret : Dev → α) (c d q s op i j) (f : Dev → Session → α) :
  g (Dev.inTurn ret c d q s op i j f) = Dev.inTurn (g ∘ ret) c d q s op i j (fun d x => g (f d x)) := by
  unfold Dev.inTurn
  dsimp only
  split
  · split <;> rfl
  · split
    · rfl
    · split <;> rfl

/-- The same over arrival and session. -/
theorem requestIn_nat {α β} (g : α → β) (ret : Dev → α) (c d q op i j b) (f : Dev → Session → α) :
  g (Dev.requestIn ret c d q op i j b f) = Dev.requestIn (g ∘ ret) c d q op i j b (fun d x => g (f d x)) := by
  unfold Dev.requestIn
  dsimp only
  split
  · rfl
  · split
    · split
      · rfl
      · split
        · rfl
        · split
          · exact inTurn_nat _ _ _ _ _ _ _ _ _ _
          · rfl
    · split
      · rfl
      · split
        · split
          · exact inTurn_nat _ _ _ _ _ _ _ _ _ _
          · rfl
        · rfl

/-- A write of an action entry that every row of *Access results* lets through is taken up. -/
theorem actionIn_some {α} (ret : Dev → α) (c d q i j v) (f : Dev → Session → α) (d' x)
  (h : Dev.actionIn (fun _ => none) c d q i j v (fun d x => some (d, x)) = some (d', x)) : Dev.actionIn ret c d q i j v f = f d' x := by
  unfold Dev.actionIn at h ⊢
  dsimp only at h ⊢
  generalize ((entryAt i j).map (·.size)).getD 0 = len at h ⊢
  -- the request itself is taken up
  have via := requestIn_nat
    (fun o : Option (Dev × Session) => o.bind fun p => p.1.checkedWrite (fun _ => none) c q p.2 0x11 i i j ⟨len, v⟩ fun _ d => some (d, p.2))
    (fun _ => none) c d q 0x11 i j ⟨0, len, v⟩ (fun d x => some (d, x))
  cases hq : Dev.requestIn (fun _ => none) c d q 0x11 i j ⟨0, len, v⟩ (fun d x => some (d, x)) with
  | none =>
    rw [hq] at via
    exact absurd (h.symm.trans via.symm) (by simp)
  | some p =>
    rw [requestIn_some _ _ _ _ _ _ _ _ _ _ _ hq] at h
    rw [requestIn_some ret _ _ _ _ _ _ _ _ _ _ hq]
    unfold Dev.checkedWrite at h ⊢
    dsimp only at h ⊢
    split at h
    · cases h
    · split at h
      · cases h
      · rename_i h1; rw [if_neg h1]
        split at h
        · cases h
        · rename_i h2; rw [if_neg h2]
          split at h
          · cases h
          · rename_i h3; rw [if_neg h3]; cases h; rfl

/-- A command on an action entry, taken up. -/
theorem devStep_action (s : State) (q i j v d x) (f : Ctx → Dev → Session → Dev) (h : s.takesUp q i j v d x) : devStep (fun c d => d.action c q i j v (f c)) s = .next (s.withDev (f s.ctx d x)) := by
  rw [devStep_run _ _ h.1]
  exact congrArg (fun d => Host.Outcome.next (s.withDev d)) (actionIn_some id _ _ _ _ _ _ _ _ _ h.2)

/-- A command of a session, taken up. -/
theorem devStep_request (s : State) (q i j op b d x) (f : Ctx → Dev → Session → Dev) (h : s.takesRequest q op i j b d x) :
   devStep (fun c d => d.request c q op i j b (f c)) s = .next (s.withDev (f s.ctx d x)) := by
  rw [devStep_run _ _ h.1]
  exact congrArg (fun d => Host.Outcome.next (s.withDev d)) (requestIn_some id _ _ _ _ _ _ _ _ _ _ h.2)

/-- A command on an action entry that may burn fuses, taken up. -/
theorem fuseStep_action (s : State) (q i j v d x) (f : Ctx → Dev → Session → Fuses × Dev) (h : s.takesUp q i j v d x) : fuseStep (fun c d => d.actionIn (fun d => (c.fuses, d)) c q i j v (f c)) s = .next { s with fuses := (f s.ctx d x).1, dev := (f s.ctx d x).2 } := by
  unfold fuseStep
  rw [if_pos h.1]
  dsimp only
  rw [actionIn_some _ _ _ _ _ _ _ _ _ _ h.2]

end Sys2Proof.Machine
end

