-- ==== Sys2Proof/Machine/Package.lean ====
section
/-! DEFINITION. The package: its ball map, the marking, and the drive of the sideband outputs (R717, R721–R726). -/

namespace Sys2Proof.Machine

/-! ### Balls (R721–R725) -/

/-- One of the four balls of a lane. -/
inductive LaneBall where
  | txp | txn | rxp | rxn
deriving DecidableEq, Repr

/-- What a ball position of the package is (R721–R725): unpopulated; ground; a supply rail by its name; a lane of a fabric port or of a host
port; signal k of a flash channel (*Flash channel signals*); a clock or sideband signal by its name. -/
inductive Ball where
  | unpopulated
  | vss
  | rail (name : String)
  | fabricLane (port lane : Nat) (ball : LaneBall)
  | hostLane (port lane : Nat) (ball : LaneBall)
  | flash (channel signal : Nat)
  | signal (name : String)
deriving DecidableEq, Repr

/-- Name k of a list; ground past its end. -/
def namedBall (l : List String) (k : Nat) : Ball := (l[k]?.map Ball.signal).getD .vss

/-- The lane balls of a row pair whose lane i lies at `first` + `step` × i and the position after it; ground between them. -/
def laneAt (first step a : Nat) (rx : Bool) (f : Nat → LaneBall → Ball) : Ball :=
  let i := (a - first) / step
  if a < first ∨ 8 ≤ i then .vss
  else match (a - first) % step with
    | 0 => f i (if rx then .rxp else .txp)
    | 1 => f i (if rx then .rxn else .txn)
    | _ => .vss

/-- The half of Q0's layout along its outer edge (*Quadrant layout of Q0*): `a` runs along the edge, `b` away from it; port 2q + h and channels
16q + 8h to 16q + 8h + 7 of quarter die q lie there. -/
def edgeBall (q h a b : Nat) : Ball :=
  if inRange 2 6 b && inRange 16 47 a then
    (if b = 3 then laneAt 16 4 a false (Ball.fabricLane (2 * q + h))
     else if b = 5 then laneAt 16 4 a true (Ball.fabricLane (2 * q + h)) else .vss)
  else if b = 7 && inRange 16 47 a then .rail (if a % 2 = 0 then "VDD_SERDES (0.75 V)" else "VDD_SERDES (1.2 V)")
  else if inRange 8 12 b && inRange 16 62 a then
    (if (a - 16) % 6 = 5 then .vss else .flash (16 * q + 8 * h + (a - 16) / 6) ((a - 16) % 6 + 5 * (b - 8)))
  else if b = 13 && inRange 16 62 a then (if a % 2 = 0 then .rail "VCCQ_NAND" else .vss)
  else .vss

/-- The stack rails: `a` along the edge, `b` away from it. -/
def stackRail (a b : Nat) : Ball :=
  if a % 2 = 1 then .vss
  else if b ≤ 15 then .rail "VDD_STK_CORE"
  else if b ≤ 17 then .rail "VDDQ_STK"
  else if b = 18 then .rail "VPP_STK" else .vss

/-- The rails VDD_Q0 to VDD_Q3. -/
def quarterRail (q : Nat) : String := ["VDD_Q0", "VDD_Q1", "VDD_Q2", "VDD_Q3"].getD q ""

/-- Q0's layout, filled with the parts of quarter die q. -/
def quadrantBall (q x y : Nat) : Ball :=
  if inRange 14 19 y && inRange 14 62 x then stackRail x y
  else if inRange 14 19 x && inRange 20 62 y then stackRail y x
  else if inRange 20 62 x && inRange 20 62 y then (if (x + y) % 2 = 0 then .rail (quarterRail q) else .vss)
  else if y ≤ 13 then edgeBall q 0 x y
  else if x ≤ 13 then edgeBall q 1 y x
  else .vss

/-- Row 062 of the centre region, from x 056. -/
def sidebandRow : List String :=
  ["PERST0_N", "PERST1_N", "PWRGOOD", "SYS_RST_N", "THERMTRIP_N", "ALERT_N", "LCSTRAP0", "LCSTRAP1", "TEST_STRAP", "CAL_REF", "SYSCLK", "PMB_CLK",
    "PMB_DATA"]

/-- Row 064 of the centre region, from x 056; its tenth position is named by no rule. -/
def serialRow : List String :=
  ["T1S_P", "T1S_N", "SPI_CLK", "SPI_CS0_N", "SPI_CS1_N", "SPI_IO0", "SPI_IO1", "SPI_IO2", "SPI_IO3"]

/-- The reference clocks of row 064, from x 066. -/
def fabricClocks : List String := ["FREFCLK0_P", "FREFCLK0_N", "FREFCLK1_P", "FREFCLK1_N"]

/-- The centre region, which belongs to the Belfry (R725). A row that the rule names holds what it names and ground; in the others VDD_BELFRY
alternates with ground (log entry 121). -/
def centreBall (x y : Nat) : Ball :=
  match y with
  | 56 => laneAt 56 2 x false (Ball.hostLane 0)
  | 58 => laneAt 56 2 x true (Ball.hostLane 0)
  | 70 => laneAt 56 2 x false (Ball.hostLane 1)
  | 68 => laneAt 56 2 x true (Ball.hostLane 1)
  | 60 => if x < 56 then .vss else namedBall ["PREFCLK0_P", "PREFCLK0_N"] (x - 56)
  | 66 => if x < 56 then .vss else namedBall ["PREFCLK1_P", "PREFCLK1_N"] (x - 56)
  | 62 => if x < 56 then .vss else namedBall sidebandRow (x - 56)
  | 64 => if x < 56 then .vss else if x < 66 then namedBall serialRow (x - 56) else namedBall fabricClocks (x - 66)
  | 61 | 65 => if inRange 56 71 x then .rail "VDD_IO" else .vss
  | _ => if (x + y) % 2 = 0 then .rail "VDD_BELFRY" else .vss

/-- What position x.y of the package is, each from 1 to 125 (R721, R722). -/
def ballAt (x y : Nat) : Ball :=
  if !inRange 2 124 x || !inRange 2 124 y then .unpopulated
  else if inRange 54 72 x && inRange 54 72 y then centreBall x y
  else if x = 63 ∨ y = 63 then .vss
  else quadrantBall ((if 63 < x then 1 else 0) + (if 63 < y then 2 else 0)) (min x (126 - x)) (min y (126 - y))

/-! ### Marking and drive (R717, R726) -/

/-- The 32 upper-case hexadecimal digits of the marking: each byte of the serial number, byte 0 first, the high digit first (R726). -/
def serialMarking : List Nat :=
  ((List.range 16).map fun i => [Config.burned 0 / 2 ^ (8 * i + 4) % 16, Config.burned 0 / 2 ^ (8 * i) % 16]).flatten

/-- The edge rate of the SPI (1) or the other push-pull sideband outputs (2): the slowest until the runtime applies the committed one at start
step 2 (R717). -/
def Dev.edgeRate (d : Dev) (sub : Nat) : Nat :=
  if d.boot.node ≤ 1 ∨ d.boot.node = 0x81 then 0 else d.cfg 0x1140 sub

end Sys2Proof.Machine
end

