-- ==== Sys2Proof/Tests/Slice0.lean ====
section
/-! SUPPORT. The model's own tests: terms that well-formedness refuses, one step of small states against the manual's numbers, and for each
statement with hypotheses a state and operands that meet them. -/

set_option maxRecDepth 20000
set_option Elab.async false

namespace Sys2Proof.Tests

open Sys2Proof Sys2Proof.Machine

/-! ### Small states -/

/-- A device in service. -/
def dev : Dev := { Dev.reset with boot := { Boot.reset with node := 7 } }

/-- A machine in service at a count of the time base. -/
def at_ (count : Nat) (d : Dev) : State := { State.reset with time := { TimeBase.reset with powered := true, count := count }, dev := d }

/-- A plan image of one descriptor, or of two, with its tensor records and one bank sequence of one word (R213, R214, R217). -/
def image (word : Nat) (tensors : List Nat) (instruction : Nat) (next : Nat := 0) : DictVal :=
  ⟨1024, 3 + (if next = 0 then 1 else 2) * 2 ^ 16 + tensors.length * 2 ^ 32 + 2 ^ 48 + 2 ^ 64 + 256 * 2 ^ 384 + 384 * 2 ^ 416 + 768 * 2 ^ 448 +
    2 ^ (8 * 128) + word * 2 ^ (8 * 256) + next * 2 ^ (8 * 320) + (tensors.mapIdx fun i t => t * 2 ^ (8 * (384 + 32 * i))).foldl (· + ·) 0 +
    (3 + 2 ^ 16 + instruction * 2 ^ 64) * 2 ^ (8 * 768) + 832 * 2 ^ 576 + 64 * 2 ^ 640⟩

/-- A loaded plan of realm 1 on clock group 0. -/
def plan (im : DictVal) : Plan := ⟨1, 3, 1, im, [1], [], [], 0, 0, 0, [0, 0, 0, 0], [], 0, [], [], false, []⟩

/-- A RUN capsule of realm 1 for plan 1. -/
def capsule : Capsule :=
  { order := 0, src := .host 0 0 0 64 true, ringDisables := 0, version := 3, opcode := 1, realm := 1, cls := 1, cameC0 := false, plan := 1, tag := 9,
    deadlineUs := 1000, acceptedAt := 0, raw := 0, stage := .running, mirrored := false, outData := [], blocks := 0, pending := 0, status := stOk,
    composition := 0, epoch := 0, ownRank := 0, members := [], cfg := [] }

/-- Its instance. -/
def run (values : Tab Tensor) : PlanRun :=
  { capsule := 0, plan := 1, realm := 1, args := [], descs := [(0, .placed)], cuts := [], firedOn := [], values := values, zeroMaps := [],
    spend := [0, 0, 0, 0], status := stOk, statusDesc := 0x10000, layer := [], short := false, ties := false, flashPerLun := [], counts := [],
    cleared := [], views := [] }

/-! ### Well-formedness: for each check a term that it refuses -/

/-- A request's header, a message's, an access and a sample that are well formed. -/
def req : Req := ⟨0, 0, 1, 0, 1, 0⟩
def hdr : Afp := ⟨0, 0x31, false, false, 1, 0, 1, 0, 0, 0xFFFF, 9, 0, 0, 0, 0, true⟩
def readAccess : OrdAccess := ⟨0, 0, 1, none, 0, 32, none⟩
def readings : SensorReadings :=
  ⟨List.replicate 32 0, List.replicate 32 0, [0, 0], List.replicate 12 0, List.replicate 12 0⟩

/-- Commands of a request: all but the header is in range. -/
def requestRows : List (Req → Instr) :=
  [.close, (.read · 0 0), (.readSeg · 0 0 0), (.write · 0 0 0 0), (.writeSeg · 0 0 0 0 0), (.configurationCommit · 0 ⟨true, true⟩ ⟨true, true⟩),
    (.validate · 0 ⟨true, true⟩), (.draftDiscard · 0), (.counterClear · 0), (.tileUnfence · 0 false), (.indexOpen · 0 0),
    (.consolidationStart · 0 0), (.planImage · 0 0 0), (.sequenceReset · 0 0), (.pendingTokenSet · 0 0), (.poolFlush · 0), (.reclaim · 0),
    (.cleanShutdown · 0), (.transitionRequest · 0), (.commitSecurityVersion · 0), (.revokeRootKey · 0), (.attestationNonce · 0), (.sessionProof · 0),
    (.imagePackage · 0 0 0), (.activate · 0), (.restartRequest · 0), (.confirm · 0), (.alertAcknowledge · 0), (.programRequest · 0)]

/-- Commands of a fabric message. -/
def messageRows : List (Afp → Instr) :=
  [(.writeBackAck · 0), (.grant · 0 0 0 0 0 0), (.access · 0 0 0 0), (.poolWrite · 0 0 0 []), (.poolReclaim · 0 0 0), (.successor · 0 0 0 0),
    (.switch · 0 0 0 0), (.unmap · 0 0), (.timeResp · 0 0 0 0 0), (.topology · 0 0 0 []), (.identity · 0 0 0), (.compose · 0 0 0 [] []),
    (.memberLost · 0 0 0 0), (.ack · 0 0), (.afpCompletion · 0 0 0), (.afpEmit · 0 0 0 0 [] []), (.contrib · 0 0 0 0 0 [] []),
    (.contribAck · 0 0 0 0), (.ownPrepare · 0 0 0 0), (.ownState · 0 []), (.ownReady · 0 0), (.ownCommit · 0 0), (.ownAbort · 0 0),
    (.ownQuery · 0 0 0), (.ownReport · 0 0 0), (.shadowStart · 0 0 0 0), (.mirror · 0 0 0), (.shadowResult · 0 []), (.timeReq · 0 0)]

/-- Capsules. -/
def capsuleRows : List (CapsuleSource → Instr) :=
  [(.run · 0), (.planLoad · 0), (.planUnload · 0), (.update · 0), (.volume · 0), (.kvService · 0)]

/-- One operand, below 4096. -/
def below4096 : List (Nat → Instr) :=
  [(.flitCrcError ⟨·, false⟩), (.matmul 0), (.matmulSp 0), (.add 0), (.mul 0), (.act 0), (.norm 0), (.softmax 0), (.rope 0), (.attend 0), (.quant 0),
    (.dequant 0), (.route 0), (.combine 0), (.gather 0), (.scatter 0), (.copy 0), (.panelLoad 0), (.panelStore 0), (.fetchFlash 0), (.probe 0),
    (.scan 0), (.graphStep 0), (.filter 0), (.rerankExact 0), (.select 0), (.thresholdPublish 0), (.thresholdReceive 0 0), (.merge 0), (.dedup 0),
    (.branchIf 0), (.budget 0), (.barrier 0), (.emit 0), (.collect 0), (.verifyTreeBuild 0), (.verifyTreeAccept 0), (.kvAppend 0), (.trigger 0 · 0),
    (.consolidationMove 0 0), (.ownPrepare hdr · 0 0 0), (.ownState hdr · []), (.ownReady hdr · 0), (.ownCommit hdr · 0), (.ownAbort hdr · 0),
    (.ownQuery hdr · 0 0), (.ownReport hdr · 0 0), (.ownershipAudit 0)]

/-- One operand, below 24576. -/
def below24576 : List (Nat → Instr) :=
  [.sequenceStart, .stepBoundary, .refreshDue, .preemptionTimeout, .c0Yield, .bankNop, .bankEnd, (.loop · 0 0), (.br · 0 0), .bar, (.setx · 0 0),
    (.addx · 0 0 0 false 0), (.cmpx · 0 0 0), (.extb · 0 0 0), (.shx · 0 0 0), (.setcp · 0), (.fetch · 0 false false 0), (.fetchx · 0 0 0 0),
    (.strm · 0 0), (.sskip · 0), (.qld · 0), (.setqp · 0), (.dq · 0 0 0 false false false false), (.mac · 0 0 false), (.ssa · 0 0 false),
    (.dot · 0 0 false false false false false 0), (.red · 0 false), .clra, (.chk · false false), (.cmpth · 0 false false), (.tskip · 0 0 0),
    (.topins · 0 0), (.toprd · 0 0 false), (.topinsv · 0), .engineEmit, (.send · 0 false), (.recv · 0 false), (.busx · 0 0), (.busr · 0),
    (.consolidationMove 0 · 0), (.zeroFillComplete 0)]

/-- One operand, below 65536. -/
def below65536 : List (Nat → Instr) :=
  [(.pmbusPoll 0), (.sessionOpen 0 ⟨·, 0⟩ none 0 0 0 0 0 0), (.sessionOpen 0 ⟨0, ·⟩ none 0 0 0 0 0 0), (.sessionOpen 0 ⟨0, 0⟩ none · 0 0 0 0 0),
    (.sessionOpen 0 ⟨0, 0⟩ none 0 · 0 0 0 0), (.read req · 0), (.readSeg req · 0 0), (.write req · 0 0 0), (.writeSeg req · 0 0 0 0),
    (.hdapSessionIdle 0), .planUnloadComplete, .instanceStart, .formattingComplete, (.grant hdr · 0 0 0 0 0), (.grant hdr 0 0 · 0 0 0),
    (.grant hdr 0 0 0 0 · 0), (.access hdr · 0 0 0), (.poolWrite hdr · 0 0 []), (.poolReclaim hdr · 0 0), (.successor hdr · 0 0 0),
    (.successor hdr 0 0 · 0), (.switch hdr · 0 0 0), (.switch hdr 0 0 · 0), (.unmap hdr · 0), .graceTimeExpiry, (.hello 0 · 0 false false none),
    (.hello 0 0 · false false none), (.identity hdr · 0 0), (.compose hdr · 0 0 [] []), (.memberLost hdr · 0 0 0), (.memberLost hdr 0 0 0),
    (.afpEmit hdr · 0 0 0 [] []), (.ownershipAudit · 0), (.shadowStart hdr 0 0 · 0), (.shadowStart hdr 0 0 0), (.sessionCounterLimit 0)]

/-- One operand and its bound. -/
def bounded : List (Nat × List (Nat → Instr)) :=
  [(4096, below4096), (24576, below24576), (65536, below65536), (2, [(.perstNAssert · 0), .perstNRelease, (.pcieLinkUp · 0 0 false), .surpriseRemoval, (.functionLevelReset · 0), (.quiesce · 0 0),
      (.ringConfiguration · 0 0 0 0), (.ringConfiguration 0 0 0 · 0), (.apertureConfiguration · 0 0 0), (.coalescingTimer · 0 0),
      (.ownPrepare hdr 0 0 0), (.spdmRequest · 0 0 0 false false 0), .vfDisable]),
    (3, [(.sessionOpen · ⟨0, 0⟩ none 0 0 0 0 0 0), (.hdapSessionIdle · 0), (.generationHoldRelease · 0), (.panelMoveComplete 0 0),
      (.fetch 0 0 false false), (.fetchx 0 0 0 0), (.strm 0 0), (.dot 0 0 0 false false false false false), (.zeroFillComplete · 0), .oculusSliceEnd,
      (.sessionCounterLimit · 0)]),
    (4, [(.pwrgoodRise · false), (.sysRstNRelease · false), (.tileDispatch 0 0)]),
    (5, [(.tileDispatch 0 · 0)]),
    (6, [(.ownQuery hdr 0 · 0), (.ownReport hdr 0 · 0)]),
    (7, [(.pcieLinkUp 0 0 · false), .startFailed]),
    (9, [(.linkTrainingComplete 0)]),
    (16, [(.pmbusPoll · 0), (.sequenceReset req · 0), (.pendingTokenSet req · 0), (.channelResultRecord 0), (.coalescingWindow 0)]),
    (17, [(.pcieLinkUp 0 · 0 false)]),
    (32, [(.stackTrainingWave · []), .thermtrip, (.ringConfiguration 0 0 · 0 0), (.apertureConfiguration 0 0 · 0), (.coalescingTimer 0 0),
      (.channelResultRecord · 0), (.thresholdReceive · 0 0), .querySlotGrant, (.governorWindow · (List.replicate 12 0)), (.hello · 0 0 false false none),
      (.linkClose · 0), .keepalive, (.linkLoss · false), (.fecUncorrectable · 0), (.linkTrainingComplete · 0), (.triggerRulesRelease · 0),
      (.triggerRulesRelease 0), .linkKeyRenewal]),
    (36, [(.frequencyChange · 0 false)]),
    (38, [  .portEgress]),
    (64, [(.functionLevelReset 0), (.generationHoldRelease 0), (.indexOpen req · 0), (.consolidationStart req · 0), (.quiesce 0 · 0),
      (.ringConfiguration 0 · 0 0 0), (.apertureConfiguration 0 · 0 0), (.tileOperationComplete 0), (.coalescingTimer 0 · 0), (.tombstoneSet · 0),
      (.retirement · 0), (.retirementWaitLimit · 0), (.consolidationMove · 0 0), .segmentUnlink, .segmentFree, (.rowCopyComplete · 0),
      (.formerCopyRelease · 0), (.topology hdr 0 · 0 []), (.afpEmit hdr 0 0 · 0 [] [])]),
    (128, [(.coalescingWindow · 0), .volumeKeyDestroy]),
    (256, [(.sessionOpen 0 ⟨0, 0⟩ none 0 0 · 0 0 0), (.sessionOpen 0 ⟨0, 0⟩ none 0 0 0 · 0 0), (.read req 0), (.readSeg req 0 · 0), (.write req 0 · 0 0),
      (.writeSeg req 0 · 0 0 0), (.transitionRequest req), (.revokeRootKey req), .admission, (.writeBackAge · 0), (.grant hdr 0 0 0 · 0 0),
      (.linkClose 0), (.compose hdr 0 · 0 [] []), (.ack hdr 0), (.contrib hdr 0 0 0 · 0 [] []), (.contribAck hdr 0 0 0),
      (.spdmRequest 0 · 0 0 false false 0), (.spdmRequest 0 0 0 · false false 0)]),
    (576, [(.tileUnfence req · false), (.tileDispatch · 0 0), (.tileOperationComplete · 0), (.panelMoveComplete · 0 0)]),
    (1024, [(.memberLost hdr 0 0 · 0), (.shadowStart hdr 0 · 0 0)]),
    (3072, [(.grant hdr 0 0 0 0 0), (.successor hdr 0 0 0), .migrationCopyComplete, (.switch hdr 0 0 0)]),
    (2 ^ 24, [(.readSeg req 0 0), (.writeSeg req 0 0 · 0 0), (.planImage req · 0 0), (.imagePackage req · 0 0)]),
    (2 ^ 30, [(.access hdr 0 0 · 0), (.poolWrite hdr 0 0 · [])]),
    (2 ^ 32, [(.compose hdr 0 0 · [] []), (.memberLost hdr 0 · 0 0)]),
    (2 ^ 35, [(.writeBackAge 0), (.writeBackAck hdr)]),
    (2 ^ 40, [(.rowCopyComplete 0), (.formerCopyRelease 0)]),
    (2 ^ 48, [(.tombstoneSet 0), (.retirement 0), (.retirementWaitLimit 0)]),
    (2 ^ 64, [(.grant hdr 0 · 0 0 0 0), (.access hdr 0 · 0 0), (.poolWrite hdr 0 · 0 []), (.poolReclaim hdr 0 · 0), (.successor hdr 0 · 0 0),
      (.switch hdr 0 · 0 0), (.unmap hdr 0), (.ack hdr · 0), .responseTimeout, (.epochGraceExpiry 0)])]

theorem test_request_header : requestRows.all (fun f => wellFormed (f req) &&
    [{ req with path := 3 }, { req with sender := 65536 }, { req with number := 65536 }, { req with seq := 65536 }, { req with flags := 256 },
      { req with tag := 2 ^ 128 }].all fun q => !wellFormed (f q)) = true := by decide +kernel

/-- Messages whose header has a field out of range. -/
def badHeaders : List Afp :=
  [{ hdr with link := 32 }, { hdr with cls := 8 }, { hdr with realm := 256 }, { hdr with status := 256 }, { hdr with src := 65536 },
    { hdr with dst := 65536 }, { hdr with composition := 65536 }, { hdr with epoch := 2 ^ 32 }, { hdr with dstRank := 65536 },
    { hdr with requestId := 2 ^ 64 }]

theorem test_message_header : messageRows.all (fun f => wellFormed (f hdr) && badHeaders.all fun h => !wellFormed (f h)) = true := by
  decide +kernel

theorem test_capsule_source : capsuleRows.all (fun f => wellFormed (f (.host 1 63 31 64 true)) && wellFormed (f (.fabric hdr 0 0)) &&
    [.host 2 0 0 64 true, .host 0 64 0 64 true, .host 0 0 32 64 true, .fabric { hdr with link := 32 } 0 0].all fun a => !wellFormed (f a)) = true := by
  decide +kernel

theorem test_operand_bounds : bounded.all (fun e => e.2.all fun f => wellFormed (f (e.1 - 1)) && !wellFormed (f e.1)) = true := by
  decide +kernel

theorem test_access_and_sample : wellFormed (.ordinaryAccess readAccess [0]) = true ∧ wellFormed (.sensorSample readings) = true ∧
    [.ordinaryAccess { readAccess with source := 8 } [], .ordinaryAccess { readAccess with realm := 256 } [],
      .ordinaryAccess { readAccess with addr := 2 ^ 48 } [], .ordinaryAccess { readAccess with data := some [0] } [],
      .ordinaryAccess readAccess [1], .ordinaryAccess readAccess [0, 0], .governorWindow 0 [],
      .sensorSample { readings with quarter := [] }, .sensorSample { readings with stack := [] }, .sensorSample { readings with belfry := [] },
      .sensorSample { readings with railMv := [] }, .sensorSample { readings with railMa := [] }].all (fun i => !wellFormed i) = true := by
  decide +kernel

/-- The table gives no row any bits: no word spells a command. -/
theorem test_no_word_spells_a_command : decodeTableWord 64 0 = none := rfl

/-! ### Hypotheses of the statements are met: pins, time and fuses

A theorem `meets_<statement>` shows states and operands that meet the hypotheses of each clause of the statement of that name. -/

theorem meets_IdleStepTicks : (State.reset.pending = [] ∧ State.reset.time.powered = false) ∧
    ((at_ (2 ^ 64 - 1) dev).pending = [] ∧ (at_ (2 ^ 64 - 1) dev).time.powered = true ∧ (at_ (2 ^ 64 - 1) dev).time.slewPpm = 0 ∧
      (at_ (2 ^ 64 - 1) dev).time.phase < 1000000) := by decide +kernel

/-- PWRGOOD rises on a delivered part: a next state, so no queue, fuse or time statement is empty. -/
theorem meets_steps : (∃ t, exec (.pwrgoodRise 1 false) State.reset = .next t ∧ t.pending = []) ∧ State.reset.fuses.legal ∧ State.reset.time.legal ∧
    (∃ t, step { State.reset with pending := [.pwrgoodRise 1 false] } = .next t ∧ t.pending = []) :=
  ⟨⟨_, rfl, rfl⟩, by unfold Fuses.legal; decide, by unfold TimeBase.legal; decide, ⟨_, rfl, rfl⟩⟩

theorem meets_FewCommandsReachFusesAndTime : ∃ t, exec (.pwrgoodRise 1 false) { State.reset with time := { TimeBase.reset with count := 7 } } = .next t ∧
    t.time ≠ { TimeBase.reset with count := 7 } := ⟨_, rfl, by decide⟩

theorem meets_StoppedDeviceTakesOnlyPins : State.reset.running = false ∧ pinRow .announce = false := by decide

theorem meets_CommandsThatStoreNothing : storesNothing .managementLinkUp = true ∧ ∃ t, exec .managementLinkUp (at_ 5 dev) = .next t :=
  ⟨rfl, ⟨_, rfl⟩⟩

theorem meets_PowerAndResetPins : State.reset.time.powered = false ∧ (at_ 0 dev).time.powered = true ∧ (at_ 0 dev).dev.pins.sysRstN = true ∧
    (let held := at_ 0 { dev with pins := { dev.pins with sysRstN := false } }
     held.dev.pins.sysRstN = false ∧ held.time.powered = true ∧ held.dev.pins.thermtrip = false) := by decide

/-! ### Bank engines -/

/-- A trigger of plan 1 on bank 0 of stack 0 (its engine group's one bank), with a window of 32 columns. -/
def trigger : Trigger :=
  { order := 1, capsule := 0, desc := 0, stack := 0, entry := 0, tag := 1, pcMask := 1, bankMask := 1, excl := false, lowerBetter := false,
    accFp := false, cls := 1, realm := 1, thSE := 0, qlen := 1, arg0 := 1024, arg1 := 0, winLo := 1024, winHi := 2048, plan := 1, sequence := 0,
    abi := 3, query := List.range 32, th := 0, since := 0, holding := false, granted := true, left := [], status := stOk }

/-- Its run, in a step. -/
def bankRun : BankRun :=
  { trigger := 1, engine := { Engine.reset with cp := 1024, tb := [(5, 1), (3, 2)], offered := 2 }, pc := 0, inStep := true, columns := 0, row := none,
    began := 0, inBar := false, cancelled := false, restoring := false, grantedAt := 0, counted := false, failed := false }

/-- The bank, at a word, with whatever else its state and its stack hold. -/
def bankAt (word : Nat) (r : BankRun := bankRun) (t : Trigger := trigger) (f : Bank → Bank := id) (g : Dev → Dev := id) : State :=
  at_ 200000 (g { dev with
    plans := { Plans.reset with plans := [(1, plan (image 0 [] word))] }
    banks := { Banks.reset with banks := [(0, f { Bank.reset with state := .pimShared, run := some r })], triggers := [t] } })

/-- Every field of a register at its ends, and every flag, of the words that the statements name: none but the state decides that it issues. -/
def words : List Nat :=
  [0, bankWord 0x02 0 7 0 0 0xFFF, bankWord 0x03 0 0 0 2 0, bankWord 0x03 0 0 0 0 0xFFF, 0x05 * 2 ^ 26 + 7 * 2 ^ 23 + 0x3FFFF, bankWord 0x06 7 0 7 0 0xFFF,
    bankWord 0x06 0 7 0 1 0x800, bankWord 0x07 0 0 7 0 0, bankWord 0x07 0 7 0 1 0, bankWord 0x07 0 7 7 2 0, bankWord 0x08 7 0 0 0 3,
    bankWord 0x09 0 7 0 0 31, bankWord 0x09 7 0 0 0 0xFFF, bankWord 0x16 0 7 0 0 0,
    bankWord 0x15 7 0 0 0 0, bankWord 0x20 7 0 7 (mbit true 0 + mbit true 1 + mbit false 2 + mbit true 3) 0, bankWord 0x20 0 7 0 (mbit true 2) 0,
    bankWord 0x21 0 0 7 0 0, bankWord 0x22 0 7 0 0 0, bankWord 0x21 0 0 7 8 0, bankWord 0x22 0 7 0 8 0, bankWord 0x25 0 0 0 0 0,
    bankWord 0x23 0 7 0 (mbit true 0 + mbit true 2 + mbit true 4) 0, bankWord 0x23 0 7 0 (mbit true 1 + mbit true 2) 0,
    bankWord 0x24 7 0 0 1 0, bankWord 0x26 0 0 0 3 0, bankWord 0x30 0 7 0 3 0, bankWord 0x31 0 0 7 0 0xFFF,
    bankWord 0x32 0 0 7 0 0, bankWord 0x33 7 0 0 1 3, bankWord 0x33 0 0 0 0 0, bankWord 0x34 0 7 0 0 0,
    bankWord 0x10 0 7 0 0 0, bankWord 0x11 7 0 0 3 0, bankWord 0x12 0 7 0 0 7, bankWord 0x13 0 7 0 0 0, bankWord 0x14 0 7 0 0 0,
    bankWord 0x38 0 0 0 0 0, bankWord 0x01 0 0 0 0 0, bankWord 0x04 0 0 0 0 0, bankWord 0x39 0 7 0 1 0, bankWord 0x3A 7 0 0 1 0,
    bankWord 0x3B 0 7 0 0 0, bankWord 0x3B 0 7 0 0 0xFFF, bankWord 0x3C 7 0 0 0 0]

/-- The hypothesis `issues` of every clause about a bank engine's instructions. -/
theorem meets_bank_instructions : ∀ w ∈ words, (bankAt w).issues 0 w trigger bankRun := by unfold State.issues; decide +kernel

theorem meets_LaneBankInstructions : trigger.accFp = false ∧ ({ trigger with accFp := true }).accFp ≠ false := by decide

theorem meets_DotAccumulates : (let r := { bankRun with engine := { bankRun.engine with stream := [1], streamLeft := 0 } }
    let w := bankWord 0x23 0 7 0 (mbit false 0 + mbit true 1 + mbit true 2 + mbit false 3 + mbit false 4) 0
    (bankAt w r).issues 0 w trigger r ∧ (bankAt w).issues 0 w trigger bankRun ∧ trigger.accFp = false ∧ r.engine.stream = [1] ∧
      r.engine.streamLeft = 0 ∧ bankRun.engine.stream = []) := by unfold State.issues; decide +kernel

theorem meets_TestBankInstructions : let t := { trigger with accFp := true }
    let w := bankWord 0x24 7 0 0 1 0
    (bankAt w bankRun t).issues 0 w t bankRun ∧ t.accFp = true ∧ trigger.accFp = false := by unfold State.issues; decide +kernel

theorem meets_TopBufferKeepsItsCount : let e := bankRun.engine
    e.offered + e.movedIn = e.tb.length + e.evicted + e.movedOut ∧ e.tb.length ≤ trigger.tbSize := by decide

theorem meets_TopInsertionKeepsTheBest : let e := bankRun.engine
    (trigger.abi ≠ 2 ∧ e.tb.length ≤ 32 ∧ e.tb.Pairwise (fun y z => strictlyWorse trigger y.1 z.1 = false) ∧
      ∀ y ∈ e.tb, (trigger.accFp && f32IsNaN y.1.toNat) = false) ∧
    (let l : List (Word × Nat) := List.replicate 32 (5, 1)
     l.length = 32 ∧ l.Pairwise (fun y z => strictlyWorse trigger y.1 z.1 = false) ∧
     (∀ y ∈ l, strictlyWorse trigger y.1 (5 : Word) = false) ∧ strictlyWorse trigger 5 6 = true ∧ sameScore trigger 5 5 = true ∧
     strictlyWorse trigger 4 5 = true ∧ ({ trigger with accFp := true }.accFp && f32IsNaN 0x7FC00000) = true) := by decide +kernel

theorem meets_FetchPortInstructions : let e := bankRun.engine
    (e.streamLeft = 0 ∧ (trigger.winLo ≤ e.cp ∧ e.cp + 32 ≤ trigger.winHi ∧ bankRun.columns < 32 ∧ bankRun.row = none)) ∧ e.x.get 7 = 0 ∧
    (trigger.winLo ≤ 2016 ∧ 2016 + 32 ≤ trigger.winHi) ∧
    (let r := { bankRun with columns := 31, row := some (1, 5) }
     trigger.winLo ≤ r.engine.cp ∧ r.columns < 32 ∧ r.row = some (r.engine.cp / 1024, 5)) ∧
    (let r := { bankRun with engine := { e with streamLeft := 2, stream := [1] } }
     (bankAt (bankWord 0x10 0 7 0 0 0) r).issues 0 (bankWord 0x10 0 7 0 0 0) trigger r ∧ r.engine.streamLeft ≠ 0) ∧
    (let r := { bankRun with engine := { e with streamLeft := 2, x := Vector.replicate 8 2 } }
     (bankAt (bankWord 0x14 0 7 0 0 0) r).issues 0 (bankWord 0x14 0 7 0 0 0) trigger r ∧
     r.engine.streamLeft = min ((r.engine.x.get 7).toNat - r.engine.stream.length) r.engine.streamLeft) := by unfold State.issues; decide +kernel

/-- Stack 0 as one BANK_LINEAR region of realm 1, in engine groups of two banks that exchange registers (R167, R199). -/
def paired : Tab DictVal := [(entryKey 0x2420 1, ⟨4, 2 + 4 + 16 + 24 * 2 ^ 13 + 2 ^ 24⟩)]

/-- The device with a configuration. -/
def under (cfg : Tab DictVal) (d : Dev) : Dev := { d with dict := { d.dict with cfg := cfg } }

theorem meets_ExchangeBankInstructions :
    (bankRun.cancelled = false ∧ bankRun.engine.hasRecord = true ∧ ({ bankRun with cancelled := true }).cancelled = true ∧ bankRun.inBar = false ∧
      (bankAt 0).dev.resultFull 0 = false ∧ (bankAt 0).dev.groupBanks 0 = [0] ∧ 5 ∈ ({ trigger with left := [0, 5] }).left ∧
      (bankAt 0).dev.bank 0 = { (bankAt 0).dev.bank 0 with saved := none, accesses := [], quiet := [] }) ∧
    (let d := (bankAt 0 bankRun trigger id (under paired)).dev
     d.groupBanks 0 = [0, 1] ∧ d.barReached { trigger with left := [0, 1] } 1 = false ∧ d.barReached { trigger with left := [0] } 1 = true) ∧
    (let d := (bankAt 0 bankRun trigger (fun b => { b with rxHigh := [7], rxBus := [8] }) (under paired)).dev
     d.neighbour 0 true = some 1 ∧ (d.bank 1).rxFull 0 = false ∧ (d.bank 1).rxFull 2 = false ∧ d.neighbour 0 false = none ∧ (d.bank 0).rxHigh = 7 :: [] ∧
     d.groupMember 0 1 = some 1 ∧ d.groupMember 0 2 = none ∧ (d.bank 0).rxBus = 8 :: []) := by decide +kernel

/-! ### Triggers, sequences and steps -/

/-- A SCAN of capsule 0 that offers its first cell. -/
def scan : ScanRun := ⟨0, 0, 0, [(0, 0, 0)], 1, [1], [], none, none, [], [], [1], [], 0, 0, 0, 0, 0⟩

/-- A capsule that runs its plan, with one descriptor placed in a slot of tile 0. -/
def running (desc : Nat) (tensors : List Nat := []) (values : Tab Tensor := []) (f : Dev → Dev := id) : State :=
  at_ 200000 (f { dev with
    capsules := ⟨[capsule], 1⟩
    plans := { Plans.reset with plans := [(1, plan (image desc tensors 0))], runs := [run values] }
    tiles := { Tiles.reset with slots := [(0, ⟨.running, 1, 1, 1, 0, 0, 0, 0, .vector, 0, []⟩)] } })

theorem meets_TriggersAreTakenUp :
    (let cap := { capsule with cfg := paired }
     let s := running 0x31 [] [] fun d => { d with capsules := ⟨[cap], 1⟩, search := { d.search with scans := [scan] } }
     let d := s.dev.setDict { s.dev.dict with cfg := cap.cfg }
     s.running = true ∧ s.dev.capsule? 0 = some cap ∧ s.dev.scanRun? 0 0 = some scan ∧ scan.offers = [1] ∧
     prunes (ixLower (d.index 0)) (ixSlack (d.index 0)) none 0 = false ∧ d.heldAt 0 0 0 = false ∧
     ((s.dev.opCtx 0 0).any fun o => let t := d.scanTrigger s.ctx o scan 1
       (d.unroutable (tileRouter (d.tileFor 0 0)) (stackRouter t.stack)).isNone && (d.triggerRefusal t).isNone && !t.banks.isEmpty && t.banks.all fun b => decide ((d.bank b).queue.length < 8)) = true) ∧
    (let t := { trigger with granted := false, since := 200000 - 1000 }
     let s := bankAt 0 bankRun t
     s.running = true ∧ (s.dev.banks.triggers.filter fun g => g.stack == 0 && !g.granted) = [t] ∧
     (∀ pc ∈ bitsSet 32 t.pcMask, (s.dev.slotRun t pc).isSome = true) ∧ s.dev.trigger? 1 = some t ∧ t.cls ≠ 0 ∧ t.since + 1000 ≤ s.time.count) := by
  decide +kernel

/-- A C0 sequence that waits. -/
def urgent : Trigger := { trigger with order := 2, cls := 0 }

theorem meets_SequencesStartAndGiveWay :
    (let s := bankAt 0 bankRun trigger (fun b => { b with run := none, queue := [1] })
     s.dev.nextTrigger 0 = some trigger ∧ ∀ b ∈ s.dev.groupBanks 0, (s.dev.bank b).run = none ∧ (s.dev.bank b).saved = none ∧
       s.dev.nextTrigger b = some trigger) ∧
    (let r := { bankRun with inStep := false }
     let s := bankAt 0 r trigger (fun b => { b with queue := [2] }) fun d =>
       { d with banks := { d.banks with triggers := [trigger, urgent], units := List.replicate 32 { Stack.reset with remaining := 40 } } }
     (s.dev.bank 0).run = some r ∧ s.dev.yields s.ctx 0 = true ∧ s.dev.mayStart s.ctx 0 = true) ∧
    (let s := bankAt 0 bankRun trigger fun b => { b with state := .pimExclusive, accesses := [readAccess] }
     (s.dev.bank 0).expired = false ∧ s.dev.preempted s.ctx 0 = true) := by decide +kernel

theorem meets_StepsAreTakenInWindows :
    let r := { bankRun with inStep := false }
    let k := { Stack.reset with state := 0, remaining := 40 }
    let idle (s : State) : Bool := s.running && (s.dev.bank 0).run == some r && s.dev.trigger? 1 == some trigger && !r.restoring && !r.cancelled && !r.failed &&
      (s.dev.bank 0).refreshes == 0 && (s.dev.bank 0).shadow.isEmpty && !s.dev.yields s.ctx 0 && s.dev.mayStart s.ctx 0 && !s.dev.mustWait 0 trigger r
    (idle (bankAt 0 r trigger id fun d => { d with banks := { d.banks with units := List.replicate 32 k } }) = true ∧ 0 ∉ k.waiting) ∧
    (let s := bankAt 0 r trigger id fun d => under [(entryKey 0x2405 1, ⟨1, 1⟩)]
       { d with banks := { d.banks with units := List.replicate 32 { k with waiting := [0] } } }
     idle s = true ∧ s.dev.governed 0 = false ∧ (s.dev.stack 0).waiting = [0] ∧ trigger.cls < 8) ∧
    ((bankAt 0).dev.bank 0).refreshes < 8 ∧ ((at_ 0 dev).dev.bank 24575) = { Bank.reset with run := none, accesses := [], quiet := [], shadow := [] } ∧
    (let s := at_ 100 { dev with banks := { Banks.reset with units := List.replicate 32 { Stack.reset with state := 0 } } }
     s.time.count % 100 = 0 ∧ 31 < s.dev.banks.units.length ∧ (s.dev.stack 31).state = 0 ∧ s.dev.governed 31 = true ∧ (s.dev.stack 31).waiting = []) := by
  decide +kernel

/-- The first GiB of stack 0, in an INTERLEAVED region of realm 1 (R457). -/
def allotted : Tab DictVal := [(entryKey 0x2420 1, ⟨4, 1 + 24 * 2 ^ 13 + 2 ^ 24⟩)]

theorem meets_OrdinaryAccessesReachMemory :
    let s := at_ 5 (under allotted dev)
    let a : OrdAccess := ⟨0, 0, 1, none, 0, 256, none⟩
    (a.capsule = none ∧ inT2 a.addr = false ∧ s.dev.accessScrubbed a = false ∧ 0 < a.len ∧ a.addr / 256 = (a.addr + a.len - 1) / 256) ∧
    ((s.dev.bank (s.dev.bankOf a.addr)).run = none ∧ (s.dev.bank (s.dev.bankOf a.addr)).accesses = [] ∧ (s.dev.bank (s.dev.bankOf a.addr)).quiet = [] ∧
      (s.dev.bank (s.dev.bankOf a.addr)).state ≠ .pimExclusive) ∧
    s.dev.checkWrite 1 0 256 = (stOk, s.dev) ∧ s.dev.checkRead 1 255 1 = (stOk, s.dev) := by decide +kernel

/-! ### Operators -/

/-- A descriptor of an operator: every input is tensor 0, every output tensor 1, both internal FP32 tensors of one element. -/
def word (op : Nat) (p : Nat := 0) : Nat := op + (1 + 2 ^ 16 + 2 ^ 32 + 2 ^ 48) * 2 ^ 256 + p * 2 ^ 320

/-- An internal FP32 tensor record of dimensions 1 (R214). -/
def one : Nat := 9 + (1 + 2 ^ 32 + 2 ^ 64 + 2 ^ 96) * 2 ^ 64

/-- The machine with that descriptor's operation running on tile 0, input 0 holding `v`. -/
def operating (w : Nat) (v : Tensor := ⟨[1, 1, 1, 1], [0]⟩) (f : Dev → Dev := id) : State := running w [one, one] [(0, v)] f

/-- Its device and context. -/
def device (s : State) : Dev := (s.dev.setDict { s.dev.dict with cfg := capsule.cfg }).setFillWait false
def context (w : Nat) (v : Tensor := ⟨[1, 1, 1, 1], [0]⟩) : OpCtx := ⟨capsule, run [(0, v)], plan (image w [one, one] 0), 0, w⟩

/-- What `operates` asks, as a test. -/
def operatesAt (s : State) (d : Dev) (o : OpCtx) : Bool :=
  s.running && s.dev.capsule? 0 == some capsule && d.opCtx 0 0 == some o &&
  ((d.slotOf 0 0).any fun x => x.2.state == .running && (d.transferBlocked o (x.1 / 64)).isNone) && tabGet 0 o.run.descs == some .placed &&
  (let k := tabGetD 0 ⟨1, 1, 0, 0, 0⟩ o.run.cuts; decide (k.total ≤ k.ran + 1)) && d.inputStatus o == (stOk, d)

theorem operates_of_operatesAt {s : State} {o : OpCtx} (h : operatesAt s (device s) o = true) : s.operates 0 0 (device s) o := by
  simp only [operatesAt, Bool.and_eq_true, beq_iff_eq, decide_eq_true_eq, Option.any_eq_true, Option.isNone_iff_eq_none] at h
  obtain ⟨⟨⟨⟨⟨⟨h1, h2⟩, h3⟩, x, h4, h5⟩, h6⟩, h7⟩, h8⟩ := h
  exact ⟨h1, ⟨capsule, h2, rfl⟩, h3, ⟨x, h4, h5⟩, h6, h7, h8⟩

/-- A word for each operator. -/
def opWords : List Nat :=
  [word 0x10, word 0x11, word 0x12, word 0x13, word 0x14, word 0x15, word 0x16, word 0x17, word 0x18, word 0x19, word 0x1A, word 0x1B, word 0x1C, word 0x20,
    word 0x21, word 0x22, word 0x23, word 0x24, word 0x25, word 0x30, word 0x31, word 0x32, word 0x33, word 0x34, word 0x35, word 0x36, word 0x37,
    word 0x40, word 0x41, word 0x42, word 0x43, word 0x44, word 0x50, word 0x50 0x10000, word 0x51]

/-- Every operator's clause has a state in which its operation runs on an input that is not empty. -/
theorem meets_operators : (∀ w ∈ opWords, operatesAt (operating w) (device (operating w)) (context w) = true ∧ (context w).emptyInput = false) ∧
    ∀ row ∈ computeRows 0 0 ++ dataRows 0 0, ∃ w ∈ opWords, row.selects w = true := by decide +kernel

theorem meets_ComputeOperatorsComplete : ∀ row ∈ computeRows 0 0 ++ dataRows 0 0, ∃ (s : State) (d : Dev) (o : OpCtx),
    s.operates 0 0 d o ∧ row.selects o.word = true ∧ o.emptyInput = false := fun row h =>
  let ⟨w, hw, hr⟩ := meets_operators.2 row h
  ⟨_, _, context w, operates_of_operatesAt (meets_operators.1 w hw).1, hr, (meets_operators.1 w hw).2⟩

theorem meets_ControlAndEmptyOperators : dcOp (context (word 0x40)).word = 0x40 ∧ dcOp (context (word 0x42)).word = 0x42 ∧
    (let w := word 0x12
     let s := running w [one - 2 ^ 64, one] [(0, ⟨[0, 1, 1, 1], []⟩)]
     let o : OpCtx := ⟨capsule, run [(0, ⟨[0, 1, 1, 1], []⟩)], plan (image w [one - 2 ^ 64, one] 0), 0, w⟩
     operatesAt s (device s) o = true ∧ o.emptyInput = true ∧
     ((device s).finishOp s.ctx o [(1, ⟨[0, 1, 1, 1], []⟩)] .none).fillWait = false) := by decide +kernel

theorem meets_FinishedOperationsDrain :
    (let w := word 0x12
     let s := operating w
     s.dev.run? 0 = some (context w).run ∧ [(1, (⟨[1, 1, 1, 1], [0]⟩ : Tensor))].Nodup) ∧
    (let w := word 0x12
     let r := { run [(0, ⟨[1, 1, 1, 1], [0]⟩)] with cuts := [(0, ⟨2, 1, 0, 0, 0⟩)] }
     let s := running w [one, one] [] fun d => { d with plans := { d.plans with runs := [r] } }
     (device s).opCtx 0 0 = some ⟨capsule, r, plan (image w [one, one] 0), 0, w⟩ ∧
     ((device s).slotOf 0 0).any (fun x => x.2.state == .running) = true ∧ tabGet 0 r.descs = some .placed ∧ (0 : Nat) + 1 < 2) := by
  decide +kernel

theorem meets_keepsOutputs (w : Nat) : (context w).keepsOutputs [] := by simp [OpCtx.keepsOutputs]

/-- A page table of one column: sequence 0, one step, WRITER. -/
def table (flags : Nat := 1) (step : Nat := 1) : Tensor :=
  ⟨[16, 1, 1, 1], [0, step, flags, 0] ++ List.replicate 9 0xFFFFFFFF ++ [0xFFFFFFFF, 0xFFFFFFFF, 0]⟩

/-- Pool 0 serves one sequence. -/
def pooled (d : Dev) : Dev := under [(entryKey 0x3200 1, ⟨33, 2 ^ 144⟩)] { d with kv := ⟨[(0, ⟨2, [], 0, 0, 0, 0, 0⟩)], []⟩ }

/-- An operator's operation whose input `i` is a page table, and input 0 a tensor of `rows` step rows. -/
def paging (op i rows : Nat) (t : Tensor) : Dev × OpCtx :=
  let w := word op 0x3000 + 2 * 2 ^ (128 + 16 * i)
  let values := [(0, (⟨[1, 1, rows, 1], List.replicate rows 0⟩ : Tensor)), (2, t)]
  let s := running w [one, one, one] values
  (pooled (device s), ⟨capsule, run values, plan (image w [one, one, one] 0), 0, w⟩)

/-- Table 0 serves. -/
def served (d : Dev) : Dev := { d with updates := { d.updates with tables := [(0, { TableState.fresh with state := 2 })] } }

/-- A stored candidate list of one candidate. -/
def list : Tensor := ⟨[4, 8, 1, 1], 1 :: List.replicate 31 0⟩

theorem meets_DataOperatorsComplete :
    (let (d, o) := paging 0x18 1 1 (table)
     let a := d.inputD o 0
     (a.2.openTable o 1 (some (dimAt a.1.dims 2)) false).1 = stOk) ∧
    (let (d, o) := paging 0x51 2 0 (table 1 0)
     let a := d.inputD o 0
     let (st, cols, e) := ((a.2.inputD o 1).2.openTable o 2 (some (dimAt a.1.dims 2)) true)
     st = stOk ∧ cols.length = 1 ∧ (e.stageAll 0 0 cols).1 = true) ∧
    (let (d, o) := paging 0x50 1 65 (table 3 65)
     let d := d.putSeqHead 0 0 (2 ^ 39)
     let x := d.inValuesD o 0
     let (st, cols, e) := x.2.openTable o 1 (some (volumeOf (x.1.1.drop 1))) true
     st = stOk ∧ cols.length = 1 ∧ ∀ k ∈ cols, k.tree = true ∧ sqTree (e.seqHead 0 k.seq) = true) ∧
    (let (d, o) := (device (operating (word 0x35)), context (word 0x35))
     inputsFit o.selectSpec (d.inputLists o (List.range 8)).1 = true ∧ dcPb o.word 19 = false) ∧
    (let o := context (word 0x36 (2 ^ 19))
     let x := (device (operating o.word)).inputLists o [0]
     dcPb o.word 19 = true ∧ inputsFit { o.selectSpec with streams := false } (x.1 ++ (x.2.inputLists o [1]).1) = true) ∧
    (let o := context (word 0x37)
     ((device (operating o.word)).inputLists o [0]).1.all (fun i => decide ((i.2.filter validCand).length ≤ dimAt (o.outDims 0) 1 - 4)) = true) ∧
    (let o := context (word 0x33 0x2000) list
     let d := served (device (operating o.word list))
     let a := d.inputD o 0
     let e := (a.2.inputD o 1).2.filterCands o.word 0 [0] (listEntries a.1)
     d.tableServes 0 = true ∧ (listEntries a.1).length = 1 ∧ e.1 = stOk) ∧
    (let o := context (word 0x20 0x2000)
     let d := served (device (operating o.word))
     let a := d.inputD o 0
     d.tableServes 0 = true ∧ (a.2.gatherRows ⟨0, .reset⟩ 0 1 (distinct a.1.elems)).1 = stOk) ∧
    ({ capsule with mirrored := true }.mirrored = true) := by decide +kernel

/-- Index 0 serves. -/
def indexed (d : Dev) : Dev := { d with search := { d.search with indexes := [(0, { IndexState.fresh with state := 3 })] } }

/-- An operator of a plan without limits to its budgets, on a device that has its capsule as a member of three. -/
def unlimited (w : Nat) (v : Tensor) (f : Dev → Dev := id) : Dev × OpCtx :=
  let im : DictVal := ⟨1024, (image w [one, one] 0).num + (2 ^ 128 - 1) * 2 ^ 128⟩
  let cap := { capsule with composition := 1, ownRank := 1, members := [5, 6, 7] }
  (f { device (operating w v) with plans := { Plans.reset with plans := [(1, plan im)], runs := [run [(0, v)]] } }, ⟨cap, run [(0, v)], plan im, 0, w⟩)

theorem meets_DataOperatorsComplete_more :
    (let (d, o) := paging 0x50 1 65 (table 1)
     let d := d.putSeqHead 0 0 (2 ^ 39)
     let (st, cols, e) := d.openTable o 1 none true
     st = stOk ∧ cols.length = 1 ∧ dcPb o.word 17 = false ∧ ∀ k ∈ cols, sqPending ((e.inputD o 0).2.seqHead 0 k.seq) ≠ 0xFFFFFFFF) ∧
    (let (d, o) := paging (0x50 + (2 ^ 17 + 0x2000 * 2 ^ 32) * 2 ^ 64 * 2 ^ 256) 1 65 (table 1)
     let (st, cols, e) := (served (d.putSeqHead 0 0 (2 ^ 39))).openTable o 1 none true
     let x := e.inputD o 0
     let l := x.2.listDrafts 0 (((listEntries x.1).take 64).filter fun e => e.1 != emptyHandle)
     st = stOk ∧ cols.map (·.seq) = [0] ∧ dcPb o.word 17 = true ∧ dcP o.word 47 32 = 0x2000 ∧ x.2.tableServes 0 = true ∧ l.1 = stOk ∧
       sqPending (l.2.2.seqHead 0 0) ≠ 0xFFFFFFFF) ∧
    (let (d, o) := unlimited (word 0x21 0x2000) ⟨[1, 1, 1, 1], [0]⟩ served
     let x := d.scattered o 0
     d.tableServes 0 = true ∧ (x.2.scatterRows ⟨0, .reset⟩ 0 (x.1.map fun e => (e.1, e.2.1))).1 = stOk) ∧
    (let (d, o) := unlimited (word 0x25 0x1000) ⟨[1, 1, 1, 1], []⟩ fun d => { d with flash := { d.flash with mapState := 2 } }
     d.flash.mapState = 2 ∧ distinct (blockNumbers (d.inputD o 0).1) = [] ∧ ((d.inputD o 0).2.beginWait ⟨0, .reset⟩ o none [] []).1 = stOk) ∧
    (let (d, o) := unlimited (word 0x30) ⟨[1, 1, 1, 1], [0]⟩ indexed
     d.indexServes o.indexSlot = true ∧ ixMetric (d.index o.indexSlot) ≠ 2 ∧ ixKind (d.index o.indexSlot) ≠ 1 ∧ ixKind (d.index o.indexSlot) ≠ 2 ∧
       (d.run? 0).isSome = true ∧ d.plan? 1 = some o.plan ∧ imBudget o.plan.image 0 = 2 ^ 64 - 1 ∧ imBudget o.plan.image 1 = 2 ^ 64 - 1) ∧
    (let (d, o) := unlimited (word 0x34) list indexed
     let a := d.inputD o 0
     let x := a.2.sourcesOf 0 (d.index 0) (listEntries a.1)
     d.indexServes o.indexSlot = true ∧ (listEntries a.1).length = 1 ∧ dcP o.word 19 16 ≠ 3 ∧
       distinct ((x.1.map (originalBlocks (d.index 0))).flatten) = [] ∧ (x.2.beginWait ⟨0, .reset⟩ o (some 0) [] x.1).1 = stOk) ∧
    (let o := (unlimited (word 0x34 0x30000) ⟨[2, 1, 1, 1], [0, 5]⟩ indexed).2
     let d := served (under [(entryKey 0x3020 1, ⟨64, 0x2000 * 2 ^ 256⟩)] (unlimited o.word ⟨[2, 1, 1, 1], [0, 5]⟩ indexed).1)
     let l := (d.inputD o 0).2.inputD o 0
     let q := l.2.inputD o 1
     d.indexServes o.indexSlot = true ∧ dcP o.word 19 16 = 3 ∧ listEntries l.1 = [] ∧ q.1.elems = [0, 5] ∧
       ascending [0] = true ∧ q.2.tableServes (ixSparse (d.index o.indexSlot) - 0x2000) = true) ∧
    (let (d, o) := unlimited (word 0x43) ⟨[1, 1, 1, 1], [0]⟩
     o.cap.mirrored = false ∧ o.cap.composition ≠ 0 ∧ dcP o.word 15 0 < o.cap.members.length ∧ nth o.cap.members 0 = 5 ∧ d.fabric.node = 0 ∧
       d.tiles.links = []) ∧
    (let (d, o) := unlimited (word 0x43) ⟨[1, 1, 1, 1], [0]⟩ fun d => { d with
       fabric := { d.fabric with node := 5 }, plans := { d.plans with nextHandle := 2 } }
     d.fabric.node = 5 ∧ nth o.cap.members 0 = 5) ∧
    (let (d, o) := unlimited (word 0x44 (3 * 2 ^ 16 + 2 ^ 26 + 2 * 2 ^ 36)) ⟨[1, 1, 1, 1], [0]⟩
     let g := gatheringOf o.word
     let k := d.collectiveD 0 g.number o.cap.tag
     g.m = 3 ∧ o.cap.ownRank = g.root ∧ k.status = stOk ∧ k.parts = [] ∧ needsLost g o.cap.members 1 0 = false ∧ g.op = 2 ∧
       (let own := ownPart o (d.inputD o 0).1; partFits g.op own own = true)) := by decide +kernel

theorem meets_panel : ∀ v, (context (word 0x23)).keepsOutputs ((context (word 0x23)).put 0 v) := by
  intro v e h
  have : e.1 = 1 := by
    have hp : (context (word 0x23)).put 0 v = [(1, v)] := rfl
    rw [hp] at h; simp at h; exact congrArg Prod.fst h
  rw [this]; decide +kernel

/-! ### Scans -/

/-- The plan of a SCAN (descriptor 0), whose candidates go to the SELECT behind it with k = 1. -/
def scanPlan : Plan := plan (image (0x31 + 2 ^ 340) [one, one] 0 (word 0x35 1))

/-- A machine whose SCAN has found a candidate, with a message on its way to stack 0, the trigger's run on bank 0, and a record of the bank's. -/
def scanning (results : Tab (List ResultRecord)) (scans : List ScanRun) : State :=
  at_ 5 { dev with
    capsules := ⟨[capsule], 1⟩
    plans := { Plans.reset with plans := [(1, scanPlan)], runs := [run []] }
    search := { Search.reset with scans := scans }
    banks := { Banks.reset with
      banks := [(0, { Bank.reset with state := .pimShared, run := some bankRun })], triggers := [trigger], results := results } }

/-- The SCAN. -/
def found : ScanRun := { scan with found := [(7, 5)], inFlight := [(0, 5)] }

/-- The record. -/
def record : ResultRecord := ⟨0, 0, 0, 0, false, false, 1, 0, 0, 0, 0, 0, 0, 0, []⟩

theorem no_link_failed (d : Dev) (h : d.tiles.links = []) (a b : Nat × Nat) : d.unroutable a b = none := by
  have hf : ∀ l, d.linkFailed l = false := by intro l; simp [Dev.linkFailed, h, tabGet]
  simp [Dev.unroutable, Dev.route, hf]

theorem meets_ScansRun :
    (let o := context (word 0x31)
     let s := operating o.word ⟨[1, 1, 1, 1], [0]⟩ indexed
     let q := (device s).queryOf o 0
     operatesAt s (device s) o = true ∧ dcOp o.word = 0x31 ∧ (device s).indexServes o.indexSlot = true ∧ ixMetric ((device s).index o.indexSlot) = 0 ∧
       ((q.2.inputD o 1).2.charge 0 1 0).1 = true ∧ (opScan s.ctx (device s) o).2.fillWait = false) ∧
    (let s := scanning [(0, [record])] []
     tabGetD 0 [] s.dev.banks.results = [record] ∧ s.dev.scanRun? 0 0 = none) ∧
    (let s := scanning [(0, [record, record])] [found]
     tabGetD 0 [] s.dev.banks.results = [record, record] ∧ s.dev.scanRun? 0 0 = some found ∧ record.fault = false ∧ s.dev.capsule? 0 = some capsule ∧
       s.dev.recordCands (s.dev.index 0) 0 0 record.entries = some [] ∧ s.dev.tiles.links = []) ∧
    (let s := scanning [] [found]
     let o : OpCtx := ⟨capsule, run [], scanPlan, 1, word 0x35 1⟩
     s.dev.opCtx 0 1 = some o ∧ dcOp o.word = 0x35 ∧ s.dev.kthScore o = some 5 ∧ dcP (imDesc o.plan.image 0) 31 20 = 1 ∧ found.threshold = none ∧
       s.dev.tiles.links = [] ∧ s.dev.thresholdDue s.ctx o (s.dev.someTile o).1 = true) ∧
    (let s := scanning [] [found]
     found.inFlight.find? (fun m => m.1 == 0) = some (0, 5) ∧ (s.dev.bank 0).run = some bankRun ∧ s.dev.banks.triggers = [trigger] ∧
       trigger.order = bankRun.trigger ∧ trigger.stack = 0 ∧ trigger.abi ≠ 2) := by decide +kernel

/-! ### Tiles -/

/-- One slot of tile 575 in a state. -/
def slotted (n : Nat) (st : SlotState) (values : Tab Tensor := []) (f : Dev → Dev := id) : State :=
  running (word 0x12) [one, one] values fun d => f { d with
    dict := { d.dict with cfg := [(entryKey 0x2E01 2, ⟨8, 2 ^ 36 - 1⟩)] }
    tiles := { d.tiles with slots := [(64 * 575 + n, ⟨st, 1, 1, 1, 0, 0, 0, 0, .vector, 0, []⟩)] } }

theorem meets_TilesAndMesh :
    (let s := slotted 63 .ready
     let d := s.dev.resumeCutting s.ctx
     (d.tile 575).fenced = false ∧ d.unitFree 575 (unitOf 1) = true ∧ (2, tileGroup 575) ∉ d.scrubs ∧
       (d.nextReady 575 (unitOf 1)).map (·.1) = some 63 ∧ d.groupOwner (tileGroup 575) = 1 ∧
       (∀ r ∈ s.dev.plans.runs, ∀ e ∈ r.cuts, e.2.total ≤ e.2.cut)) ∧
    (let s := slotted 0 .draining
     let e := s.dev.freeTheSlot 575 0
     (tabGet (64 * 575) s.dev.tiles.slots).map (·.state) = some .draining ∧ s.dev.unacknowledged 0 0 = false ∧ (e.opCtx 0 0).isSome = true ∧
       s.dev.tiles.held = [] ∧ tabGet 0 (run []).descs ≠ some .operated ∧ e.slotsFor 0 0 = []) ∧
    (let r := { run [] with descs := [(0, .operated)] }
     let s := slotted 0 .draining [] fun d => { d with plans := { d.plans with runs := [r] } }
     ((s.dev.freeTheSlot 575 0).opCtx 0 0).map (·.run) = some r ∧ tabGet 0 r.descs = some .operated) ∧
    (let s := slotted 0 .running [] fun d => { d with tiles := { d.tiles with moves := [(575, [⟨3, 0, 0, [], 12, 0, some 24, [], []⟩])], nextMove := 4 } }
     (tabGetD 575 [] s.dev.tiles.moves).find? (fun x => x.number == 3) = some ⟨3, 0, 0, [], 12, 0, some 24, [], []⟩ ∧ s.dev.run? 0 = some (run []) ∧
       (s.dev.plan? 1).isSome = true) ∧
    (let m (k : Nat) : MeshLink := tabGetD k ⟨0, 0⟩ [(1103, ⟨1, 7⟩)]
     (m 0).state ≠ 2 ∧ (m 0).inRow + 1 < 8 ∧ (m 1103).state ≠ 2 ∧ 8 ≤ (m 1103).inRow + 1) := by decide +kernel

/-! ### Capsules, plans and queues -/

/-- A descriptor in a host capsule: opcode, VERSION 3, class 1, realm 1, plan 1, tag 9, a deadline. -/
def raw (op : Nat) (more : Nat := 0) : BitVec 512 := BitVec.ofNat 512 (op + 3 * 2 ^ 8 + 2 ^ 16 + 2 ^ 24 + 9 * 2 ^ 48 + 1000 * 2 ^ 64 + more)

/-- The device with a host link, an enabled aperture of the PF, and realm 1 active with every class's cap and rate open. -/
def hosted (d : Dev) : Dev := { d with
  ports := [{ HostPort.reset with link := 2, functions := [(0, { Function.reset with apertures := [(0, { Aperture.reset with enable := true })] })] },
    .reset]
  dict := { d.dict with cfg := [(entryKey 0x2C01 9, ⟨32, 2 ^ 256 - 1⟩), (entryKey 0x2E01 1, ⟨1, 1⟩)] } }

/-- What `accepts` asks, as a test. -/
def acceptsAt (s : State) (op : Nat) (r : BitVec 512) : Bool :=
  let x := (s.dev.fn 0 0).aperture 0
  s.running && bits r.toNat 7 0 == op && s.dev.fnThere 0 0 && x.enable && decide (x.outstanding < 2 ^ x.depthLog2) &&
  (s.dev.hostIngress 0 0 r.toNat).isNone && (s.dev.compositionOfRealm (bits r.toNat 23 16)).isNone && s.dev.fabric.shadow.role != 2

/-- The capsule, and the device that has taken it. -/
def taken (s : State) (r : BitVec 512) : Capsule × Dev :=
  let e := s.dev.newCapsule s.ctx (.host 0 0 0 64 true) r.toNat ((s.dev.fn 0 0).ring ((s.dev.fn 0 0).aperture 0).ring).disables (bits r.toNat 26 24)
    0 0 0 []
  (e.1, (e.2.modFn 0 0 fun f => { f with
    wasQuiesced := false, apertures := tabMod 0 .reset (fun x => { x with outstanding := x.outstanding + 1 }) f.apertures }).modPort 0
      fun h => { h with accepted := satAdd 64 h.accepted 1 })

theorem accepts_of_acceptsAt {s : State} {op : Nat} {r : BitVec 512} (h : acceptsAt s op r = true) :
    s.accepts op 0 0 0 r (taken s r).1 (taken s r).2 := by
  simp only [acceptsAt, Bool.and_eq_true, beq_iff_eq, decide_eq_true_eq, Option.isNone_iff_eq_none, bne_iff_ne] at h
  obtain ⟨⟨⟨⟨⟨⟨⟨h1, h2⟩, h3⟩, h4⟩, h5⟩, h6⟩, h7⟩, h8⟩ := h
  exact ⟨h1, h2, h3, by decide, .inl rfl, h4, h5, h6, h7, h8, _, rfl, rfl⟩

/-- The plan of one BARRIER, loaded; realm 1 has clock group 0 and room for plans (0x2E01.01, .02, .07, 0x2C01.09). -/
def barrier : DictVal := image (0x42 + (2 ^ 192 - 1) * 2 ^ 128) [one] 0
def house : State := at_ 200000 (hosted { dev with plans := { Plans.reset with plans := [(1, plan barrier)] } })

/-- The opcodes, each with its capsule. -/
def descriptors : List (Nat × BitVec 512) :=
  [(1, raw 1 (2 ^ 32)), (2, raw 2), (3, raw 3 (2 ^ 32)), (0x10, raw 0x10), (0x11, raw 0x11), (0x12, raw 0x12)]

theorem meets_CapsulesAtTheIngress : (∀ e ∈ descriptors, acceptsAt house e.1 e.2 = true) ∧
    ∀ e ∈ descriptors, house.dev.hostIngress 0 0 (e.2.toNat - 2 ^ 16) = some (stBadArg, 0x86) := by decide +kernel

/-- A capsule that is metered as it came, whose opcode's condition holds. -/
def goesAt (s : State) (r : BitVec 512) : Bool :=
  let (cap, d) := taken s r
  let m := if cap.opcode = 0x03 then (some cap.cls, d) else d.police s.ctx cap.realm cap.cls 64 (if cap.version = 2 then 0 else bits cap.raw 28 27)
  let e := m.2.modCapsule cap.order fun x => { x with cls := 1 }
  m.1 == some 1 && cap.deadlineUs != 0 && e.classCap cap.realm 1 != 0 && (cap.opcode != 1 || e.runCheck { cap with cls := 1 } == stOk)

theorem meters_of_goesAt {s : State} {r : BitVec 512} (h : goesAt s r = true) : ∃ e, s.meters (taken s r).1 (taken s r).2 1 e := by
  simp only [goesAt, Bool.and_eq_true, beq_iff_eq, bne_iff_ne] at h
  exact ⟨_, _, Prod.ext h.1.1.1 rfl, rfl, h.1.1.2, .inr h.1.2⟩

theorem meets_AcceptedCapsulesGoOn : ∀ e ∈ descriptors, acceptsAt house e.1 e.2 = true ∧ goesAt house e.2 = true := by decide +kernel

/-- A waiting capsule of the plan. -/
def waiter : Capsule := { capsule with stage := .waiting, version := 3 }

/-- An image that comes with an AFP message, and the capsule that loads it. -/
def imageNum : DictVal := image (0x22 + 9 * 2 ^ 320 + (2 ^ 112 - 1) * 2 ^ 144 + 2 ^ 256 + (2 ^ 48 - 1) * 2 ^ 272) [one + 16, one] (bankWord 1 0 0 0 0 0)
def loader : Capsule := { capsule with opcode := 2, src := .fabric hdr 1024 imageNum.num, raw := 1024 * 2 ^ 192 + 2 ^ 256 }

theorem meets_PlansStartAndEnd :
    (let s := at_ 5 { house.dev with capsules := ⟨[waiter], 1⟩ }
     let p := plan barrier
     let e := (s.dev.choose 1).2.setFillWait false
     s.dev.plan? 1 = some p ∧ s.dev.startHeads s.ctx 1 p = [waiter] ∧ (s.dev.plans.runs.filter fun r => r.plan == 1).length < imInflight p.image ∧
       p.damaged = false ∧ (∀ g ∈ List.range (imGroups p.image), e.groupTiles p g ≠ []) ∧ (e.readArgs waiter p.image).1 = 0 ∧
       (e.readArgs waiter p.image).2.1 = [] ∧
       bindingsValid p.image [] = true ∧ outputsApart p.image [] = true ∧ e.boundShapesOk p.image 1 [] = true ∧ panelsAligned p.image [] = true ∧ e.argOutside p.image 1 [] = none) ∧
    (let d := { (under [(entryKey 0x2E01 1, ⟨1, 1⟩), (entryKey 0x2E01 2, ⟨8, 1⟩), (entryKey 0x2E01 7, ⟨16, 2 ^ 128 - 1⟩)] dev) with capsules := ⟨[loader], 1⟩ }
     let x := (d.setFillWait false).bufRead loader (loader.field 257 256) (loader.field 191 128) (loader.field 255 192)
     let y := x.2.2.loadPlan 1 ⟨loader.field 255 192, ofLE x.2.1⟩
     d.capsule? 0 = some loader ∧ loader.field 191 128 % 128 = 0 ∧ x.1 = 0 ∧ y.1.status = stOk ∧
       (y.2.endPlain ⟨5, .reset⟩ 0 stOk y.1.reason y.1.handle).fillWait = false) ∧
    (let p := { plan barrier with state := 2, unloadWaiters := [4] }
     let d := { dev with plans := { Plans.reset with plans := [(1, p)] } }
     d.plan? 1 = some p ∧ d.planIdle 1 = true) ∧
    (let d := { house.dev with capsules := ⟨[capsule], 1⟩ }
     d.capsule? 0 = some capsule ∧ d.plan? 1 = some (plan barrier) ∧ (plan barrier).state ≠ 2 ∧ (plan barrier).realm = capsule.realm) := by decide +kernel

theorem meets_instanceStart : let s := at_ 5 { house.dev with capsules := ⟨[waiter], 1⟩ }
    (((s.dev.choose 1).2.setFillWait false).beginRun s.ctx waiter (plan barrier) []).fillWait = false := by decide +kernel

theorem meets_AdmissionServesTheNext :
    let i : QueueItem := ⟨1, 1, 64, 0, 0, 0, 0, false, []⟩
    let q : QueuePoint := { QueuePoint.reset with items := [i] }
    let k := { capsule with stage := .admission }
    let s := at_ 5 { house.dev with capsules := ⟨[k], 1⟩, traffic := { Traffic.reset with admission := [(1, q)] } }
    let p := { q with items := q.items.filter fun i => (s.dev.capsule? i.capsule).isSome }
    let d := s.dev.awaitItems s.ctx p.items
    let e := d.setTraffic { d.traffic with admission := tabSet 1 (p.serve i d.classWeight) d.traffic.admission }
    tabGet 1 s.dev.traffic.admission = some q ∧ p.next d.itemReady d.classWeight = some i ∧ e.capsule? i.capsule = some k ∧ e.classCap 1 1 ≠ 0 := by
  decide +kernel

theorem meets_TimersCarillonAndEgress :
    (let s := running 0
     (s.dev.capsule? 0 = some capsule ∧ capsule.deadlineAt ≤ s.time.count ∧ s.dev.run? 0 = some (run []) ∧ (s.dev.plan? 1).isSome = true)) ∧
    (let s := at_ 200000 { dev with capsules := ⟨[{ capsule with opcode := 2 }], 1⟩ }
     s.dev.capsule? 0 = some { capsule with opcode := 2 } ∧ s.dev.run? 0 = none) ∧
    (let r := { Ring.reset with enable := true, unsignalled := 1, coalTime := 2 }
     let d := { dev with ports := [.reset, { HostPort.reset with functions := [(63, { Function.reset with rings := [(15, r)] })] }] }
     1 < d.ports.length ∧ (d.fn 1 63).ring 15 = r ∧ r.enable = true ∧ r.firstAt + r.coalTime * usTicks ≤ 200) ∧
    (let i : QueueItem := ⟨1, 1, 64, 0, 0, 0, 0, false, []⟩
     let d := { (hosted dev) with traffic := { Traffic.reset with egress := [(0, { QueuePoint.reset with items := [i] })] } }
     let p := d.egressPoint 0
     d.portUp 0 = true ∧ (∀ x ∈ p.items, x.cls ≠ 0) ∧
       p.next (fun i => i.cls != 0 || !d.shaped (egressFlow i.realm 0)) (d.egressWeight 0) = some i) ∧
    (at_ 25 dev).dev.traffic.fineSlot < 25 * 10 / fineNs := by decide +kernel

/-! ### Host ports -/

theorem meets_HostLinks :
    (let s := at_ 5 { dev with pins := { dev.pins with perstN := [true, true] } }
     1 < s.dev.ports.length ∧ 1 < s.dev.pins.perstN.length ∧ s.dev.capsules.live = [] ∧ (s.dev.port 1).link = 0 ∧ s.dev.perstReleased 1 = true ∧
       s.dev.portUp 1 = false ∧ s.dev.linkFits 8 6 = true) ∧
    (hosted dev).portUp 0 = true ∧ (hosted dev).portQuiesced 0 = false := by decide +kernel

theorem meets_FunctionsOfThePorts :
    let d := (hosted dev).modFn 0 63 fun f => { f with enabled := true }
    (d.fnThere 0 63 = true ∧ d.fnThere 0 0 = true ∧ d.portUp 0 = true ∧ d.capsules.live = []) ∧
    (d.fn 0 63).enabled = true ∧ (d.fn 0 63).outstanding = 0 ∧ (d.fn 0 63).wasQuiesced = false ∧ bit 1 0 = true ∧ bit 2 0 = false ∧
    15 < aperturesOf 63 ∧ 31 < aperturesOf 0 := by decide +kernel

/-! ### Sessions -/

/-- A session of realm 0 that is open for sender 0 on the management path, with its next request. -/
def session : Session := Session.opened 0 1 0 0 0x12 0
def talking (cfg : Tab DictVal := []) (f : Dev → Dev := id) (x : Session := session) : State :=
  at_ 5 (f { dev with
    fabric := { dev.fabric with mgmtLink := 2 }, dict := { Dict.reset with cfg := cfg, sessions := [x] }
    pins := { dev.pins with lcStrap := 1 } })

/-- A request of the session, taken up or not. -/
def up (s : State) (op idx sub : Nat) (b : Body) : Option (Dev × Session) :=
  s.dev.requestIn (fun _ => none) s.ctx req op idx sub b fun d x => some (d, x)

/-- A write of an action entry, taken up or not. -/
def acts (s : State) (idx sub value : Nat) : Option (Dev × Session) :=
  s.dev.actionIn (fun _ => none) s.ctx req idx sub value fun d x => some (d, x)

theorem takesUp_of_acts {s : State} {idx sub value : Nat} (h : (s.running && (acts s idx sub value).isSome) = true) :
    ∃ d x, s.takesUp req idx sub value d x := by
  simp only [Bool.and_eq_true, Option.isSome_iff_exists] at h
  obtain ⟨h1, ⟨d, x⟩, h2⟩ := h
  exact ⟨d, x, h1, h2⟩

/-- Every action entry of the statements takes a write at its bounds. -/
theorem meets_takesUp : ([(0x2002, 0, 0), (0x2002, 0, 575), (0x3020, 3, 1), (0x305F, 3, 1), (0x3060, 6, 0), (0x309F, 6, 0xFFFFFFFF), (0x3200, 5, 0),
    (0x320F, 6, 0xFFFFFFFF00000000), (0x2462, 8, 1), (0x2B80, 5, 1), (0x2840, 6, 1), (0x5C01, 3, 0x5FF), (0x5C01, 4, 7), (0x5C00, 2, 5), (0x5C10, 1, 0),
    (0x5C20, 1, 0), (0x5004, 2, 1), (0x5F02, 0, 1), (0x5F04, 0, 1), (0x5F03, 0, 1), (0x5F03, 0, 2), (0x5820, 0, 0x704), (0x1804, 0, 1), (0x1806, 0, 1),
    (0x1810, 0, 1), (0x23F0, 5, 1)].all fun e => (acts talking e.1 e.2.1 e.2.2).isSome) = true := by decide +kernel

theorem meets_RequestsInTurnAreTaken :
    (let s := talking
     let d := (s.dev.modSession 0 1 fun t => { t with lastTime := s.time.count }).takeRequest s.ctx req
     s.dev.arrives req = true ∧ s.dev.boot.reloading = false ∧ s.dev.session? 0 1 = some session ∧ session.sender = req.sender ∧
       session.authentic req 0x10 0x1000 0 .none = true ∧ session.lastSeq = none ∧ d.sessionRefuses session 0x10 0x1000 0 = false) ∧
    (let q := { req with seq := 0 }
     (65535 + 1) % 65536 = q.seq % 65536 ∧ 65535 ≠ q.seq % 65536) := by decide +kernel

theorem meets_SessionsOpenAndClose :
    (let s := talking
     s.dev.opens 0 = true ∧ hdapVersion 0x12 0x10 = some 0x12 ∧ hdapVersion 0x10 0x10 = some 0x10 ∧ s.dev.openRealm 0 5 none = some 0 ∧
       (s.dev.dict.sessions.filter fun x => x.path == 0).length < sessionLimit 0 ∧ (up s 0x03 0 0 .none).isSome = true) ∧
    session.lastTime + 60 * secondTicks ≤ 60 * secondTicks ∧
    (let x := { session with isProtected := true, msgOut := 2 ^ 40 - 1 }
     (talking [] id x).dev.session? 0 1 = some x) := by decide +kernel

theorem meets_ReadsAnswerTheValue :
    (up talking 0x10 0x1000 0 .none).any (fun (d, x) => (d.accessed x (nativeOf 0x1000 0) 0 false).2.any fun r => !r.segmented) = true ∧
    (up talking 0x12 0x1002 0 ⟨0, 0, 0⟩).any (fun (d, x) => (d.accessed x (nativeOf 0x1002 0) 0 false).2.isSome && segmentReaches x.version 0) = true := by
  decide +kernel

/-- A write of an entry with that access right is let through: WRITE, or WRITE_SEG marked LAST. -/
def writes (a : Access) (idx sub len value : Nat) (seg : Bool := false) : Bool :=
  (if seg then talking.dev.requestIn (fun _ => none) talking.ctx (withLast req) 0x13 idx sub ⟨0, len, value⟩ fun d x => some (d, x)
    else up talking 0x11 idx sub ⟨0, len, value⟩).any fun (d, x) => d.accessStatus x idx sub true == stOk && (entryAt idx sub).any fun r =>
    r.access == a && r.lengthOk ⟨len, value⟩ && !r.segmented && d.inEntryRange d r 0 idx sub ⟨len, value⟩ && segmentReaches x.version 0 &&
    x.gather (entryKey idx sub) 0 len value == some ⟨entryKey idx sub, 1, len, value⟩

theorem meets_WritesTakeEffect :
    (writes .rwc 0x2461 2 2 1 ∧ writes .rw 0x1800 0 1 0 ∧ writes .rwKept 0x5F05 0 1 1 ∧ writes .wo 0x1804 0 1 1 ∧ writes .rwc 0x2461 2 2 1 true ∧
      writes .rw 0x1800 0 1 0 true ∧ writes .rwKept 0x5F05 0 1 1 true ∧ writes .wo 0x1804 0 1 1 true ∧ bit (withLast req).flags 0 = true) ∧
    (up talking 0x11 0x2461 2 ⟨0, 2, 1⟩).any (fun (d, x) => (entryAt 0x2461 2).any fun r => !realmEntry 0x2461 &&
      (d.drafted x 0).inEntryRange d r 0 0x2461 2 ⟨2, stored 0x2461 2 0 1⟩ && (d.drafted x 0).withinLimit d 0 0x2461 2 ⟨2, stored 0x2461 2 0 1⟩ &&
      x.drafts == [] && (d.dict.sessions.map fun t => t.drafts.length) == [0]) = true ∧
    (talking.dev.requestIn (fun _ => none) talking.ctx { req with flags := 0 } 0x13 0x3306 0 ⟨0, 1024, 1⟩ fun d x => some (d, x)).any (fun (d, x) =>
      (d.accessed x 0x3306 0 true).2.isSome && (x.gather (entryKey 0x3306 0) 0 1024 1).isSome) = true ∧
    (up talking 0x13 0x3306 0 ⟨0, 1024, 1⟩).any (fun (d, x) => (d.accessed x 0x3306 0 true).2.isSome && segmentReaches x.version 0 &&
      (x.gather (entryKey 0x3306 0) 0 1024 1).any fun b => (d.accessed x 0x3306 0 true).2.any fun r =>
        r.lengthOk ⟨b.len, b.num⟩ && r.access == .wo && d.inEntryRange d r 0 0x3306 0 ⟨b.len, b.num⟩) = true ∧
    (up talking 0x13 0x5F01 0 ⟨0, 1024, 1⟩).any (fun (d, x) => !d.packageBusy x && (x.gather (entryKey 0x5F01 0) 0 1024 1).any fun b =>
      (d.accessed x 0x5F01 0 true).2.any fun r => r.lengthOk ⟨b.len, b.num⟩ && r.access == .wo && decide (b.len ≤ packageLimit) && d.inEntryRange d r 0 0x5F01 0 ⟨b.len, b.num⟩) = true := by
  decide +kernel

theorem meets_DraftsBecomeGenerations :
    (let s := talking [] id { session with sel := [(entryKey 0x1800 0, 1)] }
     (acts s 0x1810 0 2).any (fun (d, x) => (d.runChecks x (x.select 0x1800 0) 2 ⟨true, true⟩).isNone && !d.generatorFailed) = true) ∧
    (acts talking 0x1810 0 1).any (fun (d, x) => (d.runChecks x (x.select 0x1800 0) 1 ⟨true, true⟩).isSome) = true ∧
    (let s := talking [] fun d => { d with dict := { d.dict with holds := [⟨0, 31, 4⟩] } }
     s.dev.holdOn 0 31 = some ⟨0, 31, 4⟩ ∧ s.dev.earlierWork 31 4 = false) ∧
    (let x := { session with sel := [(entryKey 0x23F0 1, 1)] }
     let s := talking [] (fun d => { d with plans := house.dev.plans }) x
     (acts s 0x23F0 5 1).any (fun (d, x) => (d.plan? (x.select 0x23F0 1)).any (fun p => x.reaches p.realm) && d.plans.runs.isEmpty) = true) := by
  decide +kernel

/-- An index of KIND 1 with one cell in slot 0, whose entry word names that cell. -/
def indexCfg : Tab DictVal := [(entryKey 0x3020 1, ⟨256, 1 + 2 ^ 24 + 2 ^ 64⟩)]

theorem meets_ObjectActionsAct :
    (let s := talking indexCfg fun d => { d with search := { d.search with indexes := [(0, { IndexState.fresh with state := 2 })] } }
     (acts s 0x3020 3 1).any (fun (d, _) => ixKind (d.index 0) == 1 && (d.indexState 0).state == 2 && !(d.entryCells (d.index 0)).isEmpty) = true ∧
     (acts s 0x3060 6 0).any (fun (d, _) => ixKind (d.index 0) == 1 && decide (0 < ixCount (d.index 0))) = true) ∧
    (let s := talking [(entryKey 0x3200 1, ⟨33, 2 ^ 144⟩)] fun d => { d with kv := ⟨[(0, ⟨2, [], 0, 0, 0, 0, 0⟩)], []⟩ }
     (acts s 0x3200 5 0).any (fun (d, _) => (d.resetSequence 0 0).1 == stOk) = true ∧
     (acts s 0x3200 6 0).any (fun (d, _) => (d.setPending 0 0 0).1 == stOk) = true) ∧
    (let s := talking [] fun d => { d with flash := { d.flash with mapState := 2 } }
     (acts s 0x2840 6 1).any (fun (d, _) => (d.cleanShutdown s.ctx).1 == stOk) = true) := by decide +kernel

/-! ### Fuses, keys and the control blocks -/

/-- An Ed448 key, its firmware root digest, and its signatures of a component 0 with SVN 1 and of an empty session transcript (RFC 8032;
SHAKE256 of FIPS 202). -/
def rootKey : Nat :=
  0x804b83f093431a9d66a58801bd6007c7859af8fa1413061f4927010e70dc4953549d9dd871c4ff20bbab3996f937382fb9447730b14cc17205
def rootDigest : Nat :=
  0x4f6596a346f103e7f650daed993b867ea1bdc1a742e8d617a0d07d82a15837f733daff03e34e059df414277d00fa1eedc9ffb0313e32fc8038aa88441c919cc8
def signedBlock : Nat :=
  0x1d525628c9738c54ddc8e64306c0e5c19cd3dc406648d9d15d318213f1e7b6f4be457cb163955f3d27b6e7e6a8907fbda059d305b7c2f9db80cfcb298518440f0f9581b055bc8edd48119574e7ac7f83a660cb5d00f1b12d5a783a392726fae89e815619d7e8f370dcb706e9bb301ff305
def signedTranscript : Nat :=
  0x4f70b0433ad2419337cd1cb02c975f48d62a95c9ce3630f61cd3062ee3dc5da6a4317d3931e98ee38f89db919a0fd57738ea3bb82711cbf80a7bcc1fd3e941cc723bb52f91b469eab1af552b8bc19dd0878d6d8e2bd4c20204a466c7fa3a473d40e9116bd467b86673bcee940e10bf380

/-- An image whose component 0 has SVN 1 and no code, signed with that key. -/
def image1 : FwImage :=
  ⟨4096 + 288 * 6, 1 + 6 * 2 ^ 16 + 4096 * 2 ^ 64 +
    (1 + 2 ^ 32 + 0x0304 * 2 ^ 64 + rootKey * 2 ^ 256 + emptyDigest * 2 ^ 768 + signedBlock * 2 ^ 1280) * 2 ^ (8 * 4096), 1⟩

theorem meets_FuseCommandsBurn :
    (let s := { talking [] fun d => { d with nor := { d.nor with images := [image1, image1] } } with
       fuses := { Fuses.reset with rootDigests := rootDigest :: List.replicate 7 0 } }
     (acts s 0x5C01 3 1).any (fun (d, _) => d.componentOk s.ctx (d.image 0) 0 && decide (1 ≤ sbSvn ((d.image 0).sig 0)) &&
       d.image 1 == d.image 0 && decide (nth s.fuses.counters 0 < 1)) = true) ∧
    (acts talking 0x5C01 3 0x500).isSome = true ∧ nth State.reset.fuses.counters 5 = 0 ∧
    (acts talking 0x5C01 3 1).any (fun (d, _) => !d.componentOk talking.ctx (d.image 1) 0) = true ∧
    (acts talking 0x5C01 4 7).any (fun (d, _) => [0, 1].all fun i => (List.range 6).all fun n => (d.image i).len == 0 || sbSlot ((d.image i).sig n) != 7) = true ∧
    (acts talking 0x5C01 4 0).any (fun (d, _) => (d.image 0).len != 0 && sbSlot ((d.image 0).sig 0) == 0) = true ∧
    (let s := { talking with fuses := { Fuses.reset with lifeCycle := 2 } }
     (acts s 0x5C00 2 4).any (fun (d, x) => x.realm == 0 && d.transitionListed s.ctx 4 && d.pins.lcStrap == 1) = true ∧
     (acts s 0x5C00 2 3).any (fun (d, _) => !d.transitionListed s.ctx 3) = true) := by decide +kernel

theorem meets_ControlActionsAct :
    (acts talking 0x5C10 1 1).any (fun (d, _) => !d.generatorFailed) = true ∧
    (let s := talking [] fun d => { d with nor := { d.nor with images := [.delivered, image1] } }
     (acts s 0x5F02 0 1).any (fun (d, _) => (d.image (1 - d.nor.boot.active)).state == 1 && !d.nor.boot.trial) = true) ∧
    (let s := talking [] fun d => { d with nor := { d.nor with boot := { d.nor.boot with trial := true } } }
     (acts s 0x5F04 0 1).any (fun (d, _) => d.nor.boot.trial) = true) ∧
    (let s := talking [] fun d => { d with keep := { d.keep with lifeCycle := 2 } }
     (acts s 0x5820 0 0x704).any (fun (d, _) => programsAllowed d.keep.lifeCycle && !(programBlocks 4 7).isEmpty && d.oculus.program % 256 != 1 &&
       d.oculus.slice.isNone) = true) ∧
    ((hosted dev).fnThere 0 0 = true ∧ dev.boot.reloading = false ∧ dev.boot.node ≠ 0x81) := by decide +kernel

/-- A session that waits for its client's proof, with the client's key in slot 1, and its request with the right tag. -/
def proving : Session := { session with proofPending := true, keySlot := 1 }
def proof : Req := { req with tag := proving.tagOf 0 0 (wireMessage proving 0x11 0 0 1 0x5C20 1 0 114 signedTranscript) }

theorem meets_sessionProof : let s := talking [(entryKey 0x5C30 1, ⟨64, rootKey + 2 ^ 456⟩)] id proving
    s.dev.proofHolds proving signedTranscript = true ∧ ∃ d x, s.takesUp proof 0x5C20 1 signedTranscript d x := by
  intro s
  have ha : proving.authentic proof 0x11 0x5C20 1 ⟨0, 114, signedTranscript⟩ = true := by
    simp [Session.authentic, Session.fresh, Session.sealedAt, Session.keyed, proof, proving, session, Session.opened, req]
  have hs : (s.dev.session? 0 proof.number).filter (fun x => x.sender == proof.sender) = some proving := by decide +kernel
  have ht : ((s.dev.countIn proving proof 0x11 0x5C20 1 ⟨0, 114, signedTranscript⟩).inTurn (fun _ => none) s.ctx proof proving 0x11 0x5C20 1 fun d x => d.checkedWrite (fun _ => none) s.ctx proof x 0x11 0x5C20 0x5C20 1
      ⟨114, signedTranscript⟩ fun _ d => some (d, x)).isSome = true := by decide +kernel
  obtain ⟨⟨d, x⟩, ht⟩ := Option.isSome_iff_exists.mp ht
  have h1 : s.dev.arrives proof = true := by decide +kernel
  have h2 : s.dev.boot.reloading = false := by decide +kernel
  have h3 : ((entryAt 0x5C20 1).map (·.size)).getD 0 = 114 := by decide +kernel
  exact ⟨by decide +kernel, d, x, by decide +kernel, by
    simpa [Dev.actionIn, Dev.requestIn, h1, h2, h3, hs, ha, show proof.path = 0 from rfl] using ht⟩

/-! ### Start, supervision and tests -/

/-- One volume of the flash, with every field at a small value. -/
def oneVolume : Nat × Volume := (0, { Volume.absent with state := 1, realm := 1, groups := 1, capacity := 1 })

/-- A node at a step of its start, with the state and source of its map (R670, R671). -/
def starting (node mapState mapSource : Nat) (waves : List Nat := []) : State :=
  at_ (60 * secondTicks) { dev with
    boot := { dev.boot with node := node, waves := waves }, nor := { dev.nor with kept := [(entryKey 0x5F05 0, ⟨1, 0⟩)] },
    flash := { dev.flash with mapState := mapState, mapSource := mapSource, rootClean := true, volumes := [oneVolume] } }

theorem meets_StartStepsFollow :
    ((starting 3 0 0).running = true ∧ ([] : List Nat).any (inRange 712 719) = false ∧ sensorsLost [] = false) ∧
    (starting 4 0 0).dev.banks.units.length = 32 ∧ (starting 4 0 0 [0, 1, 2]).dev.boot.waves.length = 3 ∧
    (starting 5 0 0).dev.flash.mapState = 0 ∧ (starting 5 1 0).dev.flash.volumes ≠ [] ∧ (starting 5 1 0).dev.flash.rootClean = true ∧ dev.flash.volumes = [] ∧ (starting 5 1 2).dev.scannedBlocks = [] ∧
    (starting 6 2 1).running = true ∧
    ((starting 7 2 1).dev.boot.succeeded = false ∧ (starting 7 2 1).dev.boot.operationalAt + 60 * secondTicks ≤ (starting 7 2 1).time.count ∧
      (tabValue (starting 7 2 1).dev.nor.kept 0x5F05 0).num ≠ 1) := by decide +kernel

theorem meets_FailuresAreHandled : ((starting 3 0 0).running = true ∧ (starting 3 0 0).dev.isMinimal = false ∧ (starting 3 0 0).dev.boot.node = 3) ∧
    ((starting 4 0 0).running = true ∧ (starting 4 0 0).dev.boot.node = 4) ∧
    (let s := { starting 5 0 0 with time := { (starting 5 0 0).time with count := 600 * secondTicks } }
     s.running = true ∧ s.dev.boot.node < 7 ∧ s.dev.boot.began + 600 * secondTicks ≤ s.time.count) ∧
    (starting 7 2 1).dev.boot.expiries = [] ∧ (starting 7 2 1).running = true ∧
    (let s := starting 7 2 1
     (([s.time.count, 1] : List Nat).filter fun t => decide (s.time.count < t + 600 * secondTicks)).length = 2) ∧
    (starting 0x81 0 0).running = true := by decide +kernel

theorem meets_SupervisionActs :
    let d := { dev with nor := { dev.nor with kept := [(entryKey 0x5003 1, ⟨16, 0x40 * 2 ^ 120⟩)] } }
    let s := at_ 10000 (under [(entryKey 0x2E01 2, ⟨8, 2 ^ 36 - 1⟩)] { d with power := { d.power with mhz := List.replicate 36 625 } })
    d.regulatorAddress 15 ≠ 0 ∧ s.dev.power.mhz.length = 36 ∧ 1050 ≤ s.dev.cfg 0x2010 36 ∧ s.dev.mayChange s.ctx 35 = true ∧ (600 : Nat) < 625 ∧
      s.dev.mayRaise 35 1050 = true ∧ s.dev.railControlled (groupQuarter 35) = false ∧ 1050 % 25 = 0 := by decide +kernel

theorem rail_enough (q mhz : Nat) : curveMv q mhz ≤ 800 := by
  unfold curveMv
  split <;> omega

theorem meets_OculusTests :
    (let d := under [(entryKey 0x5800 2, ⟨1, 1⟩)] dev
     d.cfg 0x5800 2 = 1 ∧ d.oculus.slice = none ∧ d.oculus.program % 256 ≠ 1) ∧
    ({ dev.oculus with slice := some 805 }.slice = some 805) ∧ ({ dev.oculus with program := 1 }.program % 256 = 1) := by decide +kernel

/-! ### Updates, tables and consolidation -/

/-- An update that waits, published at 5. -/
def pendingUpdate (since : Option Nat) : PendingUpdate := ⟨63, 2 ^ 48 - 1, 0, [(0, 0, 0)], 0, 5, since⟩

/-- Table 0 of realm 1: four rows of two FP32 elements, its home record at `home`, two LOCAL slots at 0x200000 (R390, R402). -/
def tableWord (home : Nat) : Nat :=
  1 + 9 * 2 ^ 8 + 2 * 2 ^ 16 + 4 * 2 ^ 32 + 2 ^ 96 + home * 2 ^ 128 + 2 * 2 ^ 192 + 0x200000 * 2 ^ 256

/-- The device while row 3 of that table is copied, its forwarding entry with these bits above VALID. -/
def copying (home bits : Nat) (out : Bool) : Dev :=
  let w := tableWord home
  let d := under ((entryKey 0x3120 1, ⟨48, w⟩) :: allotted) (served dev)
  let d := d.putFwd w ((probeOrder w 3).headD 0) (3 + 2 ^ 32 + bits)
  { d with updates := { d.updates with copies := [⟨0, 3, out, 0, 0, none, none⟩] } }

/-- The copy goes on: its row may be read where it lies and written where it goes. -/
def copyGoes (d : Dev) (out dirty : Bool) : Bool :=
  let w := d.table 0
  match d.fwdOf w 3 with
  | none => false
  | some (_, e) =>
    let at_ (home : Bool) := if home then homeAt w 3 else localAt w (fwSlot e)
    let x := d.readRecord (tbRealm w) (at_ !out) (tbRS w) (tbSS w)
    fwDirty e == dirty && x.1 == stOk && (x.2.2.replaceRecord ⟨5, .reset⟩ (tbRealm w) (at_ out) (tbSS w) x.2.1).1 == stOk &&
      (d.updates.copies.find? fun k => k.table == 0 && k.row == 3 && k.switched.isNone).isSome

theorem meets_UpdatesRetireAndCopiesEnd :
    (let p := pendingUpdate none
     let d := { dev with updates := { dev.updates with pending := [p] } }
     d.updates.pending.find? (fun q => q.index == 63 && q.id == 2 ^ 48 - 1 && q.since.isNone) = some p ∧ d.earlierInstance 63 p.publish = false) ∧
    (let p := pendingUpdate (some 7)
     let d := { dev with updates := { dev.updates with pending := [p] } }
     d.updates.pending.filter (fun q => q.index == 63 && q.id == 2 ^ 48 - 1) = [p] ∧ p.since = some 7 ∧ d.tombstoneDue p = false ∧
       d.updates.jobs = [] ∧
       d.earlierInstance 63 7 = false ∧ 7 + d.cfg (0x3060 + 63) 3 * msTicks ≤ 7 + (2 ^ 32) * msTicks) ∧
    (let d := copying t2Base 0 true
     (d.fwdOf (d.table 0) 3).isSome = true ∧ d.homeStays (d.table 0) = false) ∧
    (copyGoes (copying 0x100000 (2 ^ 35) false) false true = true ∧ copyGoes (copying 0x100000 0 false) false false = true ∧
      copyGoes (copying 0x100000 0 true) true false = true) ∧
    (let k : RowCopy := ⟨0, 3, true, 0, 0, some 2, some 1⟩
     let d := { dev with updates := { dev.updates with copies := [k] } }
     d.updates.copies.find? (fun k => k.table == 0 && k.row == 3) = some k ∧ d.updates.gathers = []) := by decide +kernel

/-- Index 0 of KIND 1 with one cell on bank 0, whose segment in slot 0 is due; clock group 0 is its realm's. -/
def consolidating : Dev :=
  let w := 1 + 2 ^ 24 + 32 * 2 ^ 32 + 2 ^ 64 + 2 ^ 216 + 2 ^ 272 + 4 * 2 ^ 512
  let d := under [(entryKey 0x3020 1, ⟨256, w⟩), (entryKey 0x3060 2, ⟨1, 0⟩), (entryKey 0x2E01 2, ⟨8, 1⟩)] (indexed dev)
  let d := d.putSeg 0 0 (2 ^ 128 + 0xFFFFFFFF * 2 ^ 160)
  { d with updates := { d.updates with passes := [⟨0, 0, [(0, 0)], 0⟩] } }

theorem meets_ConsolidationMovesSegments :
    (let d := consolidating
     let w := d.index 0
     let h := d.seg 0 0
     let banks := cellBanks w (sgCell h)
     let least := (banks.map (d.liveIn w (sgCell h))).foldl min (d.liveIn w (sgCell h) (banks.headD 0))
     ixKind w = 1 ∧ ixHasBank w 0 = true ∧ sgCap h ≠ 0 ∧ sgSealed h = false ∧ d.mayConsolidate 0 = true ∧ d.segmentDue 0 w 0 0 = true ∧
       (banks.filter fun b => d.liveIn w (sgCell h) b == least) = [0] ∧ ((d.choose 1).2.takeStorage 0 w (sgCell h) 0 false).1.isSome = true) ∧
    (let m (stage : MoveStage) : MoveJob := ⟨0, 0, 0, 0, 0, 1, stage, 5, 0⟩
     (m .switched).index = 0 ∧ (m .unlinked).stage = .unlinked ∧ dev.earlierInstance 0 5 = false) := by decide +kernel

theorem meets_FormattingAndClearingEnd :
    (let d := { dev with
       search := { dev.search with indexes := [(63, IndexState.fresh)] }, updates := { dev.updates with tables := [(63, TableState.fresh)] }
       kv := ⟨[(15, PoolState.fresh)], []⟩, scrubs := [(0, 24575)] }
     (d.indexState 63).state = 1 ∧ d.objectCleared (0x3020 + 63) = true ∧ (d.tableState 63).state = 1 ∧ d.objectCleared (0x3120 + 63) = true ∧
       (d.poolState 15).state = 1 ∧ d.objectCleared (0x3200 + 15) = true ∧ (0, 24575) ∈ d.scrubs ∧ d.tiers.waitingAccesses = []) := by decide +kernel

/-! ### Flash, tiers and the fabric -/

/-- A slot of filler. -/
def anySlot : FlashSlot := ⟨1, 0, 0, 1, 0, 0, 0⟩

/-- The device with operations on block 1 and what its flash holds besides; a read numbered 0 is being served where there is one. -/
def flashed (ops : List FlashOp) (copies : List FlashCopy := []) : Dev :=
  under [(entryKey 0x2820 0, ⟨32, 3 * 2 ^ 152⟩)] { dev with flash := { dev.flash with
      ops := ops, copies := copies, blocks := [(1, { FlashBlock.fresh with state := .closed, slots := [anySlot] })]
      serving := if ops.any FlashOp.isRead then [(0, 0)] else []
      opens := [(64 * 127 + 15, ⟨1, [(⟨1, 127, 0, 1, 0, 0, 1⟩, none)], 0⟩)]
      volumes := [(127, { Volume.absent with state := 3, realm := 1, groups := 1, removedAt := 5 })] } }

theorem meets_FlashOperationsEnd :
    (let d := flashed []
     (tabGet (64 * 127 + 15) d.flash.opens).any (fun o => !o.buffer.isEmpty && decide (o.firstAt + d.cfg 0x2840 7 * usTicks ≤ 2 ^ 32 * usTicks)) = true) ∧
    (let o : FlashOp := ⟨0, .read 0 none 0 0, 1, 0, 0, 0, false⟩
     let d := flashed [o]
     d.flashOp? 0 = some o ∧ d.opTested 0 = false ∧ d.served (blockLun o.block) = some o ∧ (d.fblock o.block).slots[o.index]? = some anySlot ∧
       o.retries < mpRetries (d.profile (lunGroup (blockLun o.block)))) ∧
    ([.program [], .summary ⟨0, 0, 0, 0, []⟩, .erase].all fun (use : OpFor) =>
      let o : FlashOp := ⟨0, use, 1, 0, 0, 0, false⟩
      let d := flashed [o]
      decide (d.flashOp? 0 = some o) && !d.opTested 0 && decide (d.busyOp (blockLun o.block) = some o) && (d.served (blockLun o.block)).isNone) = true ∧
    (let o : FlashOp := ⟨1, .erase, 1, 0, 0, 0, false⟩
     let d := flashed [⟨0, .read 0 none 0 0, 1, 0, 0, 0, false⟩, o]
     d.flashOp? 1 = some o ∧ d.opTested 1 = false ∧ (d.served (blockLun o.block)).isSome = true) ∧
    (let d := flashed [⟨0, .erase, 1, 0, 0, 0, false⟩]
     ({ d with oculus := { d.oculus with slice := some 576 } } : Dev).opTested 0 = true) ∧
    (let x : FlashCopy := ⟨0, 1, false, false, [], [(0, 1, 0)], false⟩
     let d := flashed [] [x]
     d.flash.copies.find? (fun y => y.number == 0) = some x ∧ d.copyProgrammed x = true ∧ d.flash.ops = [] ∧
       { x with verified := true }.retire = false) := by decide +kernel

/-- A home segment of realm 1 on this device, and GiB 7 lent as segment 9, reclaimed at 5. -/
def pooledTiers (d : Dev) : Dev := { d with tiers := { d.tiers with
  panels := [⟨1, 0, 1, 1, 0, []⟩], writeBacks := [⟨16, 1, false, false, none⟩], offered := [3071]
  segments := [(8, ⟨1, 1, 4, 0, 2, true, false, 0⟩), (10, ⟨2, 1, 4, 0, 2, true, false, 0⟩), (11, ⟨1, 1, 4, 0, 2, false, false, 0⟩)]
  lent := [(7, ⟨4, 9, 2, 0, some 5, none, [], 0, false, [], none⟩), (12, ⟨4, 13, 2, 0, some 5, some (6, 0), [], 0, false, [], none⟩)] } }

/-- The machine on a fabric: node 5, link 0 carrying, the manager's session up, composition 2 (in slot 1) of realm 1 with nodes 5 and 4. -/
def meshed (count : Nat) (f : Dev → Dev := id) : State :=
  at_ count (f { dev with fabric := { dev.fabric with
    links := { Link.reset with state := 2, version := 0x31, lanes := 8, encrypted := true } :: List.replicate 31 .reset
    node := 5, fmSession := 1, domain := 2, timeRef := 4
    compositions := [(1, ⟨2, 1, 3, 0, [5, 4], [], 1, 0, none⟩)] } })

/-- A message of node 4 in that composition and epoch. -/
def peer : Afp := { hdr with src := 4, composition := 2, epoch := 3, requestId := 77 }

theorem meets_hears : (meshed 5).hears hdr true ∧ (meshed 5).hears peer false ∧ (meshed 5).hearsOnce peer := by
  unfold State.hearsOnce State.hears; decide +kernel

theorem meets_FlashAndWriteBack :
    ((flashed []).volume 127).state = 3 ∧ ((flashed []).volume 127).next = none ∧ (flashed []).capsules.live = [] ∧
    (let d := pooledTiers dev
     (d.panel 1 (panelTag 0)).any (fun p => bit p.dirty (0 % 16) && decide (p.dirtySince + d.cfg 0x2461 2 * msTicks ≤ 2 ^ 32 * msTicks)) = true ∧
       d.onItsWay 0 = false ∧ d.tiers.writeBacks.find? (fun x => x.sector == 16) = some ⟨16, 1, false, false, none⟩ ∧ hdr.status = stOk) := by decide +kernel

/-- A device that may lend all that it need not keep (0x2B80.01). -/
def lender : Dev := under [(entryKey 0x2B80 1, ⟨1, 100⟩)] dev

theorem no_allotment : ∀ s < 32, ∀ g < 96, allotBy lender.cfg s g = 0 := by decide +kernel

theorem no_cache {d : Dev} (h : ∀ s < 32, ∀ g < 96, allotBy d.cfg s g = 0) (r : Nat) : d.cacheGib r = 0 := by
  have hl : ∀ s ∈ List.range 32, (((List.range 96).filter fun g =>
      let w := allotBy d.cfg s g; alCache w && alRealm w == r && (tabGet (96 * s + g) d.tiers.lent).isNone).map (96 * s + ·)) = [] := by
    intro s hs
    have hz : alCache 0 = false := by decide
    simp only [List.map_eq_nil_iff, List.filter_eq_nil_iff]
    intro g hg
    simp [h s (List.mem_range.mp hs) g (List.mem_range.mp hg), hz]
  unfold Dev.cacheGib Dev.cacheGibs
  split
  · rfl
  · rw [List.map_congr_left hl]
    decide

theorem structure_one {d : Dev} (h : ∀ r, d.cacheGib r = 0) (hv : d.flash.volumes = []) : d.structureGib = 1 := by
  have hs : (List.range 256).map d.cacheGib = (List.range 256).map fun _ => 0 := List.map_congr_left fun r _ => h r
  have h0 : sumOf ((List.range 256).map fun _ => 0) = 0 := by decide +kernel
  simp only [Dev.structureGib, hv, hs, h0]
  decide

theorem lends {d : Dev} (hs : d.structureGib = 1) (hk : 66 ≤ d.keptGib.length) (hc : d.cfg 0x2B80 1 = 100 ∧ d.cfg 0x2B80 2 = 64) : d.lendLimit ≠ 0 := by
  simp only [Dev.lendLimit, hs, hc.1, hc.2]
  omega

/-- The GiB it keeps: more than the 65 that it may not lend. -/
theorem lender_keeps : 66 ≤ lender.keptGib.length := by
  have h := ((List.range_sublist (m := 66) (n := 3072)).2 (by decide)).filter fun g =>
    match regionOfOffset (regionsBy lender.cfg (g / 96)) (g % 96 * gib) with
    | some w => rgMode w == 1 && rgRealm w == 0 && alRealm (allotBy lender.cfg (g / 96) (g % 96)) == 0
    | none => false
  exact Nat.le_trans (by decide +kernel) h.length_le

theorem lender_limit : lender.lendLimit ≠ 0 :=
  lends (structure_one (no_cache no_allotment) rfl) lender_keeps (by decide +kernel)

theorem meets_LendersServe :
    (lender.tiers.lent = [] ∧ lender.tiers.offered = [] ∧ lender.scrubs = []) ∧
    (let s := meshed 5 pooledTiers
     (s.dev.segment 20).gen < 1 ∧ 4 ≠ s.dev.fabric.node ∧ 5 = s.dev.fabric.node ∧ 3071 ∈ s.dev.tiers.offered) ∧
    (let s := meshed 5 pooledTiers
     (s.dev.lentOf 9).any (fun e => e.2.gen == 2 && e.2.borrower == peer.src && !e.2.copied && !e.2.holdsWrites && e.2.next.isNone) = true ∧
       gib - 1 + 1 ≤ gib) := by decide +kernel

theorem meets_SegmentsMoveAndEnd :
    let s := meshed 5 pooledTiers
    ((s.dev.segment 8).mine = true ∧ (s.dev.segment 8).state = 1 ∧ (s.dev.segment 8).gen = 2 ∧ (s.dev.segment 8).homeNode = peer.src) ∧
    ((s.dev.lentOf 9).any (fun e => e.2.reclaimed == some 5 && e.2.gen == 2 && e.2.next.isNone && decide (s.time.count < 5 + s.dev.cfg 0x2B80 3 * msTicks)) =
      true) ∧
    ((tabGet 12 s.dev.tiers.lent).any fun l => l.next == some (6, 0) && !l.copied && l.marked.isEmpty) = true ∧
    ((s.dev.segment 11).gen < 3 ∧ s.dev.lentOf 11 = none ∧ (s.dev.segment 11).mine = false ∧ (s.dev.segment 11).state ≠ 0) ∧
    (s.dev.lentOf 10 = none ∧ (s.dev.segment 10).mine = true ∧ (s.dev.segment 10).state = 2 ∧ (s.dev.segment 10).until_ ≤ s.time.count) := by
  decide +kernel

theorem meets_FabricLinks :
    let d := (meshed 5).dev
    (d.fabricUp = true ∧ d.linkUsed 28 = true ∧ (d.link 28).carries = false ∧ d.linkWidth 28 = 8 ∧ (d.link 0).carries = true ∧ (d.link 0).encrypted = true ∧
      d.generatorFailed = false) ∧
    (let d (cipher : Nat) := (meshed 5 fun d => under [(entryKey 0x2A10 4, ⟨1, cipher⟩)] (d.modLink 0 fun l => { l with state := 1 })).dev
     ((d 0).link 0).state = 1 ∧ ((d 0).link 0).lanes ≠ 0 ∧ commonAfp 0x31 0x23 ((d 0).lowestAfp 0) = some 0x31 ∧ (d 0).needsCipher 0 = false ∧
       commonAfp 0x30 0x30 ((d 1).lowestAfp 0) = some 0x30 ∧ (d 1).needsCipher 0 = true) := by decide +kernel

theorem meets_TimeAndPlace :
    (let s := meshed 5
     2 ≤ s.dev.fabric.domain ∧ s.dev.fabric.timeRef ≠ 0 ∧ s.dev.fabric.timeRef ≠ s.dev.fabric.node ∧ s.dev.fabric.exchangeAt ≤ s.time.count ∧
       s.dev.fromReference peer = true) ∧
    (let s := meshed 5 fun d => { d with fabric := { d.fabric with domain := 1 } }
     s.dev.fabric.domain = 1 ∧ s.dev.boot.node = 7) ∧ (0 : Nat) < 4095 := by decide +kernel

/-- The plan of a COLLECT of number 6, two ranks, root 0 (R349). -/
def collecting (d : Dev) : Dev := { d with plans := { d.plans with plans := [(1, plan (image (word 0x44 (6 + 2 * 2 ^ 16)) [one, one] 0))] } }

/-- A capsule of the composition. -/
def member : Capsule := { capsule with composition := 2, epoch := 3, members := [5, 4] }

theorem meets_CompositionsAndShadows :
    (let d := (meshed 5).dev
     d.compositionSlot 2 = some 1 ∧ (d.composition? 1).any (fun c => decide (c.epoch < 4) && decide (3 ≤ c.epoch) && c.ownRank == 0) = true ∧
       5 = d.fabric.node) ∧
    (let d := (meshed 5 fun d => { d with fabric := { d.fabric with compositions := [(1, ⟨2, 1, 3, 0xFFFF, [4], [], 1, 0, none⟩)] } }).dev
     d.compositionSlot 2 = some 1 ∧ (d.composition? 1).any (fun c => c.ownRank == 0xFFFF) = true ∧ 4 ≠ d.fabric.node) ∧
    (let d (role : Nat) := (meshed 5 fun d => { d with fabric := { d.fabric with shadow := { Shadow.reset with role := role, partner := 4 } } }).dev
     0x30 ≤ ((d 1).link peer.link).version ∧ (d 1).fabric.shadow.partner = peer.src ∧ peer.link < (d 1).fabric.links.length ∧
       (d 1).fabric.shadow.role = 1 ∧ (d 2).fabric.shadow.role = 2) := by decide +kernel

theorem meets_RequestsBetweenNodes :
    (let r : OwnRequest := ⟨77, 0x32, 4, 2, 0, 0, 0, 2 ^ 40, []⟩
     let s := meshed (2 ^ 32) fun d => { d with
       fabric := { d.fabric with requests := [r], held := [⟨peer, .announce, 0⟩] }, capsules := ⟨[capsule], 1⟩ }
     s.dev.asked peer 77 = some r ∧ (s.dev.capsule? r.capsule).isSome = true ∧ (0x7F : Nat) % 256 < 0x80 ∧
       r.sentAt + s.dev.cfg 0x2A50 2 * usTicks ≤ s.time.count ∧ s.time.count < r.deadline ∧
       (s.dev.fabric.held.find? fun r => r.header.src == 4 && r.header.requestId == 77).isSome = true ∧ 0 + s.dev.cfg 0x2A50 1 * msTicks ≤ s.time.count) ∧
    (let s := meshed 5 fun d => { d with plans := { d.plans with plans := [(1, plan (image (word 0x42) [one + 3 * 2 ^ 4, one] 0))] } }
     s.dev.compositionSlot peer.composition = some 1 ∧ (s.dev.composition? 1).any (fun c => peer.epoch == c.epoch && peer.epoch != 0 &&
       c.members.contains peer.src && nth c.members peer.dstRank != 0) = true) ∧
    (let s := meshed 5 fun d => { (collecting d) with capsules := ⟨[member], 1⟩ }
     s.dev.collective? 1 6 9 = none ∧ (s.dev.queryCapsule 1 6 9).any (fun c => c == member) = true ∧
       (s.dev.gathering 1 6).any (fun g => g.m == 2 && g.root == 0) = true ∧ member.members.contains peer.src = true) ∧
    (let k : Collective := { Collective.fresh 1 6 9 with former := some (⟨1, 3, 0, [5, 4], 1, 1, false⟩, 2, 0) }
     let s := meshed 5 fun d => { d with search := { d.search with collectives := [k] } }
     s.dev.queryCapsule 1 6 9 = none ∧ s.dev.collective? 1 6 9 = some k) := by decide +kernel

theorem meets_OwnershipMoves :
    let d (st : UnitState) := (meshed (2 ^ 32) fun d => { d with fabric := { d.fabric with units := [(unitKey 1 4095, ⟨st, 7, 4, 0, [], []⟩)] } }).dev
    ∀ st ∈ [UnitState.none, .owner, .sending, .surrendered, .prepared, .complete],
      (d st).compositionSlot peer.composition = some 1 ∧ ((d st).ownUnit 1 4095).state = st ∧ ((d st).ownUnit 1 4095).peer = peer.src ∧
        (d st).unitSending peer 4095 = none ∧ ((d st).ownUnit 1 4095).since + (d st).cfg 0x2A50 4 * msTicks ≤ 2 ^ 32 := by decide +kernel

/-! ### The manual's numbers -/

/-- *Worked example — quantising one block of eight values into Q4*: 0.3125, 0.4375, −0.1875, 1.0, −2.0, 0.0625, −0.0 and NaN with SE = −3. -/
theorem test_quantise_q4 : ([.fin false 5 (-4), .fin false 7 (-4), .fin true 3 (-4), .fin false 1 0, .fin true 2 0, .fin false 1 (-4), .fin true 0 0,
    .nan].map fun x => (quantise .q4 (-3) x).1) = [2, 4, -2, 7, -7, 0, 0, 0] := by decide +kernel

/-- The same example's counters. -/
theorem test_quantise_counts : (quantise .q4 (-3) (.fin true 2 0)).2 = ⟨1, 0⟩ ∧ (quantise .q4 (-3) .nan).2 = ⟨0, 1⟩ := by decide +kernel

/-- *Mesh*: the memory controller of S13 enters at (23, 4). -/
theorem test_stack_router : stackRouter 13 = (23, 4) := by decide +kernel

/-- *Worked example — encoding one RUN capsule and its completion*: the record, without the phase. -/
theorem test_completion_record : completionRecord ⟨0x1D4A51200 + 131000, Fuses.reset⟩
    { capsule with src := .host 0 1 5 0 false, opcode := 1, tag := 0x1234, acceptedAt := 0x1D4A51200 } 0 false false 0 0 =
    0x12340000 + 0x501 * 2 ^ 32 + 0x1D4A51200 * 2 ^ 128 + 0x1FFB8 * 2 ^ 192 := by decide +kernel

/-- FIPS 202: SHAKE256 of no bytes, its first 32. -/
theorem test_shake256 : shake256 32 0 0 = 0x2f76d56e64270cb5821bb862ea52cd3f24eb3e74eb3f3b23138da80b2bddb946 := by decide +kernel

/-- RFC 7748, 5.2: the first X448 vector. -/
theorem test_x448 : x448 0xd30a601c4f9a25294bf568a3eb4349f4bf8fd7cdf8244c989c770a7021e1aad1d0045104efac8288d2349aa1fe665249888eecf9dd2f263d
    0x86a0f84efba7a78aa1ad94db2954fa8325dac6198cc3bddd31c04d81f9080f027f4307bd4c3388ad8a3f26d5f26c5fdabf8734fa40e6fc06 =
    0x6f6bd93df7826276211e11613922989d77b0016ac65f44ebadba4fe19f235f6d54d712240ab579dffb6a5ed8b11dda9766dc605af94f3ece := by decide +kernel

/-- IEEE 1619, vector 10: the first block under XTS-AES-256. -/
theorem test_xts : aesXts 1 0x92459474098205513799931697418802952783336462842393975853265941312776966649575999699370245777496226357174286053234590452818281827
    0xFF 0xf0e0d0c0b0a09080706050403020100 = 0x9bcf70e3996c83e48603772f103a3b1c := by decide +kernel

/-- *Package*: ball 037.112 is ground, and ball 090.005 is RXP of lane 5 of port P2. -/
theorem test_balls : ballAt 37 112 = .vss ∧ ballAt 90 5 = .fabricLane 2 5 .rxp := by decide

/-- *Flash channel signals*: F05_DQ3 lies at 049.008 (R724). -/
theorem test_flash_ball : ballAt 49 8 = .flash 5 3 := by decide

end Sys2Proof.Tests
end

section
/-! What a command can do to the fuses and to the time base, and how a step moves the time base (R26, R28). -/

namespace Sys2Proof.Machine

/-! ### The fuses of a segmented write (R102) -/

/-- The entries through which a written value can burn a fuse. -/
def burningIndex (idx : Nat) : Bool := idx == 0x5C00 || idx == 0x5C01

/-- A request with one result wherever it ends has that result. -/
theorem requestIn_const {α : Type} (a : α) (c d q op i j b) : Dev.requestIn (fun _ => a) c d q op i j b (fun _ _ => a) = a :=
  (requestIn_nat (fun _ : Unit => a) (fun _ => ()) c d q op i j b fun _ _ => ()).symm

theorem actEntry_fuses {idx : Nat} (h : burningIndex idx = false) (c d q s sub v) : (Dev.actEntry c d q s idx sub v).1 = c.fuses := by
  obtain ⟨h0, h1⟩ : idx ≠ 0x5C00 ∧ idx ≠ 0x5C01 := by simpa [burningIndex] using h
  unfold Dev.actEntry
  simp only [h0, h1, false_and, if_false]
  split <;> rfl

theorem putEntry_fuses {idx : Nat} (h : burningIndex idx = false) (c d q s op shown r sub v) :
    (Dev.putEntry c d q s op shown r idx sub v).1 = c.fuses := by
  unfold Dev.putEntry
  split
  · exact actEntry_fuses h ..
  · rfl
  · rfl

/-- A segmented write of an entry that burns nothing keeps the fuses. -/
theorem doSegment_fuses {idx sub : Nat} (h : burningIndex (nativeOf idx sub) = false) (q seg len value c d) :
    (doSegment q idx sub seg len value c d).1 = c.fuses := by
  unfold doSegment
  rw [requestIn_nat Prod.fst]
  refine Eq.trans ?_ (requestIn_const c.fuses c d q 0x13 idx sub ⟨seg, len, value⟩)
  congr 1
  funext d s
  dsimp only
  -- every row of *Access results* keeps the fuses but the last, which writes the entry
  iterate 4
    split
    · rfl
  generalize Dev.modSession _ q.path q.number _ = gathered
  iterate 3
    split
    · rfl
  split
  · exact putEntry_fuses h ..
  · rfl

/-! ### What each command can do -/

/-- The five commands that can burn a fuse (R650, R660, R661). -/
def burnsFuses : Instr → Bool
  | .transitionRequest .. | .commitSecurityVersion .. | .revokeRootKey .. | .write .. | .writeSeg .. => true
  | _ => false

/-- What the four commands that reach the time base make of it (R28, R608, R609). -/
inductive TimeMove : Instr → TimeBase → TimeBase → Prop
  | rise {lc test t} : t.powered = false →
      TimeMove (.pwrgoodRise lc test) t { count := 0, phase := 0, stepped := false, slewPpm := 0, powered := true }
  | fall {t} : TimeMove .pwrgoodFall t { t with powered := false }
  | aligned {h node place ref t} : TimeMove (.identity h node place ref) t { t with stepped := true }
  | corrected {h sent received back request correction t} (lead2 : Int) (rate : Nat) :
      TimeMove (.timeResp h sent received back request correction) t (t.correct lead2 rate)

/-- A command answers, and reaches the device alone, or the fuses too, or the time base too. -/
def State.Reaches (s : State) (i : Instr) (out : Out) : Prop :=
  (∃ d, out = .next (s.withDev d)) ∨
  (burnsFuses i = true ∧ ∃ f d, out = .next { s with fuses := f, dev := d }) ∨
  (∃ u d, TimeMove i s.time u ∧ out = .next { s with time := u, dev := d })

theorem reaches_fuseStep {i : Instr} (h : burnsFuses i = true) (f s) : State.Reaches s i (fuseStep f s) := by
  rcases fuseStep_any f s with k | k
  · exact .inl ⟨s.dev, k⟩
  · exact .inr (.inl ⟨h, _, _, k⟩)

/-- A step that may burn fuses and keeps them changes the device alone. -/
theorem fuseStep_keeps {f} (hf : ∀ c d, (f c d).1 = c.fuses) (s : State) : ∃ d, fuseStep f s = .next (s.withDev d) := by
  rcases fuseStep_any f s with k | k
  · exact ⟨s.dev, k⟩
  · exact ⟨(f s.ctx s.dev).2, by rw [k, hf]; rfl⟩

theorem reaches_pwrgoodRise (lc test s) : State.Reaches s (.pwrgoodRise lc test) (execPwrgoodRise lc test s) := by
  unfold execPwrgoodRise
  split
  · exact .inl ⟨s.dev, rfl⟩
  · exact .inr (.inr ⟨_, _, .rise (Bool.eq_false_of_not_eq_true ‹_›), rfl⟩)

theorem reaches_identity (h node place ref s) : State.Reaches s (.identity h node place ref) (execIdentity h node place ref s) := by
  unfold execIdentity
  split
  · dsimp only
    cases (doIdentity h node place ref s.ctx s.dev).fabric.aligned
    · exact .inl ⟨_, by simp only [Bool.or_false]; rfl⟩
    · exact .inr (.inr ⟨_, doIdentity h node place ref s.ctx s.dev, .aligned, by simp only [Bool.or_true]⟩)
  · exact .inl ⟨s.dev, rfl⟩

theorem reaches_timeResp (h sent received back request correction s) :
    State.Reaches s (.timeResp h sent received back request correction) (execTimeResp h sent received back request correction s) := by
  unfold execTimeResp timeResponse
  split
  · dsimp only
    cases s.dev.fromReference h
    · exact .inl ⟨_, rfl⟩
    · exact .inr (.inr ⟨_, _, .corrected _ _, rfl⟩)
  · exact .inl ⟨s.dev, rfl⟩

/-- What a command can do, in every state. -/
theorem exec_reaches (i : Instr) (s : State) : s.Reaches i (exec i s) := by
  cases i with
  | pwrgoodRise => exact reaches_pwrgoodRise ..
  | pwrgoodFall => exact .inr (.inr ⟨_, _, .fall, rfl⟩)
  | identity => exact reaches_identity ..
  | timeResp => exact reaches_timeResp ..
  | transitionRequest | commitSecurityVersion | revokeRootKey | write | writeSeg => exact reaches_fuseStep rfl _ s
  | planImage => exact .inl (fuseStep_keeps (doSegment_fuses (idx := 0x3306) (sub := 0) rfl _ _ _ _) s)
  | imagePackage => exact .inl (fuseStep_keeps (doSegment_fuses (idx := 0x5F01) (sub := 0) rfl _ _ _ _) s)
  | sysRstNAssert | sysRstNRelease | perstNAssert | perstNRelease => exact .inl ⟨_, rfl⟩
  | _ => dsimp only [exec]; exact .inl (devStep_any _ s)

/-- Every command answers a next state. -/
theorem exec_answers (i : Instr) (s : State) : ∃ t, exec i s = .next t := by
  rcases exec_reaches i s with ⟨_, h⟩ | ⟨_, _, _, h⟩ | ⟨_, _, _, h⟩ <;> exact ⟨_, h⟩

/-- A command burns a fuse only if it is one of the five. -/
theorem exec_fuses {i : Instr} {s t : State} (h : exec i s = .next t) : t.fuses = s.fuses ∨ burnsFuses i = true := by
  rcases h ▸ exec_reaches i s with ⟨_, k⟩ | ⟨hi, -⟩ | ⟨_, _, -, k⟩
  · cases k; exact .inl rfl
  · exact .inr hi
  · cases k; exact .inl rfl

/-- A command moves the time base only if it is one of the four, and as that one does. -/
theorem exec_time {i : Instr} {s t : State} (h : exec i s = .next t) : t.time = s.time ∨ TimeMove i s.time t.time := by
  rcases h ▸ exec_reaches i s with ⟨_, k⟩ | ⟨-, _, _, k⟩ | ⟨_, _, hm, k⟩
  · cases k; exact .inl rfl
  · cases k; exact .inl rfl
  · cases k; exact .inr hm

theorem burnsFuses_command {i : Instr} (h : burnsFuses i = true) :
    (∃ q v, i = .transitionRequest q v) ∨ (∃ q v, i = .commitSecurityVersion q v) ∨ (∃ q v, i = .revokeRootKey q v) ∨
    (∃ q x n l v, i = .write q x n l v) ∨ (∃ q x n g l v, i = .writeSeg q x n g l v) := by
  unfold burnsFuses at h
  split at h
  · exact .inl ⟨_, _, rfl⟩
  · exact .inr (.inl ⟨_, _, rfl⟩)
  · exact .inr (.inr (.inl ⟨_, _, rfl⟩))
  · exact .inr (.inr (.inr (.inl ⟨_, _, _, _, _, rfl⟩)))
  · exact .inr (.inr (.inr (.inr ⟨_, _, _, _, _, _, rfl⟩)))
  · cases h

theorem TimeMove.command {i : Instr} {t u : TimeBase} (h : TimeMove i t u) :
    (∃ l b, i = .pwrgoodRise l b) ∨ i = .pwrgoodFall ∨ (∃ h a b c x y, i = .timeResp h a b c x y) ∨
    ((∃ h n p r, i = .identity h n p r) ∧ u = { t with stepped := true }) := by
  cases h with
  | rise => exact .inl ⟨_, _, rfl⟩
  | fall => exact .inr (.inl rfl)
  | corrected => exact .inr (.inr (.inl ⟨_, _, _, _, _, _, rfl⟩))
  | aligned => exact .inr (.inr (.inr ⟨⟨_, _, _, _, rfl⟩, rfl⟩))

/-- Settles O8: a fuse that differs names one of the five commands, a time base that differs one of the four. -/
theorem fewCommandsReachFusesAndTime : Obligations.FewCommandsReachFusesAndTime := by
  intro i s t h
  exact ⟨fun hf => burnsFuses_command ((exec_fuses h).resolve_left hf), fun ht => ((exec_time h).resolve_left ht).command⟩

/-! ### How the time base moves -/

/-- How the time base may move in a step (R26, R28): it stays legal; and with power on it stays, counts on, or has its one step forward. -/
def TimeBase.MovesTo (t u : TimeBase) : Prop :=
  u.legal ∧ (t.powered = true → u.powered = true →
    (u.count = t.count ∧ (t.stepped = true → u.stepped = true)) ∨
    ((∃ n, n ≤ 2 ∧ (t.slewPpm = 0 → n = 1) ∧ u.count = (t.count + n) % 2 ^ 64) ∧ u.stepped = t.stepped) ∨
    (t.stepped = false ∧ u.stepped = true ∧ ∃ n, 20 ≤ n ∧ u.count = (t.count + n) % 2 ^ 64))

/-- With a legal slew 10 ns are at most two ticks, and exactly one without a slew. -/
theorem TimeBase.advance_ticks {t : TimeBase} (h : t.legal) : t.advance / 1000000 ≤ 2 ∧ (t.slewPpm = 0 → t.advance / 1000000 = 1) := by
  obtain ⟨hp, hl, hu⟩ := h
  unfold TimeBase.advance
  omega

theorem TimeBase.movesTo_self {t : TimeBase} (h : t.legal) : t.MovesTo t := ⟨h, fun _ _ => .inl ⟨rfl, id⟩⟩

theorem TimeBase.movesTo_tick {t : TimeBase} (h : t.legal) : t.MovesTo t.tick := by
  unfold TimeBase.tick
  split
  · obtain ⟨h2, h1⟩ := t.advance_ticks h
    exact ⟨⟨Nat.mod_lt _ (by decide), h.2⟩, fun _ _ => .inr (.inl ⟨⟨_, h2, h1, rfl⟩, rfl⟩)⟩
  · exact TimeBase.movesTo_self h

/-- A correction steps forward, by the lead in ticks, or slews. -/
theorem TimeBase.movesTo_correct {t : TimeBase} (h : t.legal) (lead2 : Int) (rate : Nat) : t.MovesTo (t.correct lead2 rate) := by
  obtain ⟨hp, -, -⟩ := h
  unfold TimeBase.correct
  split
  · rename_i hs
    obtain ⟨hs, hlead⟩ : t.stepped = false ∧ 6400 < lead2 := by simpa using hs
    exact ⟨⟨hp, by simp, by simp⟩, fun _ _ => .inr (.inr ⟨hs, rfl, _, by omega, rfl⟩)⟩
  · refine ⟨⟨hp, ?_⟩, fun _ _ => .inl ⟨rfl, fun _ => rfl⟩⟩
    dsimp only
    split <;> omega

/-- Each of the four commands moves the time base as it may move. -/
theorem TimeMove.movesTo {i : Instr} {t u : TimeBase} (hm : TimeMove i t u) (h : t.legal) : t.MovesTo u := by
  cases hm with
  | rise hp => exact ⟨by unfold TimeBase.legal; decide, fun ht => absurd ht (by simp [hp])⟩
  | fall => exact ⟨h, fun _ hu => nomatch hu⟩
  | aligned => exact ⟨h, fun _ _ => .inl ⟨rfl, fun _ => rfl⟩⟩
  | corrected lead2 rate => exact t.movesTo_correct h lead2 rate

/-- A step is a tick with no command waiting, or the front command on the rest of the queue. -/
theorem step_cases {s t : State} (h : step s = .next t) :
    (s.pending = [] ∧ t = s.tick) ∨ ∃ i rest, s.pending = i :: rest ∧ exec i { s with pending := rest } = .next t := by
  unfold step at h
  split at h
  · cases h; exact .inl ⟨‹_›, rfl⟩
  · exact .inr ⟨_, _, ‹_›, h⟩

theorem step_time {s t : State} (hl : s.time.legal) (h : step s = .next t) : s.time.MovesTo t.time := by
  rcases step_cases h with ⟨-, rfl⟩ | ⟨i, rest, -, hx⟩
  · exact TimeBase.movesTo_tick hl
  · rcases exec_time hx with ht | hm
    · rw [ht]; exact TimeBase.movesTo_self hl
    · exact hm.movesTo hl

/-- Settles O10, by what a step can do: a tick, or one of the commands that move the time base. -/
theorem timeBaseStepsForwardOnce : Obligations.TimeBaseStepsForwardOnce := fun _ _ => step_time

/-! ### The idle step and the reset state -/

theorem step_idle {s : State} (h : s.pending = []) : step s = .next s.tick := by
  unfold step; rw [h]

/-- Without a slew, and with less than a tick left over, 10 ns are one tick and the rest stays. -/
theorem TimeBase.tick_unslewed {t : TimeBase} (hp : t.powered = true) (hs : t.slewPpm = 0) (hr : t.phase < 1000000) :
    t.tick = { t with count := (t.count + 1) % 2 ^ 64 } := by
  have hq : t.advance / 1000000 = 1 := by unfold TimeBase.advance; omega
  have hm : t.advance % 1000000 = t.phase := by unfold TimeBase.advance; omega
  simp only [TimeBase.tick, hp, if_true, hq, hm]

/-- Settles O2: an idle step is a tick of the time base. -/
theorem idleStepTicks : Obligations.IdleStepTicks := by
  intro s h
  rw [step_idle h]
  refine ⟨fun hp => ?_, fun hp => ⟨_, rfl, rfl, ?_, fun hs hr => TimeBase.tick_unslewed hp hs hr⟩⟩
  · simp [State.tick, TimeBase.tick, hp]
  · simp [State.tick, TimeBase.tick, hp, TimeBase.advance]

/-- Settles O3: the reset state's fields are the delivered part's, and every command answers. -/
theorem resetIsBeforePower : Obligations.ResetIsBeforePower :=
  ⟨rfl, rfl, rfl, rfl, rfl, rfl, by unfold Fuses.legal; decide, fun i => exec_answers i _⟩

end Sys2Proof.Machine
end

section
/-! PWRGOOD and SYS_RST_N (R28, R707, R710–R712), and a node's time and place on the fabric (R28, R605, R608–R610). -/

namespace Sys2Proof.Machine

/-! ### PWRGOOD and SYS_RST_N -/

theorem running_node_zero {s : State} (h : s.dev.boot.node = 0) : s.running = false := by
  simp [State.running, h]

theorem running_unpowered {s : State} (h : s.time.powered = false) : s.running = false := by
  simp [State.running, h]

theorem exec_pwrgoodRise_unpowered {s : State} (hp : s.time.powered = false) (lc test) :
    exec (.pwrgoodRise lc test) s = .next { s with
      time := { count := 0, phase := 0, stepped := false, slewPpm := 0, powered := true }
      dev := (let d := s.dev.sampleStraps lc test
        if d.pins.sysRstN then d.beginStart ⟨0, s.fuses⟩ d.powerOnCause else d.afterReset ⟨0, s.fuses⟩ true) } :=
  if_neg (by simp [hp])

theorem exec_pwrgoodRise_powered {s : State} (hp : s.time.powered = true) (lc test) : exec (.pwrgoodRise lc test) s = .next s :=
  if_pos hp

theorem exec_pwrgoodFall (s : State) : exec .pwrgoodFall s = .next { s with
    time := { s.time with powered := false }
    dev := (s.dev.setBoot { s.dev.boot with node := 0 }).setPins { s.dev.pins with thermtrip := false, alert := false } } := rfl

theorem exec_sysRstNAssert (lowNs s) :
    exec (.sysRstNAssert lowNs) s = .next (s.withDev (doSysRstNAssert lowNs s.running s.ctx s.dev)) := rfl

theorem exec_sysRstNRelease (lc test s) :
    exec (.sysRstNRelease lc test) s = .next (s.withDev (doSysRstNRelease lc test s.time.powered s.ctx s.dev)) := rfl

/-- A reset pulse that is long enough holds the package. -/
theorem doSysRstNAssert_acts {d : Dev} {lowNs : Nat} (hn : 1000 ≤ lowNs) (hp : d.pins.sysRstN = true) (running c) :
    ∃ e : Dev, doSysRstNAssert lowNs running c d = (e.setPins { e.pins with sysRstN := false }).setBoot { e.boot with node := 0 } := by
  have ha : d.pulseActs lowNs = (true, d) := by
    unfold Dev.pulseActs
    rw [if_neg (by omega), if_pos hn]
  refine ⟨if running then d.loseLinks c else d, ?_⟩
  simp only [doSysRstNAssert, ha, hp, Bool.not_true, Bool.or_self, Bool.false_eq_true, if_false]

/-- A pulse below 200 ns is filtered. -/
theorem doSysRstNAssert_filtered {lowNs : Nat} (h : lowNs < 200) (running c d) : doSysRstNAssert lowNs running c d = d := by
  have ha : d.pulseActs lowNs = (false, d) := if_pos h
  simp [doSysRstNAssert, ha]

/-- A release with power on, of a package that THERMTRIP_N does not stop, begins a start. -/
theorem doSysRstNRelease_starts {d : Dev} (hr : d.pins.sysRstN = false) (ht : d.pins.thermtrip = false) (lc test c) :
    doSysRstNRelease lc test true c d = ((d.setPins { d.pins with sysRstN := true }).sampleStraps lc test).beginStart c 2 := by
  simp [doSysRstNRelease, hr, ht]

/-- Settles O44, one clause for each case of the pins' four rows. -/
theorem powerAndResetPins : Obligations.PowerAndResetPins := by
  refine ⟨fun s lc test hp => ?_, fun s lc test hp => exec_pwrgoodRise_powered hp lc test, fun s => ?_, fun s lowNs hp hn => ?_,
    fun s lowNs hn => ?_, fun s lc test hr hp ht => ?_⟩
  · exact ⟨_, exec_pwrgoodRise_unpowered hp lc test, rfl, rfl, rfl⟩
  · exact ⟨_, exec_pwrgoodFall s, rfl, rfl, running_unpowered rfl, rfl, rfl, rfl⟩
  · obtain ⟨e, he⟩ := doSysRstNAssert_acts hn hp s.running s.ctx
    rw [exec_sysRstNAssert, he]
    exact ⟨_, rfl, rfl, rfl, running_node_zero rfl, rfl⟩
  · rw [exec_sysRstNAssert, doSysRstNAssert_filtered hn]
    rfl
  · rw [exec_sysRstNRelease, hp, doSysRstNRelease_starts hr ht]

/-! ### Time and place on the fabric -/

/-- A message that arrives, from a sender of any kind, has its effect on the device that has noted it. -/
theorem receiveFrom_hears {s : State} {h : Afp} {m : Bool} (hh : s.hears h m) (f : Dev → Dev) :
    s.dev.receiveFrom s.ctx h true f = f (s.heard h) := by
  obtain ⟨-, hc, hw, -, -⟩ := hh
  simp only [Dev.receiveFrom, hc, hw, Bool.not_true, Bool.or_self, Bool.false_eq_true, if_false]
  rfl

/-- A message that arrives from a sender that may send it has its effect. -/
theorem receive_hears {s : State} {h : Afp} {m : Bool} (hh : s.hears h m) (f : Dev → Dev) :
    s.dev.receive s.ctx h m f = f (s.heard h) := by
  have hsender : (h.src != 0 && (!m || (h.src == 0xFFFF && s.dev.fabric.fmSession == 1))) = true := by
    obtain ⟨-, -, -, h0, hm⟩ := hh
    cases m with
    | false => simp [h0]
    | true => simp [hm rfl]
  unfold Dev.receive
  rw [hsender]
  exact receiveFrom_hears hh f

/-- A message of any node, received. -/
theorem devStep_receive {s : State} {h : Afp} {m : Bool} (hh : s.hears h m) (f : Ctx → Dev → Dev) :
    devStep (fun c d => d.receive c h m (f c)) s = .next (s.withDev (f s.ctx (s.heard h))) := by
  rw [devStep_run _ _ hh.1, receive_hears hh]

/-- The links once a message has been sent: one of them keeps it until it is acknowledged (R599). -/
def Dev.linksSent (d : Dev) (type dest : Nat) (fields : List Nat) : List Link := (d.afp type dest fields).fabric.links

/-- A message sent leaves its mark on the links alone. -/
theorem afp_fabric (d : Dev) (type dest : Nat) (fields : List Nat) :
    (d.afp type dest fields).fabric = { d.fabric with links := d.linksSent type dest fields } := rfl

theorem afp_mem (d : Dev) (type dest : Nat) (fields : List Nat) : (d.afp type dest fields).mem = d.mem := rfl

/-- The exchange with the reference goes out once it is due. -/
theorem doTimeExchange_due {c : Ctx} {d : Dev} (hd : 2 ≤ d.fabric.domain) (h0 : d.fabric.timeRef ≠ 0) (hn : d.fabric.timeRef ≠ d.fabric.node)
    (he : d.fabric.exchangeAt ≤ c.now) : doTimeExchange c d =
      (d.setFabric { d.fabric with exchangeAt := c.now + msTicks }).afp 0x04 d.fabric.timeRef [0, c.now, 0] := by
  unfold doTimeExchange
  dsimp only
  rw [if_neg (by simp [h0, hn]; omega)]

/-- A response of the reference corrects the time base, whatever the device makes of it. -/
theorem timeResponse_corrects {s : State} {h : Afp} (hr : s.dev.fromReference h = true) (sent received back request correction : Nat) :
    ∃ d, timeResponse h sent received back request correction s = { s with
      time := s.time.correct (doubleLead sent received back s.time.count request correction) s.dev.draw.1, dev := d } := by
  unfold timeResponse
  simp only [hr, if_true]
  exact ⟨_, rfl⟩

/-- A node that has no identity yet announces itself once it is OPERATIONAL. -/
theorem doAnnounce_operational {c : Ctx} {d : Dev} (hd : d.fabric.domain = 1) (hn : d.boot.node = 7) : doAnnounce c d =
    (d.setFabric { d.fabric with announces := satAdd 32 d.fabric.announces 1, announceAt := c.now }).afp 0x10 0xFFFF (d.announcement c) := by
  simp [doAnnounce, hd, hn]

/-- An identity from the manager is taken in; a node that is its own reference is aligned (R28, R629). -/
theorem doIdentity_accepted {s : State} {h : Afp} (hh : s.hears h true) {node : Nat} (h0 : 0 < node) (hn : node ≤ 4095) (place ref : Nat) :
    let d := doIdentity h node place ref s.ctx s.dev
    d.fabric.node = node ∧ d.fabric.place = place ∧ d.fabric.timeRef = ref ∧ d.fabric.domain = max s.dev.fabric.domain 2 ∧ d.mem = s.dev.mem ∧
      (ref = node → d.fabric.aligned = true) := by
  have hk : ¬(node = 0 ∨ 4095 < node) := by omega
  simp only [doIdentity, receive_hears hh, if_neg hk, Dev.ackManager, afp_fabric, afp_mem, Dev.setFabric_fabric, Dev.setFabric_mem]
  exact ⟨trivial, trivial, trivial, rfl, rfl, fun hr => by simp [hr]⟩

/-- Settles O57, one clause for each command: a message that arrives has its effect on the device that noted it. -/
theorem timeAndPlace : Obligations.TimeAndPlace := by
  intro s
  refine ⟨fun hr hd h0 hn he => ?_, fun h sent correction hh => ?_, fun h sent received back request correction hh hf => ?_, fun hr hd hn => ?_,
    fun h rack slot domain neighbours hh => ?_, fun h node place ref hh h0 hn => ?_⟩
  · exact (devStep_run _ s hr).trans (by rw [doTimeExchange_due hd h0 hn he]; rfl)
  · exact devStep_receive hh fun c d => d.afp 0x04 h.src [1, sent, c.now, c.now, correction, 0]
  · obtain ⟨d, hd⟩ := timeResponse_corrects hf sent received back request correction
    exact ⟨_, if_pos hh.1, by rw [hd], by rw [hd]⟩
  · refine ⟨_, devStep_run _ s hr, ?_⟩
    rw [State.withDev, doAnnounce_operational hd hn]
    simp [afp_fabric, afp_mem, State.ctx]
  · refine (devStep_run _ s hh.1).trans ?_
    rw [doTopology, receiveFrom_hears hh]
  · obtain ⟨hnode, hplace, href, hdomain, hmem, haligned⟩ := doIdentity_accepted hh h0 hn place ref
    exact ⟨_, if_pos hh.1, hnode, hplace, href, hdomain, hmem, fun hr => by simp [haligned hr]⟩

end Sys2Proof.Machine
end

section
/-! The lane instructions of a bank engine, lane by lane (R36, R172, R176, R740). -/

namespace Sys2Proof.Machine

/-! ### Signed numbers and saturation -/

theorem clampInt_eq {lo hi : Int} (h : lo ≤ hi) (x : Int) : clampInt lo hi x = (max lo (min hi x), decide (x < lo ∨ hi < x)) := by
  unfold clampInt
  split_ifs <;> simp only [Prod.mk.injEq, true_eq_decide_iff, false_eq_decide_iff] <;> omega

/-- INT32 saturates at both ends (R36). -/
theorem sat32_eq (x : Int) : sat32 x = (max (-2 ^ 31) (min (2 ^ 31 - 1) x), decide (x < -2 ^ 31 ∨ 2 ^ 31 - 1 < x)) :=
  clampInt_eq (by decide) x

theorem signed_toNat {n : Nat} (x : BitVec n) : signed n x.toNat = x.toInt := by
  simp [signed, BitVec.toInt, Nat.mod_eq_of_lt x.isLt]

theorem macLane_int (acc : Word) (a b : Nat) : macLane false acc a b =
    (BitVec.ofInt 32 (sat32 (acc.toInt + signed 16 a * signed 16 b)).1, (sat32 (acc.toInt + signed 16 a * signed 16 b)).2) := by
  rw [← signed_toNat]; rfl

theorem ssaLane_int (acc : Word) (a b : Nat) : ssaLane false acc a b =
    (BitVec.ofInt 32 (sat32 (acc.toInt + (signed 16 a - signed 16 b) ^ 2)).1, (sat32 (acc.toInt + (signed 16 a - signed 16 b) ^ 2)).2) := by
  rw [← signed_toNat, sq]; rfl

/-- A square added to a lane of ACC cannot saturate it at the lower end. -/
theorem not_add_sq_lt (acc : Word) (x : Int) : ¬acc.toInt + x ^ 2 < -2 ^ 31 := by
  have h : -2 ^ 31 ≤ acc.toInt := acc.le_toInt
  linarith [sq_nonneg x]

/-! ### An accumulation, lane by lane -/

/-- Lane `i` of an accumulation, and whether it saturated. -/
def Engine.accLane (e : Engine) (f : Word → Nat → Nat → Word × Bool) (a b : List Nat) (i : Fin 32) : Word × Bool :=
  f (e.acc.get i) (nth a i) (nth b i)

/-- The lanes of an accumulation in order, as the model lists them. -/
theorem accumulate_lanes (e : Engine) (f : Word → Nat → Nat → Word × Bool) (a b : List Nat) :
    ((List.range 32).map fun i => f (e.acc.toArray.getD i 0) (nth a i) (nth b i)) = (List.finRange 32).map (e.accLane f a b) := by
  rw [← List.map_coe_finRange_eq_range, List.map_map]
  refine List.map_congr_left fun i _ => ?_
  simp [Engine.accLane, Vector.get]

theorem accumulate_eq (e : Engine) (f : Word → Nat → Nat → Word × Bool) (a b : List Nat) :
    e.accumulate f a b = { e with
      acc := Vector.ofFn fun i => (e.accLane f a b i).1
      sat := e.sat + ((List.finRange 32).filter fun i => (e.accLane f a b i).2).length } := by
  simp only [Engine.accumulate, accumulate_lanes, List.filter_map, List.length_map]
  congr
  funext i
  simp

/-! ### Accumulating instructions -/

section
variable {s : State} {bank word : Nat} {t : Trigger} {r : BankRun} {bf16 : Bool}

/-- An accumulating instruction of ACC's own lane type. -/
theorem devStep_issueAcc (h : s.issues bank word t r) (ht : t.accFp = bf16) (f : Bool → Engine → Engine) :
    devStep (issueAcc bank word bf16 f) s = .next (s.setRun bank (r.next (f bf16 r.engine))) := by
  subst ht
  obtain ⟨-, hrun, -⟩ := id h
  rw [issueAcc, devStep_issue h, if_neg (by simp), Dev.proceedWith, modBankRun_eq hrun]
  rfl

/-- An accumulating instruction of the other lane type (R740). -/
theorem devStep_issueAcc_other (h : s.issues bank word t r) (ht : t.accFp ≠ bf16) (f : Bool → Engine → Engine) :
    devStep (issueAcc bank word bf16 f) s =
      .next (s.withDev (s.dev.faultSequence s.ctx bank (r.engine.cp % 2 ^ 27) .laneType)) := by
  rw [issueAcc, devStep_issue h, if_pos (bne_iff_ne.2 ht)]

end

/-- Settles O12: each instruction is issued and acts on its engine; an accumulation is lane by lane; an INT32 lane saturates. -/
theorem laneBankInstructions : Obligations.LaneBankInstructions := by
  refine ⟨fun s bank t r => ⟨fun d h => devStep_issueOn h _, fun d a b half part q8 bf16 h => ?_,
    fun a b bf16 h ht => devStep_issueAcc h ht _, fun a b bf16 h ht => devStep_issueAcc h ht _,
    fun a b bf16 ht => ⟨fun h => devStep_issueAcc_other h ht _, fun h => devStep_issueAcc_other h ht _⟩, fun h => devStep_issueOn h _⟩,
    accumulate_eq, fun acc a b => ⟨?_, ?_⟩⟩
  · -- the model and the statement choose the same part of the codes by different tests
    refine (devStep_issueOn h _).trans ?_
    cases part <;> cases q8 <;> rfl
  · rw [macLane_int, sat32_eq]
  · rw [ssaLane_int, sat32_eq]
    simp only [not_add_sq_lt, false_or]

end Sys2Proof.Machine
end

section
/-! Drafts, validation, commits, holds and counter clears (R71, R73, R83, R86, R88, R90, R93). -/

namespace Sys2Proof.Machine

/-! ### What a request in its session leaves in force -/

/-- The configuration in force: the active values, and the generation of each domain (R83). -/
def Dev.inForce (d : Dev) : Tab DictVal × Tab Nat := (d.dict.cfg, d.dict.gens)

@[simp] theorem Dev.modSession_inForce (d : Dev) (path number f) : (d.modSession path number f).inForce = d.inForce := rfl

@[simp] theorem Dev.countIn_inForce (d : Dev) (s q op idx sub b) : (d.countIn s q op idx sub b).inForce = d.inForce := rfl

@[simp] theorem Dev.noteResult_inForce (d : Dev) (q status value f) : (d.noteResult q status value f).inForce = d.inForce := rfl

@[simp] theorem Dev.takeRequest_inForce (c : Ctx) (d : Dev) (q) : (d.takeRequest c q).inForce = d.inForce := by
  unfold Dev.takeRequest; dsimp only; split <;> rfl

@[simp] theorem Dev.touchFn_inForce (d : Dev) (p n) : (d.touchFn p n).inForce = d.inForce := by
  unfold Dev.touchFn; split <;> rfl

@[simp] theorem Dev.mailboxSession_inForce (c : Ctx) (d : Dev) (number) : (d.mailboxSession c number).inForce = d.inForce := by
  unfold Dev.mailboxSession; split <;> rfl

@[simp] theorem Dev.transmit_inForce (d : Dev) (path number r) : (d.transmit path number r).inForce = d.inForce := by
  unfold Dev.transmit; split <;> rfl

@[simp] theorem Dev.answer_inForce (d : Dev) (q idx sub status) : (d.answer q idx sub status).inForce = d.inForce := by
  unfold Dev.answer Dev.respond; dsimp only; rw [Dev.transmit_inForce]; split <;> rfl

/-- A request in turn is served on a device with the same configuration in force. -/
theorem inTurn_served {α} {c d q s op i j} {f : Dev → Session → Option α} {a : α} (h : Dev.inTurn (fun _ => none) c d q s op i j f = some a) :
    ∃ e x, f e x = some a ∧ e.inForce = d.inForce := by
  unfold Dev.inTurn at h
  dsimp only at h
  split at h
  · split at h <;> cases h
  · split at h
    · cases h
    · split at h
      · cases h
      · exact ⟨_, _, h, by simp⟩

/-- The same over the arrival of the request and its session. -/
theorem requestIn_served {α} {c d q op i j b} {f : Dev → Session → Option α} {a : α}
    (h : Dev.requestIn (fun _ => none) c d q op i j b f = some a) : ∃ e x, f e x = some a ∧ e.inForce = d.inForce := by
  unfold Dev.requestIn at h
  split at h
  · cases h
  · split at h
    · split at h
      · cases h
      · split at h
        · cases h
        · dsimp only at h
          split at h
          · simpa using inTurn_served h
          · cases h
    · split at h
      · cases h
      · split at h
        · split at h
          · simpa using inTurn_served h
          · cases h
        · cases h

/-- A write that every row of *Access results* lets through leaves the device as it found it. -/
theorem checkedWrite_through {α} {c d q s op shown i j v} {f : EntryRow → Dev → Option α} {a : α}
    (h : Dev.checkedWrite (fun _ => none) c d q s op shown i j v f = some a) : ∃ r, f r d = some a := by
  unfold Dev.checkedWrite at h
  dsimp only at h
  split at h
  · cases h
  · split at h
    · cases h
    · split at h
      · cases h
      · split at h
        · cases h
        · exact ⟨_, h⟩

/-- A write of an action entry that is taken up has put nothing in force. -/
theorem takesUp_inForce {s : State} {q : Req} {i j v : Nat} {d : Dev} {x : Session} (h : s.takesUp q i j v d x) :
    d.inForce = s.dev.inForce := by
  obtain ⟨-, h⟩ := h
  obtain ⟨e, y, hw, he⟩ := requestIn_served h
  obtain ⟨-, hw⟩ := checkedWrite_through hw
  cases hw
  exact he

/-! ### Tables of drafts -/

theorem tabGet_none {α : Type} {k : Nat} {t : Tab α} (h : k ∉ t.map (·.1)) : tabGet k t = none := by
  induction t with
  | nil => rfl
  | cons e t ih =>
    rw [List.map_cons, List.mem_cons, not_or] at h
    obtain ⟨hk, ht⟩ := h
    rw [tabGet, if_neg (Ne.symm hk), ih ht]

theorem tabGet_tabDel_self {α : Type} {k : Nat} {t : Tab α} (h : (t.map (·.1)).Nodup) : tabGet k (tabDel k t) = none := by
  induction t with
  | nil => rfl
  | cons e t ih =>
    obtain ⟨hj, ht⟩ := List.nodup_cons.1 h
    rw [tabDel]
    split
    · next hk => exact tabGet_none (hk ▸ hj)
    · next hk => rw [tabGet, if_neg hk, ih ht]

/-! ### What each command does once it is taken up -/

section
variable {s : State} {q : Req} {value : Nat} {d : Dev} {x : Session}

theorem exec_draftDiscard (h : s.takesUp q 0x1804 0 value d x) :
    exec (.draftDiscard q value) s = .next (s.withDev (d.actDraftDiscard q x value)) :=
  devStep_action _ _ _ _ _ _ _ (fun _ d x => d.actDraftDiscard q x value) h

theorem exec_validate (h : s.takesUp q 0x1806 0 value d x) (room : NorAck) :
    exec (.validate q value room) s = .next (s.withDev (d.validation q x value room)) :=
  devStep_action _ _ _ _ _ _ _ (fun _ d x => d.validation q x value room) h

theorem exec_configurationCommit (h : s.takesUp q 0x1810 0 value d x) (room ack : NorAck) :
    exec (.configurationCommit q value room ack) s = .next (s.withDev (d.commit s.ctx q x value room ack)) :=
  devStep_action _ _ _ _ _ _ _ (fun c d x => d.commit c q x value room ack) h

theorem exec_counterClear (h : s.takesUp q 0x23F0 5 value d x) :
    exec (.counterClear q value) s = .next (s.withDev (d.actCounterClear q x value)) :=
  devStep_action _ _ _ _ _ _ _ (fun _ d x => d.actCounterClear q x value) h

/-- A validation puts nothing in force. -/
theorem validation_inForce (d : Dev) (q x value room) : (d.validation q x value room).inForce = d.inForce := by
  simp [Dev.validation]

theorem commit_passes {room : NorAck} (h : d.runChecks x (x.select 0x1800 0) value room = none) (hg : d.generatorFailed = false) (c : Ctx) :
    d.commit c q x value room ⟨true, true⟩ = d.commitValues c q x (x.select 0x1800 0) value := by
  simp [Dev.commit, h, hg]

theorem commit_fails {room : NorAck} {f : Failure} (h : d.runChecks x (x.select 0x1800 0) value room = some f) (c : Ctx) (ack : NorAck) :
    d.commit c q x value room ack = (d.noteResult q stConfigReject value (some f)).answer q 0x1810 0 stConfigReject := by
  simp only [Dev.commit, h]

end

/-- An adopted generation is in force and in NOR, for the values and for its domain (R83, R88). -/
theorem adopt_inForce (c : Ctx) (e : Dev) (domain generation : Nat) (values : Tab DictVal) :
    let a := e.adopt c domain generation values
    a.dict.cfg = values ∧ a.nor.cfg = values ∧ tabGet domain a.dict.gens = some generation ∧ tabGet domain a.nor.gens = some generation :=
  ⟨rfl, rfl, tabGet_tabSet_self .., tabGet_tabSet_self ..⟩

/-- An adopted generation leaves no draft of its domain (R93). -/
theorem adopt_drafts {c : Ctx} {e : Dev} {domain generation : Nat} {values : Tab DictVal} {y : Session}
    (hy : y ∈ (e.adopt c domain generation values).dict.sessions) (hn : ∀ z ∈ e.dict.sessions, (z.drafts.map (·.1)).Nodup) :
    tabGet domain y.drafts = none := by
  obtain ⟨z, hz, rfl⟩ := List.mem_map.1 hy
  exact tabGet_tabDel_self (hn z hz)

theorem doGenerationHoldRelease_ends {d : Dev} {kind number : Nat} {h : Hold} (hh : d.holdOn kind number = some h)
    (he : d.earlierWork number h.since = false) (c : Ctx) : doGenerationHoldRelease kind number c d =
      d.setDict { d.dict with holds := d.dict.holds.eraseP fun x => x.kind == kind && x.number == number } := by
  simp [doGenerationHoldRelease, hh, he]

/-- A clear of a descriptor that does not run leaves no count (R73). -/
theorem actCounterClear_idle {d : Dev} {x : Session} {p : Plan} (hp : d.plan? (x.select 0x23F0 1) = some p) (hx : x.reaches p.realm = true)
    (hr : ∀ r ∈ d.plans.runs, r.runs (x.select 0x23F0 1) (x.select 0x23F0 2) = false) (q : Req) :
    d.actCounterClear q x 1 = (d.modPlan (x.select 0x23F0 1) fun p =>
      { p with counts := tabSet (x.select 0x23F0 2) .none p.counts }).answer q 0x23F0 5 stOk := by
  have hnone : (d.plans.runs.filter fun r =>
      r.runs (x.select 0x23F0 1) (x.select 0x23F0 2) && !r.cleared.contains (x.select 0x23F0 2)) = [] :=
    List.filter_eq_nil_iff.2 fun r h => by simp [hr r h]
  simp only [Dev.actCounterClear, Dev.keptCounts, hp, hx, hnone, List.map_nil, List.foldl_nil, bne_self_eq_false, Bool.not_true, Bool.or_self,
    Bool.false_eq_true, if_false]

/-- Settles O40, one clause for each command and outcome. -/
theorem draftsBecomeGenerations : Obligations.DraftsBecomeGenerations := by
  refine ⟨fun s q d x h => exec_draftDiscard h, fun s q value room d x h => ?_, fun s q value room d x h hc hg => ⟨?_, fun e => ?_⟩,
    fun s q value room ack d x f h hc => ?_, fun s kind number h hs hh he => ?_, fun s q d x p h hp hx hr => ?_⟩
  · obtain ⟨hcfg, hgens⟩ := Prod.ext_iff.1 ((validation_inForce d q x value room).trans (takesUp_inForce h))
    exact ⟨_, exec_validate h room, rfl, hcfg, hgens⟩
  · rw [exec_configurationCommit h, commit_passes hc hg]
  · obtain ⟨hcfg, hnor, hgens, hnorGens⟩ := adopt_inForce s.ctx e (x.select 0x1800 0) value (d.drafted x (x.select 0x1800 0)).dict.cfg
    exact ⟨hcfg, hnor, hgens, hnorGens, fun y hy hn => adopt_drafts hy hn⟩
  · rw [exec_configurationCommit h, commit_fails hc]
  · exact (devStep_run _ s hs).trans (by rw [doGenerationHoldRelease_ends hh he])
  · rw [exec_counterClear h, actCounterClear_idle hp hx hr]

end Sys2Proof.Machine
end

section
/-! Sessions: a request in turn, sessions that open and close (R100–R104, R655, R731). -/

namespace Sys2Proof.Machine

/-! ### An open session by its number -/

theorem session?_keys {d : Dev} {path number : Nat} {x : Session} (h : d.session? path number = some x) : x.path = path ∧ x.number = number := by
  simpa using List.find?_some h

/-- A change of a session that keeps its path and number is found under them. -/
theorem session?_modSession {d : Dev} {path number : Nat} {x : Session} {f : Session → Session} (h : d.session? path number = some x)
    (hf : ∀ t, (f t).path = t.path ∧ (f t).number = t.number) : (d.modSession path number f).session? path number = some (f x) := by
  have hkeys : ∀ t : Session, (if t.path = path ∧ t.number = number then f t else t).path = t.path ∧
      (if t.path = path ∧ t.number = number then f t else t).number = t.number := fun t => by
    split
    · exact hf t
    · exact ⟨rfl, rfl⟩
  unfold Dev.session? Dev.modSession at *
  simp only [Dev.setDict_dict, List.find?_map, Function.comp_def, hkeys, h, Option.map_some]
  rw [if_pos (session?_keys h)]

@[simp] theorem session?_closeSession (d : Dev) (path number : Nat) : (d.closeSession path number).session? path number = none := by
  refine List.find?_eq_none.2 fun x hx => ?_
  obtain ⟨-, hkept⟩ := List.mem_filter.1 hx
  simpa only [Bool.not_eq_true, Bool.not_eq_eq_eq_not, Bool.not_true] using hkept

/-! ### A request in turn (R104) -/

/-- A request with the SEQ after the session's last one, or the first after OPEN, that nothing refuses is taken up. -/
theorem inTurn_takes {α : Type} {c : Ctx} {d : Dev} {q : Req} {x : Session} {op idx sub : Nat} (ret : Dev → α) (f : Dev → Session → α)
    (hseq : x.lastSeq = none ∨ ∃ n, x.lastSeq = some n ∧ (n + 1) % 65536 = q.seq % 65536 ∧ n ≠ q.seq % 65536)
    (hok : ((d.modSession q.path q.number fun t => { t with lastTime := c.now }).takeRequest c { q with seq := q.seq % 65536 }).sessionRefuses
      x op idx sub = false) :
    Dev.inTurn ret c d q x op idx sub f =
      f ((d.modSession q.path q.number fun t => { t with lastTime := c.now }).takeRequest c { q with seq := q.seq % 65536 }) x := by
  have hnew : x.lastSeq ≠ some (q.seq % 65536) := by
    rcases hseq with h | ⟨n, h, -, hne⟩ <;> simp [*]
  have hnext : x.lastSeq.any (fun n => (n + 1) % 65536 != q.seq % 65536) = false := by
    rcases hseq with h | ⟨n, h, heq, -⟩ <;> simp [*]
  unfold Dev.inTurn
  simp only [hnew, hnext, hok, if_false, Bool.false_eq_true]

/-- A request taken up is noted in its session. -/
theorem session?_takeRequest {d : Dev} {q : Req} {x : Session} (h : d.session? q.path q.number = some x) (hp : q.path ≠ 1) (c : Ctx) :
    (d.takeRequest c q).session? q.path q.number =
      some { x with lastSeq := some q.seq, lastResponse := none, lastTime := c.now, lastIn := x.msgIn - b2n x.keyed } := by
  simp only [Dev.takeRequest, if_neg hp]
  exact session?_modSession h fun _ => ⟨rfl, rfl⟩

/-- A request taken up has its effect on the device that noted it, in its session. -/
theorem requestIn_takes {α : Type} {s : State} {q : Req} {op idx sub : Nat} {b : Body} {d : Dev} {x : Session}
    (h : s.takesRequest q op idx sub b d x) (ret : Dev → α) (f : Dev → Session → α) : s.dev.requestIn ret s.ctx q op idx sub b f = f d x := by
  obtain ⟨-, h⟩ := h
  exact requestIn_some ret _ _ _ _ _ _ _ f _ _ h

theorem request_takes {s : State} {q : Req} {op idx sub : Nat} {b : Body} {d : Dev} {x : Session} (h : s.takesRequest q op idx sub b d x)
    (f : Dev → Session → Dev) : s.dev.request s.ctx q op idx sub b f = f d x := requestIn_takes h id f

/-- Settles O36: the request passes each test on its way to the session, which notes its SEQ. That the first one after OPEN may carry any SEQ is
log entry 108's choice. -/
theorem requestsInTurnAreTaken : Obligations.RequestsInTurnAreTaken := by
  intro s q op idx sub b x d hrun hp harr hrel hx hsend hauth hseq hok
  refine ⟨⟨hrun, ?_⟩, ?_⟩
  · have hopen : (s.dev.session? q.path q.number).filter (fun t => t.sender == q.sender) = some x := by simp [hx, hsend]
    simp only [Dev.requestIn, harr, hp, hrel, hopen, hauth, Bool.not_true, Bool.false_eq_true, if_false, if_true]
    exact inTurn_takes _ _ hseq hok
  · have hcount : (s.dev.countIn x q op idx sub b).session? q.path q.number =
        some { x with msgIn := x.msgIn + b2n (x.fresh q op idx sub b) } := session?_modSession hx fun _ => ⟨rfl, rfl⟩
    have hnoted := session?_modSession (f := fun t => { t with lastTime := s.time.count }) hcount fun _ => ⟨rfl, rfl⟩
    exact ⟨_, session?_takeRequest (q := { q with seq := q.seq % 65536 }) hnoted hp s.ctx, rfl, rfl, rfl⟩

/-! ### Sessions that open and close -/

/-- A plain OPEN within the limit opens a session under a free number (R101, R103). -/
theorem doSessionOpen_plain {d e : Dev} {path highest lowest v sender realm n : Nat} {k : Option Nat} (hopens : d.opens path = true)
    (hv : hdapVersion highest lowest = some v) (hrealm : d.openRealm path sender k = some realm)
    (hlimit : (d.dict.sessions.filter fun x => x.path == path).length < sessionLimit path) (hn : d.freeNumber path = (n, e))
    (seq slot key nonce : Nat) (c : Ctx) : doSessionOpen path sender seq k highest lowest 0 slot key nonce c d =
      (e.setDict { e.dict with sessions := e.dict.sessions ++ [.opened path n sender realm v c.now] }).send (.openAck path n seq v []) := by
  simp only [doSessionOpen, Dev.openIn, hopens, hv, hrealm, hn, Nat.not_le.2 hlimit, Bool.not_true, Bool.false_eq_true, if_false, if_true]

/-- The choice of a session number draws one free value. -/
theorem freeNumber_draws {d e : Dev} {path n : Nat} (h : d.freeNumber path = (n, e)) : e = d.setFreeCtr (d.freeCtr + 1) :=
  (congrArg Prod.snd h).symm

theorem doClose_closes {s : State} {q : Req} {d : Dev} {x : Session} (h : s.takesRequest q 0x03 0 0 .none d x) (hp : q.path ≠ 1) :
    doClose q s.ctx s.dev = (d.answer q 0 0 stOk).closeSession q.path q.number := by
  rw [doClose, request_takes h, if_neg hp]

theorem doHdapSessionIdle_closes {d : Dev} {path number : Nat} {x : Session} {c : Ctx} (hx : d.session? path number = some x) (hp : path ≠ 1)
    (hidle : x.lastTime + 60 * secondTicks ≤ c.now) : doHdapSessionIdle path number c d = d.closeSession path number := by
  simp [doHdapSessionIdle, hx, hp, hidle]

theorem doSessionCounterLimit_closes {d : Dev} {path number : Nat} {x : Session} (hx : d.session? path number = some x) (hkey : x.isProtected = true)
    (hcount : x.msgIn = 2 ^ 40 - 1 ∨ x.msgOut = 2 ^ 40 - 1) (c : Ctx) :
    doSessionCounterLimit path number c d = d.closeSession path number := by
  simp only [doSessionCounterLimit, hx, hkey, Bool.true_and, Bool.or_eq_true, beq_iff_eq, hcount, if_true]

/-- Settles O37, one clause for each way a session opens or closes. -/
theorem sessionsOpenAndClose : Obligations.SessionsOpenAndClose := by
  refine ⟨fun s path sender seq k highest lowest slot key nonce v realm n d hrun hopens hv hrealm hlimit hn => ?_, fun s q d x h hp => ?_,
    fun s path number x hrun hx hp hidle => ?_, fun s path number x hrun hx hkey hcount => ?_⟩
  · refine ⟨_, (devStep_run _ s hrun).trans (by rw [doSessionOpen_plain hopens hv hrealm hlimit hn]), ?_⟩
    rw [freeNumber_draws hn]
    exact ⟨rfl, rfl, rfl⟩
  · exact ⟨_, (devStep_run _ s h.1).trans (by rw [doClose_closes h hp]), rfl, session?_closeSession ..⟩
  · exact ⟨_, (devStep_run _ s hrun).trans (by rw [doHdapSessionIdle_closes hx hp hidle]), session?_closeSession ..⟩
  · exact ⟨_, (devStep_run _ s hrun).trans (by rw [doSessionCounterLimit_closes hx hkey hcount]), session?_closeSession ..⟩

end Sys2Proof.Machine
end

section
/-! Reads of the dictionary's entries, whole and in segments (R75, R78, R79, R102). -/

namespace Sys2Proof.Machine

/-! ### Memory, which no request in its session reaches -/

@[simp] theorem Dev.modSession_mem (d : Dev) (path number f) : (d.modSession path number f).mem = d.mem := rfl

@[simp] theorem Dev.countIn_mem (d : Dev) (x q op idx sub b) : (d.countIn x q op idx sub b).mem = d.mem := rfl

@[simp] theorem Dev.takeRequest_mem (c : Ctx) (d : Dev) (q) : (d.takeRequest c q).mem = d.mem := by
  unfold Dev.takeRequest; dsimp only; split <;> rfl

@[simp] theorem Dev.touchFn_mem (d : Dev) (p n) : (d.touchFn p n).mem = d.mem := by
  unfold Dev.touchFn; split <;> rfl

@[simp] theorem Dev.mailboxSession_mem (c : Ctx) (d : Dev) (number) : (d.mailboxSession c number).mem = d.mem := by
  unfold Dev.mailboxSession; split <;> rfl

@[simp] theorem Dev.transmit_mem (d : Dev) (path number r) : (d.transmit path number r).mem = d.mem := by
  unfold Dev.transmit; split <;> rfl

@[simp] theorem Dev.respond_mem (d : Dev) (path number r) : (d.respond path number r).mem = d.mem := by
  unfold Dev.respond; dsimp only; rw [Dev.transmit_mem]; split <;> rfl

@[simp] theorem Dev.answerValue_mem (d : Dev) (q idx sub last v) : (d.answerValue q idx sub last v).mem = d.mem := Dev.respond_mem ..

@[simp] theorem Dev.answerSegment_mem (d : Dev) (q x idx sub seg v) : (d.answerSegment q x idx sub seg v).mem = d.mem := by
  unfold Dev.answerSegment; dsimp only; rw [Dev.answerValue_mem]; split <;> rfl

@[simp] theorem Dev.segmentSource_mem (c : Ctx) (d : Dev) (q x r idx sub seg) : (d.segmentSource c q x r idx sub seg).2.mem = d.mem := by
  unfold Dev.segmentSource
  dsimp only
  split
  · split
    · rfl
    · split <;> rfl
  · rfl

theorem inTurn_mem (c : Ctx) (d : Dev) (q x op idx sub) {m : List Host.Cell} (hm : d.mem = m) :
    Dev.inTurn (fun _ => m) c d q x op idx sub (fun e _ => e.mem) = m := by
  unfold Dev.inTurn
  dsimp only
  split
  · split <;> rfl
  · split
    · rfl
    · split
      · rfl
      · simpa using hm

/-- The device that a request's effect starts from has the memory that the request met. -/
theorem requestIn_mem (c : Ctx) (d : Dev) (q op idx sub b) : Dev.requestIn (fun _ => d.mem) c d q op idx sub b (fun e _ => e.mem) = d.mem := by
  unfold Dev.requestIn
  split
  · rfl
  · split
    · split
      · rfl
      · split
        · rfl
        · dsimp only
          split
          · exact inTurn_mem _ _ _ _ _ _ _ (by simp)
          · rfl
    · split
      · rfl
      · split
        · split
          · exact inTurn_mem _ _ _ _ _ _ _ rfl
          · rfl
        · rfl

theorem takesRequest_mem {s : State} {q : Req} {op idx sub : Nat} {b : Body} {d : Dev} {x : Session} (h : s.takesRequest q op idx sub b d x) :
    d.mem = s.dev.mem :=
  (requestIn_takes h (fun _ => s.dev.mem) fun e _ => e.mem).symm.trans (requestIn_mem ..)

/-! ### READ and READ_SEG, taken up -/

section
variable {s : State} {q : Req} {idx sub : Nat} {d : Dev} {x : Session} {r : EntryRow}
  (hr : d.accessed x (nativeOf idx sub) sub false = (stOk, some r))
include hr

theorem exec_read (h : s.takesRequest q 0x10 idx sub .none d x) (hwhole : r.segmented = false) :
    exec (.read q idx sub) s = .next (s.withDev (d.answerValue q idx sub true
      ⟨(d.readEntry s.ctx x q r (nativeOf idx sub) sub).len, aliasRead idx sub (d.readEntry s.ctx x q r (nativeOf idx sub) sub).num⟩)) := by
  refine (devStep_run _ s h.1).trans ?_
  simp only [doRead, request_takes h, hr, hwhole, Bool.false_eq_true, if_false]

theorem exec_readSeg {seg : Nat} {v : DictVal} {e : Dev} (h : s.takesRequest q 0x12 idx sub ⟨seg, 0, 0⟩ d x)
    (hseg : segmentReaches x.version seg = true) (hv : d.segmentSource s.ctx q x r (nativeOf idx sub) sub seg = (v, e))
    (hin : seg = 0 ∨ segBytes * seg < v.len) : exec (.readSeg q idx sub seg) s = .next (s.withDev (e.answerSegment q x idx sub seg v)) := by
  refine (devStep_run _ s h.1).trans ?_
  have hpast : ¬(seg ≠ 0 ∧ v.len ≤ segBytes * seg) := by omega
  simp only [doReadSeg, request_takes h, hr, hseg, hv, Bool.not_true, Bool.false_eq_true, if_false, if_neg hpast]

end

/-- Settles O38: the entry's value is answered, whole or a segment of it. LAST on a plain READ is log entry 108's choice. -/
theorem readsAnswerTheValue : Obligations.ReadsAnswerTheValue := by
  intro s q idx sub d x r hr
  refine ⟨fun h hwhole => ⟨exec_read hr h hwhole, ?_⟩, fun seg v e h hseg hv hin => ⟨exec_readSeg hr h hseg hv hin, ?_⟩⟩
  · rw [Dev.answerValue_mem, takesRequest_mem h]
  · have he : e.mem = d.mem := by rw [← Dev.segmentSource_mem s.ctx d q x r (nativeOf idx sub) sub seg, hv]
    rw [Dev.answerSegment_mem, he, takesRequest_mem h]

end Sys2Proof.Machine
end

section
/-! Writes of the dictionary's entries, whole and in segments, and their effect by access right (R77, R82, R84, R102). -/

namespace Sys2Proof.Machine

/-! ### A request that may burn fuses -/

/-- The state with a command's result, fuses and device. -/
def State.withFuses (s : State) (p : Fuses × Dev) : State := { s with fuses := p.1, dev := p.2 }

theorem fuseStep_run (f : Ctx → Dev → Fuses × Dev) {s : State} (h : s.running = true) :
    fuseStep f s = .next (s.withFuses (f s.ctx s.dev)) := if_pos h

/-- A write that every row of *Access results* lets through has its effect. -/
theorem checkedWrite_passes {α : Type} {d : Dev} {x : Session} {idx sub : Nat} {v : DictVal} {r : EntryRow} (hr : entryAt idx sub = some r)
    (hst : d.accessStatus x idx sub true = stOk) (hlen : r.lengthOk v = true) (hwo : r.access = .wo → d.inEntryRange d r 0 idx sub v = true)
    (ret : Dev → α) (c : Ctx) (q op shown) (f : EntryRow → Dev → α) : d.checkedWrite ret c q x op shown idx sub v f = f r d := by
  have hrange : ¬(r.access = .wo ∧ !d.inEntryRange d r 0 idx sub v) := by simpa using hwo
  simp only [Dev.checkedWrite, hr, hst, hlen, hrange, ne_eq, not_true_eq_false, Bool.not_true, Bool.false_eq_true, if_false]

/-! ### The effect of a value by its entry's access right (R77) -/

@[simp] theorem refuseEntry_ok (c : Ctx) (d : Dev) (q s op idx sub) : d.refuseEntry c q s op idx sub stOk = d.answer q idx sub stOk := rfl

/-- A value in range that the limits admit goes into the session's draft (R84). -/
theorem draftWrite_accepts {d : Dev} {x : Session} {r : EntryRow} {idx sub len n : Nat} :
    let domain := x.domainOf idx
    let v : DictVal := ⟨len, stored idx sub domain n⟩
    let draft := tabGetD domain [] x.drafts
    (realmEntry idx = true → domain ≠ 0 ∧ (d.slotOwner idx = 0 ∨ d.slotOwner idx = domain)) →
    (d.drafted x domain).inEntryRange d r domain idx sub v = true → (d.drafted x domain).withinLimit d domain idx sub v = true →
    (draft ≠ [] ∨ sumOf (d.dict.sessions.map fun t => (t.drafts.filter fun e => !e.2.isEmpty).length) < 16) →
    (tabGet (entryKey idx sub) draft ≠ none ∨ draft.length < 4096) →
    d.draftWrite x r idx sub ⟨len, n⟩ = (stOk, d.modSession x.path x.number fun t =>
      { t with drafts := tabSet domain (tabSet (entryKey idx sub) v draft) t.drafts }) := by
  intro domain v draft hrealm hrange hlimit hdrafts hroom
  have hown : (realmEntry idx && (domain == 0 || (d.slotOwner idx != 0 && d.slotOwner idx != domain))) = false := by
    cases h : realmEntry idx
    · rfl
    · obtain ⟨h0, ho | ho⟩ := hrealm h <;> simp [h0, ho]
  have hfull : ((draft.isEmpty && decide (16 ≤ sumOf (d.dict.sessions.map fun t => (t.drafts.filter fun e => !e.2.isEmpty).length))) ||
      ((tabGet (entryKey idx sub) draft).isNone && decide (4096 ≤ draft.length))) = false := by
    simp only [Bool.or_eq_false_iff, Bool.and_eq_false_iff, List.isEmpty_eq_false_iff, decide_eq_false_iff_not, Nat.not_le,
      Option.isNone_eq_false_iff, Option.isSome_iff_ne_none]
    exact ⟨hdrafts, hroom⟩
  unfold Dev.draftWrite
  simp only [hown, hfull, hrange, hlimit, Bool.and_self, Bool.not_true, Bool.false_eq_true, if_false, domain, v, draft]

section
variable {c : Ctx} {d e : Dev} {q : Req} {x : Session} {op shown idx sub : Nat} {r : EntryRow} {v : DictVal}

theorem putEntry_rwc (ha : r.access = .rwc) (hd : d.draftWrite x r idx sub v = (stOk, e)) :
    d.putEntry c q x op shown r idx sub v = (c.fuses, e.answer q shown sub stOk) := by
  simp only [Dev.putEntry, ha, hd, refuseEntry_ok]

theorem putEntry_rw (ha : r.access = .rw) (hsel : idx = 0x1800 → x.realm = 0 ∨ v.num = x.realm) (hrange : d.inEntryRange d r 0 idx sub v = true) :
    d.putEntry c q x op shown r idx sub v = (c.fuses, (d.putSelection x idx sub v.num).answer q idx sub stOk) := by
  have hdomain : ¬(idx = 0x1800 ∧ x.realm ≠ 0 ∧ v.num ≠ x.realm) := fun ⟨hi, h0, hv⟩ => (hsel hi).elim h0 hv
  simp only [Dev.putEntry, Dev.putRw, ha, hdomain, hrange, Bool.not_true, Bool.false_eq_true, if_false, reduceCtorEq]

theorem putEntry_rwKept (ha : r.access = .rwKept) (hi : idx ≠ 0x1800) (hrange : d.inEntryRange d r 0 idx sub v = true) :
    d.putEntry c q x op shown r idx sub v =
      (c.fuses, (d.setNor { d.nor with kept := tabSet (entryKey idx sub) v d.nor.kept }).answer q idx sub stOk) := by
  simp only [Dev.putEntry, Dev.putRw, ha, hi, hrange, false_and, Bool.not_true, Bool.false_eq_true, if_false, if_true]

theorem putEntry_wo (ha : r.access = .wo) : d.putEntry c q x op shown r idx sub v = d.actEntry c q x idx sub v := by
  simp only [Dev.putEntry, ha]

end

/-! ### WRITE and WRITE_SEG, taken up -/

theorem exec_write {s : State} {q : Req} {idx sub len value n : Nat} {d : Dev} {x : Session} {r : EntryRow}
    (h : s.takesRequest q 0x11 idx sub ⟨0, len, value⟩ d x) (hr : entryAt (nativeOf idx sub) sub = some r)
    (hst : d.accessStatus x (nativeOf idx sub) sub true = stOk) (hlen : r.lengthOk ⟨len, value⟩ = true)
    (hwo : r.access = .wo → d.inEntryRange d r 0 (nativeOf idx sub) sub ⟨len, value⟩ = true) (hwhole : r.segmented = false)
    (hn : aliasWrite idx value = some n) :
    exec (.write q idx sub len value) s = .next (s.withFuses (d.putEntry s.ctx q x 0x11 idx r (nativeOf idx sub) sub ⟨len, n⟩)) := by
  refine (fuseStep_run _ h.1).trans ?_
  simp only [doWrite, requestIn_takes h, checkedWrite_passes hr hst hlen hwo, hwhole, hn, Bool.false_eq_true, if_false]

/-- The device once the last segment of a write has come: the bytes gathered have left the session. -/
def Dev.lastGathered (d : Dev) (q : Req) (i seg key : Nat) : Dev :=
  (if i = 0x5F01 ∧ seg = 0 then d.packageBegins else d).modSession q.path q.number fun t => { t with writeSeg := dropSegment key t.writeSeg }

theorem lastGathered_other {i : Nat} (hi : i ≠ 0x5F01) (d : Dev) (q seg key) : d.lastGathered q i seg key =
    d.modSession q.path q.number fun t => { t with writeSeg := dropSegment key t.writeSeg } := by
  simp only [Dev.lastGathered, hi, false_and, if_false]

theorem lastGathered_package (d : Dev) (q seg key) : d.lastGathered q 0x5F01 seg key =
    (if seg = 0 then d.packageBegins else d).modSession q.path q.number fun t => { t with writeSeg := dropSegment key t.writeSeg } := by
  simp only [Dev.lastGathered, true_and]

section
variable {s : State} {q : Req} {idx sub i seg len value : Nat} {d : Dev} {x : Session} {r : EntryRow} {b : SegBuffer}
  (h : s.takesRequest q 0x13 idx sub ⟨seg, len, value⟩ d x) (hi : nativeOf idx sub = i) (hr : d.accessed x i sub true = (stOk, some r))
  (hseg : segmentReaches x.version seg = true) (hb : x.gather (entryKey i sub) seg len value = some b)
include h hi hr hseg hb

/-- A whole segment that is not the last is gathered (R102). -/
theorem doSegment_gathers (hpackage : i ≠ 0x5F01) (hlast : bit q.flags 0 = false) (hlen : len = segBytes) :
    doSegment q idx sub seg len value s.ctx s.dev = (s.fuses,
      (d.modSession q.path q.number fun t => { t with writeSeg := putSegment b t.writeSeg }).answer q idx sub stOk) := by
  subst hlen
  simp only [doSegment, requestIn_takes h, hi, hr, hseg, hb, hpackage, hlast, false_and, Nat.lt_irrefl, decide_false, bne_self_eq_false,
    Bool.and_false, Bool.or_self, Bool.not_true, Bool.not_false, Bool.false_eq_true, if_false, if_true]
  rfl

/-- With the last segment the bytes gathered are one written value (R102). -/
theorem doSegment_last {n : Nat} {e : Dev} (he : d.lastGathered q i seg b.key = e) (hlast : bit q.flags 0 = true) (hlen : len ≤ segBytes)
    (hbusy : i = 0x5F01 → d.packageBusy x = false) (hlength : r.lengthOk ⟨b.len, b.num⟩ = true)
    (hwo : r.access = .wo → e.inEntryRange e r 0 i sub ⟨b.len, b.num⟩ = true) (hn : aliasWrite idx b.num = some n) :
    doSegment q idx sub seg len value s.ctx s.dev = e.putEntry s.ctx q x 0x13 idx r i sub ⟨b.len, n⟩ := by
  have hfree : ¬(i = 0x5F01 ∧ d.packageBusy x = true) := by simpa using hbusy
  have hrange : ¬(r.access = .wo ∧ !e.inEntryRange e r 0 i sub ⟨b.len, b.num⟩) := by simpa using hwo
  subst he
  unfold Dev.lastGathered at *
  simp only [doSegment, requestIn_takes h, hi, hr, hseg, hb, hfree, hlast, Nat.not_lt.2 hlen, hlength, hrange, hn, decide_false, Bool.false_and,
    Bool.or_self, Bool.not_true, Bool.false_eq_true, if_false, if_true]

end

/-! ### PLAN_IMAGE and IMAGE_PACKAGE (R231, R687) -/

@[simp] theorem withLast_last (q : Req) : bit (withLast q).flags 0 = true := by simp [bit, withLast]

@[simp] theorem actEntry_planImage (c : Ctx) (d : Dev) (q x v) : d.actEntry c q x 0x3306 0 v = (c.fuses, d.actPlanImage c q x v) := rfl

@[simp] theorem actEntry_package (c : Ctx) (d : Dev) (q x v) : d.actEntry c q x 0x5F01 0 v = (c.fuses, d.actPackage c q v) := rfl

/-- A package whose components all verify is in its region. -/
theorem actPackage_verified {c : Ctx} {d : Dev} {v : DictVal} (hlen : v.len ≤ packageLimit)
    (hok : d.refusedIn c ⟨v.len, v.num, 1⟩ components = none) (q : Req) : d.actPackage c q v =
    (((d.modImage (1 - d.nor.boot.active) fun _ => ⟨v.len, v.num, 1⟩).setFirmware ⟨stOk, 0xFF⟩).event c 0x0B01 0 0
      (1 - d.nor.boot.active) 0 0).answer q 0x5F01 0 stOk := by
  simp only [Dev.actPackage, Nat.not_lt.2 hlen, hok, if_false]

/-- A package with a component that does not verify is refused with a free error status. -/
theorem actPackage_refused {c : Ctx} {d : Dev} {v : DictVal} {k : Nat} (hlen : v.len ≤ packageLimit)
    (hk : d.refusedIn c ⟨v.len, v.num, 1⟩ components = some k) (q : Req) :
    ∃ st ∈ errorStatuses, d.actPackage c q v = ((((d.choose errorStatuses.length).2.modImage (1 - d.nor.boot.active) fun _ =>
      ⟨v.len, v.num, 2⟩).setFirmware ⟨st, k⟩).event c 0x0B02 2 0 (1 - d.nor.boot.active) k 0).answer q 0x5F01 0 st := by
  have hst : nth errorStatuses (d.choose errorStatuses.length).1 ∈ errorStatuses := by
    have hlt : (d.choose errorStatuses.length).1 < errorStatuses.length := Nat.mod_lt _ (by decide)
    rw [nth, List.getD_eq_getElem _ _ hlt]
    exact List.getElem_mem hlt
  exact ⟨_, hst, by simp only [Dev.actPackage, Nat.not_lt.2 hlen, hk, if_false]⟩

/-- Settles O39: each write taken up puts its value, and each access right has its effect. The order of the segments is log entry 51's, the
package's region and limit log entry 55's. -/
theorem writesTakeEffect : Obligations.WritesTakeEffect := by
  unfold Obligations.WritesTakeEffect
  intro values
  have hvalues (s : State) (run) (q : Req) (op idx sub : Nat) (d : Dev) (x : Session) (r : EntryRow) (len n : Nat)
      (h : run s = .next (s.withFuses (d.putEntry s.ctx q x op idx r (nativeOf idx sub) sub ⟨len, n⟩))) : values s run q idx sub d x r len n := by
    refine ⟨fun ha hrealm hrange hlimit hdrafts hroom => ?_, fun ha hsel hrange => ?_, fun ha hi hrange => ?_, fun ha => ?_⟩
    · rw [h, putEntry_rwc ha (draftWrite_accepts hrealm hrange hlimit hdrafts hroom)]; rfl
    · rw [h, putEntry_rw ha hsel hrange]; rfl
    · rw [h, putEntry_rwKept ha hi hrange]; rfl
    · rw [h, putEntry_wo ha]; rfl
  refine ⟨fun s q idx sub len value n d x r h hr hst hlen hwo hwhole hn => hvalues _ _ _ _ _ _ _ _ _ _ _ (exec_write h hr hst hlen hwo hwhole hn),
    fun s q idx sub seg len value d x r b h hr hseg hi hb => ⟨fun hlast hlen => ?_, fun n hlast hlen hlength hwo hn => ?_⟩,
    fun s q seg len value d x r b h hr hseg hlen hb hlength ha hrange => ?_,
    fun s q seg len value d x r b h hr hseg hlen hbusy hb hlength ha hrange hlimit => ?_⟩
  · refine (fuseStep_run _ h.1).trans ?_
    rw [doSegment_gathers h rfl hr hseg hb hi hlast hlen]; rfl
  · refine hvalues _ _ _ 0x13 _ _ _ _ _ _ _ ((fuseStep_run _ h.1).trans ?_)
    rw [doSegment_last h rfl hr hseg hb (lastGathered_other hi ..) hlast hlen (fun h => absurd h hi) hlength hwo hn]
  · refine (fuseStep_run _ h.1).trans ?_
    have hother : (0x3306 : Nat) ≠ 0x5F01 := by decide
    rw [doSegment_last (i := 0x3306) h rfl hr hseg hb (lastGathered_other hother ..) (withLast_last q) hlen (fun h => absurd h hother) hlength
      (fun _ => hrange) rfl, putEntry_wo ha, actEntry_planImage]
    rfl
  · have hpackage := doSegment_last (i := 0x5F01) h rfl hr hseg hb (lastGathered_package d q seg b.key) (withLast_last q) hlen
      (fun _ => hbusy) hlength (fun _ => hrange) rfl
    rw [putEntry_wo ha, actEntry_package] at hpackage
    refine ⟨fun hok => ?_, fun k hk => ?_⟩
    · refine (fuseStep_run _ h.1).trans ?_
      rw [hpackage, actPackage_verified (v := ⟨b.len, b.num⟩) hlimit hok]; rfl
    · obtain ⟨st, hst, hrefused⟩ := actPackage_refused (v := ⟨b.len, b.num⟩) hlimit hk (withLast q)
      refine ⟨st, _, hst, rfl, (fuseStep_run _ h.1).trans ?_⟩
      rw [hpackage, hrefused]; rfl

end Sys2Proof.Machine
end

section
/-! Actions on tiles, indexes, pools, tiers and flash (R160, R271, R381, R423, R473, R475, R519). -/

namespace Sys2Proof.Machine

/-! ### What each command does once it is taken up -/

section
variable {s : State} {q : Req} {value : Nat} {d : Dev} {x : Session}

theorem exec_tileUnfence {tile : Nat} (h : s.takesUp q 0x2002 0 tile d x) (passes : Bool) :
    exec (.tileUnfence q tile passes) s = .next (s.withDev (d.actTileUnfence q tile passes)) :=
  devStep_action _ _ _ _ _ _ _ (fun _ d _ => d.actTileUnfence q tile passes) h

theorem exec_indexOpen {slot : Nat} (h : s.takesUp q (0x3020 + slot) 3 value d x) :
    exec (.indexOpen q slot value) s = .next (s.withDev (Dev.answerAction (d.openIndex slot value) q (0x3020 + slot) 3)) :=
  devStep_action _ _ _ _ _ _ _ (fun _ d _ => Dev.answerAction (d.openIndex slot value) q (0x3020 + slot) 3) h

theorem exec_consolidationStart {slot : Nat} (h : s.takesUp q (0x3060 + slot) 6 value d x) :
    exec (.consolidationStart q slot value) s = .next (s.withDev (Dev.answerAction (d.startPasses slot value) q (0x3060 + slot) 6)) :=
  devStep_action _ _ _ _ _ _ _ (fun _ d _ => Dev.answerAction (d.startPasses slot value) q (0x3060 + slot) 6) h

theorem exec_sequenceReset {pool : Nat} (h : s.takesUp q (0x3200 + pool) 5 value d x) :
    exec (.sequenceReset q pool value) s = .next (s.withDev (Dev.answerAction (d.resetSequence pool value) q (0x3200 + pool) 5)) :=
  devStep_action _ _ _ _ _ _ _ (fun _ d _ => Dev.answerAction (d.resetSequence pool value) q (0x3200 + pool) 5) h

theorem exec_pendingTokenSet {pool : Nat} (h : s.takesUp q (0x3200 + pool) 6 value d x) :
    exec (.pendingTokenSet q pool value) s = .next (s.withDev (Dev.answerAction (d.tokenWrite pool value) q (0x3200 + pool) 6)) :=
  devStep_action _ _ _ _ _ _ _ (fun _ d _ => Dev.answerAction (d.tokenWrite pool value) q (0x3200 + pool) 6) h

theorem exec_poolFlush (h : s.takesUp q 0x2462 8 value d x) :
    exec (.poolFlush q value) s = .next (s.withDev (d.actPoolFlush q x value)) :=
  devStep_action _ _ _ _ _ _ _ (fun _ d x => d.actPoolFlush q x value) h

theorem exec_reclaim (h : s.takesUp q 0x2B80 5 value d x) :
    exec (.reclaim q value) s = .next (s.withDev (d.actReclaim s.ctx q value)) :=
  devStep_action _ _ _ _ _ _ _ (fun c d _ => d.actReclaim c q value) h

theorem exec_cleanShutdown (h : s.takesUp q 0x2840 6 value d x) :
    exec (.cleanShutdown q value) s = .next (s.withDev (d.actCleanShutdown s.ctx q value)) :=
  devStep_action _ _ _ _ _ _ _ (fun c d _ => d.actCleanShutdown c q value) h

end

/-! ### What the actions do -/

/-- An index that has loaded, with entry cells, serves (R271). -/
theorem openIndex_serves {d : Dev} {slot : Nat} (hkind : ixKind (d.index slot) ≠ 0) (hstate : (d.indexState slot).state = 2)
    (hcells : d.entryCells (d.index slot) ≠ []) : d.openIndex slot 1 = (stOk, d.modIndex slot fun k => { k with state := 3 }) := by
  have hempty : (d.entryCells (d.index slot)).isEmpty = false := by simpa using hcells
  simp [Dev.openIndex, hkind, hstate, hempty]

/-- A pass over a cell of a vector index begins, over the segments that are not sealed, where there are any (R381). -/
theorem startPasses_cell {d : Dev} {slot cell : Nat} (hkind : ixKind (d.index slot) = 1) (hcell : cell < ixCount (d.index slot))
    (hone : cell ≠ 0xFFFFFFFF) : ∃ e, d.startPasses slot cell = (stOk, e) ∧
      (let l := (d.cellSegments (d.index slot) cell).filter fun p => !sgSealed (d.seg p.1 p.2)
       l ≠ [] → ⟨slot, cell, l, 0⟩ ∈ e.updates.passes) := by
  have hin : ¬ixCount (d.index slot) ≤ cell := Nat.not_le.2 hcell
  simp only [Dev.startPasses, hkind, bne_self_eq_false, Bool.false_eq_true, if_false, decide_eq_false hin, Bool.and_false, if_neg hone]
  refine ⟨_, rfl, fun hl => List.mem_append_right _ ?_⟩
  simpa using hl

/-- A shutdown sequence that completes is a clean end (R519, R674). -/
theorem actCleanShutdown_completes {c : Ctx} {d e : Dev} (h : d.cleanShutdown c = (stOk, e)) (q : Req) :
    d.actCleanShutdown c q 1 = (e.cleanEnd c 0 id).answer q 0x2840 6 stOk := by
  simp [Dev.actCleanShutdown, h]

/-- Settles O41, one clause for each action. The value 0 of the event of a clean end is log entry 60. -/
theorem objectActionsAct : Obligations.ObjectActionsAct := by
  intro s q d x
  refine ⟨fun tile h => ⟨exec_tileUnfence h true, exec_tileUnfence h false⟩, fun slot h hkind hstate hcells => ?_,
    fun slot value h hkind hcell hone => ?_, fun pool value e h he => ?_, fun pool value e h he => ?_, fun h => exec_poolFlush h,
    fun value h => exec_reclaim h, fun e h he => ?_⟩
  · rw [exec_indexOpen h, openIndex_serves hkind hstate hcells]; rfl
  · obtain ⟨e, he, hpass⟩ := startPasses_cell hkind hcell hone
    refine ⟨e, he, ?_, hpass⟩
    rw [exec_consolidationStart h, he]; rfl
  · rw [exec_sequenceReset h, he]; rfl
  · rw [exec_pendingTokenSet h, Dev.tokenWrite, he]; rfl
  · rw [exec_cleanShutdown h, actCleanShutdown_completes he]

end Sys2Proof.Machine
end

section
/-! Tile operations: what every operator answers on every operand, and what a finished operation leaves (R112–R123, R142, R143). -/

namespace Sys2Proof.Machine

/-! ### Operators and their commands -/

/-- A row's command runs its work where its descriptor has its operator, and empty inputs give empty outputs. -/
def OpRow.runsWork (row : OpRow) (capsule desc : Nat) : Prop :=
  ∀ s, exec row.command s = devStep (runOp row.selects false row.work capsule desc) s

theorem computeRows_runsWork {capsule desc : Nat} {row : OpRow} (h : row ∈ computeRows capsule desc) : row.runsWork capsule desc := by
  simp only [computeRows, List.mem_cons, List.not_mem_nil, or_false] at h
  rcases h with rfl | rfl | rfl | rfl | rfl | rfl | rfl | rfl | rfl | rfl | rfl | rfl | rfl | rfl <;> exact fun _ => rfl

theorem dataRows_runsWork {capsule desc : Nat} {row : OpRow} (h : row ∈ dataRows capsule desc) : row.runsWork capsule desc := by
  simp only [dataRows, List.mem_cons, List.not_mem_nil, or_false] at h
  rcases h with rfl | rfl | rfl | rfl | rfl | rfl | rfl | rfl | rfl | rfl | rfl | rfl | rfl | rfl | rfl | rfl | rfl | rfl <;>
    exact fun _ => rfl

/-! ### Operators that compute are always done (R112–R123) -/

/-- An operator's work is done on every operand. -/
def alwaysDone (work : Ctx → Dev → OpCtx → OpResult × Dev) : Prop := ∀ c d o, ∃ writes k d', work c d o = (.done writes k, d')

theorem opMatmul_done (sp : Bool) : alwaysDone (opMatmul sp) := fun _ _ _ => ⟨_, _, _, rfl⟩

theorem opBinary_done (f : Num → Num → Num) : alwaysDone (opBinary f) := fun _ _ _ => ⟨_, _, _, rfl⟩

theorem opUnary_done (f : Fmt → Num → Num) : alwaysDone (opUnary f) := fun _ _ _ => ⟨_, _, _, rfl⟩

theorem opAct_done : alwaysDone opAct := fun _ _ _ => ⟨_, _, _, rfl⟩

theorem opNorm_done : alwaysDone opNorm := fun _ _ _ => ⟨_, _, _, rfl⟩

/-- With the partial states or without them. -/
theorem opSoftmax_done : alwaysDone opSoftmax := by
  intro c d o
  by_cases h : dcOut o.word 1 = noOperand
  · exact ⟨_, _, _, if_pos h⟩
  · exact ⟨_, _, _, if_neg h⟩

theorem opRope_done : alwaysDone opRope := fun _ _ _ => ⟨_, _, _, rfl⟩

/-- Under the output's binding, or with chosen exponents. -/
theorem opQuant_done : alwaysDone opQuant := by
  intro c d o
  by_cases h : (!dcPb o.word 1) = true
  · exact ⟨_, _, _, if_pos h⟩
  · exact ⟨_, _, _, if_neg h⟩

theorem opRoute_done : alwaysDone opRoute := fun _ _ _ => ⟨_, _, _, rfl⟩

theorem opCombine_done : alwaysDone opCombine := fun _ _ _ => ⟨_, _, _, rfl⟩

theorem opBudget_done : alwaysDone opBudget := fun _ _ _ => ⟨_, _, _, rfl⟩

theorem computeRows_done {capsule desc : Nat} {row : OpRow} (h : row ∈ computeRows capsule desc) : alwaysDone row.work := by
  simp only [computeRows, List.mem_cons, List.not_mem_nil, or_false] at h
  rcases h with rfl | rfl | rfl | rfl | rfl | rfl | rfl | rfl | rfl | rfl | rfl | rfl | rfl | rfl
  · exact opMatmul_done false
  · exact opMatmul_done true
  · exact opBinary_done Num.add
  · exact opBinary_done Num.mul
  · exact opAct_done
  · exact opNorm_done
  · exact opSoftmax_done
  · exact opRope_done
  · exact opQuant_done
  · exact opUnary_done fun _ x => x
  · exact opRoute_done
  · exact opCombine_done
  · exact opUnary_done fun _ x => x
  · exact opBudget_done

/-- Settles O23: the work is done, and the command leaves the descriptor as the end of an operation does. -/
theorem computeOperatorsComplete : Obligations.ComputeOperatorsComplete := by
  intro s capsule desc d o row h hrow hsel hin
  obtain ⟨writes, k, d', hdone⟩ := computeRows_done hrow s.ctx d o
  have hrun := computeRows_runsWork hrow s
  refine ⟨writes, k, d', hdone, fun hfill => ?_, fun hkeep hfill => ?_⟩
  · have hleft : (row.work s.ctx d o).2.applyOp s.ctx o (row.work s.ctx d o).1 = d'.finishOp s.ctx o writes k := by rw [hdone]; rfl
    rw [hrun, devStep_runOp s capsule desc d o _ _ _ h hsel (.inr hin) (hleft ▸ hfill), hleft]
  · exact hrun.trans (devStep_runOp_done s capsule desc d o _ _ _ _ _ _ h hsel (.inr hin) hdone hkeep hfill)

/-! ### Runs of capsules -/

/-- A change of a run that keeps its capsule is found at that capsule. -/
theorem run?_modRun {d : Dev} {k : Nat} {r : PlanRun} {f : PlanRun → PlanRun} (h : d.run? k = some r)
    (hf : ∀ r, (f r).capsule = r.capsule) : (d.modRun k f).run? k = some (f r) := by
  have hk : r.capsule = k := by simpa using List.find?_some h
  have hsame : ((fun r => r.capsule == k) ∘ fun r => if r.capsule = k then f r else r) = fun r : PlanRun => r.capsule == k := by
    funext r
    by_cases hr : r.capsule = k <;> simp [hr, hf]
  calc (d.modRun k f).run? k
    _ = (d.run? k).map fun r => if r.capsule = k then f r else r := List.find?_map.trans (by rw [hsame]; rfl)
    _ = some (f r) := by simp [h, hk]

theorem run?_addCounts {d : Dev} {order : Nat} {r : PlanRun} (h : d.run? order = some r) (plan desc : Nat) (k : Counts) :
    (d.addCounts order plan desc k).run? order = some { r with counts := tabMod desc .none (fun o => o.plus k) r.counts } :=
  run?_modRun (f := fun r => { r with counts := tabMod desc .none (fun o => o.plus k) r.counts }) h fun _ => rfl

theorem run?_slotState (d : Dev) (order desc : Nat) (st : SlotState) (k : Nat) : (d.slotState order desc st).run? k = d.run? k := rfl

theorem modRun_modRun (d : Dev) (k : Nat) {f : PlanRun → PlanRun} (g : PlanRun → PlanRun) (hf : ∀ r, (f r).capsule = r.capsule) :
    (d.modRun k f).modRun k g = d.modRun k (g ∘ f) := by
  have hboth : ∀ r : PlanRun, (if (if r.capsule = k then f r else r).capsule = k then g (if r.capsule = k then f r else r)
      else if r.capsule = k then f r else r) = if r.capsule = k then g (f r) else r := by
    intro r
    by_cases hr : r.capsule = k <;> simp [hr, hf]
  simp [Dev.modRun, Dev.setPlans, Function.comp_def, hboth]

theorem modRun_id (d : Dev) (k : Nat) : (d.modRun k fun r => r) = d := by
  simp [Dev.modRun, Dev.setPlans]

/-! ### Outputs kept in a run -/

/-- A run's values with outputs put among them, in order. -/
def putValues (writes : List (Nat × Tensor)) (t : Tab Tensor) : Tab Tensor := writes.foldl (fun t w => tabSet w.1 w.2 t) t

theorem tabGet_putValues_other {k : Nat} {writes : List (Nat × Tensor)} (h : k ∉ writes.map (·.1)) (t : Tab Tensor) :
    tabGet k (putValues writes t) = tabGet k t := by
  induction writes generalizing t with
  | nil => rfl
  | cons w l ih =>
    rw [List.map_cons, List.mem_cons, not_or] at h
    obtain ⟨hw, hl⟩ := h
    exact (ih hl _).trans (tabGet_tabSet_other hw ..)

/-- Outputs of different tensors are all held. -/
theorem tabGet_putValues {writes : List (Nat × Tensor)} (h : (writes.map (·.1)).Nodup) {w : Nat × Tensor} (hw : w ∈ writes)
    (t : Tab Tensor) : tabGet w.1 (putValues writes t) = some w.2 := by
  induction writes generalizing t with
  | nil => cases hw
  | cons v l ih =>
    obtain ⟨hv, hl⟩ := List.nodup_cons.1 h
    rcases List.mem_cons.1 hw with rfl | hw
    · exact (tabGet_putValues_other hv _).trans (tabGet_tabSet_self ..)
    · exact ih hl hw _

/-- Outputs kept in the run change the run's values alone. -/
theorem putOutputs_kept (c : Ctx) (d : Dev) {o : OpCtx} {writes : List (Nat × Tensor)} (h : o.keepsOutputs writes) :
    d.putOutputs c o writes = (stOk, d.modRun o.cap.order fun r => { r with values := putValues writes r.values }) := by
  induction writes generalizing d with
  | nil => exact Prod.ext rfl (modRun_id ..).symm
  | cons w l ih =>
    have hput : d.putOutput c o w.1 w.2 = (stOk, d.modRun o.cap.order fun r => { r with values := tabSet w.1 w.2 r.values }) :=
      if_neg (h w List.mem_cons_self)
    simp only [Dev.putOutputs, hput, if_true, ih _ fun e he => h e (List.mem_cons_of_mem _ he),
      modRun_modRun _ _ (f := fun r => { r with values := tabSet w.1 w.2 r.values }) _ fun _ => rfl]
    rfl

/-- Slots of a descriptor put into a state are in it. -/
theorem slotState_slots {d : Dev} {order desc : Nat} {st : SlotState} {x : Nat × Slot} (hx : x ∈ (d.slotState order desc st).tiles.slots)
    (horder : x.2.capsule = order) (hdesc : x.2.desc = desc) : x.2.state = st := by
  obtain ⟨y, -, rfl⟩ := List.mem_map.1 hx
  by_cases hy : y.2.capsule = order ∧ y.2.desc = desc
  · rw [if_pos hy]
  · rw [if_neg hy] at horder hdesc
    exact absurd ⟨horder, hdesc⟩ hy

/-- A run once a descriptor of it has its results: counted, its outputs held, the descriptor operated, the zero maps of what the vector unit
writes noted (R119). -/
def PlanRun.finished (o : OpCtx) (writes : List (Nat × Tensor)) (k : Counts) (r : PlanRun) : PlanRun :=
  { r with
    counts := tabMod o.desc .none (fun old => old.plus k) r.counts
    values := putValues writes r.values
    descs := tabSet o.desc .operated r.descs
    zeroMaps := if opUnit (dcOp o.word) = .vector then (dcOuts o.word).map (·.2) ++ r.zeroMaps else r.zeroMaps }

theorem finished_operated (o : OpCtx) (writes : List (Nat × Tensor)) (k : Counts) (r : PlanRun) :
    tabGet o.desc (r.finished o writes k).descs = some .operated := tabGet_tabSet_self ..

theorem finished_values {writes : List (Nat × Tensor)} (h : (writes.map (·.1)).Nodup) (o : OpCtx) (k : Counts) (r : PlanRun) :
    ∀ w ∈ writes, tabGet w.1 (r.finished o writes k).values = some w.2 := fun _ hw => tabGet_putValues h hw _

/-- The end of an operation whose outputs are kept in the run. -/
theorem finishOp_kept (c : Ctx) (d : Dev) {o : OpCtx} {writes : List (Nat × Tensor)} (h : o.keepsOutputs writes) (k : Counts) :
    d.finishOp c o writes k = (((d.addCounts o.cap.order o.run.plan o.desc k).modRun o.cap.order fun r =>
      { r with values := putValues writes r.values }).modRun o.cap.order fun r => { r with
        descs := tabSet o.desc .operated r.descs
        zeroMaps := if opUnit (dcOp o.word) = .vector then (dcOuts o.word).map (·.2) ++ r.zeroMaps else r.zeroMaps
        }).slotState o.cap.order o.desc .draining := by
  simp only [Dev.finishOp, putOutputs_kept c _ h, bne_self_eq_false, Bool.false_eq_true, if_false]

/-- Outputs kept in the run reach no memory. -/
theorem finishOp_memory (c : Ctx) (d : Dev) {o : OpCtx} {writes : List (Nat × Tensor)} (h : o.keepsOutputs writes) (k : Counts) :
    (d.finishOp c o writes k).mem = d.mem ∧ (d.finishOp c o writes k).hostMem = d.hostMem ∧ (d.finishOp c o writes k).tiers = d.tiers := by
  simp [finishOp_kept c d h, Dev.slotState, Dev.modRun, Dev.addCounts, Dev.modPlan]

theorem run?_finishOp {c : Ctx} {d : Dev} {o : OpCtx} {writes : List (Nat × Tensor)} {r : PlanRun} (h : o.keepsOutputs writes) (k : Counts)
    (hr : d.run? o.cap.order = some r) : (d.finishOp c o writes k).run? o.cap.order = some (r.finished o writes k) := by
  rw [finishOp_kept c d h, run?_slotState, run?_modRun (run?_modRun (run?_addCounts hr _ _ _) _) _]
  · rfl
  · exact fun _ => rfl
  · exact fun _ => rfl

/-! ### One of several operations (R142) -/

/-- An operation that is not its descriptor's last leaves its slot draining and is counted. -/
theorem runOp_part {s : State} {capsule desc key : Nat} {d : Dev} {o : OpCtx} {k : Slot} {cap : Capsule} {is : Nat → Bool}
    (hcap : s.dev.capsule? capsule = some cap) (hd : d = (s.dev.setDict { s.dev.dict with cfg := cap.cfg }).setFillWait false)
    (ho : d.opCtx capsule desc = some o) (hslot : d.slotOf capsule desc = some (key, k)) (hrun : k.state = .running)
    (hplaced : tabGet desc o.run.descs = some .placed)
    (hmore : (tabGetD desc ⟨1, 1, 0, 0, 0⟩ o.run.cuts).ran + 1 < (tabGetD desc ⟨1, 1, 0, 0, 0⟩ o.run.cuts).total) (his : is o.word = true)
    (onEmpty : Bool) (f : Ctx → Dev → OpCtx → OpResult × Dev) : s.withDev (runOp is onEmpty f capsule desc s.ctx s.dev) =
      s.ranOp capsule desc (d.partRuns capsule desc key) := by
  have hnow : runOpNow is onEmpty f capsule desc s.ctx d = d.partRuns capsule desc key := by
    simp [runOpNow, ho, hslot, his, hrun, hplaced, hmore]
  have hfill : (d.partRuns capsule desc key).fillWait = false := by rw [hd]; rfl
  simp only [runOp, Dev.under, hcap, Dev.unlessFilling, ← hd, hnow, hfill, Bool.false_eq_true, if_false]
  rfl

/-- Settles O25: the outputs are put into the run alone. That an operation but the last is counted and leaves no value is log entry 13. -/
theorem finishedOperationsDrain : Obligations.FinishedOperationsDrain := by
  refine ⟨fun c d o writes k r hr hkeep hnodup => ?_, fun s capsule desc key d o k row hs hd ho hslot hrun hplaced hmore hrow hsel => ?_⟩
  · refine ⟨⟨_, run?_finishOp hkeep k hr, finished_operated .., finished_values hnodup o k r⟩, ?_⟩
    refine ⟨fun x hx => ?_, finishOp_memory c d hkeep k⟩
    rw [finishOp_kept c d hkeep] at hx
    exact slotState_slots hx
  · obtain ⟨cap, hcap, hd⟩ := hd
    have hwork : row.runsWork capsule desc := (List.mem_append.1 hrow).elim computeRows_runsWork dataRows_runsWork
    rw [hwork s, devStep_run _ s hs, runOp_part hcap hd ho hslot hrun hplaced hmore hsel]
    rfl

end Sys2Proof.Machine
end

section
/-! The tile scheduler: dispatch, the ends of tile operations and of panel moves, and mesh links (R129, R133, R139, R143, R146). -/

namespace Sys2Proof.Machine

/-! ### Contexts and errors -/

theorem opCtx_desc {d : Dev} {order desc : Nat} {o : OpCtx} (h : d.opCtx order desc = some o) : o.desc = desc := by
  unfold Dev.opCtx at h
  split at h
  · split at h
    · split at h
      · cases h; rfl
      · cases h
    · cases h
  · cases h

/-- A context does not depend on the tiles. -/
theorem opCtx_setTiles (d : Dev) (t : Tiles) (order desc : Nat) : (d.setTiles t).opCtx order desc = d.opCtx order desc := rfl

/-- Where the codes found nothing, no count of a tile changes. -/
theorem tileError_none (c : Ctx) (d : Dev) (tile : Nat) : d.tileError c tile 0 = d.modTile tile fun t => t := by
  simp [Dev.tileError]

/-! ### Dispatch (R146) -/

/-- What an operation takes as it fires: a GATHER its table's epoch (R406), an ATTEND the views of its page table (R431). -/
def Dev.takeAtStart (d : Dev) (k : Slot) : Dev :=
  match d.opCtx k.capsule k.desc with
  | some o =>
    if dcOp o.word = 0x20 then
      let t := dcP o.word 15 0 % 0x1000
      d.setUpdates { d.updates with gathers := ⟨k.capsule, k.desc, t, (tabGetD t .fresh d.updates.tables).epoch⟩ :: d.updates.gathers }
    else if dcOp o.word = 0x18 && (tabGet o.desc o.run.views).isNone then
      d.modRun k.capsule fun r => { r with views := tabSet o.desc (d.takeViews o.poolSlot (columnsOf (d.inputD o 1).1)) r.views }
    else d
  | none => d

/-- It changes updates and plans at most. -/
theorem takeAtStart_only (d : Dev) (k : Slot) : ∃ u p, d.takeAtStart k = { d with updates := u, plans := p } := by
  unfold Dev.takeAtStart
  split
  · dsimp only
    split
    · exact ⟨_, _, rfl⟩
    · split <;> exact ⟨_, _, rfl⟩
  · exact ⟨_, _, rfl⟩

theorem takeAtStart_tiles (d : Dev) (k : Slot) : (d.takeAtStart k).tiles = d.tiles := by
  obtain ⟨u, p, h⟩ := takeAtStart_only d k
  rw [h]

theorem takeAtStart_frame (d : Dev) (t : Tiles) (k : Slot) : (d.setTiles t).takeAtStart k = { d with
    tiles := ((d.setTiles t).takeAtStart k).tiles, updates := ((d.setTiles t).takeAtStart k).updates,
    plans := ((d.setTiles t).takeAtStart k).plans } := by
  obtain ⟨u, p, h⟩ := takeAtStart_only (d.setTiles t) k
  rw [h]
  rfl

theorem takeAtStart_gather {d : Dev} {k : Slot} {o : OpCtx} (ho : d.opCtx k.capsule k.desc = some o) (h : dcOp o.word = 0x20) :
    d.takeAtStart k = d.setUpdates { d.updates with
      gathers := ⟨k.capsule, k.desc, dcP o.word 15 0 % 0x1000,
        (tabGetD (dcP o.word 15 0 % 0x1000) .fresh d.updates.tables).epoch⟩ :: d.updates.gathers } := by
  simp only [Dev.takeAtStart, ho, h, if_true]

theorem takeAtStart_attend {d : Dev} {k : Slot} {o : OpCtx} (ho : d.opCtx k.capsule k.desc = some o) (h : dcOp o.word = 0x18)
    (hv : tabGet k.desc o.run.views = none) : d.takeAtStart k = d.modRun k.capsule fun r => { r with
      views := tabSet k.desc (d.takeViews o.poolSlot (columnsOf (d.inputD o 1).1)) r.views } := by
  simp [Dev.takeAtStart, ho, h, opCtx_desc ho, hv]

theorem takeAtStart_updates {d : Dev} {k : Slot} {o : OpCtx} (ho : d.opCtx k.capsule k.desc = some o) (h : dcOp o.word ≠ 0x20) :
    (d.takeAtStart k).updates = d.updates := by
  simp only [Dev.takeAtStart, ho, if_neg h]
  split <;> rfl

theorem takeAtStart_plans {d : Dev} {k : Slot} {o : OpCtx} (ho : d.opCtx k.capsule k.desc = some o) (h : dcOp o.word ≠ 0x18) :
    (d.takeAtStart k).plans = d.plans := by
  simp only [Dev.takeAtStart, ho, h, decide_false, Bool.false_and, Bool.false_eq_true, if_false]
  split <;> rfl

/-- The device with a slot of a tile running. -/
def Dev.slotFires (d : Dev) (tile n : Nat) (k : Slot) : Dev :=
  d.setTiles { d.tiles with
    slots := tabSet (64 * tile + n) { k with state := .running } d.tiles.slots, tiles := tabMod tile .reset (fun t => t) d.tiles.tiles }

/-- Where the codes of a tile find nothing, a slot of it that is put to RUNNING fires. -/
theorem tileError_slotFires (c : Ctx) (d : Dev) (tile n : Nat) (k : Slot) : (d.setTiles { d.tiles with
    slots := tabSet (64 * tile + n) { k with state := .running } d.tiles.slots }).tileError c tile 0 = d.slotFires tile n k :=
  tileError_none ..

theorem takeAtStart_slots (d : Dev) (tile n : Nat) (k : Slot) : ((d.slotFires tile n k).takeAtStart k).tiles.slots =
    tabSet (64 * tile + n) { k with state := .running } d.tiles.slots := congrArg Tiles.slots (takeAtStart_tiles ..)

/-- A free unit of a tile in service fires its first READY slot, where the tile's realm is the slot's (R146). -/
theorem exec_tileDispatch {s : State} {tile unit n : Nat} {k : Slot} (hs : s.running = true)
    (hserves : ((s.dev.resumeCutting s.ctx).tile tile).fenced = false) (hfree : (s.dev.resumeCutting s.ctx).unitFree tile (unitOf unit) = true)
    (hclear : (2, tileGroup tile) ∉ (s.dev.resumeCutting s.ctx).scrubs)
    (hnext : (s.dev.resumeCutting s.ctx).nextReady tile (unitOf unit) = some (n, k))
    (howner : (s.dev.resumeCutting s.ctx).groupOwner (tileGroup tile) = k.realm) : exec (.tileDispatch tile unit 0) s =
      .next (s.withDev (((s.dev.resumeCutting s.ctx).slotFires tile n k).takeAtStart k)) := by
  have hscrub : (s.dev.resumeCutting s.ctx).scrubs.contains (2, tileGroup tile) = false := by simpa using hclear
  have hreach (t : Tiles) : ((s.dev.resumeCutting s.ctx).setTiles t).groupOwner (tileGroup tile) = k.realm := howner
  refine (devStep_run _ s hs).trans ?_
  simp only [doTileDispatch, hserves, hfree, hscrub, hnext, hreach, Bool.not_true, Bool.or_self, bne_self_eq_false, Bool.false_eq_true,
    if_false, show ¬2 ≤ 0 by decide, tileError_slotFires]
  rfl

/-! ### Cutting and completion (R142, R143) -/

/-- Where every descriptor is cut to its end, no cutting goes on. -/
theorem resumeCutting_done {d : Dev} (h : ∀ r ∈ d.plans.runs, ∀ e ∈ r.cuts, e.2.total ≤ e.2.cut) (c : Ctx) : d.resumeCutting c = d := by
  refine List.foldlRecOn (motive := fun e => e = d) _ _ rfl fun e he r hr => ?_
  refine List.foldlRecOn (motive := fun e => e = d) _ _ he fun e he k hk => ?_
  rw [Nat.sub_eq_zero_of_le (h r hr k hk)]
  exact he

/-- A slot freed where no operation is held for one. -/
theorem freeTheSlot_slots {d : Dev} (h : d.tiles.held = []) (tile slot : Nat) :
    (d.freeTheSlot tile slot).tiles.slots = tabDel (64 * tile + slot) d.tiles.slots := by
  simp [Dev.freeTheSlot, Dev.placeHeld, h]

/-- The device with a drained slot freed and its operation counted. -/
def Dev.operationEnds (d : Dev) (tile slot : Nat) : Dev :=
  (d.freeTheSlot tile slot).modTile tile fun t => { t with completed := satAdd 64 t.completed 1 }

section
variable {s : State} {tile slot : Nat} {k : Slot} {o : OpCtx} (hs : s.running = true)
  (hslot : tabGet (64 * tile + slot) s.dev.tiles.slots = some k) (hdrain : k.state = .draining)
  (hack : s.dev.unacknowledged k.capsule k.desc = false) (ho : (s.dev.freeTheSlot tile slot).opCtx k.capsule k.desc = some o)
include hs hslot hdrain hack ho

/-- A drained operation that is not its descriptor's last frees its slot and is counted. -/
theorem exec_tileOperationComplete_more
    (hmore : ¬(tabGet k.desc o.run.descs = some .operated ∧ (s.dev.operationEnds tile slot).slotsFor k.capsule k.desc = [])) :
    exec (.tileOperationComplete tile slot) s = .next (s.withDev ((s.dev.operationEnds tile slot).resumeCutting s.ctx)) := by
  refine (devStep_run _ s hs).trans ?_
  simp only [doTileOperationComplete, hslot, hdrain, hack, ho, bne_self_eq_false, Bool.or_self, Bool.false_eq_true, if_false,
    Bool.and_eq_true, beq_iff_eq, List.isEmpty_iff]
  exact congrArg (fun e => Host.Outcome.next (s.withDev (Dev.resumeCutting s.ctx e))) (if_neg hmore)

/-- With the last one the descriptor fires. -/
theorem exec_tileOperationComplete_last
    (hlast : tabGet k.desc o.run.descs = some .operated ∧ (s.dev.operationEnds tile slot).slotsFor k.capsule k.desc = []) :
    exec (.tileOperationComplete tile slot) s =
      .next (s.withDev (((s.dev.operationEnds tile slot).fireDesc s.ctx o tile).resumeCutting s.ctx)) := by
  refine (devStep_run _ s hs).trans ?_
  simp only [doTileOperationComplete, hslot, hdrain, hack, ho, bne_self_eq_false, Bool.or_self, Bool.false_eq_true, if_false,
    Bool.and_eq_true, beq_iff_eq, List.isEmpty_iff]
  exact congrArg (fun e => Host.Outcome.next (s.withDev (Dev.resumeCutting s.ctx e))) (if_pos hlast)

end

/-! ### Panel moves (R129, R133) -/

/-- Nothing but the tiles' records and the panels of the T2 cache, which count their pins, differs between two devices. -/
def Dev.onlyMoves (d e : Dev) : Prop := ∃ t p, e = { d with tiles := t, tiers := { d.tiers with panels := p } }

theorem onlyMoves_refl (d : Dev) : d.onlyMoves d := ⟨_, _, rfl⟩

theorem onlyMoves_setTiles {d e : Dev} (h : d.onlyMoves e) (t : Tiles) : d.onlyMoves (e.setTiles t) := by
  obtain ⟨u, p, rfl⟩ := h
  exact ⟨t, p, rfl⟩

theorem onlyMoves_repin {d e : Dev} (h : d.onlyMoves e) (l : List (Nat × Nat)) (f : Nat → Nat) : d.onlyMoves (e.repin l f) := by
  obtain ⟨u, p, rfl⟩ := h
  exact ⟨_, _, rfl⟩

/-- A move's number is given already, and no move of the tile has it any more. -/
def Dev.moveGone (tile move : Nat) (d : Dev) : Prop :=
  move < d.tiles.nextMove ∧ ∀ x ∈ tabGetD tile [] d.tiles.moves, x.number ≠ move

section
variable {d e : Dev} {tile move : Nat}

/-- A move that starts takes a number of its own. -/
theorem moveGone_startMove (h : e.moveGone tile move) (n : Nat) (m : PanelMove) : (e.startMove n m).moveGone tile move := by
  obtain ⟨hnumber, hgone⟩ := h
  refine ⟨Nat.lt_succ_of_lt hnumber, fun x hx => ?_⟩
  simp only [Dev.startMove, Dev.repin, Dev.setTiers_tiles, Dev.setTiles_tiles] at hx
  by_cases hn : tile = n
  · subst hn
    rw [tabGetD_tabMod_self, List.mem_append, List.mem_singleton] at hx
    rcases hx with hx | rfl
    · exact hgone x hx
    · exact hnumber.ne'
  · rw [tabGetD_tabMod_other hn] at hx
    exact hgone x hx

/-- Waiting moves take the place of one that has ended. -/
theorem pullMoves_keeps (h : d.onlyMoves e) (hgone : e.moveGone tile move) :
    d.onlyMoves e.pullMoves ∧ e.pullMoves.moveGone tile move := by
  refine List.foldlRecOn (motive := fun e => d.onlyMoves e ∧ e.moveGone tile move) _ _ ⟨onlyMoves_setTiles h _, hgone⟩ fun f hf q _ => ?_
  obtain ⟨honly, hgone⟩ := hf
  split
  · exact ⟨onlyMoves_repin (onlyMoves_setTiles honly _) _ _, moveGone_startMove hgone ..⟩
  · exact ⟨onlyMoves_setTiles honly _, hgone⟩

theorem tabGet_mapValues {α β : Type} (k : Nat) (f : Nat → α → β) (t : Tab α) :
    tabGet k (t.map fun e => (e.1, f e.1 e.2)) = (tabGet k t).map (f k) := by
  induction t with
  | nil => rfl
  | cons e t ih =>
    by_cases hk : e.1 = k
    · subst hk; simp [tabGet]
    · simp [tabGet, hk, ih]

/-- A move that has ended is gone. -/
theorem endMoves_keeps (hnumber : move < d.tiles.nextMove) (which : Nat → PanelMove → Bool)
    (hwhich : ∀ x, which tile x = (x.number == move)) :
    d.onlyMoves (d.endMoves which) ∧ (d.endMoves which).moveGone tile move := by
  refine List.foldlRecOn (motive := fun e => d.onlyMoves e ∧ e.moveGone tile move) _ _
    ⟨onlyMoves_setTiles (onlyMoves_refl d) _, hnumber, fun x hx => ?_⟩ fun f hf m _ => ⟨onlyMoves_repin hf.1 _ _, hf.2⟩
  simp only [Dev.setTiles_tiles, tabGetD, tabGet_mapValues tile fun n (l : List PanelMove) => l.filter fun m => !which n m] at hx
  cases hmoves : tabGet tile d.tiles.moves with
  | none => simp [hmoves] at hx
  | some l =>
    rw [hmoves] at hx
    obtain ⟨-, hx⟩ := List.mem_filter.1 hx
    simpa [hwhich] using hx

/-- The device once a move has ended, and before its operation drains. -/
def Dev.moveEnds (d : Dev) (tile move : Nat) : Dev :=
  ((d.endMoves fun n x => n == tile && x.number == move).pullMoves).modTile tile fun t => t

theorem moveEnds_keeps (hnumber : move < d.tiles.nextMove) :
    d.onlyMoves (d.moveEnds tile move) ∧ (d.moveEnds tile move).moveGone tile move := by
  obtain ⟨honly, hgone⟩ := endMoves_keeps (tile := tile) hnumber (fun n x => n == tile && x.number == move) fun x => by simp
  obtain ⟨honly, hgone⟩ := pullMoves_keeps honly hgone
  exact ⟨onlyMoves_setTiles honly _, hgone⟩

/-- A panel of a descriptor arrives: its operation drains. -/
theorem doPanelMoveComplete_drains {m : PanelMove} {r : PlanRun} {p : Plan}
    (hm : (tabGetD tile [] d.tiles.moves).find? (fun x => x.number == move) = some m) (hr : d.run? m.capsule = some r)
    (hp : d.plan? r.plan = some p) (hst : r.status = stOk) (hdesc : m.desc < 0x10000) (hnumber : move < d.tiles.nextMove) (c : Ctx) :
    doPanelMoveComplete tile move 0 c d = (d.moveEnds tile move).slotState m.capsule m.desc .draining := by
  obtain ⟨t, q, hsame⟩ := (moveEnds_keeps (tile := tile) hnumber).1
  have hr' : (d.moveEnds tile move).run? m.capsule = some r := by rw [hsame]; exact hr
  have hp' : (d.moveEnds tile move).plan? r.plan = some p := by rw [hsame]; exact hp
  have hlayer : ¬0x10000 ≤ m.desc := Nat.not_le.2 hdesc
  rw [Dev.moveEnds] at hr' hp'
  simp only [doPanelMoveComplete, hm, show ¬(0 : Nat) = 2 by decide, if_false, tileError_none, hr', hp', hst, bne_self_eq_false,
    Bool.false_eq_true, if_neg hlayer, Dev.moveEnds]

end

/-- A move that pins no panel of the cache wakes nothing that waited for one. -/
theorem doMoveEnd_unpinned {d : Dev} {tile move : Nat} (h : ∀ x ∈ tabGetD tile [] d.tiles.moves, x.number = move → x.pins = []) (ecc : Nat)
    (c : Ctx) : doMoveEnd tile move ecc c d = doPanelMoveComplete tile move ecc c d := by
  have hnone : ((tabGetD tile [] d.tiles.moves).any fun m => m.number == move && !m.pins.isEmpty) = false := by
    simpa using h
  simp [doMoveEnd, hnone]

/-- What a panel move's end leaves waiting at the banks is noted (R193). -/
theorem hear_onlyMoves {d e : Dev} (h : d.onlyMoves e) (c : Ctx) : e.hear c none = Dev.hear c { d with
    tiles := (e.hear c none).tiles, tiers := { d.tiers with panels := (e.hear c none).tiers.panels } } none := by
  obtain ⟨t, p, rfl⟩ := h
  rfl

theorem exec_panelMoveComplete {s : State} (hs : s.running = true) {tile move : Nat}
    (hpins : ∀ x ∈ tabGetD tile [] s.dev.tiles.moves, x.number = move → x.pins = []) (ecc : Nat) :
    exec (.panelMoveComplete tile move ecc) s = .next (s.withDev ((doPanelMoveComplete tile move ecc s.ctx s.dev).hear s.ctx none)) :=
  (devStep_run _ s hs).trans (by rw [hearing, doMoveEnd_unpinned hpins])

/-! ### Mesh links (R139) -/

/-- The device with a resend counted at both ends of a link. -/
def Dev.retried (d : Dev) (link : Nat) : Dev :=
  (d.modTile (linkEnds link).1 fun t => { t with retries := satAdd 32 t.retries 1 }).modTile (linkEnds link).2 fun t =>
    { t with retries := satAdd 32 t.retries 1 }

/-- The device with a resend counted and noted at its link. -/
def Dev.resent (d : Dev) (link state inRow : Nat) : Dev :=
  (d.retried link).setTiles { (d.retried link).tiles with links := tabSet link ⟨state, inRow⟩ d.tiles.links }

/-- Resends of one flit in a row, with the one that comes now: its count goes on, or another flit's begins (log entry 19). -/
def Dev.resendsInRow (d : Dev) (link : Nat) (again : Bool) : Nat := if again then (tabGetD link ⟨0, 0⟩ d.tiles.links).inRow + 1 else 1

section
variable {s : State} {link : Nat} {again : Bool} (hs : s.running = true) (hup : (tabGetD link ⟨0, 0⟩ s.dev.tiles.links).state ≠ 2)
  (hlink : link < 1104)
include hs hup hlink

theorem exec_flitCrcError_resends (h : s.dev.resendsInRow link again < 8) :
    exec (.flitCrcError ⟨link, again⟩) s = .next (s.withDev (s.dev.resent link 1 (s.dev.resendsInRow link again))) := by
  have hacts : ¬((tabGetD link ⟨0, 0⟩ s.dev.tiles.links).state = 2 ∨ 1104 ≤ link) := by omega
  rw [Dev.resendsInRow] at h
  refine (devStep_run _ s hs).trans ?_
  simp only [doFlitCrcError, if_neg hacts, decide_eq_false (Nat.not_le.2 h), Bool.false_eq_true, if_false]
  rfl

/-- The eighth resend in a row fails the link. -/
theorem exec_flitCrcError_fails (h : 8 ≤ s.dev.resendsInRow link again) : exec (.flitCrcError ⟨link, again⟩) s =
    .next (s.withDev (((s.dev.resent link 2 (s.dev.resendsInRow link again)).event s.ctx 0x0202 1 0 link 0 0).endUnroutable s.ctx)) := by
  have hacts : ¬((tabGetD link ⟨0, 0⟩ s.dev.tiles.links).state = 2 ∨ 1104 ≤ link) := by omega
  rw [Dev.resendsInRow] at h
  refine (devStep_run _ s hs).trans ?_
  simp only [doFlitCrcError, if_neg hacts, decide_eq_true h, if_true]
  rfl

end

/-- Both ends of a link between two tiles count the resend. -/
theorem resent_retries {link : Nat} (h : (linkEnds link).1 ≠ (linkEnds link).2) (d : Dev) (state inRow : Nat) :
    ((d.resent link state inRow).tile (linkEnds link).1).retries = satAdd 32 (d.tile (linkEnds link).1).retries 1 ∧
    ((d.resent link state inRow).tile (linkEnds link).2).retries = satAdd 32 (d.tile (linkEnds link).2).retries 1 := by
  simp [Dev.resent, Dev.retried, Dev.tile, Dev.modTile, tabGetD_tabMod_other h, tabGetD_tabMod_other h.symm]

/-- Settles O28, one clause for each event. That `again` goes on with a flit's count of resends, and another flit begins at 1, is log entry 19. -/
theorem tilesAndMesh : Obligations.TilesAndMesh := by
  refine ⟨fun s tile unit n k hs hserves hfree hclear hnext howner => ?_, fun s h => resumeCutting_done h _,
    ⟨fun s tile slot k o hs hslot hdrain hack ho => ⟨exec_tileOperationComplete_more hs hslot hdrain hack ho,
      exec_tileOperationComplete_last hs hslot hdrain hack ho, fun hheld => freeTheSlot_slots hheld ..⟩,
    fun s tile move m r p hs hm hr hp hst hdesc hnumber hpins => ?_⟩, fun s link again hs hup hlink => ⟨fun hn => ?_, fun hn => ?_⟩⟩
  · have hslots := takeAtStart_slots (s.dev.resumeCutting s.ctx) tile n k
    refine ⟨_, exec_tileDispatch hs hserves hfree hclear hnext howner, congrArg s.withDev (takeAtStart_frame ..), hslots,
      (congrArg _ hslots).trans (tabGet_tabSet_self ..), fun o ho => ?_⟩
    have he : ((s.dev.resumeCutting s.ctx).slotFires tile n k).opCtx k.capsule k.desc = some o :=
      (opCtx_setTiles ..).trans ho
    refine ⟨takeAtStart_updates he, takeAtStart_plans he, fun hop => ?_, fun hop hv => ?_⟩
    · exact congrArg Dev.updates (takeAtStart_gather he hop)
    · refine (congrArg Dev.plans (takeAtStart_attend he hop hv)).trans ?_
      simp only [State.withDev, hslots, tileError_slotFires]
  · obtain ⟨honly, -, hgone⟩ := moveEnds_keeps (d := s.dev) (tile := tile) hnumber
    refine ⟨_, exec_panelMoveComplete hs hpins 0, ?_⟩
    rw [doPanelMoveComplete_drains hm hr hp hst hdesc hnumber]
    exact ⟨congrArg s.withDev (hear_onlyMoves (onlyMoves_setTiles honly _) _), hgone, fun x hx => slotState_slots hx⟩
  · exact ⟨_, exec_flitCrcError_resends hs hup hlink hn, rfl, rfl, rfl, fun hends => resent_retries hends s.dev 1 _⟩
  · exact ⟨_, rfl, rfl, exec_flitCrcError_fails hs hup hlink hn⟩

end Sys2Proof.Machine
end

section
/-! What a bank's commands leave alone, and what a bank and a stack hold after an update. -/

namespace Sys2Proof.Machine

/-! ### Banks and free values alone -/

/-- A device that differs from another in its banks' records and in the free values drawn alone. -/
def Dev.keepsButBanks (d e : Dev) : Prop := ∃ b k, e = (d.setBanks b).setFreeCtr k

theorem Dev.keepsButBanks_refl (d : Dev) : d.keepsButBanks d := ⟨_, _, rfl⟩

theorem Dev.keepsButBanks_setBanks {d e : Dev} (h : d.keepsButBanks e) (b : Banks) : d.keepsButBanks (e.setBanks b) := by
  obtain ⟨_, k, rfl⟩ := h
  exact ⟨b, k, rfl⟩

theorem Dev.keepsButBanks_foldl {α : Type} {d : Dev} {f : Dev → α → Dev} (hf : ∀ e a, d.keepsButBanks e → d.keepsButBanks (f e a)) (l : List α)
    {e : Dev} (h : d.keepsButBanks e) : d.keepsButBanks (l.foldl f e) := by
  induction l generalizing e with
  | nil => exact h
  | cons a l ih => exact ih (hf e a h)

theorem onlyBanks_withDev {s : State} {e : Dev} (h : s.dev.keepsButBanks e) : s.onlyBanks (s.withDev e) := by
  obtain ⟨b, k, rfl⟩ := h
  rfl

/-! ### Records after an update -/

@[simp] theorem bank_modBank_self (d : Dev) (n : Nat) (f : Bank → Bank) : (d.modBank n f).bank n = f (d.bank n) := by
  simp [Dev.modBank, Dev.bank]

theorem bank_modBank_other {n m : Nat} (h : m ≠ n) (d : Dev) (f : Bank → Bank) : (d.modBank n f).bank m = d.bank m := by
  simp [Dev.modBank, Dev.bank, tabGetD_tabMod_other h]

@[simp] theorem bank_setFreeCtr (d : Dev) (k n : Nat) : (d.setFreeCtr k).bank n = d.bank n := rfl

@[simp] theorem bank_modStack (d : Dev) (n m : Nat) (f : Stack → Stack) : (d.modStack n f).bank m = d.bank m := rfl

/-! ### An instruction that draws free values -/

/-- An instruction that draws free values and changes the engine: the banks alone change, and the run goes on with the new engine. -/
theorem issues_draws {s : State} {bank word : Nat} {t : Trigger} {r : BankRun} (h : s.issues bank word t r) (k : Nat) {f : BankRun → BankRun}
    {e : Engine} (hf : f r = { r with engine := e }) :
    s.onlyBanks (s.withDev ((s.dev.setFreeCtr k).proceedWith bank f)) ∧
    ((s.withDev ((s.dev.setFreeCtr k).proceedWith bank f)).dev.bank bank).run = some (r.next e) := by
  obtain ⟨-, hrun, -⟩ := h
  refine ⟨onlyBanks_withDev ⟨_, _, rfl⟩, ?_⟩
  simp [State.withDev, Dev.proceedWith, Dev.modBankRun, hrun, hf, BankRun.next]

end Sys2Proof.Machine
end

section
/-! The local top buffer of a bank engine (R185): the order of scores, where an entry goes, what is evicted, and what is counted. -/

namespace Sys2Proof.Machine

/-! ### The order of scores -/

/-- The value of an exact number among the extended reals; a NaN has none, and stands at 0. -/
noncomputable def Num.value : Num → EReal
  | .nan => 0
  | .inf neg => if neg then ⊥ else ⊤
  | .fin neg m e => (((if neg then -(m : ℝ) else m) * (2 : ℝ) ^ e : ℝ) : EReal)

theorem Num.scaled_mul_zpow {e base : Int} (h : base ≤ e) (neg : Bool) (m : Nat) :
    (Num.scaled neg m e base : ℝ) * 2 ^ base = (if neg then -(m : ℝ) else m) * 2 ^ e := by
  have hp : (2 : ℝ) ^ (e - base).toNat * 2 ^ base = 2 ^ e := by
    rw [← zpow_natCast, ← zpow_add₀ two_ne_zero, Int.toNat_of_nonneg (Int.sub_nonneg.2 h), sub_add_cancel]
  cases neg <;> simp [Num.scaled, ← hp, mul_assoc]

/-- Numbers that are no NaN are in the order of their values. -/
theorem Num.lt_eq_value_lt {x y : Num} (hx : x.isNaN = false) (hy : y.isNaN = false) : Num.lt x y = decide (x.value < y.value) := by
  cases x with
  | nan => cases hx
  | inf a => cases y with
    | nan => cases hy
    | inf b => cases a <;> cases b <;> simp [Num.lt, Num.cmp, Num.value]
    | fin b n f => cases a <;> simp [Num.lt, Num.cmp, Num.value]
  | fin a m e => cases y with
    | nan => cases hy
    | inf b => cases b <;> simp [Num.lt, Num.cmp, Num.value]
    | fin b n f =>
      have hpos : (0 : ℝ) < 2 ^ min e f := by positivity
      have hval : (Num.fin a m e).value < (Num.fin b n f).value ↔ Num.scaled a m e (min e f) < Num.scaled b n f (min e f) := by
        rw [Num.value, Num.value, ← Num.scaled_mul_zpow (min_le_left e f), ← Num.scaled_mul_zpow (min_le_right e f), EReal.coe_lt_coe_iff,
          mul_lt_mul_iff_left₀ hpos, Int.cast_lt]
      simp [Num.lt, Num.cmp, hval, ← compare_lt_iff_lt, beq_eq_decide]

/-- Is a word a NaN as a trigger's score? -/
def Trigger.isNaN (t : Trigger) (w : Word) : Bool := t.accFp && f32IsNaN w.toNat

/-- How good a score is: the higher the better. -/
noncomputable def Trigger.rank (t : Trigger) (w : Word) : EReal :=
  let v : EReal := if t.accFp then (ofF32 w.toNat).value else ((w.toInt : ℝ) : EReal)
  if t.lowerBetter then -v else v

/-- Scores that are no NaN are ordered by their ranks. -/
theorem strictlyWorse_eq {t : Trigger} {a b : Word} (ha : t.isNaN a = false) (hb : t.isNaN b = false) :
    strictlyWorse t a b = decide (t.rank a < t.rank b) := by
  unfold strictlyWorse Trigger.rank
  cases hfp : t.accFp
  · cases t.lowerBetter <;> simp [BitVec.slt, EReal.coe_lt_coe_iff]
  · simp only [Trigger.isNaN, hfp, Bool.true_and, f32IsNaN] at ha hb
    cases t.lowerBetter <;> simp [f32Lt, Num.lt_eq_value_lt, ha, hb]

theorem strictlyWorse_eq_false {t : Trigger} {a b : Word} (ha : t.isNaN a = false) (hb : t.isNaN b = false) :
    strictlyWorse t a b = false ↔ t.rank b ≤ t.rank a := by
  rw [strictlyWorse_eq ha hb, decide_eq_false_iff_not, not_lt]

theorem sameScore_eq {t : Trigger} {a b : Word} (ha : t.isNaN a = false) (hb : t.isNaN b = false) :
    sameScore t a b = decide (t.rank a = t.rank b) := by
  rw [sameScore, strictlyWorse_eq ha hb, strictlyWorse_eq hb ha, ← decide_not, ← decide_not, ← Bool.decide_and]
  simp only [not_lt, le_antisymm_iff, and_comm]

/-! ### Where an entry goes in a list of falling ranks -/

section
variable {α : Type} {rank : α → EReal} {l : List α} {n : Nat} {x : EReal}

/-- The entries before a place up to which no more than those at or above a rank can stand are at or above it. -/
theorem le_of_mem_take (hl : l.Pairwise fun y z => rank z ≤ rank y) (h : n ≤ l.countP fun y => decide (x ≤ rank y)) :
    ∀ y ∈ l.take n, x ≤ rank y := by
  induction l generalizing n with
  | nil => simp
  | cons a l ih =>
    cases n with
    | zero => simp
    | succ n =>
      obtain ⟨ha, hl⟩ := List.pairwise_cons.1 hl
      by_cases hx : x ≤ rank a
      · rw [List.countP_cons_of_pos (by simpa using hx)] at h
        simpa [hx] using ih hl (Nat.le_of_succ_le_succ h)
      · have hnone : l.countP (fun y => decide (x ≤ rank y)) = 0 :=
          List.countP_eq_zero.2 fun y hy => by simpa using lt_of_le_of_lt (ha y hy) (not_le.1 hx)
        rw [List.countP_cons_of_neg (by simpa using hx), hnone] at h
        omega

/-- The entries from a place on before which all those above a rank can stand are at or below it. -/
theorem le_of_mem_drop (hl : l.Pairwise fun y z => rank z ≤ rank y) (h : (l.countP fun y => decide (x < rank y)) ≤ n) :
    ∀ y ∈ l.drop n, rank y ≤ x := by
  induction l generalizing n with
  | nil => simp
  | cons a l ih =>
    obtain ⟨ha, hl⟩ := List.pairwise_cons.1 hl
    by_cases hx : x < rank a
    · rw [List.countP_cons_of_pos (by simpa using hx)] at h
      obtain ⟨n, rfl⟩ : ∃ k, n = k + 1 := ⟨n - 1, by omega⟩
      exact ih hl (Nat.le_of_succ_le_succ h)
    · intro y hy
      rcases List.mem_cons.1 (List.mem_of_mem_drop hy) with rfl | hy
      · exact not_lt.1 hx
      · exact (ha y hy).trans (not_lt.1 hx)

end

/-- TB best first, with no NaN in it. -/
def Trigger.sorted (t : Trigger) (l : List (Word × Nat)) : Prop :=
  l.Pairwise (fun y z => strictlyWorse t y.1 z.1 = false) ∧ ∀ y ∈ l, t.isNaN y.1 = false

theorem sorted_iff {t : Trigger} {l : List (Word × Nat)} :
    t.sorted l ↔ l.Pairwise (fun y z => t.rank z.1 ≤ t.rank y.1) ∧ ∀ y ∈ l, t.isNaN y.1 = false :=
  and_congr_left fun hn => List.Pairwise.iff_of_mem fun hy hz => strictlyWorse_eq_false (hn _ hy) (hn _ hz)

theorem sorted_sublist {t : Trigger} {l m : List (Word × Nat)} (h : t.sorted l) (hm : m.Sublist l) : t.sorted m :=
  ⟨h.1.sublist hm, fun y hy => h.2 y (hm.subset hy)⟩

/-- The place that an entry takes. -/
def tbPlace (t : Trigger) (k : Nat) (e : Word × Nat) (l : List (Word × Nat)) : Nat :=
  (l.filter fun x => strictlyWorse t e.1 x.1).length + k % ((l.filter fun x => sameScore t e.1 x.1).length + 1)

theorem tbInsert_eq (t : Trigger) (k : Nat) (e : Word × Nat) (l : List (Word × Nat)) :
    tbInsert t k e l = l.take (tbPlace t k e l) ++ e :: l.drop (tbPlace t k e l) := rfl

theorem tbInsert_perm (t : Trigger) (k : Nat) (e : Word × Nat) (l : List (Word × Nat)) : (tbInsert t k e l).Perm (e :: l) := by
  rw [tbInsert_eq]
  exact List.perm_middle.trans (by rw [List.take_append_drop])

section
variable {t : Trigger} {l : List (Word × Nat)} {x : Word} (hx : t.isNaN x = false) (hn : ∀ y ∈ l, t.isNaN y.1 = false)
include hx hn

theorem length_filter_better :
    (l.filter fun y => strictlyWorse t x y.1).length = l.countP fun y => decide (t.rank x < t.rank y.1) := by
  rw [← List.countP_eq_length_filter]
  exact List.countP_congr fun y hy => by rw [strictlyWorse_eq hx (hn y hy)]

theorem length_filter_same :
    (l.filter fun y => sameScore t x y.1).length = l.countP fun y => decide (t.rank x = t.rank y.1) := by
  rw [← List.countP_eq_length_filter]
  exact List.countP_congr fun y hy => by rw [sameScore_eq hx (hn y hy)]

/-- The better entries and the equal ones together are those at or above a score. -/
theorem length_filter_better_add_same :
    (l.filter fun y => strictlyWorse t x y.1).length + (l.filter fun y => sameScore t x y.1).length =
      l.countP fun y => decide (t.rank x ≤ t.rank y.1) := by
  rw [length_filter_better hx hn, length_filter_same hx hn]
  clear hn
  induction l with
  | nil => rfl
  | cons a l ih =>
    simp only [List.countP_cons, ← ih]
    rcases lt_trichotomy (t.rank x) (t.rank a.1) with h | h | h
    · simp [h, h.le, h.ne]; omega
    · simp [h]; omega
    · simp [h.not_gt, h.not_ge, h.ne']

end

/-- An entry that is no NaN leaves TB best first. -/
theorem sorted_tbInsert {t : Trigger} {l : List (Word × Nat)} (h : t.sorted l) {e : Word × Nat} (he : t.isNaN e.1 = false) (k : Nat) :
    t.sorted (tbInsert t k e l) := by
  obtain ⟨hl, hn⟩ := sorted_iff.1 h
  have hplace : tbPlace t k e l ≤ l.countP fun y => decide (t.rank e.1 ≤ t.rank y.1) := by
    have hmod : k % ((l.filter fun x => sameScore t e.1 x.1).length + 1) < _ := Nat.mod_lt _ (Nat.succ_pos _)
    rw [← length_filter_better_add_same he hn]
    unfold tbPlace
    omega
  have hbefore := le_of_mem_take (rank := fun y : Word × Nat => t.rank y.1) hl hplace
  have hafter := le_of_mem_drop (rank := fun y : Word × Nat => t.rank y.1) (n := tbPlace t k e l) hl
    (by rw [← length_filter_better he hn]; exact Nat.le_add_right ..)
  refine sorted_iff.2 ⟨?_, fun y hy => ?_⟩
  · rw [tbInsert_eq, List.pairwise_append, List.pairwise_cons]
    refine ⟨hl.sublist (List.take_sublist ..), ⟨hafter, hl.sublist (List.drop_sublist ..)⟩, fun y hy z hz => ?_⟩
    rcases List.mem_cons.1 hz with rfl | hz
    · exact hbefore y hy
    · exact (hafter z hz).trans (hbefore y hy)
  · rcases List.mem_cons.1 ((tbInsert_perm t k e l).mem_iff.1 hy) with rfl | hy
    · exact he
    · exact hn y hy

/-! ### An offer to TB -/

section
variable {t : Trigger} {e : Engine} {x : Word × Nat}

theorem offer_nan (h : t.isNaN x.1 = true) (k j : Nat) : e.offer t k j x = { e with nan := e.nan + 1 } := if_pos h

theorem offer_room (h : t.isNaN x.1 = false) (hroom : e.tb.length < t.tbSize) (k j : Nat) :
    e.offer t k j x = { e with tb := tbInsert t k x e.tb } := by
  rw [Engine.offer, if_neg (by simpa [Trigger.isNaN] using h), if_pos hroom]

/-- The entries of TB that share the worst score. -/
def Engine.worstCount (e : Engine) (t : Trigger) (w : Word) : Nat := (e.tb.filter fun y => sameScore t y.1 w).length

/-- The place of the entry that an offer to a full TB puts out. -/
def Engine.worstPlace (e : Engine) (t : Trigger) (w : Word) (j : Nat) : Nat := e.tb.length - 1 - j % max (e.worstCount t w) 1

theorem offer_full (h : t.isNaN x.1 = false) (hfull : t.tbSize ≤ e.tb.length) {w : Word × Nat} (hw : e.tb.getLast? = some w) (k j : Nat) :
    e.offer t k j x =
      if strictlyWorse t x.1 w.1 = true ∨ (sameScore t x.1 w.1 = true ∧ j % (e.worstCount t w.1 + 1) = e.worstCount t w.1) then
        { e with evicted := e.evicted + 1 }
      else { e with tb := tbInsert t k x (e.tb.eraseIdx (e.worstPlace t w.1 j)), evicted := e.evicted + 1 } := by
  rw [Engine.offer, if_neg (by simpa [Trigger.isNaN] using h), if_neg (by omega), Engine.tbWorst, hw]
  cases hworse : strictlyWorse t x.1 w.1 <;> simp [hworse, Engine.worstCount, Engine.worstPlace]

/-- The last entry of a TB that is best first is a worst one. -/
theorem rank_getLast_le (h : t.sorted e.tb) {w : Word × Nat} (hw : e.tb.getLast? = some w) : ∀ y ∈ e.tb, t.rank w.1 ≤ t.rank y.1 := by
  obtain ⟨hl, -⟩ := sorted_iff.1 h
  obtain ⟨l, hl'⟩ := List.getLast?_eq_some_iff.1 hw
  rw [hl', List.pairwise_append] at hl
  intro y hy
  rw [hl', List.mem_append, List.mem_singleton] at hy
  rcases hy with hy | rfl
  · exact hl.2.2 y hy w (List.mem_singleton_self _)
  · exact le_rfl

/-- The entry that an offer puts out is a worst one. -/
theorem rank_worstPlace (h : t.sorted e.tb) {w : Word × Nat} (hw : e.tb.getLast? = some w) (j : Nat) :
    ∃ hi : e.worstPlace t w.1 j < e.tb.length, t.rank e.tb[e.worstPlace t w.1 j].1 = t.rank w.1 := by
  obtain ⟨hl, hn⟩ := sorted_iff.1 h
  have hmem := List.mem_of_getLast? hw
  have hpos : 0 < e.tb.length := List.length_pos_of_mem hmem
  have hlow := rank_getLast_le h hw
  have hcount : e.worstCount t w.1 = (e.tb.filter fun y => sameScore t w.1 y.1).length := by
    unfold Engine.worstCount
    congr 2
    funext y
    rw [sameScore, sameScore, Bool.and_comm]
  have hall : (e.tb.countP fun y => decide (t.rank w.1 ≤ t.rank y.1)) = e.tb.length :=
    List.countP_eq_length.2 fun y hy => by simpa using hlow y hy
  have hsum := length_filter_better_add_same (hn w hmem) hn
  have hsame : 0 < e.worstCount t w.1 := by
    rw [hcount]
    exact List.length_pos_of_mem (List.mem_filter.2 ⟨hmem, by rw [sameScore_eq (hn w hmem) (hn w hmem)]; simp⟩)
  have hmod := Nat.mod_lt j hsame
  have hi : e.worstPlace t w.1 j < e.tb.length := by unfold Engine.worstPlace; omega
  refine ⟨hi, le_antisymm ?_ (hlow _ (List.getElem_mem hi))⟩
  refine le_of_mem_drop (rank := fun y : Word × Nat => t.rank y.1) (n := e.worstPlace t w.1 j) hl ?_ _
    (List.mem_drop_iff_getElem.2 ⟨0, by simpa using hi, rfl⟩)
  rw [← length_filter_better (hn w hmem) hn, Engine.worstPlace, max_eq_left hsame]
  omega

end

section
variable {t : Trigger} {e : Engine} {x w : Word × Nat}

/-- An offer to a full TB puts out a worst entry, or itself where it is worse than all or shares the worst score. -/
theorem offer_full_sorted (hx : t.isNaN x.1 = false) (hs : t.sorted e.tb) (hfull : t.tbSize ≤ e.tb.length) (hw : w ∈ e.tb)
    (hworst : ∀ y ∈ e.tb, t.rank w.1 ≤ t.rank y.1) (k j : Nat) :
    (t.rank x.1 ≤ t.rank w.1 ∧ e.offer t k j x = { e with evicted := e.evicted + 1 }) ∨
    (t.rank w.1 ≤ t.rank x.1 ∧ ∃ i, ∃ hi : i < e.tb.length, t.rank e.tb[i].1 = t.rank w.1 ∧
      e.offer t k j x = { e with tb := tbInsert t k x (e.tb.eraseIdx i), evicted := e.evicted + 1 }) := by
  obtain ⟨v, hv⟩ : ∃ v, e.tb.getLast? = some v := ⟨_, List.getLast?_eq_some_getLast (List.ne_nil_of_mem hw)⟩
  have hvmem := List.mem_of_getLast? hv
  have hvw : t.rank v.1 = t.rank w.1 := le_antisymm (rank_getLast_le hs hv w hw) (hworst v hvmem)
  have hvn := hs.2 v hvmem
  rw [offer_full hx hfull hv, strictlyWorse_eq hx hvn, sameScore_eq hx hvn, hvw]
  split_ifs with hout
  · refine .inl ⟨?_, rfl⟩
    rcases hout with hlt | ⟨hsame, -⟩
    · exact (of_decide_eq_true hlt).le
    · exact (of_decide_eq_true hsame).le
  · obtain ⟨hi, hrank⟩ := rank_worstPlace hs hv j
    refine .inr ⟨not_lt.1 fun hlt => hout (.inl (decide_eq_true hlt)), _, hi, hrank.trans hvw, rfl⟩

/-- TB is best first after an offer too. -/
theorem sorted_offer (hs : t.sorted e.tb) (hpos : 0 < t.tbSize) (k j : Nat) : t.sorted (e.offer t k j x).tb := by
  cases hx : t.isNaN x.1
  · rcases Nat.lt_or_ge e.tb.length t.tbSize with hroom | hfull
    · rw [offer_room hx hroom]
      exact sorted_tbInsert hs hx k
    · obtain ⟨w, hw⟩ : ∃ w, e.tb.getLast? = some w :=
        ⟨_, List.getLast?_eq_some_getLast (List.ne_nil_of_length_pos (hpos.trans_le hfull))⟩
      rcases offer_full_sorted hx hs hfull (List.mem_of_getLast? hw) (rank_getLast_le hs hw) k j with ⟨-, h⟩ | ⟨-, i, -, -, h⟩
      · rw [h]; exact hs
      · rw [h]; exact sorted_tbInsert (sorted_sublist hs (List.eraseIdx_sublist ..)) hx k
  · rw [offer_nan hx]; exact hs

/-- An entry put in the place of another. -/
theorem tbInsert_eraseIdx_perm {i : Nat} (hi : i < e.tb.length) (k : Nat) :
    (tbInsert t k x (e.tb.eraseIdx i)).Perm (x :: e.tb.erase e.tb[i]) := by
  refine (tbInsert_perm ..).trans (List.Perm.cons _ (List.Perm.cons_inv (a := e.tb[i]) ?_))
  exact (List.getElem_cons_eraseIdx_perm hi).trans (List.perm_cons_erase (List.getElem_mem hi))

end

/-- The engine after TOPINS, by the next free value. -/
def Engine.topins (e : Engine) (t : Trigger) (a b : RegNo) (free : Nat) : Engine :=
  let counted : Engine := { e with offered := e.offered + (if t.isNaN (e.x.get a) then 0 else 1) }
  counted.offer t (Config.free free) (Config.free (free + 1)) (e.x.get a, (e.x.get b).toNat)

theorem exec_topins {s : State} {bank : Nat} {t : Trigger} {r : BankRun} {a b : RegNo} (h : s.issues bank (bankWord 0x32 0 a b 0 0) t r) :
    ∃ u, exec (.topins bank a b) s = .next u ∧ s.onlyBanks u ∧
      (u.dev.bank bank).run = some (r.next (r.engine.topins t a b s.dev.freeCtr)) :=
  ⟨_, devStep_issue h _, issues_draws h (s.dev.freeCtr + 2) (f := fun r => { r with engine := r.engine.topins t a b s.dev.freeCtr }) rfl⟩

/-- Settles O16: the engine's offer, by whether the score is a NaN, TB has room, or a worst entry competes with it. -/
theorem topInsertionKeepsTheBest : Obligations.TopInsertionKeepsTheBest := by
  intro s bank t r a b e x nan ordered h habi (hs : t.sorted e.tb) hlen
  have hsize : t.tbSize = 32 := if_neg habi
  obtain ⟨u, hu, honly, hrun⟩ := exec_topins h
  let counted : Engine := { e with offered := e.offered + if nan x.1 then 0 else 1 }
  refine ⟨u, _, hu, honly, hrun, sorted_offer (e := counted) hs (by omega) _ _, fun hx => ?_, fun hx hroom => ?_, fun hx hfull w hw hworst => ?_⟩
  · exact (offer_nan (e := counted) hx _ _).trans (by simp only [counted, hx, if_true]; rfl)
  · have he : e.topins t a b s.dev.freeCtr = _ := offer_room (e := counted) hx (hsize ▸ hroom) _ _
    rw [he]
    exact ⟨tbInsert_perm .., rfl, rfl⟩
  · have hwn := hs.2 w hw
    have hlow : ∀ y ∈ e.tb, t.rank w.1 ≤ t.rank y.1 := fun y hy => (strictlyWorse_eq_false (hs.2 y hy) hwn).1 (hworst y hy)
    rw [strictlyWorse_eq hwn hx, strictlyWorse_eq hx hwn, sameScore_eq hx hwn]
    simp only [decide_eq_true_eq]
    have hcases := offer_full_sorted (e := counted) hx hs (by rw [hsize]; exact hfull.ge) hw hlow (Config.free s.dev.freeCtr) (Config.free (s.dev.freeCtr + 1))
    change (_ ∧ e.topins t a b s.dev.freeCtr = _) ∨ (_ ∧ ∃ i, ∃ hi : i < e.tb.length, _ ∧ e.topins t a b s.dev.freeCtr = _) at hcases
    rcases hcases with ⟨hle, he⟩ | ⟨hle, i, hi, hrank, he⟩
    · rw [he]
      exact ⟨rfl, rfl, fun hlt => absurd hle hlt.not_ge, fun _ => .inl rfl, fun _ => rfl⟩
    · have hv := List.getElem_mem hi
      have hsame : sameScore t e.tb[i].1 w.1 = true := by rw [sameScore_eq (hs.2 _ hv) hwn]; exact decide_eq_true hrank
      have hperm := tbInsert_eraseIdx_perm (t := t) (x := x) hi (Config.free s.dev.freeCtr)
      rw [he]
      exact ⟨rfl, rfl, fun _ => ⟨_, hv, hsame, hperm⟩, fun _ => .inr ⟨_, hv, hsame, hperm⟩, fun hlt => absurd hle hlt.not_ge⟩

end Sys2Proof.Machine
end

section
/-! What the local top buffer's instructions keep of its counts (R185). -/

namespace Sys2Proof.Machine

/-! ### Counts -/

/-- The counts of TB balance, and TB holds no more than it has room for (R185, R207). -/
def Engine.balanced (t : Trigger) (e : Engine) : Prop :=
  e.offered + e.movedIn = e.tb.length + e.evicted + e.movedOut ∧ e.tb.length ≤ t.tbSize

theorem length_tbInsert (t : Trigger) (k : Nat) (e : Word × Nat) (l : List (Word × Nat)) : (tbInsert t k e l).length = l.length + 1 :=
  (tbInsert_perm t k e l).length_eq

/-- An offer counts a NaN, or puts one entry in and as many out as have no room. -/
theorem offer_cases (e : Engine) (t : Trigger) (k j : Nat) (x : Word × Nat) :
    (t.isNaN x.1 = true ∧ e.offer t k j x = { e with nan := e.nan + 1 }) ∨
    (t.isNaN x.1 = false ∧ ∃ tb n, e.offer t k j x = { e with tb := tb, evicted := e.evicted + n } ∧ tb.length + n = e.tb.length + 1 ∧
      (e.tb.length ≤ t.tbSize → tb.length ≤ t.tbSize)) := by
  cases hx : t.isNaN x.1
  · refine .inr ⟨rfl, ?_⟩
    rcases Nat.lt_or_ge e.tb.length t.tbSize with hroom | hfull
    · exact ⟨_, 0, offer_room hx hroom k j, length_tbInsert .., fun _ => (length_tbInsert ..).trans_le hroom⟩
    · have hpos : 0 < t.tbSize := by unfold Trigger.tbSize; split <;> omega
      obtain ⟨w, hw⟩ : ∃ w, e.tb.getLast? = some w :=
        ⟨_, List.getLast?_eq_some_getLast (List.ne_nil_of_length_pos (hpos.trans_le hfull))⟩
      rw [offer_full hx hfull hw]
      split
      · exact ⟨e.tb, 1, rfl, rfl, id⟩
      · have hplace : e.worstPlace t w.1 j < e.tb.length := by unfold Engine.worstPlace; omega
        refine ⟨_, 1, rfl, ?_, ?_⟩ <;> rw [length_tbInsert, List.length_eraseIdx_of_lt hplace] <;> omega
  · exact .inl ⟨rfl, offer_nan hx k j⟩

theorem topins_balanced {e : Engine} {t : Trigger} (h : e.balanced t) (a b : RegNo) (free : Nat) :
    (e.topins t a b free).balanced t ∧ (e.topins t a b free).offered + (e.topins t a b free).nan = e.offered + e.nan + 1 ∧
    e.topins t a b free = { e with
      tb := (e.topins t a b free).tb, offered := (e.topins t a b free).offered
      evicted := (e.topins t a b free).evicted, nan := (e.topins t a b free).nan } := by
  obtain ⟨hsum, hroom⟩ := h
  let counted : Engine := { e with offered := e.offered + if t.isNaN (e.x.get a) then 0 else 1 }
  have hcases := offer_cases counted t (Config.free free) (Config.free (free + 1)) (e.x.get a, (e.x.get b).toNat)
  change (_ ∧ e.topins t a b free = _) ∨ (_ ∧ ∃ tb n, e.topins t a b free = _ ∧ _) at hcases
  rcases hcases with ⟨hx, he⟩ | ⟨hx, tb, n, he, hlen, hsize⟩
  · rw [he]
    simp [counted, hx, Engine.balanced, hsum, hroom]
    omega
  · rw [he]
    refine ⟨⟨?_, hsize hroom⟩, ?_, rfl⟩ <;> simp [counted, hx] at hlen ⊢ <;> omega

/-! ### TOPINSV -/

/-- Entry `i` of a vector register offered to TB, unless it is empty. -/
def Engine.offerEntry (t : Trigger) (a : RegNo) (free : Nat) (e : Engine) (i : Nat) : Engine :=
  let w := elem (e.v.get a).toNat 8 i
  let x : Word × Nat := (BitVec.ofNat 32 w, w / 2 ^ 32)
  if x.2 = 0xFFFFFFFF then e
  else
    let counted : Engine := { e with movedIn := e.movedIn + (if t.isNaN x.1 then 0 else 1) }
    counted.offer t (Config.free (free + 2 * i)) (Config.free (free + (2 * i + 1))) x

/-- What `n` entries offered by TOPINSV make of an engine. -/
def Engine.tookIn (t : Trigger) (n : Nat) (x e : Engine) : Prop :=
  ∃ tb evicted nan movedIn, e = { x with tb := tb, evicted := evicted, nan := nan, movedIn := movedIn } ∧ e.balanced t ∧
    movedIn + nan = x.movedIn + x.nan + n

/-- An entry of a vector register is one, and not an empty place. -/
def entryThere (v : BitVec 512) (i : Nat) : Bool := elem v.toNat 8 i / 2 ^ 32 != 0xFFFFFFFF

theorem tookIn_offerEntry {t : Trigger} {n : Nat} {x e : Engine} (h : Engine.tookIn t n x e) (a : RegNo) (free i : Nat) :
    Engine.tookIn t (n + if entryThere (x.v.get a) i then 1 else 0) x (e.offerEntry t a free i) := by
  obtain ⟨tb, evicted, nan, movedIn, rfl, ⟨hsum, hroom⟩, hcount⟩ := h
  dsimp only at hsum hroom
  unfold Engine.offerEntry entryThere
  dsimp only
  by_cases hempty : elem (x.v.get a).toNat 8 i / 2 ^ 32 = 0xFFFFFFFF
  · rw [if_pos hempty, if_neg (by rw [bne_iff_ne, not_not]; exact hempty)]
    exact ⟨tb, evicted, nan, movedIn, rfl, ⟨hsum, hroom⟩, hcount⟩
  · rw [if_neg hempty, if_pos (bne_iff_ne.2 hempty)]
    rcases offer_cases _ t _ _ _ with ⟨hx, he⟩ | ⟨hx, tb', k, he, hlen, hsize⟩
    · rw [he]
      dsimp only at hx
      simp only [hx, if_true]
      exact ⟨tb, evicted, nan + 1, movedIn, rfl, ⟨hsum, hroom⟩, by omega⟩
    · rw [he]
      dsimp only at hx hlen hsize
      simp only [hx, Bool.false_eq_true, if_false]
      exact ⟨tb', evicted + k, nan, movedIn + 1, rfl, ⟨by dsimp only; omega, hsize hroom⟩, by omega⟩

theorem tookIn_foldl {t : Trigger} {x : Engine} (a : RegNo) (free : Nat) (l : List Nat) {n : Nat} {e : Engine} (h : Engine.tookIn t n x e) :
    Engine.tookIn t (n + (l.filter (entryThere (x.v.get a))).length) x (l.foldl (Engine.offerEntry t a free) e) := by
  induction l generalizing n e with
  | nil => exact h
  | cons i l ih =>
    have hstep := ih (tookIn_offerEntry h a free i)
    rw [List.foldl_cons]
    convert hstep using 1
    rw [List.filter_cons]
    split
    · simp only [List.length_cons]; omega
    · omega

/-! ### TOPRD -/

theorem ofElems_lt (w : Nat) (l : List Nat) : ofElems w l < 2 ^ (8 * w * l.length) := by
  induction l with
  | nil => simp [ofElems]
  | cons x l ih =>
    have hx : x % 2 ^ (8 * w) < 2 ^ (8 * w) := Nat.mod_lt _ (by positivity)
    rw [ofElems, Nat.shiftLeft_eq, List.length_cons, Nat.mul_succ, Nat.add_comm _ (8 * w), pow_add]
    calc x % 2 ^ (8 * w) + ofElems w l * 2 ^ (8 * w) < (ofElems w l + 1) * 2 ^ (8 * w) := by linarith
      _ ≤ 2 ^ (8 * w) * 2 ^ (8 * w * l.length) := by rw [mul_comm]; exact Nat.mul_le_mul_left _ ih

/-- Elements put into an array are read back, each in its width. -/
theorem elem_ofElems (w : Nat) {l : List Nat} {i : Nat} (h : i < l.length) : elem (ofElems w l) w i = l[i] % 2 ^ (8 * w) := by
  induction l generalizing i with
  | nil => cases h
  | cons x l ih =>
    have hx : x % 2 ^ (8 * w) < 2 ^ (8 * w) := Nat.mod_lt _ (by positivity)
    cases i with
    | zero => simp [elem, byteField, ofElems, Nat.shiftLeft_eq, Nat.add_mul_mod_self_right]
    | succ i =>
      have hshift : ofElems w (x :: l) >>> (8 * (w * (i + 1))) = ofElems w l >>> (8 * (w * i)) := by
        rw [show 8 * (w * (i + 1)) = 8 * w + 8 * (w * i) by ring, Nat.shiftRight_add, ofElems, Nat.shiftLeft_eq, Nat.shiftRight_eq_div_pow _ (8 * w),
          Nat.add_mul_div_right _ _ (by positivity), Nat.div_eq_of_lt hx, Nat.zero_add]
      simpa [elem, byteField, hshift] using ih (Nat.lt_of_succ_lt_succ h)

/-- Eight elements of eight bytes held in a vector register. -/
theorem elem_vector {l : List Nat} (hl : l.length = 8) {i : Nat} (hi : i < 8) :
    elem (BitVec.ofNat 512 (ofElems 8 l)).toNat 8 i = l[i] % 2 ^ 64 := by
  have hlt := ofElems_lt 8 l
  rw [hl] at hlt
  rw [BitVec.toNat_ofNat, Nat.mod_eq_of_lt hlt, elem_ofElems 8 (hl ▸ hi)]

/-- The eight entries that TOPRD reads; an empty one has a free score and ID 0xFFFFFFFF. -/
def Engine.readEntries (e : Engine) (part free : Nat) : List Nat :=
  (List.range 8).map fun i =>
    match ((e.tb.drop (8 * part)).take 8)[i]? with
    | some x => x.1.toNat + x.2 % 2 ^ 32 * 2 ^ 32
    | none => Config.free (free + i) % 2 ^ 32 + 0xFFFFFFFF * 2 ^ 32

theorem elem_readEntries (e : Engine) (part free : Nat) {i : Nat} (hi : i < 8) :
    match e.tb[8 * part + i]? with
    | some y => elem (BitVec.ofNat 512 (ofElems 8 (e.readEntries part free))).toNat 8 i = y.1.toNat + y.2 % 2 ^ 32 * 2 ^ 32
    | none => elem (BitVec.ofNat 512 (ofElems 8 (e.readEntries part free))).toNat 8 i / 2 ^ 32 = 0xFFFFFFFF := by
  have hread : ((e.tb.drop (8 * part)).take 8)[i]? = e.tb[8 * part + i]? := by
    rw [List.getElem?_take_of_lt hi, List.getElem?_drop]
  rw [elem_vector (by simp [Engine.readEntries]) hi]
  simp only [Engine.readEntries, List.getElem_map, List.getElem_range, hread]
  cases e.tb[8 * part + i]? with
  | none => dsimp only; omega
  | some y =>
    have := y.1.isLt
    dsimp only
    omega

/-- Eight entries taken out of TB are counted as moved out. -/
theorem balanced_movedOut {e : Engine} {t : Trigger} (h : e.balanced t) (part : Nat) :
    e.offered + e.movedIn = (e.tb.take (8 * part) ++ e.tb.drop (8 * part + 8)).length + e.evicted +
      (e.movedOut + ((e.tb.drop (8 * part)).take 8).length) ∧
    (e.tb.take (8 * part) ++ e.tb.drop (8 * part + 8)).length ≤ t.tbSize := by
  obtain ⟨hsum, hroom⟩ := h
  simp only [List.length_append, List.length_take, List.length_drop]
  omega

/-- The engine after TOPRD. -/
def Engine.toprd (e : Engine) (d : RegNo) (part : Nat) (move : Bool) (free : Nat) : Engine :=
  let read : Engine := { e with v := e.v.set d (BitVec.ofNat 512 (ofElems 8 (e.readEntries part free))) }
  if move then { read with
    tb := e.tb.take (8 * part) ++ e.tb.drop (8 * part + 8), movedOut := e.movedOut + ((e.tb.drop (8 * part)).take 8).length } else read

section
variable {s : State} {bank : Nat} {t : Trigger} {r : BankRun}

theorem exec_toprd {d : RegNo} {imm : BitVec 2} {move : Bool} (h : s.issues bank (bankWord 0x33 d 0 0 (mbit move 0) imm.toNat) t r) :
    ∃ u, exec (.toprd bank d imm move) s = .next u ∧ s.onlyBanks u ∧
      (u.dev.bank bank).run = some (r.next (r.engine.toprd d imm.toNat move s.dev.freeCtr)) :=
  ⟨_, devStep_issue h _, issues_draws h (s.dev.freeCtr + 8)
    (f := fun r => { r with engine := r.engine.toprd d imm.toNat move s.dev.freeCtr }) rfl⟩

theorem exec_topinsv {a : RegNo} (h : s.issues bank (bankWord 0x34 0 a 0 0 0) t r) :
    ∃ u, exec (.topinsv bank a) s = .next u ∧ s.onlyBanks u ∧
      (u.dev.bank bank).run = some (r.next ((List.range 8).foldl (Engine.offerEntry t a s.dev.freeCtr) r.engine)) :=
  ⟨_, devStep_issue h _, issues_draws h (s.dev.freeCtr + 16)
    (f := fun r => { r with engine := (List.range 8).foldl (Engine.offerEntry t a s.dev.freeCtr) r.engine }) rfl⟩

end

/-- Settles O15: what each of the three instructions makes of the engine keeps the counts' balance. -/
theorem topBufferKeepsItsCount : Obligations.TopBufferKeepsItsCount := by
  intro s bank t r x kept leaves (hkept : x.balanced t)
  refine ⟨fun a b h => ?_, fun d imm move h => ?_, fun a h => ?_⟩
  · obtain ⟨u, hu, honly, hrun⟩ := exec_topins h
    obtain ⟨hbal, hcount, heq⟩ := topins_balanced hkept a b s.dev.freeCtr
    exact ⟨u, _, hu, ⟨honly, hrun, hbal⟩, hcount, heq⟩
  · obtain ⟨u, hu, honly, hrun⟩ := exec_toprd h
    refine ⟨u, _, _, hu, ⟨honly, hrun, ?_⟩, ?_, fun i hi => elem_readEntries x imm.toNat s.dev.freeCtr hi, ?_⟩ <;> cases move
    · exact hkept
    · exact balanced_movedOut hkept imm.toNat
    all_goals rfl
  · obtain ⟨u, hu, honly, hrun⟩ := exec_topinsv h
    obtain ⟨tb, evicted, nan, movedIn, he, hbal, hcount⟩ := tookIn_foldl a s.dev.freeCtr (List.range 8) (⟨_, _, _, _, rfl, hkept, rfl⟩ : Engine.tookIn t 0 x x)
    rw [he] at hrun hbal
    rw [Nat.zero_add] at hcount
    exact ⟨u, _, hu, ⟨honly, hrun, hbal⟩, rfl, hcount⟩

end Sys2Proof.Machine
end

section
/-! The control, scalar and testing instructions of a bank engine (R172, R184), and DOT (R174, R740). -/

namespace Sys2Proof.Machine

/-! ### Control and scalar instructions -/

section
variable {s : State} {bank : Nat} {t : Trigger} {r : BankRun}

theorem exec_loop {a : RegNo} {tgt : BitVec 11} (h : s.issues bank (bankWord 0x02 0 a 0 0 tgt.toNat) t r) :
    exec (.loop bank a tgt) s = .next (s.setRun bank (if 1 < (r.engine.x.get a).toInt
      then { r with engine := { r.engine with x := r.engine.x.set a (r.engine.x.get a - 1) }, pc := tgt.toNat }
      else r.next { r.engine with x := r.engine.x.set a 0 })) := by
  refine (devStep_issueBranch h _ _ _).trans ?_
  have hmore : (1 : Word).slt (r.engine.xr a) = decide (1 < (r.engine.x.get a).toInt) := rfl
  by_cases hc : 1 < (r.engine.x.get a).toInt
  · simp only [hmore, hc, decide_true, if_true]; rfl
  · simp only [hmore, hc, decide_false, Bool.false_eq_true, if_false]; rfl

theorem exec_br {m : BitVec 2} {tgt : BitVec 11} (h : s.issues bank (bankWord 0x03 0 0 0 m.toNat tgt.toNat) t r) :
    exec (.br bank m tgt) s = .next (s.setRun bank
      { r with pc := if m = 0 ∨ (m = 1 ∧ r.engine.p = true) ∨ (m = 2 ∧ r.engine.p = false) then tgt.toNat else r.pc + 1 }) := by
  refine (devStep_issueBranch h _ _ _).trans ?_
  have htaken : (m == 0 || (m == 1 && r.engine.p) || (m == 2 && !r.engine.p)) = true ↔
      m = 0 ∨ (m = 1 ∧ r.engine.p = true) ∨ (m = 2 ∧ r.engine.p = false) := by
    simp [or_assoc]
  simp only [htaken, id]

theorem exec_addx {d a b : RegNo} {immForm : Bool} {imm : BitVec 12} (h : s.issues bank (bankWord 0x06 d a b (mbit immForm 0) imm.toNat) t r) :
    exec (.addx bank d a b immForm imm) s = .next (s.setRun bank (r.next { r.engine with
      x := r.engine.x.set d (r.engine.x.get a + if immForm then imm.signExtend 32 else r.engine.x.get b) })) :=
  devStep_issueOn h _

/-- Whether a comparison of CMPX holds. -/
def cmpxHolds (m : BitVec 2) (a b : Word) : Bool := if m = 0 then a == b else if m = 1 then a.slt b else a.sle b

theorem exec_cmpx {a b : RegNo} {m : BitVec 2} (h : s.issues bank (bankWord 0x07 0 a b m.toNat 0) t r) :
    exec (.cmpx bank a b m) s = .next (s.setRun bank (r.next { r.engine with p := cmpxHolds m (r.engine.x.get a) (r.engine.x.get b) })) :=
  devStep_issueOn h _

theorem exec_shx {d a : RegNo} {imm : BitVec 6} (h : s.issues bank (bankWord 0x09 d a 0 0 imm.toNat) t r) :
    exec (.shx bank d a imm) s = .next (s.setRun bank (r.next { r.engine with
      x := r.engine.x.set d (if imm.msb then (r.engine.x.get a).sshiftRight (-imm).toNat else r.engine.x.get a <<< imm.toNat) })) :=
  devStep_issueOn h _

end

/-- The magnitude of a negative shift is the same in six bits and among the integers. -/
theorem toNat_neg_of_msb {imm : BitVec 6} (h : imm.toInt < 0) : (-imm).toNat = (-imm.toInt).toNat := by
  have hlt := imm.isLt
  rw [BitVec.toInt_eq_toNat_cond] at h ⊢
  rw [BitVec.toNat_neg]
  split at h <;> omega

/-- Settles O11: each instruction is issued and acts on its engine's registers alone. -/
theorem scalarBankInstructions : Obligations.ScalarBankInstructions := by
  intro s bank t r e x sets
  refine ⟨fun h => devStep_issueOn h _, fun a tgt h => exec_loop h, fun m tgt h => exec_br h, fun d imm h => devStep_issueOn h _,
    fun d a b imm h => exec_addx h, fun d a b imm h => exec_addx h, fun a b h => exec_cmpx h, fun a b h => exec_cmpx h, fun a b h => exec_cmpx h,
    fun d a imm h => devStep_issueOn h _, fun d a imm h hpos => ?_, fun d a imm h hneg => ?_, fun a h => devStep_issueOn h _⟩
  · rw [exec_shx h, if_neg (by rw [BitVec.msb_eq_toInt]; simpa using hpos)]
  · rw [exec_shx h, if_pos (by rw [BitVec.msb_eq_toInt]; simpa using hneg), toNat_neg_of_msb hneg]

/-! ### DOT -/

theorem elements_part (t : Trigger) (qp : Nat) {n k : Nat} (h : k < n / 32) :
    ((t.elements qp n).drop (32 * k)).take 32 = (List.range 32).map fun i => nth t.query (qp + (32 * k + i)) := by
  refine List.ext_getElem (by simp [Trigger.elements]; omega) fun i hi hi' => ?_
  simp [Trigger.elements]

/-- DOT's accumulation is that of its columns in order. -/
theorem dot_eq (e : Engine) (t : Trigger) (square : Bool) (shift : Int) (codes : List Int) :
    e.dot t t.accFp square shift codes =
      (List.range (codes.length / 32)).foldl
        (fun e' k => e'.accumulate (if square then ssaLane t.accFp else macLane t.accFp)
          ((List.range 32).map fun i => nth t.query (e.qp + (32 * k + i)))
          ((((codes.map (dequantLane t.accFp shift)).map Prod.fst).drop (32 * k)).take 32))
        { e with
          sat := e.sat + ((codes.map (dequantLane t.accFp shift)).filter Prod.snd).length
          qp := (e.qp + codes.length) % 4096 } := by
  unfold Engine.dot
  refine List.foldl_ext _ _ _ fun e' k hk => ?_
  rw [elements_part t e.qp (List.mem_range.1 hk)]

theorem streamOn_done {c : Ctx} {d : Dev} {bank : Nat} {r : BankRun} (h : (d.bank bank).run = some r) (hleft : r.engine.streamLeft = 0)
    (first : Option Nat) : d.streamOn c bank first = d := by
  unfold Dev.streamOn
  simp [h, hleft]

theorem setRun_run (s : State) (bank : Nat) (r : BankRun) : ((s.setRun bank r).dev.bank bank).run = some r := by
  simp [State.setRun, State.withDev]

section
variable {s : State} {bank : Nat} {t : Trigger} {r : BankRun} {a b : RegNo} {half stream q8 bf16 square : Bool}

theorem accumulate_streamLeft (e : Engine) (f : Word → Nat → Nat → Word × Bool) (a b : List Nat) :
    (e.accumulate f a b).streamLeft = e.streamLeft := by
  rw [Engine.accumulate]

theorem foldl_accumulate_streamLeft (f : Word → Nat → Nat → Word × Bool) (a b : Nat → List Nat) (l : List Nat) (e : Engine) :
    (l.foldl (fun e k => e.accumulate f (a k) (b k)) e).streamLeft = e.streamLeft := by
  induction l generalizing e with
  | nil => rfl
  | cons k l ih => rw [List.foldl_cons, ih, accumulate_streamLeft]

@[simp] theorem dot_streamLeft (e : Engine) (t : Trigger) (bf16 square : Bool) (shift : Int) (codes : List Int) :
    (e.dot t bf16 square shift codes).streamLeft = e.streamLeft := by
  unfold Engine.dot
  exact foldl_accumulate_streamLeft ..

/-- The word of DOT. -/
def dotWord (a b : RegNo) (half stream q8 bf16 square : Bool) : Nat :=
  bankWord 0x23 0 a b (mbit half 0 + mbit stream 1 + mbit q8 2 + mbit bf16 3 + mbit square 4) 0

theorem exec_dot_other (h : s.issues bank (dotWord a b half stream q8 bf16 square) t r) (hacc : t.accFp ≠ bf16) (ecc : Nat) :
    exec (.dot bank a b half stream q8 bf16 square ecc) s =
      .next (s.withDev (s.dev.faultSequence s.ctx bank (r.engine.cp % 2 ^ 27) .laneType)) := by
  refine (devStep_issue h _).trans ?_
  rw [if_pos (bne_iff_ne.2 hacc)]

theorem exec_dot_register (h : s.issues bank (dotWord a b half false q8 bf16 square) t r) (hacc : t.accFp = bf16) (ecc : Nat) :
    exec (.dot bank a b half false q8 bf16 square ecc) s = .next (s.setRun bank (r.next
      (r.engine.dot t bf16 square (shiftOf (r.engine.x.get b)) (codesOf (halfOf (r.engine.v.get a) half) q8)))) := by
  refine (devStep_issue h _).trans ?_
  obtain ⟨-, hrun, -⟩ := h
  rw [if_neg (by simp [hacc]), if_pos Bool.not_false, Dev.proceedWith, modBankRun_eq hrun]
  rfl

theorem exec_dot_waits (h : s.issues bank (dotWord a b half true q8 bf16 square) t r) (hacc : t.accFp = bf16) (hempty : r.engine.stream = [])
    (ecc : Nat) : exec (.dot bank a b half true q8 bf16 square ecc) s = .next (s.withDev (s.dev.streamOn s.ctx bank (some ecc))) := by
  refine (devStep_issue h _).trans ?_
  rw [if_neg (by simp [hacc]), if_neg (by simp)]
  simp only [hempty]

theorem exec_dot_stream (h : s.issues bank (dotWord a b half true q8 bf16 square) t r) (hacc : t.accFp = bf16) {x : BitVec 256}
    {rest : List (BitVec 256)} (hs : r.engine.stream = x :: rest) (ecc : Nat) :
    let u := s.setRun bank (r.next (({ r.engine with stream := rest } : Engine).dot t bf16 square (shiftOf (r.engine.x.get b)) (codesOf x q8)))
    exec (.dot bank a b half true q8 bf16 square ecc) s = .next (u.withDev (u.dev.streamOn s.ctx bank (some ecc))) := by
  refine (devStep_issue h _).trans ?_
  obtain ⟨-, hrun, -⟩ := h
  rw [if_neg (by simp [hacc]), if_neg (by simp)]
  simp only [hs, Dev.proceedWith]
  have heq := modBankRun_eq hrun fun r' => { r' with
    engine := ({ r'.engine with stream := rest } : Engine).dot t bf16 square (shiftOf (r'.engine.xr b)) (codesOf x q8), pc := r'.pc + 1 }
  exact congrArg (fun u : State => Host.Outcome.next (u.withDev (u.dev.streamOn s.ctx bank (some ecc)))) heq

end

/-- Settles O13: the lane type decides for a fault; a register's half, a column of the stream, or a wait for one. -/
theorem dotAccumulates : Obligations.DotAccumulates := by
  intro s bank t r a b half stream q8 bf16 square ecc e f column dot h
  have hdot (e' : Engine) (hqp : e'.qp = e.qp) (hacc : t.accFp = bf16) (codes : List Int) :
      dot e' codes = e'.dot t bf16 square (shiftOf (e'.x.get b)) codes := by
    subst hacc
    simp only [dot, column, f, dot_eq, hqp]
  refine ⟨fun hacc hs => ?_, fun x rest hacc hs hstream => ?_, fun hacc hs hempty => ?_, fun hacc => exec_dot_other h hacc ecc⟩
  · subst hs
    rw [hdot e rfl hacc]
    exact exec_dot_register h hacc ecc
  · subst hs
    rw [hdot { e with stream := rest } rfl hacc]
    have hexec := exec_dot_stream h hacc hstream ecc
    refine ⟨hexec, fun hleft => hexec.trans ?_⟩
    rw [streamOn_done (setRun_run ..) (by simpa [BankRun.next] using hleft)]
    rfl
  · subst hs
    exact exec_dot_waits h hacc hempty ecc

/-! ### RED, CHK, CMPTH and TSKIP -/

/-- The exact sum of an integer accumulator's lanes. -/
def Engine.total (e : Engine) : Int := (e.acc.toList.map fun w => signed 32 w.toNat).foldl (· + ·) 0

/-- The sum of an FP32 accumulator's lanes, in the order that the next free values choose (R64). -/
def Engine.fpTotal (e : Engine) (free : Nat) : Nat := f32SumBy (fun i => Config.free (free + i)) (e.acc.toList.map BitVec.toNat)

theorem ofNat_unsigned (n : Nat) (x : Int) : BitVec.ofNat n (unsigned n x) = BitVec.ofInt n x := by
  apply BitVec.eq_of_toNat_eq
  have hlt : unsigned n x < 2 ^ n := by
    have h1 := Int.emod_lt_of_pos x (b := ((2 ^ n : Nat) : Int)) (by positivity)
    unfold unsigned
    omega
  rw [BitVec.toNat_ofNat, BitVec.toNat_ofInt, Nat.mod_eq_of_lt hlt]
  rfl

/-- The engine after RED. -/
def Engine.red (e : Engine) (fp : Bool) (d : RegNo) (clear : Bool) (free : Nat) : Engine :=
  let sum := laneSum fp (fun i => Config.free (free + i)) e.acc
  { e with
    x := e.x.set d (BitVec.ofNat 32 sum.1)
    acc := if clear then Vector.replicate 32 0 else e.acc
    sat := e.sat + if sum.2 then 1 else 0 }

theorem red_int (e : Engine) (d : RegNo) (clear : Bool) (free : Nat) : e.red false d clear free = { e with
    x := e.x.set d (BitVec.ofInt 32 (max (-2 ^ 31) (min (2 ^ 31 - 1) e.total)))
    acc := if clear then Vector.replicate 32 0 else e.acc
    sat := e.sat + if e.total < -2 ^ 31 ∨ 2 ^ 31 - 1 < e.total then 1 else 0 } := by
  have hsum : laneSum false (fun i => Config.free (free + i)) e.acc = (unsigned 32 (sat32 e.total).1, (sat32 e.total).2) := rfl
  simp only [Engine.red, hsum, ofNat_unsigned, sat32_eq, decide_eq_true_eq]

theorem red_fp (e : Engine) (d : RegNo) (clear : Bool) (free : Nat) : e.red true d clear free = { e with
    x := e.x.set d (BitVec.ofNat 32 (e.fpTotal free))
    acc := if clear then Vector.replicate 32 0 else e.acc } := rfl

/-- Whether CHK finds the sum strictly worse than a threshold. -/
def Engine.sumWorse (e : Engine) (t : Trigger) (th : Word) (free : Nat) : Bool :=
  if t.accFp then strictlyWorse t (BitVec.ofNat 32 (e.fpTotal free)) th
  else if t.lowerBetter then decide (signed 32 th.toNat < e.total) else decide (e.total < signed 32 th.toNat)

/-- The engine after CHK. -/
def Engine.chk (e : Engine) (t : Trigger) (count tb : Bool) (free : Nat) : Engine :=
  let worse := e.sumWorse t (e.threshold t tb) free
  { e with p := worse, abandoned := e.abandoned + if worse && count then 1 else 0 }

theorem sumWorse_int {t : Trigger} (h : t.accFp = false) (e : Engine) (th : Word) (free : Nat) :
    e.sumWorse t th free = if t.lowerBetter then decide (th.toInt < e.total) else decide (e.total < th.toInt) := by
  simp only [Engine.sumWorse, h, Bool.false_eq_true, if_false, signed_toNat]

theorem sumWorse_fp {t : Trigger} (h : t.accFp = true) (e : Engine) (th : Word) (free : Nat) :
    e.sumWorse t th free = strictlyWorse t (BitVec.ofNat 32 (e.fpTotal free)) th := if_pos h

section
variable {s : State} {bank : Nat} {t : Trigger} {r : BankRun}

theorem exec_red {d : RegNo} {clear : Bool} (h : s.issues bank (bankWord 0x24 d 0 0 (mbit clear 0) 0) t r) :
    ∃ u, exec (.red bank d clear) s = .next u ∧ s.onlyBanks u ∧
      (u.dev.bank bank).run = some (r.next (r.engine.red t.accFp d clear s.dev.freeCtr)) :=
  ⟨_, devStep_issue h _, issues_draws h (s.dev.freeCtr + 64) (e := r.engine.red t.accFp d clear s.dev.freeCtr) rfl⟩

theorem exec_chk {count tb : Bool} (h : s.issues bank (bankWord 0x26 0 0 0 (mbit count 0 + mbit tb 1) 0) t r) :
    ∃ u, exec (.chk bank count tb) s = .next u ∧ s.onlyBanks u ∧
      (u.dev.bank bank).run = some (r.next (r.engine.chk t count tb s.dev.freeCtr)) :=
  ⟨_, devStep_issue h _, issues_draws h (s.dev.freeCtr + 64) (e := r.engine.chk t count tb s.dev.freeCtr) rfl⟩

theorem exec_tskip {a b : RegNo} {tgt : BitVec 11} (h : s.issues bank (bankWord 0x31 0 a b 0 tgt.toNat) t r) :
    exec (.tskip bank a b tgt) s = .next (s.setRun bank
      (if (r.engine.v.get a).toNat.testBit ((r.engine.x.get b).toNat % 512)
        then { r with engine := { r.engine with tombstoned := r.engine.tombstoned + 1 }, pc := tgt.toNat } else r.next r.engine)) := by
  refine (devStep_issueBranch h _ _ _).trans ?_
  simp only [Engine.vr, Engine.xr]
  by_cases hdead : (r.engine.v.get a).toNat.testBit ((r.engine.x.get b).toNat % 512) = true
  · simp only [hdead, if_true]
  · simp only [hdead]; rfl

end

/-- Settles O14: RED and CHK by the lanes' sum, exact or in the order drawn; CMPTH and TSKIP as their words say. -/
theorem testBankInstructions : Obligations.TestBankInstructions := by
  intro s bank t r e total
  refine ⟨fun d clear h hacc => ?_, fun count tb h hacc => ?_, fun d clear h hacc => ?_, fun count tb h hacc => ?_,
    fun a count tb h => devStep_issueOn h _, fun a b tgt h => exec_tskip h⟩
  · obtain ⟨u, hu, honly, hrun⟩ := exec_red h
    rw [hacc, red_int] at hrun
    exact ⟨u, hu, honly, hrun⟩
  · obtain ⟨u, hu, honly, hrun⟩ := exec_chk h
    rw [Engine.chk, sumWorse_int hacc] at hrun
    exact ⟨u, hu, honly, hrun⟩
  · obtain ⟨u, hu, honly, hrun⟩ := exec_red h
    rw [hacc, red_fp] at hrun
    exact ⟨u, _, hu, honly, hrun⟩
  · obtain ⟨u, hu, honly, hrun⟩ := exec_chk h
    rw [Engine.chk, sumWorse_fp hacc] at hrun
    exact ⟨u, _, hu, honly, hrun⟩

end Sys2Proof.Machine
end

section
/-! The fetch port of a bank engine (R163, R172, R174, R175, R188, R192, R732). -/

namespace Sys2Proof.Machine

/-! ### The end of a step -/

/-- A run whose step is over. -/
def BankRun.closed (r : BankRun) : BankRun := if r.inStep then { r with inStep := false, row := none, columns := 0 } else r

@[simp] theorem closed_engine (r : BankRun) : r.closed.engine = r.engine := by unfold BankRun.closed; split <;> rfl

@[simp] theorem closed_pc (r : BankRun) : r.closed.pc = r.pc := by unfold BankRun.closed; split <;> rfl

@[simp] theorem bank_modBankRun_self (d : Dev) (n : Nat) (f : BankRun → BankRun) :
    (d.modBankRun n f).bank n = { d.bank n with run := (d.bank n).run.map f } := bank_modBank_self ..

theorem Bank.setRun_self {b : Bank} {o : Option BankRun} (h : b.run = o) : { b with run := o } = b := by
  subst h; rfl

theorem closeStep_idle {d : Dev} {bank : Nat} (h : ∀ r, (d.bank bank).run = some r → r.inStep = false) (c : Ctx) : d.closeStep c bank = d := by
  unfold Dev.closeStep
  split
  · rfl
  · rw [if_pos (by simp [h _ ‹_›])]

/-- A step closed: the run's step is over, and the units it did not use go back. -/
theorem closeStep_open {d : Dev} {bank : Nat} {r : BankRun} (h : (d.bank bank).run = some r) (hin : r.inStep = true) (c : Ctx) :
    ∃ b, d.closeStep c bank = (d.setBanks { d.banks with units := b }).modBankRun bank fun r => { r with inStep := false, row := none, columns := 0 } := by
  unfold Dev.closeStep
  simp only [h, hin, Bool.not_true, Bool.false_eq_true, if_false]
  split <;> exact ⟨_, rfl⟩

@[simp] theorem bank_closeStep (c : Ctx) (d : Dev) (bank : Nat) :
    (d.closeStep c bank).bank bank = { d.bank bank with run := (d.bank bank).run.map BankRun.closed } := by
  by_cases hopen : ∃ r, (d.bank bank).run = some r ∧ r.inStep = true
  · obtain ⟨r, hr, hin⟩ := hopen
    obtain ⟨b, hb⟩ := closeStep_open hr hin c
    have hbank : (d.setBanks { d.banks with units := b }).bank bank = d.bank bank := rfl
    rw [hb, bank_modBankRun_self, hbank]
    simp [hr, BankRun.closed, hin]
  · have hidle : ∀ r, (d.bank bank).run = some r → r.inStep = false := fun r hr => by simpa using fun hin => hopen ⟨r, hr, hin⟩
    rw [closeStep_idle hidle, eq_comm]
    refine Bank.setRun_self ?_
    cases hr : (d.bank bank).run with
    | none => rfl
    | some r => simp [BankRun.closed, hidle r hr]

theorem closeStep_keeps {d e : Dev} (h : d.keepsButBanks e) (c : Ctx) (bank : Nat) : d.keepsButBanks (e.closeStep c bank) := by
  by_cases hopen : ∃ r, (e.bank bank).run = some r ∧ r.inStep = true
  · obtain ⟨r, hr, hin⟩ := hopen
    obtain ⟨b, hb⟩ := closeStep_open hr hin c
    rw [hb]
    exact Dev.keepsButBanks_setBanks (Dev.keepsButBanks_setBanks h _) _
  · rwa [closeStep_idle fun r hr => by simpa using fun hin => hopen ⟨r, hr, hin⟩]

theorem afterColumns_cases (c : Ctx) (d : Dev) (bank : Nat) : d.afterColumns c bank = d ∨ d.afterColumns c bank = d.closeStep c bank := by
  unfold Dev.afterColumns
  split
  · split
    · exact .inr rfl
    · exact .inl rfl
  · exact .inl rfl

/-- The engine and the program counter of the run on a bank. -/
def Dev.stands (d : Dev) (bank : Nat) : Option (Engine × Nat) := (d.bank bank).run.map fun r => (r.engine, r.pc)

theorem stands_of_run {d : Dev} {bank : Nat} {r : BankRun} (h : (d.bank bank).run = some r) : d.stands bank = some (r.engine, r.pc) := by
  simp [Dev.stands, h]

/-- The end of the step after an instruction changes neither the engine nor where it stands. -/
theorem afterColumns_leaves {d e : Dev} {bank : Nat} {p : Option (Engine × Nat)} (h : d.keepsButBanks e ∧ e.stands bank = p) (c : Ctx) :
    d.keepsButBanks (e.afterColumns c bank) ∧ (e.afterColumns c bank).stands bank = p := by
  obtain ⟨hkeeps, hstands⟩ := h
  rcases afterColumns_cases c e bank with he | he <;> rw [he]
  · exact ⟨hkeeps, hstands⟩
  · exact ⟨closeStep_keeps hkeeps c bank, by simpa [Dev.stands, Function.comp_def] using hstands⟩

/-! ### A column -/

/-- The bytes of a row that an access of a run reads (R192). -/
def Dev.rowBytes (d : Dev) (bank a : Nat) (r : BankRun) : Nat :=
  match r.row with
  | some (_, x) => x
  | none => (tabGet (a / 1024) (d.bank bank).shadow).getD (memNum d.mem (bankKey bank (a / 1024 * 1024)) 1024)

/-- A column of the open row, or the first of a step, inside the window: its bytes, and the banks alone change. -/
theorem column_reads {d : Dev} {bank a ecc : Nat} {t : Trigger} {r : BankRun} (hrun : (d.bank bank).run = some r) (ht : d.trigger? r.trigger = some t)
    (hlo : t.winLo ≤ a) (hhi : a + 32 ≤ t.winHi) (hecc : ecc ≠ 2) (hcol : r.columns < 32) (hrow : r.row = none ∨ ∃ x, r.row = some (a / 1024, x))
    (c : Ctx) : ∃ e, d.column c bank a ecc = (.data (BitVec.ofNat 256 (byteField (d.rowBytes bank a r) (a % 1024) 32)), e) ∧ d.keepsButBanks e ∧
      (e.bank bank).run = some { r with row := some (a / 1024, d.rowBytes bank a r), columns := r.columns + 1 } := by
  have hin : ¬(a < t.winLo ∨ t.winHi < a + 32) := by omega
  let read := d.modBankRun bank fun r' => { r' with row := some (a / 1024, d.rowBytes bank a r), columns := r'.columns + 1 }
  have hcolumn : d.column c bank a ecc = (.data (BitVec.ofNat 256 (byteField (d.rowBytes bank a r) (a % 1024) 32)),
      if ecc = 1 then read.modBank bank fun b => { b with corrected := satAdd 32 b.corrected 1 } else read) := by
    unfold Dev.column
    simp only [hrun, ht, if_neg hin, if_neg hecc, Nat.not_le.2 hcol, decide_false, Bool.or_false]
    rcases hrow with hr | ⟨x, hr⟩ <;> simp only [hr, bne_self_eq_false, Bool.false_eq_true, if_false, read, Dev.rowBytes] <;> rfl
  have hkeeps : d.keepsButBanks read := Dev.keepsButBanks_setBanks d.keepsButBanks_refl _
  have hnew : (read.bank bank).run = some { r with row := some (a / 1024, d.rowBytes bank a r), columns := r.columns + 1 } := by simp [read, hrun]
  refine ⟨_, hcolumn, ?_, ?_⟩ <;> split
  · exact Dev.keepsButBanks_setBanks hkeeps _
  · exact hkeeps
  · rw [bank_modBank_self]; exact hnew
  · exact hnew

/-! ### The instructions of the fetch port -/

section
variable {s : State} {bank word : Nat} {t : Trigger} {r : BankRun}

/-- The state after an instruction: the banks alone differ, and the run stands at the next word with another engine. -/
def State.leavesAt (s : State) (bank pc : Nat) (u : State) (e : Engine) : Prop :=
  s.onlyBanks u ∧ u.dev.stands bank = some (e, pc)

theorem devStep_issueAfterStream (h : s.issues bank word t r) (hleft : r.engine.streamLeft = 0) (f : Ctx → Dev → BankRun → Dev) :
    devStep (issueAfterStream bank word f) s = .next (s.withDev ((f s.ctx s.dev r).afterColumns s.ctx bank)) := by
  rw [issueAfterStream, devStep_issue h, if_pos (by simp [hleft])]

/-- An earlier stream is read first (R174). -/
theorem devStep_issueAfterStream_busy (h : s.issues bank word t r) (hleft : r.engine.streamLeft ≠ 0) (f : Ctx → Dev → BankRun → Dev) :
    devStep (issueAfterStream bank word f) s = .next (s.withDev (s.dev.streamOn s.ctx bank none)) := by
  rw [issueAfterStream, devStep_issue h, if_neg (by simp [hleft])]

theorem exec_fetch {d : RegNo} {half inc : Bool} {ecc : Nat} {x : BitVec 256} {e : Dev}
    (h : s.issues bank (bankWord 0x11 d 0 0 (mbit half 0 + mbit inc 1) 0) t r) (hleft : r.engine.streamLeft = 0)
    (hcolumn : s.dev.column s.ctx bank r.engine.cp ecc = (.data x, e)) :
    exec (.fetch bank d half inc ecc) s = .next (s.withDev ((e.proceedWith bank fun r => { r with engine := { r.engine with
      v := r.engine.v.set d (setHalf (r.engine.v.get d) half x)
      cp := if inc then (r.engine.cp + 32) % 2 ^ 27 else r.engine.cp } }).afterColumns s.ctx bank)) := by
  refine (devStep_issueAfterStream h hleft _).trans ?_
  rw [hcolumn]
  rfl

theorem exec_fetchx {d a : RegNo} {imm : BitVec 3} {ecc : Nat} {x : BitVec 256} {e : Dev} (h : s.issues bank (bankWord 0x12 d a 0 0 imm.toNat) t r)
    (hcolumn : s.dev.column s.ctx bank ((r.engine.xr a).toNat / 32 * 32) ecc = (.data x, e)) :
    exec (.fetchx bank d a imm ecc) s = .next (s.withDev ((e.proceedWith bank fun r => { r with engine := { r.engine with
      x := r.engine.x.set d (x.extractLsb' (32 * imm.toNat) 32) } }).afterColumns s.ctx bank)) := by
  refine (devStep_issue h _).trans ?_
  rw [hcolumn]
  rfl

theorem leavesAt_withDev {d : Dev} {p : Engine × Nat} (h : s.dev.keepsButBanks d ∧ d.stands bank = some p) :
    s.leavesAt bank p.2 (s.withDev d) p.1 :=
  ⟨onlyBanks_withDev h.1, h.2⟩

theorem setRun_keeps (s : State) (bank : Nat) (r : BankRun) : s.dev.keepsButBanks (s.setRun bank r).dev :=
  Dev.keepsButBanks_setBanks s.dev.keepsButBanks_refl _

theorem Engine.setStreamLeft_self {e : Engine} {n : Nat} (h : e.streamLeft = n) : { e with streamLeft := n } = e := by
  subst h; rfl

/-- An instruction goes on after a column has been read. -/
theorem proceedWith_leaves {d e : Dev} {r : BankRun} {f : BankRun → BankRun} (hkeeps : d.keepsButBanks e) (hrun : (e.bank bank).run = some r) :
    d.keepsButBanks (e.proceedWith bank f) ∧ (e.proceedWith bank f).stands bank = some ((f r).engine, r.pc + 1) :=
  ⟨Dev.keepsButBanks_setBanks hkeeps _, by simp [Dev.stands, Dev.proceedWith, hrun]⟩

end

/-- Settles O17: a column read where the window and the row let it, a stream taken on or skipped, an earlier stream read first. -/
theorem fetchPortInstructions : Obligations.FetchPortInstructions := by
  intro s bank t r e reads leaves streams
  have hstreams {word : Nat} (h : s.issues bank word t r) (e' : Engine) (f : BankRun → BankRun) (hf : f r = r.next e') (first : Option Nat) :
      (s.dev.modBankRun bank f).streamOn s.ctx bank first = streams e' first := by
    obtain ⟨-, hrun, -⟩ := h
    have heq := modBankRun_eq hrun f
    rw [hf] at heq
    exact congrArg (fun u : State => u.dev.streamOn s.ctx bank first) heq
  have hdone {e' : Engine} (hleft : e'.streamLeft = 0) (first : Option Nat) : streams e' first = (s.setRun bank (r.next e')).dev :=
    streamOn_done (setRun_run ..) hleft first
  have hset (e' : Engine) : s.dev.keepsButBanks (s.setRun bank (r.next e')).dev ∧ (s.setRun bank (r.next e')).dev.stands bank = some (e', r.pc + 1) :=
    ⟨setRun_keeps .., stands_of_run (setRun_run ..)⟩
  refine ⟨fun a h hleft => ?_, fun d half inc ecc col h hleft hreads => ?_, fun d a imm ecc col h hreads => ?_, fun a ecc h hleft => ?_, fun a h => ?_,
    fun hleft => ⟨fun a h => devStep_issueAfterStream_busy h hleft _, fun d half inc ecc h => devStep_issueAfterStream_busy h hleft _,
      fun a ecc h => devStep_issueAfterStream_busy h hleft _⟩⟩
  · obtain ⟨-, hrun, -⟩ := id h
    exact ⟨_, devStep_issueAfterStream h hleft _, leavesAt_withDev (afterColumns_leaves (proceedWith_leaves s.dev.keepsButBanks_refl hrun) s.ctx)⟩
  · obtain ⟨-, hrun, ht, -⟩ := id h
    obtain ⟨hlo, hhi, hecc, hcol, hrow, rfl⟩ := hreads
    obtain ⟨dev, hdev, hkeeps, hnew⟩ := column_reads hrun ht hlo hhi hecc hcol hrow s.ctx
    exact ⟨_, exec_fetch h hleft hdev, leavesAt_withDev (afterColumns_leaves (proceedWith_leaves hkeeps hnew) s.ctx)⟩
  · obtain ⟨-, hrun, ht, -⟩ := id h
    obtain ⟨hlo, hhi, hecc, hcol, hrow, rfl⟩ := hreads
    obtain ⟨dev, hdev, hkeeps, hnew⟩ := column_reads hrun ht hlo hhi hecc hcol hrow s.ctx
    exact ⟨_, exec_fetchx h hdev, leavesAt_withDev (afterColumns_leaves (proceedWith_leaves hkeeps hnew) s.ctx)⟩
  · have hexec := devStep_issueAfterStream h hleft fun c d _ =>
      (d.proceedWith bank fun r => { r with engine := { r.engine with streamLeft := (r.engine.xr a).toNat } }).streamOn c bank (some ecc)
    rw [Dev.proceedWith, hstreams h { e with streamLeft := (e.x.get a).toNat } _ rfl] at hexec
    refine ⟨hexec, fun ha => ⟨_, hexec, ?_⟩⟩
    have hzero : (e.x.get a).toNat = 0 := by rw [ha]; rfl
    rw [hzero, Engine.setStreamLeft_self hleft, hdone hleft]
    exact leavesAt_withDev (afterColumns_leaves (hset e) s.ctx)
  · intro n e'
    have hexec := devStep_issue h fun c d _ _ =>
      (d.proceedWith bank fun r => { r with engine := r.engine.skip (r.engine.xr a).toNat }).streamOn c bank none
    rw [Dev.proceedWith, hstreams h e' _ rfl] at hexec
    refine ⟨hexec, fun hleft => ⟨_, hexec, ?_⟩⟩
    rw [hdone (Nat.sub_eq_zero_of_le hleft.le)]
    exact leavesAt_withDev (hset e')

end Sys2Proof.Machine
end

section
/-! Records, the end of a sequence, BAR and exchange (R186, R187, R190, R193, R199–R201, R209). -/

namespace Sys2Proof.Machine

/-! ### A bank changed, and banks changed in turn -/

theorem modBank_congr {d : Dev} {n : Nat} {f g : Bank → Bank} (h : f (d.bank n) = g (d.bank n)) : d.modBank n f = d.modBank n g := by
  simp only [Dev.modBank, tabMod]
  exact congrArg (fun b => d.setBanks { d.banks with banks := tabSet n b d.banks.banks }) h

theorem bank_foldl_modBank {f : Nat → Bank → Bank} (hf : ∀ n b, f n (f n b) = f n b) (l : List Nat) (d : Dev) (n : Nat) :
    (l.foldl (fun d m => d.modBank m (f m)) d).bank n = if n ∈ l then f n (d.bank n) else d.bank n := by
  induction l generalizing d with
  | nil => rfl
  | cons m l ih =>
    rw [List.foldl_cons, ih]
    rcases eq_or_ne n m with rfl | hnm
    · simp [hf]
    · simp [bank_modBank_other hnm, hnm]

theorem foldl_modBank_keeps {d e : Dev} (h : d.keepsButBanks e) (f : Nat → Bank → Bank) (l : List Nat) :
    d.keepsButBanks (l.foldl (fun d m => d.modBank m (f m)) e) :=
  Dev.keepsButBanks_foldl (fun _ _ h => Dev.keepsButBanks_setBanks h _) l h

theorem foldl_modBank_triggers (f : Nat → Bank → Bank) (l : List Nat) (d : Dev) :
    (l.foldl (fun d m => d.modBank m (f m)) d).banks.triggers = d.banks.triggers := by
  induction l generalizing d with
  | nil => rfl
  | cons m l ih => exact ih _

/-! ### EMIT -/

/-- An engine whose entries and counts have been sent. -/
def Engine.sent (e : Engine) (t : Trigger) : Engine := { e with
  tb := [], offered := 0, abandoned := 0, tombstoned := 0, evicted := 0, nan := 0, movedIn := 0, movedOut := 0
  sat := e.sat + ((e.tb.map fun x => scoreOf t x.1).filter (·.2)).length }

theorem sent_hasRecord (e : Engine) (t : Trigger) : (e.sent t).hasRecord = false := rfl

/-- EMIT, and END, send one record into the buffer of the bank's channel. -/
theorem sendRecord_eq (d : Dev) (bank : Nat) (t : Trigger) (e : Engine) : ∃ record,
    d.sendRecord bank t e = (d.pushRecord bank record).modBankRun bank fun r => { r with engine := e.sent t } := ⟨_, rfl⟩

section
variable {s : State} {bank : Nat} {t : Trigger} {r : BankRun}

theorem exec_engineEmit_sends (h : s.issues bank (bankWord 0x38 0 0 0 0 0) t r) (hc : r.cancelled = false) (hroom : s.dev.resultFull bank = false) :
    exec (.engineEmit bank) s = .next (s.withDev ((s.dev.sendRecord bank t r.engine).proceedWith bank id)) := by
  refine (devStep_issue h _).trans ?_
  simp only [hc, hroom, Bool.false_eq_true, if_false]

theorem emitted_leaves (h : (s.dev.bank bank).run = some r) :
    let u := s.withDev ((s.dev.sendRecord bank t r.engine).proceedWith bank id)
    s.onlyBanks u ∧ (u.dev.bank bank).run = some (r.next (r.engine.sent t)) ∧
    (tabGetD (resultKey bank) [] u.dev.banks.results).length = (tabGetD (resultKey bank) [] s.dev.banks.results).length + 1 := by
  obtain ⟨record, hsent⟩ := sendRecord_eq s.dev bank t r.engine
  rw [hsent]
  have hbank : (s.dev.pushRecord bank record).bank bank = s.dev.bank bank := rfl
  have hresults : ((s.dev.pushRecord bank record).modBankRun bank fun r' => { r' with engine := r.engine.sent t }).banks.results =
      tabMod (resultKey bank) [] (· ++ [record]) s.dev.banks.results := rfl
  refine ⟨onlyBanks_withDev ?_, ?_, ?_⟩
  · iterate 3 apply Dev.keepsButBanks_setBanks
    exact s.dev.keepsButBanks_refl
  · simp [State.withDev, Dev.proceedWith, hbank, h, BankRun.next]
  · change (tabGetD (resultKey bank) [] (tabMod (resultKey bank) [] (· ++ [record]) s.dev.banks.results)).length = _
    simp

/-! ### END -/

theorem exec_bankEnd_ends (h : s.issues bank (bankWord 0x01 0 0 0 0 0) t r) (hnone : r.cancelled = true ∨ r.engine.hasRecord = false) :
    exec (.bankEnd bank) s = .next (s.withDev (s.dev.endSequence s.ctx bank)) := by
  refine (devStep_issue h _).trans ?_
  rw [if_pos (by simpa using hnone)]

theorem exec_bankEnd_sends (h : s.issues bank (bankWord 0x01 0 0 0 0 0) t r) (hc : r.cancelled = false) (hrec : r.engine.hasRecord = true)
    (hroom : s.dev.resultFull bank = false) :
    exec (.bankEnd bank) s = .next (s.withDev ((s.dev.sendRecord bank t r.engine).endSequence s.ctx bank)) := by
  refine (devStep_issue h _).trans ?_
  simp only [hc, hrec, hroom, Bool.not_true, Bool.or_self, Bool.false_eq_true, if_false]

end

/-- A bank at which no access waits, once its boundary has been served: its refreshes are issued, and what it let through is let through. -/
def Bank.rested (b : Bank) : Bank :=
  let lets := b.state != .pimExclusive || b.expired
  { b with
    refreshes := 0
    shadow := if lets then [] else b.shadow
    expired := if lets then false else b.expired
    suspensions := match b.run with
      | some r => if r.counted || !(b.refreshes != 0) then b.suspensions else satAdd 64 b.suspensions 1
      | none => b.suspensions
    run := b.run.map fun r => { r with counted := r.counted || b.refreshes != 0 } }

@[simp] theorem bank_restamp (c : Ctx) (d : Dev) (n m : Nat) : (d.restamp c n).bank m = d.bank m := by
  unfold Dev.restamp
  dsimp only
  split <;> rfl

/-- A boundary at which no access waits. -/
theorem serveBank_rests {d : Dev} {bank : Nat} (ha : (d.bank bank).accesses = []) (hq : (d.bank bank).quiet = []) (c : Ctx) :
    d.serveBank c bank =
      (if (d.bank bank).state != .pimExclusive || (d.bank bank).expired then d.restamp c bank else d).modBank bank Bank.rested := by
  have hpre : d.preempted c bank = false := by simp [Dev.preempted, ha, hq]
  unfold Dev.serveBank
  simp only [hpre, Bool.and_false, Bool.or_false, ha, hq, ite_self, List.foldl_nil, List.isEmpty_nil, Bool.not_true, if_true]
  refine modBank_congr ?_
  have hbank : (if (d.bank bank).state != .pimExclusive || (d.bank bank).expired then d.restamp c bank else d).bank bank = d.bank bank := by
    split <;> simp
  rw [hbank]
  clear hbank hpre
  generalize d.bank bank = b at ha hq ⊢
  obtain ⟨_, run⟩ := b
  subst ha hq
  cases run <;> simp [Bank.rested]

@[simp] theorem restamp_banks (c : Ctx) (d : Dev) (n : Nat) : (d.restamp c n).banks = d.banks := by
  unfold Dev.restamp
  dsimp only
  split <;> rfl

theorem closeStep_triggers (c : Ctx) (d : Dev) (bank : Nat) : (d.closeStep c bank).banks.triggers = d.banks.triggers := by
  unfold Dev.closeStep
  split
  · rfl
  · split
    · rfl
    · dsimp only
      split <;> rfl

/-- A bank with nothing to come back and no access waiting is left to ordinary accesses. -/
theorem vacate_leaves {d : Dev} {bank : Nat} (hs : (d.bank bank).saved = none) (ha : (d.bank bank).accesses = []) (hq : (d.bank bank).quiet = [])
    (c : Ctx) : ((d.vacate c bank).bank bank).run = none ∧ ((d.vacate c bank).bank bank).state = .mem ∧
      (d.vacate c bank).banks.triggers = d.banks.triggers := by
  unfold Dev.vacate
  simp only [bank_closeStep, hs]
  rw [serveBank_rests (by simp [ha]) (by simp [hq])]
  refine ⟨?_, ?_, ?_⟩
  · rw [bank_modBank_self]
    split <;> simp [Bank.rested]
  · rw [bank_modBank_self]
    split <;> simp [Bank.rested]
  · split <;> simp [Dev.modBank, closeStep_triggers]

theorem trigger?_order {d : Dev} {k : Nat} {t : Trigger} (h : d.trigger? k = some t) : t.order = k := by
  simpa using List.find?_some h

theorem trigger?_congr {d e : Dev} (h : d.banks.triggers = e.banks.triggers) (k : Nat) : d.trigger? k = e.trigger? k := by
  simp only [Dev.trigger?, h]

/-- A changed trigger is found by its number. -/
theorem trigger?_modTrigger {d : Dev} {k : Nat} {t : Trigger} (h : d.trigger? k = some t) {f : Trigger → Trigger} (hf : ∀ t, (f t).order = t.order) :
    (d.modTrigger k f).trigger? k = some (f t) := by
  have hk := trigger?_order h
  simp only [Dev.trigger?, Dev.modTrigger, Dev.setBanks_banks, List.find?_map] at h ⊢
  have hsame : ((fun t : Trigger => t.order == k) ∘ fun t => if t.order = k then f t else t) = fun t => t.order == k := by
    funext t
    by_cases ht : t.order = k <;> simp [ht, hf]
  rw [hsame, h]
  simp [hk]

theorem holdSlots_banks (d : Dev) (keys : List Nat) :
    (d.holdSlots keys).banks.banks = d.banks.banks ∧ (d.holdSlots keys).banks.triggers = d.banks.triggers := by
  unfold Dev.holdSlots
  induction keys generalizing d with
  | nil => exact ⟨rfl, rfl⟩
  | cons key keys ih =>
    rw [List.foldl_cons]
    split
    · split
      · exact ih d
      · exact ih _
    · exact ih d

/-- A trigger with sequences left stays, and its release touches no bank. -/
theorem releaseTrigger_stays {d : Dev} {k : Nat} {t : Trigger} (h : d.trigger? k = some t) (hleft : t.left ≠ []) :
    (d.releaseTrigger k).banks.banks = d.banks.banks ∧ (d.releaseTrigger k).banks.triggers = d.banks.triggers := by
  unfold Dev.releaseTrigger
  rw [h]
  dsimp only
  rw [if_neg (by simpa using hleft)]
  exact holdSlots_banks ..

/-- A trigger stays that other banks still run. -/
theorem leaveBank_stays {d : Dev} {k bank : Nat} {t : Trigger} (h : d.trigger? k = some t) (hleft : ∃ m ∈ t.left, m ≠ bank % 768) :
    (d.leaveBank k bank).banks.banks = d.banks.banks ∧ ((d.leaveBank k bank).trigger? k).isSome = true := by
  obtain ⟨m, hm, hne⟩ := hleft
  have hmod := trigger?_modTrigger (f := fun t => { t with left := t.left.filter fun n => n != bank % 768 }) h fun _ => rfl
  obtain ⟨hbanks, htriggers⟩ := releaseTrigger_stays hmod (List.ne_nil_of_mem (List.mem_filter.2 ⟨hm, by simpa using hne⟩))
  refine ⟨hbanks, ?_⟩
  rw [Dev.leaveBank, trigger?_congr htriggers, hmod]
  rfl

/-! ### BAR -/

/-- A run that goes on past its BAR. -/
def BankRun.passBar (trigger : Nat) (r : BankRun) : BankRun :=
  if r.trigger = trigger ∧ r.inBar then { r with inBar := false, pc := r.pc + 1 } else r

/-- A bank whose sequences go on past their BAR. -/
def Bank.passBar (trigger : Nat) (b : Bank) : Bank := { b with run := b.run.map (BankRun.passBar trigger), saved := b.saved.map (BankRun.passBar trigger) }

theorem passBar_passBar (trigger : Nat) (b : Bank) : (b.passBar trigger).passBar trigger = b.passBar trigger := by
  have hr (r : BankRun) : (r.passBar trigger).passBar trigger = r.passBar trigger := by
    unfold BankRun.passBar
    split <;> simp_all
  simp [Bank.passBar, Function.comp_def, hr]

theorem tryBar_eq {d : Dev} {k bank : Nat} {t : Trigger} (h : d.trigger? k = some t) :
    d.tryBar k bank = if (d.groupBanks bank).all (d.barReached t) then
      (d.groupBanks bank).foldl (fun d m => d.modBank m (Bank.passBar k)) d else d := by
  unfold Dev.tryBar
  rw [h]
  rfl

theorem bank_tryBar (d : Dev) (k bank n : Nat) : (d.tryBar k bank).bank n = d.bank n ∨ (d.tryBar k bank).bank n = (d.bank n).passBar k := by
  cases h : d.trigger? k with
  | none => unfold Dev.tryBar; rw [h]; exact .inl rfl
  | some t =>
    rw [tryBar_eq h]
    split
    · rw [bank_foldl_modBank fun _ => passBar_passBar k]
      split
      · exact .inr rfl
      · exact .inl rfl
    · exact .inl rfl

theorem tryBar_triggers (d : Dev) (k bank : Nat) : (d.tryBar k bank).banks.triggers = d.banks.triggers := by
  cases h : d.trigger? k with
  | none => unfold Dev.tryBar; rw [h]
  | some t =>
    rw [tryBar_eq h]
    split
    · exact foldl_modBank_triggers ..
    · rfl

/-- A sequence ends on a bank where nothing waits, while other banks still run its trigger: the bank is left to ordinary accesses. -/
theorem endSequence_leaves {d : Dev} {bank : Nat} {r : BankRun} {t : Trigger} (hr : (d.bank bank).run = some r) (ht : d.trigger? r.trigger = some t)
    (hleft : ∃ m ∈ t.left, m ≠ bank % 768) (hs : (d.bank bank).saved = none) (ha : (d.bank bank).accesses = []) (hq : (d.bank bank).quiet = [])
    (c : Ctx) : ((d.endSequence c bank).bank bank).run = none ∧ ((d.endSequence c bank).bank bank).state = .mem := by
  obtain ⟨hrun, hstate, htriggers⟩ := vacate_leaves hs ha hq c
  have ht' := (trigger?_congr htriggers r.trigger).trans ht
  have hcount : ((d.vacate c bank).countRun r).banks = (d.vacate c bank).banks := by
    unfold Dev.countRun
    split <;> rfl
  have hk := trigger?_order ht
  rw [← hk] at ht'
  obtain ⟨hbanks, hsome⟩ := leaveBank_stays (d := (d.vacate c bank).countRun r) ((trigger?_congr (by rw [hcount]) _).trans ht') hleft
  have hthere : ¬((((((d.vacate c bank).countRun r).leaveBank t.order bank).tryBar t.order bank)).trigger? t.order).isNone = true := by
    rw [trigger?_congr (tryBar_triggers ..), Option.isNone_iff_eq_none]
    exact Option.isSome_iff_ne_none.1 hsome
  have hsame : (((d.vacate c bank).countRun r).leaveBank t.order bank).bank bank = (d.vacate c bank).bank bank := by
    simp only [Dev.bank, hbanks, hcount]
  unfold Dev.endSequence
  simp only [hr]
  rw [hk] at ht'
  rw [ht']
  dsimp only
  rw [if_neg hthere]
  rcases bank_tryBar (((d.vacate c bank).countRun r).leaveBank t.order bank) t.order bank bank with he | he <;> rw [he, hsame]
  · exact ⟨hrun, hstate⟩
  · exact ⟨by simp [Bank.passBar, hrun], hstate⟩

theorem barReached_other {d : Dev} {n m : Nat} (h : m ≠ n) (f : Bank → Bank) (t : Trigger) : (d.modBank n f).barReached t m = d.barReached t m := by
  simp only [Dev.barReached, bank_modBank_other h]

theorem barReached_self {d : Dev} {bank : Nat} {t : Trigger} {r : BankRun} (h : (d.bank bank).run = some r) (ht : r.trigger = t.order)
    (hbar : r.inBar = true) : d.barReached t bank = true := by
  simp [Dev.barReached, h, ht, hbar]

section
variable {s : State} {bank : Nat} {t : Trigger} {r : BankRun}

/-- The device once a run has reached its BAR. -/
def Dev.reachBar (d : Dev) (bank : Nat) : Dev := d.modBankRun bank fun r => { r with inBar := true }

theorem exec_bar (h : s.issues bank (bankWord 0x04 0 0 0 0 0) t r) (hbar : r.inBar = false) {r' : BankRun}
    (hr : (((s.dev.reachBar bank).tryBar t.order bank).bank bank).run = some r') :
    exec (.bar bank) s = .next (s.withDev
      (if r'.inBar then ((s.dev.reachBar bank).tryBar t.order bank).closeStep s.ctx bank else (s.dev.reachBar bank).tryBar t.order bank)) := by
  refine (devStep_issue h _).trans ?_
  unfold Dev.reachBar at hr ⊢
  simp only [hbar, Bool.false_eq_true, if_false, hr]

/-- The last member of a group to reach a BAR goes on. -/
theorem exec_bar_passes (h : s.issues bank (bankWord 0x04 0 0 0 0 0) t r) (hbar : r.inBar = false) (hmem : bank ∈ s.dev.groupBanks bank)
    (hall : ∀ m ∈ s.dev.groupBanks bank, m ≠ bank → s.dev.barReached t m = true) :
    ∃ u, exec (.bar bank) s = .next u ∧ s.onlyBanks u ∧ (u.dev.bank bank).run = some (r.next r.engine) := by
  obtain ⟨-, hrun, ht, -⟩ := id h
  have hk := trigger?_order ht
  have hreached : ((s.dev.reachBar bank).groupBanks bank).all ((s.dev.reachBar bank).barReached t) = true := by
    refine List.all_eq_true.2 fun m hm => ?_
    rcases eq_or_ne m bank with rfl | hne
    · exact barReached_self (r := { r with inBar := true }) (by simp [Dev.reachBar, hrun]) hk.symm rfl
    · exact (barReached_other hne ..).trans (hall m hm hne)
  have hpass : (s.dev.reachBar bank).tryBar t.order bank =
      (s.dev.groupBanks bank).foldl (fun d m => d.modBank m (Bank.passBar t.order)) (s.dev.reachBar bank) := by
    rw [tryBar_eq (t := t) (hk.symm ▸ ht), if_pos hreached]
    rfl
  have hnew : (((s.dev.reachBar bank).tryBar t.order bank).bank bank).run = some (r.next r.engine) := by
    rw [hpass, bank_foldl_modBank fun _ => passBar_passBar t.order, if_pos hmem]
    simp [Dev.reachBar, Bank.passBar, BankRun.passBar, BankRun.next, hrun, hk, hbar]
  refine ⟨_, exec_bar h hbar hnew, ?_, ?_⟩
  · rw [if_neg (by simp [BankRun.next, hbar]), hpass]
    exact onlyBanks_withDev (foldl_modBank_keeps (Dev.keepsButBanks_setBanks s.dev.keepsButBanks_refl _) _ _)
  · rw [if_neg (by simp [BankRun.next, hbar])]
    exact hnew

/-- A member that is not the last to reach a BAR waits, its step over. -/
theorem exec_bar_waits (h : s.issues bank (bankWord 0x04 0 0 0 0 0) t r) (hbar : r.inBar = false)
    (hwaits : ∃ m ∈ s.dev.groupBanks bank, m ≠ bank ∧ s.dev.barReached t m = false) :
    ∃ u, exec (.bar bank) s = .next u ∧ s.onlyBanks u ∧
      (u.dev.bank bank).run = some { r with inBar := true, inStep := false, row := none, columns := 0 } := by
  obtain ⟨-, hrun, ht, hin, -⟩ := id h
  have hk := trigger?_order ht
  obtain ⟨m, hm, hne, hreached⟩ := hwaits
  have hpass : (s.dev.reachBar bank).tryBar t.order bank = s.dev.reachBar bank := by
    rw [tryBar_eq (t := t) (hk.symm ▸ ht), if_neg fun hall => ?_]
    have hthis := List.all_eq_true.1 hall m hm
    rw [Dev.reachBar, Dev.modBankRun, barReached_other hne, hreached] at hthis
    cases hthis
  have hnew : (((s.dev.reachBar bank).tryBar t.order bank).bank bank).run = some { r with inBar := true } := by
    rw [hpass]
    simp [Dev.reachBar, hrun]
  refine ⟨_, exec_bar h hbar hnew, ?_, ?_⟩ <;> rw [if_pos rfl, hpass]
  · exact onlyBanks_withDev (closeStep_keeps (Dev.keepsButBanks_setBanks s.dev.keepsButBanks_refl _) ..)
  · simp [State.withDev, Dev.reachBar, hrun, BankRun.closed, hin]

/-! ### Exchange -/

/-- A bank that has received a register. -/
def Bank.received (which : Nat) (v : BitVec 512) (b : Bank) : Bank :=
  match which with
  | 0 => { b with rxLow := b.rxLow ++ [v] }
  | 1 => { b with rxHigh := b.rxHigh ++ [v] }
  | _ => { b with rxBus := b.rxBus ++ [v] }

theorem sendReg_outside (c : Ctx) (d : Dev) (bank : Nat) (r : BankRun) (which : Nat) (v : BitVec 512) :
    d.sendReg c bank r none which v = d.faultSequence c bank (r.engine.cp % 2 ^ 27) .exchange := rfl

/-- A register sent to another bank with room goes into its queue, and the sender goes on. -/
theorem sendReg_leaves {n which : Nat} (hrun : (s.dev.bank bank).run = some r) (hne : n ≠ bank) (hroom : (s.dev.bank n).rxFull which = false)
    (v : BitVec 512) :
    let u := s.withDev (s.dev.sendReg s.ctx bank r (some n) which v)
    s.onlyBanks u ∧ (u.dev.bank bank).run = some (r.next r.engine) ∧ u.dev.bank n = (s.dev.bank n).received which v := by
  have hsend : s.dev.sendReg s.ctx bank r (some n) which v = (s.dev.modBank n (Bank.received which v)).proceedWith bank id := by
    simp only [Dev.sendReg, hroom, Bool.false_eq_true, if_false]
    rfl
  rw [hsend]
  refine ⟨onlyBanks_withDev (Dev.keepsButBanks_setBanks (Dev.keepsButBanks_setBanks s.dev.keepsButBanks_refl _) _), ?_, ?_⟩
  · simp [State.withDev, Dev.proceedWith, bank_modBank_other hne.symm, hrun, BankRun.next]
  · simp only [State.withDev, Dev.proceedWith, Dev.modBankRun]
    rw [bank_modBank_other hne, bank_modBank_self]

theorem exec_send {a : RegNo} {dir : Bool} (h : s.issues bank (bankWord 0x39 0 a 0 (mbit dir 0) 0) t r) :
    exec (.send bank a dir) s =
      .next (s.withDev (s.dev.sendReg s.ctx bank r (s.dev.neighbour bank dir) (if dir then 0 else 1) (r.engine.v.get a))) :=
  devStep_issue h _

theorem exec_busx {a : RegNo} {imm : BitVec 6} (h : s.issues bank (bankWord 0x3B 0 a 0 0 imm.toNat) t r) :
    exec (.busx bank a imm) s = .next (s.withDev (s.dev.sendReg s.ctx bank r (s.dev.groupMember bank imm.toNat) 2 (r.engine.v.get a))) :=
  devStep_issue h _

/-- The device once a register has been taken from a bank's queue into an engine's register. -/
def Dev.takeReg (d : Dev) (bank : Nat) (reg : RegNo) (v : BitVec 512) (f : Bank → Bank) : Dev :=
  (d.modBank bank f).proceedWith bank fun r => { r with engine := r.engine.setV reg v }

theorem takeReg_leaves (hrun : (s.dev.bank bank).run = some r) (reg : RegNo) (v : BitVec 512) {f : Bank → Bank} (hf : ∀ b, (f b).run = b.run) :
    let u := s.withDev (s.dev.takeReg bank reg v f)
    s.onlyBanks u ∧ (u.dev.bank bank).run = some (r.next { r.engine with v := r.engine.v.set reg v }) ∧
    (u.dev.bank bank).rxLow = (f (s.dev.bank bank)).rxLow ∧ (u.dev.bank bank).rxHigh = (f (s.dev.bank bank)).rxHigh ∧
    (u.dev.bank bank).rxBus = (f (s.dev.bank bank)).rxBus := by
  refine ⟨onlyBanks_withDev (Dev.keepsButBanks_setBanks (Dev.keepsButBanks_setBanks s.dev.keepsButBanks_refl _) _), ?_⟩
  simp [State.withDev, Dev.takeReg, Dev.proceedWith, hf, hrun, BankRun.next, Engine.setV]

theorem exec_recv {d : RegNo} {dir : Bool} {v : BitVec 512} {rest : List (BitVec 512)} (h : s.issues bank (bankWord 0x3A d 0 0 (mbit dir 0) 0) t r)
    (hn : (s.dev.neighbour bank dir).isSome = true) (hq : (if dir then (s.dev.bank bank).rxHigh else (s.dev.bank bank).rxLow) = v :: rest) :
    exec (.recv bank d dir) s = .next (s.withDev (s.dev.takeReg bank d v fun b => if dir then { b with rxHigh := rest } else { b with rxLow := rest })) := by
  refine (devStep_issue h _).trans ?_
  rw [if_neg (by simpa [Option.isSome_iff_ne_none] using hn), hq]
  rfl

theorem exec_recv_outside {d : RegNo} {dir : Bool} (h : s.issues bank (bankWord 0x3A d 0 0 (mbit dir 0) 0) t r)
    (hn : s.dev.neighbour bank dir = none) :
    exec (.recv bank d dir) s = .next (s.withDev (s.dev.faultSequence s.ctx bank (r.engine.cp % 2 ^ 27) .exchange)) := by
  refine (devStep_issue h _).trans ?_
  rw [if_pos (by simp [hn])]

theorem exec_busr {d : RegNo} {v : BitVec 512} {rest : List (BitVec 512)} (h : s.issues bank (bankWord 0x3C d 0 0 0 0) t r)
    (hq : (s.dev.bank bank).rxBus = v :: rest) :
    exec (.busr bank d) s = .next (s.withDev (s.dev.takeReg bank d v fun b => { b with rxBus := rest })) := by
  refine (devStep_issue h _).trans ?_
  simp only [hq]
  rfl

end

/-- Settles O18, instruction by instruction. -/
theorem exchangeBankInstructions : Obligations.ExchangeBankInstructions := by
  intro s bank t r e failed
  refine ⟨fun h hc hroom => ?_, fun h hnone => exec_bankEnd_ends h hnone, fun h hc hrec hroom => exec_bankEnd_sends h hc hrec hroom,
    fun h hnone hleft hs ha hq => ?_, fun h hbar hmem => ⟨exec_bar_passes h hbar hmem, exec_bar_waits h hbar⟩, fun a dir n h hn hne hroom => ?_,
    fun a dir h hn => ?_, fun d dir v rest h hn hq => ?_, fun d dir h hn => exec_recv_outside h hn, fun a imm n h hn hne hroom => ?_,
    fun a imm h hn => ?_, fun d v rest h hq => ?_⟩
  · obtain ⟨-, hrun, -⟩ := id h
    obtain ⟨honly, hnew, hresults⟩ := emitted_leaves (t := t) hrun
    exact ⟨_, _, exec_engineEmit_sends h hc hroom, honly, hnew, rfl, sent_hasRecord .., rfl, rfl, rfl, hresults⟩
  · obtain ⟨-, hrun, ht, -⟩ := id h
    exact ⟨_, exec_bankEnd_ends h hnone, endSequence_leaves hrun ht hleft hs ha hq s.ctx⟩
  · obtain ⟨-, hrun, -⟩ := id h
    obtain ⟨honly, hnew, hqueue⟩ := sendReg_leaves hrun hne hroom (e.v.get a)
    refine ⟨_, (exec_send h).trans (by rw [hn]), honly, hnew, ?_⟩
    rw [hqueue]
    cases dir <;> rfl
  · exact (exec_send h).trans (by rw [hn, sendReg_outside])
  · obtain ⟨-, hrun, -⟩ := id h
    obtain ⟨honly, hnew, hlow, hhigh, -⟩ := takeReg_leaves (f := fun b => if dir then { b with rxHigh := rest } else { b with rxLow := rest })
      hrun d v (by cases dir <;> exact fun _ => rfl)
    refine ⟨_, exec_recv h hn hq, honly, hnew, ?_⟩
    rw [hlow, hhigh]
    cases dir <;> rfl
  · obtain ⟨-, hrun, -⟩ := id h
    obtain ⟨honly, hnew, hqueue⟩ := sendReg_leaves hrun hne hroom (e.v.get a)
    exact ⟨_, (exec_busx h).trans (by rw [hn]), honly, hnew, by rw [hqueue]; rfl⟩
  · exact (exec_busx h).trans (by rw [hn, sendReg_outside])
  · obtain ⟨-, hrun, -⟩ := id h
    obtain ⟨honly, hnew, -, -, hbus⟩ := takeReg_leaves (f := fun b => { b with rxBus := rest }) hrun d v fun _ => rfl
    exact ⟨_, exec_busr h hq, honly, hnew, hbus⟩

end Sys2Proof.Machine
end

section
/-! TRIGGER and the query slots (R180–R182, R293–R295). -/

namespace Sys2Proof.Machine

/-! ### Query slots -/

/-- A trigger with slots given to it, or waited for. -/
def Trigger.grantedAs (t : Trigger) (granted holding : Bool) : Trigger := { t with granted := granted, holding := holding }

/-- The keys of the slots that a trigger takes. -/
def Dev.slotKeys (d : Dev) (t : Trigger) : List Nat := (((bitsSet 32 t.pcMask).map (d.slotRun t)).filterMap id).flatten

/-- The device with slots given to a trigger. -/
def Dev.giveSlots (d : Dev) (t : Trigger) : Dev :=
  (d.setBanks { d.banks with
    querySlots := (d.slotKeys t).foldl (fun q k => tabSet k t.order q) d.banks.querySlots
    heldSlots := d.banks.heldSlots.filter fun e => e.2 != t.order }).modTrigger t.order fun t => t.grantedAs true false

theorem grantSlots_eq (d : Dev) (t : Trigger) :
    d.grantSlots t = if ((bitsSet 32 t.pcMask).map (d.slotRun t)).any Option.isNone then d else d.giveSlots t := rfl

theorem grantSlots_keeps {d e : Dev} (h : d.keepsButBanks e) (t : Trigger) : d.keepsButBanks (e.grantSlots t) := by
  rw [grantSlots_eq]
  split
  · exact h
  · exact Dev.keepsButBanks_setBanks (Dev.keepsButBanks_setBanks h _) _

theorem shareSlots_keeps {d e : Dev} (h : d.keepsButBanks e) (stack : Nat) : d.keepsButBanks (e.shareSlots stack) :=
  Dev.keepsButBanks_foldl (fun _ _ h => grantSlots_keeps h _) _ h

theorem mem_giveSlots {d : Dev} {g : Trigger} (h : g ∈ d.banks.triggers) (t : Trigger) :
    (if g.order = t.order then g.grantedAs true false else g) ∈ (d.giveSlots t).banks.triggers :=
  List.mem_map_of_mem (f := fun x : Trigger => if x.order = t.order then x.grantedAs true false else x) h

/-- An accepted trigger stays accepted while slots are shared out. -/
theorem mem_grantSlots {d : Dev} {g : Trigger} (h : ∃ a b, g.grantedAs a b ∈ d.banks.triggers) (t : Trigger) :
    ∃ a b, g.grantedAs a b ∈ (d.grantSlots t).banks.triggers := by
  obtain ⟨a, b, h⟩ := h
  rw [grantSlots_eq]
  split
  · exact ⟨a, b, h⟩
  · have hmem := mem_giveSlots h t
    split at hmem
    · exact ⟨true, false, hmem⟩
    · exact ⟨a, b, hmem⟩

theorem mem_foldl_grantSlots {g : Trigger} (l : List Trigger) {d : Dev} (h : ∃ a b, g.grantedAs a b ∈ d.banks.triggers) :
    ∃ a b, g.grantedAs a b ∈ (l.foldl (fun d t => d.grantSlots t) d).banks.triggers := by
  induction l generalizing d with
  | nil => exact h
  | cons t l ih => exact ih (mem_grantSlots h t)

theorem mem_shareSlots {d : Dev} {g : Trigger} (h : g ∈ d.banks.triggers) (stack : Nat) :
    ∃ a b, g.grantedAs a b ∈ (d.shareSlots stack).banks.triggers :=
  mem_foldl_grantSlots _ ⟨g.granted, g.holding, h⟩

theorem tabGet_foldl_tabSet {α : Type} (v : α) {k : Nat} {keys : List Nat} (h : k ∈ keys) (t : Tab α) :
    tabGet k (keys.foldl (fun q k => tabSet k v q) t) = some v := by
  induction keys using List.reverseRecOn with
  | nil => cases h
  | append_singleton keys j ih =>
    rw [List.foldl_append, List.foldl_cons, List.foldl_nil]
    rcases eq_or_ne k j with rfl | hne
    · exact tabGet_tabSet_self ..
    · rw [tabGet_tabSet_other hne]
      exact ih (by simpa [hne] using h)

/-- The one waiting trigger of a stack gets its slots, where it has a run in each of its pseudo-channels. -/
theorem shareSlots_single {d : Dev} {stack : Nat} {t : Trigger} (h : (d.banks.triggers.filter fun g => g.stack == stack && !g.granted) = [t])
    (hruns : ∀ pc ∈ bitsSet 32 t.pcMask, (d.slotRun t pc).isSome = true) : d.shareSlots stack = d.giveSlots t := by
  have hall : ¬((bitsSet 32 t.pcMask).map (d.slotRun t)).any Option.isNone = true := by
    simp only [List.any_map, List.any_eq_true, not_exists, not_and, Function.comp, Option.isNone_iff_eq_none]
    exact fun pc hpc => Option.isSome_iff_ne_none.1 (hruns pc hpc)
  have hgrant : d.grantSlots t = d.giveSlots t := by rw [grantSlots_eq, if_neg hall]
  unfold Dev.shareSlots
  simp only [h]
  by_cases hc : t.cls = 0 <;> simp [hc, hgrant]

theorem giveSlots_gives {d : Dev} {t : Trigger} {pc k : Nat} {l : List Nat} (hpc : pc ∈ bitsSet 32 t.pcMask) (hl : d.slotRun t pc = some l) (hk : k ∈ l) :
    tabGet k (d.giveSlots t).banks.querySlots = some t.order :=
  tabGet_foldl_tabSet _ (List.mem_flatten.2 ⟨l, List.mem_filterMap.2 ⟨_, List.mem_map_of_mem hpc, hl⟩, hk⟩) _

theorem exec_querySlotGrant {s : State} (hs : s.running = true) (stack : Nat) :
    exec (.querySlotGrant stack) s = .next (s.withDev (s.dev.shareSlots stack)) :=
  devStep_run (fun _ d => d.shareSlots stack) s hs

/-- The longest waiter has slots held for it. -/
theorem exec_querySlotHold {s : State} (hs : s.running = true) {k : Nat} {t : Trigger} (ht : s.dev.trigger? k = some t) (hc : t.cls ≠ 0)
    (hg : t.granted = false) (hwait : t.since + 1000 ≤ s.time.count) :
    ∃ u, exec (.querySlotHold k) s = .next u ∧ s.onlyBanks u ∧ u.dev.trigger? k = some { t with holding := true } := by
  refine ⟨_, devStep_run _ s hs, onlyBanks_withDev (Dev.keepsButBanks_setBanks s.dev.keepsButBanks_refl _), ?_⟩
  refine (trigger?_modTrigger ht fun x => ?_).trans ?_
  · split <;> rfl
  · have hdue : (t.cls != 0 && !t.granted && decide (t.since + 10 * usTicks ≤ s.ctx.now)) = true :=
      Bool.and_eq_true_iff.2 ⟨by simp [hc, hg], decide_eq_true hwait⟩
    rw [if_pos hdue]

/-! ### TRIGGER -/

theorem scanRun?_keys {d : Dev} {capsule desc : Nat} {x : ScanRun} (h : d.scanRun? capsule desc = some x) : x.capsule = capsule ∧ x.desc = desc := by
  simpa using List.find?_some h

/-- A changed SCAN is found by its keys. -/
theorem scanRun?_modScan {d : Dev} {capsule desc : Nat} {x : ScanRun} (h : d.scanRun? capsule desc = some x) {f : ScanRun → ScanRun}
    (hf : ∀ y, y.capsule = capsule ∧ y.desc = desc → (f y).capsule = capsule ∧ (f y).desc = desc) :
    (d.modScan capsule desc f).scanRun? capsule desc = some (f x) := by
  have hx := scanRun?_keys h
  simp only [Dev.scanRun?, Dev.modScan, Dev.setSearch_search, List.find?_map] at h ⊢
  have hsame : ((fun s : ScanRun => s.capsule == capsule && s.desc == desc) ∘ fun s => if s.capsule = capsule ∧ s.desc = desc then f s else s) =
      fun s => s.capsule == capsule && s.desc == desc := by
    funext s
    by_cases hk : s.capsule = capsule ∧ s.desc = desc
    · simp [hk, hf s hk]
    · simp [hk]
  rw [hsame, h]
  simp [hx]

theorem scanRun?_congr {d e : Dev} (h : e.search = d.search) (capsule desc : Nat) : e.scanRun? capsule desc = d.scanRun? capsule desc := by
  simp only [Dev.scanRun?, h]

/-- A trigger accepted at banks is queued at each of them and waits for its slots; its SCAN counts it. -/
theorem acceptTrigger_eq {t : Trigger} (h : t.banks ≠ []) (c : Ctx) (d : Dev) :
    d.acceptTrigger c t =
      (t.banks.foldl (fun d b => d.modBank b fun k => { k with queue := k.queue ++ [t.order] })
        ((d.modScan t.capsule t.desc fun s => { s with rows := s.rows ++ [t.tag], triggered := s.triggered + 1 }).setBanks
          { d.banks with triggers := d.banks.triggers ++ [t], nextTrigger := t.order + 1 })).shareSlots t.stack := by
  unfold Dev.acceptTrigger
  rw [if_neg (by simpa using h)]
  rfl

theorem acceptTrigger_accepts {t : Trigger} (h : t.banks ≠ []) (c : Ctx) (d : Dev) :
    (∃ a b, t.grantedAs a b ∈ (d.acceptTrigger c t).banks.triggers) ∧
    (d.acceptTrigger c t).search =
      (d.modScan t.capsule t.desc fun s => { s with rows := s.rows ++ [t.tag], triggered := s.triggered + 1 }).search := by
  rw [acceptTrigger_eq h]
  refine ⟨mem_shareSlots ?_ _, ?_⟩
  · rw [foldl_modBank_triggers fun _ k => { k with queue := k.queue ++ [t.order] }]
    exact List.mem_append_right _ (List.mem_singleton_self t)
  · obtain ⟨b, k, he⟩ := shareSlots_keeps (foldl_modBank_keeps (Dev.keepsButBanks_setBanks (Dev.keepsButBanks_refl
      (d.modScan t.capsule t.desc fun s => { s with rows := s.rows ++ [t.tag], triggered := s.triggered + 1 })) _)
      (fun _ k => { k with queue := k.queue ++ [t.order] }) t.banks) t.stack
    rw [he]
    rfl

/-- The work of TRIGGER where its SCAN offers the row, its banks have room, no threshold prunes it and no rule refuses it. -/
theorem doTrigger_accepts {c : Ctx} {d0 : Dev} {capsule desc tag : Nat} {rest : List Nat} {x : ScanRun} {cap : Capsule} {o : OpCtx}
    (hcap : d0.capsule? capsule = some cap) (hscan : d0.scanRun? capsule desc = some x) (ho : d0.opCtx capsule desc = some o)
    (hoffers : x.offers = tag :: rest) :
    let d := d0.setDict { d0.dict with cfg := cap.cfg }
    let t := d.scanTrigger c o x tag
    prunes (ixLower (d.index x.index)) (ixSlack (d.index x.index)) x.threshold (x.cells.getD (tag - 1) (0, 0, 0)).2.1 = false →
    d.unroutable (tileRouter (d.tileFor capsule desc)) (stackRouter t.stack) = none → d.triggerRefusal t = none →
    d.heldAt 0 t.stack capsule = false → (∀ b ∈ t.banks, (d.bank b).queue.length < 8) →
    let e := (d.modScan capsule desc fun _ => { x with offers := rest }).acceptTrigger c t
    doTrigger capsule desc tag c d0 = e.setDict { e.dict with cfg := d0.dict.cfg } := by
  intro d t hprunes hroute hrefusal hheld hroom e
  have hstall : ¬(d.heldAt 0 t.stack capsule || t.banks.any fun b => decide (8 ≤ (d.bank b).queue.length)) = true := by
    simpa [hheld] using hroom
  unfold doTrigger
  simp only [hscan, ho, hoffers, List.head?_cons, bne_self_eq_false, Bool.false_eq_true, if_false, Dev.under, hcap]
  rw [if_neg hstall, hprunes, if_neg Bool.false_ne_true, hrefusal]
  dsimp only
  rw [hroute]
  rfl

/-- Settles O19: the accepted trigger is among the triggers and its row among those under way; slots are given, or held. -/
theorem triggersAreTakenUp : Obligations.TriggersAreTakenUp := by
  refine ⟨?_, fun s stack t hs hwaits hruns => ?_, fun s k t hs ht hc hg hwait => exec_querySlotHold hs ht hc hg hwait⟩
  · intro s capsule desc tag rest x cap o d t hs hcap hscan ho hoffers hprunes hroute hrefusal hbanks hheld hroom
    obtain ⟨rfl, rfl⟩ := scanRun?_keys hscan
    let offered : ScanRun := { x with offers := rest }
    obtain ⟨⟨a, b, hg⟩, hsearch⟩ := acceptTrigger_accepts hbanks s.ctx (d.modScan x.capsule x.desc fun _ => offered)
    have hdo := doTrigger_accepts (c := s.ctx) hcap hscan ho hoffers hprunes hroute hrefusal hheld hroom
    have hfind := scanRun?_modScan (scanRun?_modScan (d := d) (f := fun _ => offered) hscan fun _ _ => ⟨rfl, rfl⟩)
      (f := fun y => { y with rows := y.rows ++ [tag], triggered := y.triggered + 1 }) fun y hy => hy
    refine ⟨_, devStep_run _ s hs, ⟨t.grantedAs a b, ?_, rfl, rfl, rfl, rfl⟩, fun y hy => ?_⟩
    · rw [hdo]
      exact hg
    · rw [hdo] at hy
      have heq := ((scanRun?_congr hsearch ..).symm.trans hy).symm.trans hfind
      cases heq
      exact ⟨rfl, List.mem_append_right _ (List.mem_singleton_self tag)⟩
  · refine ⟨_, exec_querySlotGrant hs stack, onlyBanks_withDev (shareSlots_keeps s.dev.keepsButBanks_refl stack), ?_, fun pc hpc l hl k hk => ?_⟩ <;>
      rw [shareSlots_single hwaits hruns]
    · have hmem : t ∈ s.dev.banks.triggers := (List.mem_filter.1 (hwaits ▸ List.mem_singleton_self t)).1
      have hgiven := mem_giveSlots hmem t
      rwa [if_pos rfl] at hgiven
    · exact giveSlots_gives hpc hl hk

end Sys2Proof.Machine
end

section
/-! Sequences start on their group, give way, and take their steps (R170, R181, R188–R190, R193, R194, R196, R203–R206). -/

namespace Sys2Proof.Machine

/-! ### A stack changed -/

/-- The device with other records of its stacks. -/
def Dev.setUnits (d : Dev) (u : List Stack) : Dev := d.setBanks { d.banks with units := u }

theorem modStack_eq (d : Dev) (n : Nat) (f : Stack → Stack) : d.modStack n f = d.setUnits (listMod n f d.banks.units) := rfl

@[simp] theorem setUnits_setUnits (d : Dev) (u v : List Stack) : (d.setUnits u).setUnits v = d.setUnits v := rfl

@[simp] theorem bank_setUnits (d : Dev) (u : List Stack) (n : Nat) : (d.setUnits u).bank n = d.bank n := rfl

theorem stack_modStack_self {d : Dev} {n : Nat} (h : n < d.banks.units.length) (f : Stack → Stack) : (d.modStack n f).stack n = f (d.stack n) :=
  listMod_getD n f d.banks.units _ h

theorem stack_modStack_other {n m : Nat} (h : m ≠ n) (d : Dev) (f : Stack → Stack) : (d.modStack n f).stack m = d.stack m := by
  simp [Dev.modStack, Dev.stack, listMod, List.getD_eq_getElem?_getD, h.symm]

theorem stack_absent {d : Dev} {n : Nat} (h : d.banks.units.length ≤ n) : d.stack n = .reset := List.getD_eq_default _ _ h

theorem modStack_absent {d : Dev} {n : Nat} (h : d.banks.units.length ≤ n) (f : Stack → Stack) : d.modStack n f = d := by
  have hunits : listMod n f d.banks.units = d.banks.units := List.modify_eq_self h
  rw [Dev.modStack, hunits]
  rfl

/-- What a change of a stack keeps of it. -/
theorem stack_modStack_keeps {α : Type} {g : Stack → α} {f : Stack → Stack} (h : ∀ k, g (f k) = g k) (d : Dev) (n m : Nat) :
    g ((d.modStack n f).stack m) = g (d.stack m) := by
  rcases Nat.lt_or_ge n d.banks.units.length with hn | hn
  · rcases eq_or_ne m n with rfl | hm
    · rw [stack_modStack_self hn, h]
    · rw [stack_modStack_other hm]
  · rw [modStack_absent hn]

/-- A stack at which a bank waits no more. -/
def Stack.without (bank : Nat) (k : Stack) : Stack := { k with waiting := k.waiting.filter fun b => b != bank }

theorem not_waiting_without (d : Dev) (bank n : Nat) : bank ∉ ((d.modStack n (Stack.without bank)).stack n).waiting := by
  rcases Nat.lt_or_ge n d.banks.units.length with hn | hn
  · rw [stack_modStack_self hn]
    simp [Stack.without]
  · rw [modStack_absent hn, stack_absent hn]
    exact List.not_mem_nil

/-- Whether a step may start now depends on a stack's units left, its heat and its starts. -/
theorem mayStart_modStack {f : Stack → Stack} (hr : ∀ k, (f k).remaining = k.remaining) (hh : ∀ k, (f k).hot = k.hot)
    (hs : ∀ k, (f k).starts = k.starts) (c : Ctx) (d : Dev) (n bank : Nat) : (d.modStack n f).mayStart c bank = d.mayStart c bank := by
  have hgoverned (m : Nat) : (d.modStack n f).governed m = d.governed m := rfl
  have hcfg (m idx : Nat) : (d.modStack n f).stackCfg m idx = d.stackCfg m idx := rfl
  simp only [Dev.mayStart, Dev.rulesAllow, hgoverned, hcfg, stack_modStack_keeps hr, stack_modStack_keeps hh, stack_modStack_keeps hs]

theorem mayStart_without (c : Ctx) (d : Dev) (n bank other : Nat) : (d.modStack n (Stack.without other)).mayStart c bank = d.mayStart c bank :=
  mayStart_modStack (f := Stack.without other) (fun _ => rfl) (fun _ => rfl) (fun _ => rfl) c d n bank

@[simp] theorem yields_modStack (c : Ctx) (d : Dev) (n : Nat) (f : Stack → Stack) (bank : Nat) : (d.modStack n f).yields c bank = d.yields c bank := rfl

/-! ### Starts -/

/-- Does a trigger have a bank exclusively: it asks for it, and the bank's region allows it? -/
def Dev.exclusive (d : Dev) (t : Trigger) (bank : Nat) : Bool := t.excl && ((d.bankRegion bank).map rgExcl).getD false

/-- A run at a sequence's start (R170). -/
def startRun (c : Ctx) (t : Trigger) (bank : Nat) : BankRun :=
  { trigger := t.order, engine := startEngine t bank, pc := t.entry, inStep := false, columns := 0, row := none, began := c.now, inBar := false,
    cancelled := false, restoring := false, grantedAt := 0, counted := false, failed := false }

/-- A bank on which a sequence has started. -/
def Bank.started (c : Ctx) (t : Trigger) (excl : Bool) (bank : Nat) (b : Bank) : Bank :=
  { b with
    queue := b.queue.filter fun k => k != t.order
    run := some (startRun c t bank)
    state := if excl then .pimExclusive else .pimShared
    rxLow := if b.saved.isSome then b.rxLow else []
    rxHigh := if b.saved.isSome then b.rxHigh else []
    rxBus := if b.saved.isSome then b.rxBus else [] }

theorem startOn_eq (c : Ctx) (d : Dev) (t : Trigger) (bank : Nat) : d.startOn c t bank = d.modBank bank (Bank.started c t (d.exclusive t bank) bank) := rfl

theorem started_started (c : Ctx) (t : Trigger) (excl : Bool) (bank : Nat) (b : Bank) :
    (b.started c t excl bank).started c t excl bank = b.started c t excl bank := by
  cases hs : b.saved <;> simp [Bank.started, hs]

/-- The banks of a group start one after another. -/
theorem foldl_startOn (c : Ctx) (t : Trigger) (l : List Nat) (d : Dev) :
    l.foldl (fun d b => d.startOn c t b) d = l.foldl (fun e b => e.modBank b (Bank.started c t (d.exclusive t b) b)) d := by
  suffices h : ∀ e : Dev, e.dict = d.dict →
      l.foldl (fun d b => d.startOn c t b) e = l.foldl (fun e b => e.modBank b (Bank.started c t (d.exclusive t b) b)) e from h d rfl
  induction l with
  | nil => exact fun _ _ => rfl
  | cons b l ih =>
    intro e he
    have hcfg : e.cfg = d.cfg := by
      funext idx sub
      simp only [Dev.cfg, Dev.cfgVal, he]
    have hexcl : e.exclusive t b = d.exclusive t b := by simp only [Dev.exclusive, Dev.bankRegion, hcfg]
    rw [List.foldl_cons, List.foldl_cons, startOn_eq, hexcl]
    exact ih _ he

theorem startNext_cases (c : Ctx) (d : Dev) (bank : Nat) :
    d.startNext c bank = d ∨ ∃ t, d.startNext c bank =
      (d.groupBanks bank).foldl (fun e b => e.modBank b (Bank.started c t (d.exclusive t b) b)) d := by
  unfold Dev.startNext
  split
  · exact .inl rfl
  · dsimp only
    split
    · exact .inr ⟨_, foldl_startOn ..⟩
    · exact .inl rfl

theorem startNext_starts {d : Dev} {bank : Nat} {t : Trigger} (h : d.nextTrigger bank = some t)
    (hready : ∀ b ∈ d.groupBanks bank, (d.bank b).run = none ∧ (t.cls = 0 ∨ (d.bank b).saved = none) ∧ d.nextTrigger b = some t) (c : Ctx) :
    d.startNext c bank = (d.groupBanks bank).foldl (fun e b => e.modBank b (Bank.started c t (d.exclusive t b) b)) d := by
  unfold Dev.startNext
  rw [h]
  dsimp only
  rw [if_pos (List.all_eq_true.2 fun b hb => ?_), foldl_startOn]
  obtain ⟨hrun, hsaved, hnext⟩ := hready b hb
  simpa [hrun, hnext] using hsaved

theorem startNext_keeps {d e : Dev} (h : d.keepsButBanks e) (c : Ctx) (bank : Nat) : d.keepsButBanks (e.startNext c bank) := by
  rcases startNext_cases c e bank with he | ⟨t, he⟩ <;> rw [he]
  · exact h
  · exact foldl_modBank_keeps h _ _

/-- A start keeps a bank's saved sequence and the count of its yields. -/
theorem startNext_saved (c : Ctx) (d : Dev) (bank n : Nat) :
    ((d.startNext c bank).bank n).saved = (d.bank n).saved ∧ ((d.startNext c bank).bank n).yields = (d.bank n).yields := by
  rcases startNext_cases c d bank with he | ⟨t, he⟩ <;> rw [he]
  · exact ⟨rfl, rfl⟩
  · rw [bank_foldl_modBank fun n => started_started c t (d.exclusive t n) n]
    split <;> exact ⟨rfl, rfl⟩

/-! ### Steps -/

/-- A step paid for changes its stack alone. -/
theorem payStep_eq (c : Ctx) (d : Dev) (bank : Nat) : ∃ u, d.payStep c bank = d.setUnits u := by
  unfold Dev.payStep
  dsimp only
  split <;> exact ⟨_, rfl⟩

theorem askStep_starts {c : Ctx} {d : Dev} {bank : Nat} (hw : bank ∉ (d.stack (bank / 768)).waiting) (hm : d.mayStart c bank = true) :
    d.askStep c bank = (d.payStep c bank).takeStep c bank := by
  unfold Dev.askStep
  rw [if_neg (by simpa using hw), if_pos hm]

/-- A bank whose sequence has been put aside for a C0 sequence (R196). -/
def Bank.putAside (b : Bank) : Bank :=
  { b with
    saved := b.run.map fun r => { r with counted := false }, run := none, state := .mem
    steps := satAdd 64 b.steps 1, yields := satAdd 64 b.yields 1 }

theorem takeStep_yields {c : Ctx} {d : Dev} {bank : Nat} (h : d.yields c bank = true) : ∃ u,
    d.takeStep c bank = ((d.setUnits u).modBank bank Bank.putAside).startNext c bank := by
  unfold Dev.takeStep
  simp only [yields_modStack, h, if_true]
  exact ⟨_, rfl⟩

/-- A run that has taken its next step at an instant. -/
def BankRun.stepped (now : Nat) (r : BankRun) : BankRun := { r with inStep := true, columns := 0, row := none, grantedAt := now, counted := false }

theorem takeStep_next {c : Ctx} {d : Dev} {bank : Nat} {r : BankRun} (hy : d.yields c bank = false) (hr : (d.bank bank).run = some r)
    (hrest : r.restoring = false) (hstream : r.engine.streamLeft = 0) : ∃ u,
    d.takeStep c bank = (d.setUnits u).modBank bank fun b => { b with steps := satAdd 64 b.steps 1, run := some (r.stepped c.now) } := by
  have hstreamOn (e : Dev) (he : (e.bank bank).run = some (r.stepped c.now)) : e.stepStream c bank = e := by
    unfold Dev.stepStream
    rw [streamOn_done he hstream, ite_self]
  have hrun (n : Nat) (f : Stack → Stack) : ((d.modStack n f).bank bank).run = some r := hr
  unfold Dev.takeStep
  simp only [yields_modStack, hy, Bool.false_eq_true, if_false]
  refine ⟨_, (hstreamOn _ ?_).trans (modBank_congr ?_)⟩
  · simp [hr, hrest, BankRun.stepped]
  · rw [hrun]
    simp [hrest, BankRun.stepped]

/-! ### A sequence gives way -/

section
variable {s : State} {bank : Nat}

/-- C0_YIELD puts the sequence aside and starts the one that waits. -/
theorem exec_c0Yield {r : BankRun} (hs : s.running = true) (hr : (s.dev.bank bank).run = some r) (hin : r.inStep = false)
    (hy : s.dev.yields s.ctx bank = true) (hm : s.dev.mayStart s.ctx bank = true) : ∃ u,
    exec (.c0Yield bank) s = .next (s.withDev (((s.dev.setUnits u).modBank bank Bank.putAside).startNext s.ctx bank)) := by
  let d := s.dev.modStack (bank / 768) (Stack.without bank)
  have hask : d.askStep s.ctx bank = (d.payStep s.ctx bank).takeStep s.ctx bank :=
    askStep_starts (not_waiting_without s.dev bank (bank / 768)) ((mayStart_without ..).trans hm)
  obtain ⟨u, hpay⟩ := payStep_eq s.ctx d bank
  obtain ⟨v, htake⟩ := takeStep_yields (c := s.ctx) (d := d.setUnits u) (bank := bank) hy
  have hdo : doC0Yield bank s.ctx s.dev = d.askStep s.ctx bank := by
    unfold doC0Yield
    simp only [hr, hin, hy, Bool.not_true, Bool.or_self, Bool.false_eq_true, if_false]
    rfl
  have hboth : (d.payStep s.ctx bank).takeStep s.ctx bank = ((s.dev.setUnits v).modBank bank Bank.putAside).startNext s.ctx bank := by
    rw [hpay]
    exact htake
  exact ⟨v, (devStep_run _ s hs).trans (congrArg (fun e => Host.Outcome.next (s.withDev e)) (hdo.trans (hask.trans hboth)))⟩

theorem exec_preemptionTimeout {r : BankRun} (hs : s.running = true) (hr : (s.dev.bank bank).run = some r) (hin : r.inStep = true)
    (hstate : (s.dev.bank bank).state = .pimExclusive) (hexp : (s.dev.bank bank).expired = false) (hpre : s.dev.preempted s.ctx bank = true) :
    exec (.preemptionTimeout bank) s =
      .next (s.withDev (s.dev.modBank bank fun b => { b with expired := true, preemptions := satAdd 64 b.preemptions 1 })) := by
  refine (devStep_run _ s hs).trans ?_
  unfold doPreemptionTimeout
  simp [hr, hin, hstate, hexp, hpre]

end

/-- The engine's arguments at a start (R170). -/
theorem startEngine_arguments (t : Trigger) (bank : Nat) :
    (startEngine t bank).x.get 0 = BitVec.ofNat 32 t.arg0 ∧ (startEngine t bank).x.get 1 = BitVec.ofNat 32 t.arg1 ∧
    (startEngine t bank).x.get 2 = BitVec.ofNat 32 (bank % 768) := by
  simp [startEngine, Vector.get_eq_getElem]

/-- Settles O20: the group's banks all start; a save step keeps the run, and whatever starts after it keeps what was saved; an expiry is noted. -/
theorem sequencesStartAndGiveWay : Obligations.SequencesStartAndGiveWay := by
  refine ⟨fun s bank t hs hnext hready => ?_, ?_⟩
  · have hstart := startNext_starts hnext hready s.ctx
    refine ⟨_, devStep_run (fun c d => d.startNext c bank) s hs, onlyBanks_withDev (startNext_keeps s.dev.keepsButBanks_refl ..), fun n hn => ?_⟩
    have hbank : ((s.dev.startNext s.ctx bank).bank n) = (s.dev.bank n).started s.ctx t (s.dev.exclusive t n) n := by
      rw [hstart, bank_foldl_modBank fun n => started_started s.ctx t (s.dev.exclusive t n) n, if_pos hn]
    obtain ⟨h0, h1, h2⟩ := startEngine_arguments t n
    refine ⟨startRun s.ctx t n, congrArg Bank.run hbank, rfl, rfl, rfl, h0, h1, h2, rfl, rfl, ?_⟩
    simp only [State.withDev, hbank, Bank.started]
    cases s.dev.exclusive t n <;> simp
  · intro s bank r b hs hr
    refine ⟨fun hin hy hm => ?_, fun hin hstate hexp hpre => ?_⟩
    · obtain ⟨u, hu⟩ := exec_c0Yield hs hr hin hy hm
      obtain ⟨hsaved, hyields⟩ := startNext_saved s.ctx ((s.dev.setUnits u).modBank bank Bank.putAside) bank bank
      refine ⟨_, hu, onlyBanks_withDev (startNext_keeps (Dev.keepsButBanks_setBanks (Dev.keepsButBanks_setBanks s.dev.keepsButBanks_refl _) _) ..),
        hsaved.trans ?_, hyields.trans ?_⟩ <;> rw [bank_modBank_self, bank_setUnits]
      · exact congrArg (Option.map fun r : BankRun => { r with counted := false }) hr
      · rfl
    · exact ⟨_, exec_preemptionTimeout hs hr hin hstate hexp hpre, onlyBanks_withDev (Dev.keepsButBanks_setBanks s.dev.keepsButBanks_refl _),
        bank_modBank_self ..⟩

end Sys2Proof.Machine
end

section
/-! Steps are taken at boundaries, within windows and rules; refresh; the governor (R188, R189, R194, R204, R205). -/

namespace Sys2Proof.Machine

/-- What a bank keeps, a change of any bank keeps. -/
theorem bank_modBank_keeps {α : Type} {g : Bank → α} {f : Bank → Bank} (h : ∀ b, g (f b) = g b) (d : Dev) (m n : Nat) :
    g ((d.modBank m f).bank n) = g (d.bank n) := by
  rcases eq_or_ne n m with rfl | hn
  · rw [bank_modBank_self, h]
  · rw [bank_modBank_other hn]

/-! ### The next step -/

/-- A step paid for and taken: the banks alone change, and the run of the bank begins its step. -/
theorem payStep_takeStep {d e : Dev} {bank : Nat} {r : BankRun} (h : d.keepsButBanks e) (c : Ctx) (hy : e.yields c bank = false)
    (hr : (e.bank bank).run = some r) (hrest : r.restoring = false) (hstream : r.engine.streamLeft = 0) :
    d.keepsButBanks ((e.payStep c bank).takeStep c bank) ∧
    (((e.payStep c bank).takeStep c bank).bank bank).run = some (r.stepped c.now) ∧
    (((e.payStep c bank).takeStep c bank).bank bank).steps = satAdd 64 (e.bank bank).steps 1 := by
  obtain ⟨u, hpay⟩ := payStep_eq c e bank
  obtain ⟨v, htake⟩ := takeStep_next (c := c) (d := e.setUnits u) hy hr hrest hstream
  rw [hpay, htake]
  exact ⟨Dev.keepsButBanks_setBanks (Dev.keepsButBanks_setBanks h _) _, by rw [bank_modBank_self], by rw [bank_modBank_self]; rfl⟩

/-! ### A boundary at which nothing waits -/

/-- Is a bank at a boundary of a run, with no access and no tombstone waiting, and no refresh due? -/
def Bank.idleAt (b : Bank) (r : BankRun) : Prop := b.run = some r ∧ b.accesses = [] ∧ b.quiet = [] ∧ b.shadow = [] ∧ b.refreshes = 0

/-- A bank whose preemption timeout is over where its state lets accesses through. -/
def Bank.relaxed (b : Bank) : Bank := { b with expired := if b.state != .pimExclusive || b.expired then false else b.expired }

theorem rested_of_idleAt {b : Bank} {r : BankRun} (h : b.idleAt r) : b.rested = b.relaxed := by
  obtain ⟨hrun, ha, hq, hsh, href⟩ := h
  obtain ⟨_, run⟩ := b
  subst hrun hsh href
  simp [Bank.rested, Bank.relaxed]

theorem restamp_of_no_shadow {d : Dev} {bank : Nat} (h : (d.bank bank).shadow = []) (c : Ctx) : d.restamp c bank = d := by
  unfold Dev.restamp
  rw [h]
  rfl

theorem serveBank_idleAt {d : Dev} {bank : Nat} {r : BankRun} (h : (d.bank bank).idleAt r) (c : Ctx) :
    d.serveBank c bank = d.modBank bank Bank.relaxed := by
  obtain ⟨hrun, ha, hq, hsh, href⟩ := id h
  rw [serveBank_rests ha hq, restamp_of_no_shadow hsh, ite_self]
  exact modBank_congr (rested_of_idleAt h)

theorem mustWait_relaxed (d : Dev) (n bank : Nat) (t : Trigger) (r : BankRun) : (d.modBank n Bank.relaxed).mustWait bank t r = d.mustWait bank t r := by
  have hlow (m : Nat) : ((d.modBank n Bank.relaxed).bank m).rxLow = (d.bank m).rxLow := bank_modBank_keeps (f := Bank.relaxed) (g := Bank.rxLow) (fun _ => rfl) ..
  have hhigh (m : Nat) : ((d.modBank n Bank.relaxed).bank m).rxHigh = (d.bank m).rxHigh :=
    bank_modBank_keeps (f := Bank.relaxed) (g := Bank.rxHigh) (fun _ => rfl) ..
  have hbus (m : Nat) : ((d.modBank n Bank.relaxed).bank m).rxBus = (d.bank m).rxBus := bank_modBank_keeps (f := Bank.relaxed) (g := Bank.rxBus) (fun _ => rfl) ..
  have hfull (m which : Nat) : ((d.modBank n Bank.relaxed).bank m).rxFull which = (d.bank m).rxFull which := by
    simp only [Bank.rxFull, hlow, hhigh, hbus]
  have hword (pc : Nat) : (d.modBank n Bank.relaxed).wordAt t pc = d.wordAt t pc := rfl
  have hresult (m : Nat) : (d.modBank n Bank.relaxed).resultFull m = d.resultFull m := rfl
  have hneighbour (m : Nat) (up : Bool) : (d.modBank n Bank.relaxed).neighbour m up = d.neighbour m up := rfl
  have hmember (m i : Nat) : (d.modBank n Bank.relaxed).groupMember m i = d.groupMember m i := rfl
  simp only [Dev.mustWait, hlow, hhigh, hbus, hfull, hword, hresult, hneighbour, hmember]

theorem yields_relaxed (c : Ctx) (d : Dev) (bank : Nat) : (d.modBank bank Bank.relaxed).yields c bank = d.yields c bank := by
  simp only [Dev.yields, bank_modBank_self]
  rfl

/-- STEP_BOUNDARY where nothing waits but the sequence's next step. -/
theorem doStepBoundary_idleAt {d : Dev} {bank : Nat} {r : BankRun} {t : Trigger} (c : Ctx) (h : (d.bank bank).idleAt r)
    (ht : d.trigger? r.trigger = some t) (hin : r.inStep = false) (hgo : (r.cancelled || r.failed) = false) (hwait : d.mustWait bank t r = false) :
    doStepBoundary bank c d = (d.modBank bank Bank.relaxed).askStep c bank := by
  obtain ⟨hrun, -⟩ := id h
  have hclosed : d.closeStep c bank = d := closeStep_idle (fun r' hr' => by rw [hrun] at hr'; cases hr'; exact hin) c
  have hrun' : ((d.modBank bank Bank.relaxed).bank bank).run = some r := by rw [bank_modBank_self]; exact hrun
  have ht' : (d.modBank bank Bank.relaxed).trigger? r.trigger = some t := ht
  unfold doStepBoundary Dev.boundary
  simp only [hrun, Option.isNone_some, Bool.false_and, Bool.false_eq_true, if_false, hclosed, serveBank_idleAt h, hrun', ht', hgo, mustWait_relaxed, hwait]

/-! ### A waiting step granted -/

theorem stepClass_modStack (c : Ctx) (d : Dev) (n : Nat) (f : Stack → Stack) (bank : Nat) : (d.modStack n f).stepClass c bank = d.stepClass c bank := rfl

/-- Does a bank that waits at a stack go on waiting when those of a kind are granted: it is not of the kind, or it wants its step? -/
def Dev.staysWaiting (c : Ctx) (d : Dev) (which : Nat → Bool) (b : Nat) : Bool := !which b || (decide (d.stepClass c b < 8) && !d.stopping b)

/-- A stack at which only some of those that wait go on waiting. -/
def Stack.keepWaiting (p : Nat → Bool) (k : Stack) : Stack := { k with waiting := k.waiting.filter p }

/-- One bank waits at a stack, for a step that may start now: it is granted. -/
theorem grantWaiting_one {d : Dev} {bank : Nat} {c : Ctx} {which : Nat → Bool} (hw : (d.stack (bank / 768)).waiting = [bank]) (hwhich : which bank = true)
    (hc : d.stepClass c bank < 8) (hgo : d.stopping bank = false) (hm : d.mayStart c bank = true) : ∃ u,
    d.grantWaiting c (bank / 768) which = ((d.setUnits u).payStep c bank).takeStep c bank := by
  let f := Stack.keepWaiting (d.staysWaiting c which)
  have hmay : (d.modStack (bank / 768) f).mayStart c bank = true :=
    (mayStart_modStack (f := f) (fun _ => rfl) (fun _ => rfl) (fun _ => rfl) c d _ bank).trans hm
  have hgrant : d.grantWaiting c (bank / 768) which =
      [bank].foldl (fun d b => if d.mayStart c b then (d.payStep c b).takeStep c b else d) (d.modStack (bank / 768) f) := by
    unfold Dev.grantWaiting
    simp only [hw, List.filter_cons, hwhich, hc, hgo, List.filter_nil, decide_true, Bool.not_false, Bool.and_self, if_true, Bool.false_eq_true, if_false,
      List.foldl_nil]
    change List.foldl _ (d.modStack (bank / 768) f) _ = _
    by_cases h0 : d.stepClass c bank = 0 <;> simp [stepClass_modStack, h0]
  exact ⟨listMod (bank / 768) f d.banks.units, hgrant.trans (if_pos hmay)⟩

/-- None waits at a stack: none is granted. -/
theorem grantWaiting_none {d : Dev} {n : Nat} (hw : (d.stack n).waiting = []) (c : Ctx) (which : Nat → Bool) :
    d.grantWaiting c n which = d.modStack n (Stack.keepWaiting (d.staysWaiting c which)) := by
  unfold Dev.grantWaiting
  simp only [hw, List.filter_nil, List.append_nil, List.foldl_nil]
  rfl

/-! ### The obligation -/

section
variable {s : State} {bank : Nat} {r : BankRun} {t : Trigger}

theorem exec_stepBoundary (hs : s.running = true) (h : (s.dev.bank bank).idleAt r) (ht : s.dev.trigger? r.trigger = some t) (hin : r.inStep = false)
    (hgo : (r.cancelled || r.failed) = false) (hwait : s.dev.mustWait bank t r = false) (hw : bank ∉ (s.dev.stack (bank / 768)).waiting)
    (hm : s.dev.mayStart s.ctx bank = true) :
    exec (.stepBoundary bank) s = .next (s.withDev (((s.dev.modBank bank Bank.relaxed).payStep s.ctx bank).takeStep s.ctx bank)) := by
  have hask : (s.dev.modBank bank Bank.relaxed).askStep s.ctx bank = ((s.dev.modBank bank Bank.relaxed).payStep s.ctx bank).takeStep s.ctx bank :=
    askStep_starts hw hm
  refine (devStep_run _ s hs).trans ?_
  rw [doStepBoundary_idleAt s.ctx h ht hin hgo hwait, hask]

theorem exec_triggerRulesRelease (hs : s.running = true) (hg : s.dev.governed (bank / 768) = false)
    (hw : (s.dev.stack (bank / 768)).waiting = [bank]) (hc : s.dev.stepClass s.ctx bank < 8) (hgo : s.dev.stopping bank = false)
    (hm : s.dev.mayStart s.ctx bank = true) : ∃ u, exec (.triggerRulesRelease (bank / 768) (bank % 768 / 24)) s =
      .next (s.withDev (((s.dev.setUnits u).payStep s.ctx bank).takeStep s.ctx bank)) := by
  obtain ⟨u, hu⟩ := grantWaiting_one (which := fun b => b % 768 / 24 == bank % 768 / 24) hw (beq_self_eq_true _) hc hgo hm
  refine ⟨u, (devStep_run _ s hs).trans ?_⟩
  unfold doTriggerRulesRelease
  rw [hg, if_neg Bool.false_ne_true, hu]

theorem exec_refreshDue_inStep (hs : s.running = true) (hr : (s.dev.bank bank).run = some r) (hin : r.inStep = true)
    (hrefr : (s.dev.bank bank).refreshes < 8) :
    exec (.refreshDue bank) s = .next (s.withDev (s.dev.modBank bank fun b => { b with refreshes := b.refreshes + 1 })) := by
  refine (devStep_run _ s hs).trans ?_
  unfold doRefreshDue
  simp [hr, hin, hrefr]

theorem exec_refreshDue_idle (hs : s.running = true) (hr : (s.dev.bank bank).run = none) (ha : (s.dev.bank bank).accesses = [])
    (hq : (s.dev.bank bank).quiet = []) (hsh : (s.dev.bank bank).shadow = []) : exec (.refreshDue bank) s =
      .next (s.withDev ((s.dev.modBank bank fun b => { b with refreshes := b.refreshes + 1 }).modBank bank Bank.rested)) := by
  refine (devStep_run _ s hs).trans ?_
  unfold doRefreshDue
  rw [hr]
  dsimp only
  rw [serveBank_rests (by simpa using ha) (by simpa using hq), restamp_of_no_shadow (by simpa using hsh), ite_self]

end

/-- The record of a stack in service at a window of the governor's, where none waits (R204). -/
def Stack.windowed (temps : List Nat) (budget : Nat) (k : Stack) : Stack :=
  { k with temps := temps, lastBudget := k.budget, budget := budget, remaining := budget, hot := false }

theorem modStack_modStack (d : Dev) (n : Nat) (f g : Stack → Stack) : (d.modStack n f).modStack n g = d.modStack n (g ∘ f) := by
  simp only [modStack_eq, setUnits_setUnits]
  exact congrArg d.setUnits (List.modify_modify_eq f g n d.banks.units)

theorem thermalHold_governed {d : Dev} {n : Nat} (h : d.governed n = true) (hottest : Nat) :
    d.thermalHold n hottest = d.modStack n fun k => { k with hot := false } := by
  simp [Dev.thermalHold, h]

theorem exec_governorWindow {s : State} {stack : Nat} {temps : List Nat} (hs : s.running = true) (hnow : s.time.count % 100 = 0)
    (hstate : (s.dev.stack stack).state = 0) (hg : s.dev.governed stack = true) (hw : (s.dev.stack stack).waiting = [])
    (hlen : stack < s.dev.banks.units.length) : ∃ f : Stack → Stack,
      exec (.governorWindow stack temps) s = .next (s.withDev (s.dev.modStack stack f)) ∧
      f (s.dev.stack stack) = (s.dev.stack stack).windowed temps (governorBudget (s.dev.stackCfg stack 0x2406) (temps.foldl max 0)) := by
  let budget := governorBudget (s.dev.stackCfg stack 0x2406) (temps.foldl max 0)
  let g := Stack.windowed temps budget
  have hin : ((s.dev.modStack stack g).stack stack).waiting = [] := by rw [stack_modStack_self hlen]; exact hw
  have hwindow : doGovernorWindow stack temps s.ctx s.dev = (s.dev.modStack stack g).grantWaiting s.ctx stack fun _ => true := by
    have hgoverned (f : Stack → Stack) : (s.dev.modStack stack f).governed stack = true := hg
    have hnow' : s.ctx.now % 100 = 0 := hnow
    unfold doGovernorWindow
    simp only [hnow', hstate, hgoverned, modStack_modStack, thermalHold_governed]
    rfl
  refine ⟨Stack.keepWaiting ((s.dev.modStack stack g).staysWaiting s.ctx fun _ => true) ∘ g, (devStep_run _ s hs).trans ?_, ?_⟩
  · rw [hwindow, grantWaiting_none hin, modStack_modStack]
  · simp [g, budget, Stack.keepWaiting, Stack.windowed, hw]

/-- Settles O21: a step asked for or granted is paid for and taken; a refresh is counted or issued; the window gives its stack the budget. -/
theorem stepsAreTakenInWindows : Obligations.StepsAreTakenInWindows := by
  refine ⟨?_, ?_⟩
  · intro s bank r t b k idle taken hs
    have htaken {e : Dev} (hkeeps : s.dev.keepsButBanks e) (hy : e.yields s.ctx bank = false) (hr : (e.bank bank).run = some r)
        (hrest : r.restoring = false) (hstream : r.engine.streamLeft = 0) (hsteps : (e.bank bank).steps = b.steps) :
        taken (s.withDev ((e.payStep s.ctx bank).takeStep s.ctx bank)) := by
      obtain ⟨hbanks, hrun, hcount⟩ := payStep_takeStep hkeeps s.ctx hy hr hrest hstream
      exact ⟨onlyBanks_withDev hbanks, hrun, hcount.trans (by rw [hsteps])⟩
    refine ⟨?_, ?_, ?_, ?_⟩
    · rintro ⟨hr, ht, hin, hrest, hcan, hfail, hstream, ha, hq, hsh, href, hy, hm⟩ hwait hw
      refine ⟨_, exec_stepBoundary hs ⟨hr, ha, hq, hsh, href⟩ ht hin (by simp [hcan, hfail]) hwait hw hm, ?_⟩
      exact htaken (Dev.keepsButBanks_setBanks s.dev.keepsButBanks_refl _) ((yields_relaxed ..).trans hy) (by rw [bank_modBank_self]; exact hr)
        hrest hstream (by rw [bank_modBank_self]; rfl)
    · rintro ⟨hr, ht, hin, hrest, hcan, hfail, hstream, ha, hq, hsh, href, hy, hm⟩ hg hw hcls hlen
      have hclass : s.dev.stepClass s.ctx bank = t.cls := by simp [Dev.stepClass, hy, b, hr, ht]
      have hgo : s.dev.stopping bank = false := by simp [Dev.stopping, b, hr, hcan, hfail]
      obtain ⟨u, hu⟩ := exec_triggerRulesRelease hs hg hw (hclass ▸ hcls) hgo hm
      exact ⟨_, hu, htaken (Dev.keepsButBanks_setBanks s.dev.keepsButBanks_refl _) hy hr hrest hstream rfl⟩
    · intro hr hin href
      exact ⟨_, exec_refreshDue_inStep hs hr hin href, onlyBanks_withDev (Dev.keepsButBanks_setBanks s.dev.keepsButBanks_refl _), bank_modBank_self ..⟩
    · intro hr ha hq hsh
      refine ⟨_, exec_refreshDue_idle hs hr ha hq hsh,
        onlyBanks_withDev (Dev.keepsButBanks_setBanks (Dev.keepsButBanks_setBanks s.dev.keepsButBanks_refl _) _), ?_⟩
      simp [State.withDev, Bank.rested]
  · intro s stack temps k budget hs hnow hlen hstate hg hw
    obtain ⟨f, hf, hk⟩ := exec_governorWindow hs hnow hstate hg hw hlen (temps := temps)
    exact ⟨_, hf, onlyBanks_withDev (Dev.keepsButBanks_setBanks s.dev.keepsButBanks_refl _), (stack_modStack_self hlen f).trans hk,
      fun n hn => stack_modStack_other hn s.dev f⟩

end Sys2Proof.Machine
end

section
/-! Ordinary accesses of T1 at an idle bank (R23, R191, R203, R208). -/

namespace Sys2Proof.Machine

/-! ### T1 bytes stored and read -/

/-- Memory with bytes stored at the addresses from `a` on, each where a map of addresses puts it. -/
def storeCells (key : Nat → Option Nat) (m : List Host.Cell) (a : Nat) : List Byte → List Host.Cell
  | [] => m
  | b :: bs => storeCells key (match key a with | some k => memPut m k b | none => m) (a + 1) bs

theorem t1Store_eq (d : Dev) (a : Nat) (bs : List Byte) : d.t1Store a bs = d.setMem (storeCells d.t1Key d.mem a bs) := by
  induction bs generalizing d a with
  | nil => rfl
  | cons b bs ih =>
    rw [Dev.t1Store, ih]
    cases hk : d.t1Key a with
    | none => simp only [storeCells, hk]
    | some k =>
      simp only [storeCells, hk]
      rfl

/-- A key at which none of the bytes is stored keeps its byte. -/
theorem memGet_storeCells_other {key : Nat → Option Nat} {m : List Host.Cell} {a k : Nat} {bs : List Byte} (hm : Memory.wf m = true)
    (h : ∀ i < bs.length, key (a + i) ≠ some k) : memGet (storeCells key m a bs) k = memGet m k := by
  induction bs generalizing m a with
  | nil => rfl
  | cons b bs ih =>
    have hrest : ∀ i < bs.length, key (a + 1 + i) ≠ some k := fun i hi => by
      have hi' := h (i + 1) (by simpa using hi)
      rwa [show a + (i + 1) = a + 1 + i by omega] at hi'
    rw [storeCells]
    split
    · next x hx =>
      have hxk : k ≠ x := by
        rintro rfl
        exact h 0 (by simp) hx
      rw [ih (memPut_wf _ _ hm) hrest, memGet_memPut _ _ _ hm, if_neg hxk]
    · exact ih hm hrest

@[simp] theorem t1Key_setBanks (d : Dev) (b : Banks) : (d.setBanks b).t1Key = d.t1Key := rfl

@[simp] theorem t1Key_setUpdates (d : Dev) (u : Updates) : (d.setUpdates u).t1Key = d.t1Key := rfl

theorem t1Read_congr {d e : Dev} (hk : e.t1Key = d.t1Key) (hm : e.mem = d.mem) (a n : Nat) : e.t1Read a n = d.t1Read a n := by
  induction n generalizing a with
  | zero => rfl
  | succ n ih => rw [Dev.t1Read, Dev.t1Read, ih, hk, hm]

@[simp] theorem t1Read_setBanks (d : Dev) (b : Banks) (a n : Nat) : (d.setBanks b).t1Read a n = d.t1Read a n :=
  t1Read_congr (t1Key_setBanks d b) (Dev.setBanks_mem d b) a n

@[simp] theorem t1Read_setUpdates (d : Dev) (u : Updates) (a n : Nat) : (d.setUpdates u).t1Read a n = d.t1Read a n :=
  t1Read_congr (t1Key_setUpdates d u) (Dev.setUpdates_mem d u) a n

/-! ### What a realm may reach -/

/-- Every GiB of a range that a realm may access is one that it may access. -/
theorem pieceStatus_of_windowStatus {d : Dev} {realm a len p : Nat} (h : d.windowStatus realm a len = stOk) (hlen : 0 < len) (hp : p ∈ piecesOf a len) :
    d.pieceStatus realm p = stOk := by
  unfold Dev.windowStatus at h
  rw [if_neg hlen.ne'] at h
  cases hf : ((piecesOf a len).map (d.pieceStatus realm)).find? (· != stOk) with
  | none => simpa using List.find?_eq_none.1 hf _ (List.mem_map_of_mem hp)
  | some st =>
    rw [hf] at h
    have hne := List.find?_some hf
    simp_all

theorem pieceStatus_outside {d : Dev} {realm a : Nat} (h1 : inT1 a = false) (h2 : inT2 a = false) : d.pieceStatus realm a = stViolation := by
  simp [Dev.pieceStatus, h1, h2]

/-- A range that a realm may access and that does not begin in T2 begins in T1. -/
theorem inT1_of_windowStatus {d : Dev} {realm a len : Nat} (h : d.windowStatus realm a len = stOk) (hlen : 0 < len) (h2 : inT2 a = false) :
    inT1 a = true := by
  have hne : stViolation ≠ stOk := by decide
  by_cases htop : 2 ^ 47 < a + len
  · have hp : 2 ^ 48 ∈ piecesOf a len := by
      rw [piecesOf, if_pos htop]
      exact List.mem_singleton_self _
    exact absurd ((pieceStatus_outside (by decide) (by decide)).symm.trans (pieceStatus_of_windowStatus h hlen hp)) hne
  · have hp : a ∈ piecesOf a len := by
      rw [piecesOf, if_neg htop]
      exact List.mem_map.2 ⟨0, by simp, rfl⟩
    by_contra h1
    exact hne ((pieceStatus_outside (by simpa using h1) h2).symm.trans (pieceStatus_of_windowStatus h hlen hp))

theorem windowStatus_of_checkWrite {d e : Dev} {realm a len : Nat} (h : d.checkWrite realm a len = (stOk, e)) : d.windowStatus realm a len = stOk := by
  have hst : d.writeStatus realm a len = stOk := congrArg Prod.fst h
  unfold Dev.writeStatus at hst
  by_contra hne
  rw [if_pos (by simpa using hne)] at hst
  exact hne hst

/-- A row of 256 bytes that begins in T1 lies in T1. -/
theorem inT1_of_same_row {a b : Nat} (h : inT1 a = true) (hrow : b / 256 = a / 256) : inT1 b = true := by
  unfold inT1 stackBytes at *
  rw [decide_eq_true_eq] at *
  omega

/-! ### One access at an idle bank -/

theorem accessPieces_one {a : OrdAccess} (hlen : 0 < a.len) (hrow : a.addr / 256 = (a.addr + a.len - 1) / 256) :
    accessPieces a = [{ a with data := a.data.map fun bs => bs.take a.len }] := by
  have hcut : cutAt 256 a.addr a.len = [(a.addr, a.len)] := by
    have hhi : a.addr + a.len ≤ (a.addr / 256 + 1) * 256 := by omega
    simp [cutAt, hlen.ne', ← hrow, Nat.div_mul_le_self, hhi]
  simp [accessPieces, hcut]

/-- Does a bank run nothing, keep no access waiting, and let accesses through? -/
def Bank.atRest (b : Bank) : Prop := b.run = none ∧ b.accesses = [] ∧ b.quiet = [] ∧ b.state ≠ .pimExclusive

theorem restamp_eq (c : Ctx) (d : Dev) (bank : Nat) : ∃ u, d.restamp c bank = d.setUpdates u := by
  unfold Dev.restamp
  dsimp only
  split <;> exact ⟨_, rfl⟩

theorem spendUnits_eq (d : Dev) (stack n : Nat) : ∃ u, d.spendUnits stack n = d.setUnits u := by
  unfold Dev.spendUnits
  split <;> exact ⟨_, rfl⟩

/-- An access at a bank at rest is served at once. -/
theorem bankAccess_atRest {d : Dev} {bank : Nat} (h : (d.bank bank).atRest) (c : Ctx) (a : OrdAccess) : ∃ b u f,
    d.bankAccess c bank a = (((d.setBanks b).setUpdates u).serveAccess bank a).modBank bank f := by
  obtain ⟨hrun, ha, hq, hstate⟩ := h
  let e := d.modBank bank fun b => { b with accesses := b.accesses ++ [a], firstWait := if b.waits then b.firstWait else c.now }
  have he : e.bank bank = { d.bank bank with accesses := [a], firstWait := if (d.bank bank).waits then (d.bank bank).firstWait else c.now } := by
    simp [e, ha]
  obtain ⟨u, hu⟩ := restamp_eq c e bank
  have hserve : d.bankAccess c bank a = e.serveBank c bank := by
    unfold Dev.bankAccess
    dsimp only
    rw [bank_modBank_self, hrun]
  have hlets : (d.bank bank).state != .pimExclusive := by simpa using hstate
  rw [hserve]
  unfold Dev.serveBank
  simp only [he, hq, hlets, hu, Bool.true_or, if_true, List.foldl_cons, List.foldl_nil, List.isEmpty_nil]
  exact ⟨e.banks, u, _, rfl⟩

/-- A write at a bank at rest: its bytes are stored, and nothing is sent. -/
theorem bankAccess_writes {d : Dev} {bank : Nat} (h : (d.bank bank).atRest) (c : Ctx) {a : OrdAccess} {bs : List Byte} (hdata : a.data = some bs) :
    (d.bankAccess c bank a).mem = storeCells d.t1Key d.mem a.addr bs ∧ (d.bankAccess c bank a).out = d.out ∧
    (d.bankAccess c bank a).hostMem = d.hostMem ∧ (d.bankAccess c bank a).tiers = d.tiers := by
  obtain ⟨b, u, f, hserve⟩ := bankAccess_atRest h c a
  obtain ⟨v, hspend⟩ := spendUnits_eq ((d.setBanks b).setUpdates u) (bank / 768) (rowUnits a.addr a.len)
  rw [hserve, Dev.serveAccess]
  simp [hdata, hspend, t1Store_eq, Dev.modBank, Dev.setUnits]

/-- A read at a bank at rest: its bytes are sent, and nothing is stored. -/
theorem bankAccess_reads {d : Dev} {bank : Nat} (h : (d.bank bank).atRest) (c : Ctx) {a : OrdAccess} (hdata : a.data = none) :
    (d.bankAccess c bank a).mem = d.mem ∧ (d.bankAccess c bank a).out = .readData a.source a.sourceId a.addr (d.t1Read a.addr a.len) :: d.out ∧
    (d.bankAccess c bank a).hostMem = d.hostMem ∧ (d.bankAccess c bank a).tiers = d.tiers := by
  obtain ⟨b, u, f, hserve⟩ := bankAccess_atRest h c a
  obtain ⟨v, hspend⟩ := spendUnits_eq ((d.setBanks b).setUpdates u) (bank / 768) (rowUnits a.addr a.len)
  rw [hserve, Dev.serveAccess]
  simp [hdata, hspend, Dev.modBank, Dev.setUnits, Dev.send]

/-! ### Errors corrected -/

/-- A bank at which one more corrected error is counted. -/
def Bank.corrects (b : Bank) : Bank := { b with corrected := satAdd 32 b.corrected 1 }

theorem countColumn_cases (d : Dev) (a : OrdAccess) (i : Nat) : d.countColumn a i = d ∨ ∃ m, d.countColumn a i = d.modBank m Bank.corrects := by
  unfold Dev.countColumn
  split
  · exact .inr ⟨_, rfl⟩
  · exact .inl rfl

/-- A column's corrected error is counted at its bank and changes nothing else that an access depends on. -/
theorem countColumn_leaves {d e : Dev} {n : Nat} (h : (∃ b, e = d.setBanks b) ∧ (e.bank n).atRest) (a : OrdAccess) (i : Nat) :
    (∃ b, e.countColumn a i = d.setBanks b) ∧ ((e.countColumn a i).bank n).atRest := by
  rcases countColumn_cases e a i with hc | ⟨m, hc⟩ <;> rw [hc]
  · exact h
  · obtain ⟨⟨b, rfl⟩, hrest⟩ := h
    exact ⟨⟨_, rfl⟩, (bank_modBank_keeps (g := Bank.atRest) (f := Bank.corrects) (fun _ => rfl) _ m n).mpr hrest⟩

theorem foldl_countColumn_leaves {d e : Dev} {n : Nat} (a : OrdAccess) (l : List Nat) (h : (∃ b, e = d.setBanks b) ∧ (e.bank n).atRest) :
    (∃ b, l.foldl (fun d i => d.countColumn a i) e = d.setBanks b) ∧ ((l.foldl (fun d i => d.countColumn a i) e).bank n).atRest := by
  induction l generalizing e with
  | nil => exact h
  | cons i l ih => exact ih (countColumn_leaves h a i)

/-! ### The obligation -/

theorem doOrdinaryAccess_write {d : Dev} {a : OrdAccess} {bs : List Byte} (hcap : a.capsule = none) (hdata : a.data = some bs)
    (hcheck : d.checkWrite a.realm a.addr a.len = (stOk, d)) (corrected : List Nat) (c : Ctx) :
    doOrdinaryAccess a corrected c d = d.routeAccess c a corrected := by
  unfold doOrdinaryAccess
  simp only [hcap, hdata, hcheck, if_true]

theorem doOrdinaryAccess_read {d : Dev} {a : OrdAccess} (hcap : a.capsule = none) (hdata : a.data = none)
    (hcheck : d.checkRead a.realm a.addr a.len = (stOk, d)) (corrected : List Nat) (c : Ctx) :
    doOrdinaryAccess a corrected c d = d.routeAccess c a corrected := by
  unfold doOrdinaryAccess
  simp only [hcap, hdata, hcheck, if_true]

/-- An access that its realm may make reaches its bank, at which errors in its columns have been counted. -/
theorem exec_ordinaryAccess {s : State} {a : OrdAccess} (hs : s.running = true)
    (h2 : inT2 a.addr = false) (hscrub : s.dev.accessScrubbed a = false) (hlen : 0 < a.len) (hrow : a.addr / 256 = (a.addr + a.len - 1) / 256)
    (hdata : a.data.map (fun bs => bs.take a.len) = a.data) (hrest : (s.dev.bank (s.dev.bankOf a.addr)).atRest)
    {corrected : List Nat} (hroute : doOrdinaryAccess a corrected s.ctx s.dev = s.dev.routeAccess s.ctx a corrected) : ∃ b, ((s.dev.setBanks b).bank (s.dev.bankOf a.addr)).atRest ∧
      exec (.ordinaryAccess a corrected) s = .next (s.withDev ((s.dev.setBanks b).bankAccess s.ctx (s.dev.bankOf a.addr) a)) := by
  have hpieces : accessPieces a = [a] := by rw [accessPieces_one hlen hrow, hdata]
  obtain ⟨⟨b, hb⟩, hatRest⟩ := foldl_countColumn_leaves (d := s.dev) (e := s.dev) a corrected ⟨⟨_, rfl⟩, hrest⟩
  refine ⟨b, hb ▸ hatRest, (devStep_run _ s hs).trans ?_⟩
  have hbankOf : (s.dev.setBanks b).bankOf a.addr = s.dev.bankOf a.addr := rfl
  rw [hroute, Dev.routeAccess]
  simp only [h2, hscrub, Bool.false_eq_true, if_false, hpieces, List.foldl_cons, List.foldl_nil, hb, hbankOf]

/-- Settles O22: the access is one piece of one bank, which serves it at once. -/
theorem ordinaryAccessesReachMemory : Obligations.OrdinaryAccessesReachMemory := by
  intro s a bs corrected hs hcap h2 hscrub hlen hrow hrest
  refine ⟨fun hdata hbs hcheck => ?_, fun hdata hcheck => ?_⟩
  · obtain ⟨b, hatRest, hexec⟩ := exec_ordinaryAccess hs h2 hscrub hlen hrow (by simp [hdata, ← hbs]) hrest
      (doOrdinaryAccess_write hcap hdata hcheck corrected s.ctx)
    obtain ⟨hmem, hout, hhost, htiers⟩ := bankAccess_writes hatRest s.ctx hdata
    have hstored : (s.dev.t1Store a.addr bs).mem = storeCells s.dev.t1Key s.dev.mem a.addr bs := by rw [t1Store_eq]; rfl
    refine ⟨_, hexec, hmem.trans hstored.symm, hout, hhost, htiers, fun hok k hk => (congrArg (memGet · k) hmem).trans ?_⟩
    have hwf : Memory.wf s.dev.mem = true := by
      simp only [State.memoryOk, Bool.and_eq_true] at hok
      obtain ⟨⟨⟨hwf, -⟩, -⟩, -⟩ := hok
      exact hwf
    have hin : inT1 a.addr = true := inT1_of_windowStatus (windowStatus_of_checkWrite hcheck) hlen h2
    refine memGet_storeCells_other hwf fun i hi => ?_
    have hbyte := hk i (hbs ▸ hi)
    rwa [Dev.byteKey, inT1_of_same_row hin (by omega), if_pos rfl] at hbyte
  · obtain ⟨b, hatRest, hexec⟩ := exec_ordinaryAccess hs h2 hscrub hlen hrow (by rw [hdata]; rfl) hrest
      (doOrdinaryAccess_read hcap hdata hcheck corrected s.ctx)
    obtain ⟨hmem, hout, hhost, htiers⟩ := bankAccess_reads hatRest s.ctx hdata
    rw [t1Read_setBanks] at hout
    exact ⟨_, hexec, hmem, hhost, htiers, hout⟩

end Sys2Proof.Machine
end

section
/-! Commands that store nothing (R172, R188, R600, R603): each part of the device that they change lies outside the memories. -/

namespace Sys2Proof.Machine

/-! ### The memories -/

/-- The bytes that a device keeps: T1 and T0, host memory, the homes of T2 and its cache. -/
def Dev.storage (d : Dev) : List Host.Cell × List Host.Cell × List Host.Cell × List Host.Cell := (d.mem, d.hostMem, d.tiers.home, d.tiers.cache)

/-- A command of the device that keeps the memories keeps every byte of them. -/
theorem sameMemory_of_devStep {f : Ctx → Dev → Dev} (h : ∀ c d, (f c d).storage = d.storage) {s t : State} (ht : devStep f s = .next t) :
    s.sameMemory t := by
  have hstorage : t.dev.storage = s.dev.storage := by
    cases hs : s.running with
    | false =>
      rw [devStep_stopped f s hs] at ht
      cases ht
      rfl
    | true =>
      rw [devStep_run f s hs] at ht
      cases ht
      exact h ..
  simp only [Dev.storage, Prod.mk.injEq] at hstorage
  obtain ⟨hmem, hhost, hhome, hcache⟩ := hstorage
  exact ⟨fun a => by rw [hmem], fun a => by rw [hhost], fun a => by rw [hhome], fun a => by rw [hcache]⟩

theorem storage_foldl {α : Type} {f : Dev → α → Dev} (h : ∀ d a, (f d a).storage = d.storage) (l : List α) (d : Dev) :
    (l.foldl f d).storage = d.storage := by
  induction l generalizing d with
  | nil => rfl
  | cons a l ih => exact (ih _).trans (h d a)

section
variable (d : Dev)

@[simp] theorem storage_setPins (x) : (d.setPins x).storage = d.storage := rfl
@[simp] theorem storage_setBoot (x) : (d.setBoot x).storage = d.storage := rfl
@[simp] theorem storage_setSensors (x) : (d.setSensors x).storage = d.storage := rfl
@[simp] theorem storage_setOculus (x) : (d.setOculus x).storage = d.storage := rfl
@[simp] theorem storage_setDict (x) : (d.setDict x).storage = d.storage := rfl
@[simp] theorem storage_setKeep (x) : (d.setKeep x).storage = d.storage := rfl
@[simp] theorem storage_setBanks (x) : (d.setBanks x).storage = d.storage := rfl
@[simp] theorem storage_setFlash (x) : (d.setFlash x).storage = d.storage := rfl
@[simp] theorem storage_send (x) : (d.send x).storage = d.storage := rfl
@[simp] theorem storage_modPort (p f) : (d.modPort p f).storage = d.storage := rfl
@[simp] theorem storage_modFn (p n f) : (d.modFn p n f).storage = d.storage := rfl
@[simp] theorem storage_modLink (l f) : (d.modLink l f).storage = d.storage := rfl
@[simp] theorem storage_modScan (k n f) : (d.modScan k n f).storage = d.storage := rfl
@[simp] theorem storage_stepEnds (c n) : (d.stepEnds c n).storage = d.storage := rfl
@[simp] theorem storage_interrupt (p n v) : (d.interrupt p n v).storage = d.storage := rfl
@[simp] theorem storage_flushEvents : d.flushEvents.storage = d.storage := rfl
@[simp] theorem storage_closeSession (p n) : (d.closeSession p n).storage = d.storage := rfl
@[simp] theorem storage_modBlock (k f) : (d.modBlock k f).storage = d.storage := rfl
@[simp] theorem storage_beginRead (o) : (d.beginRead o).storage = d.storage := rfl

@[simp] theorem storage_event (c code sev realm w0 w1 w2) : (d.event c code sev realm w0 w1 w2).storage = d.storage := by
  unfold Dev.event
  dsimp only
  split <;> rfl

end

/-! ### Links, ports, sessions and sensors -/

theorem storage_readyChanges (d : Dev) : d.readyChanges.storage = d.storage := by
  have herror (e : Dev) (p n : Nat) : (e.errorVector p n).storage = e.storage := rfl
  unfold Dev.readyChanges
  exact storage_foldl (fun e p => storage_foldl (fun e n => herror e p n) _ e) _ d

theorem storage_doOperational (c : Ctx) (d : Dev) : (doOperational c d).storage = d.storage := by
  unfold doOperational
  split
  · rfl
  · simp [storage_readyChanges]

theorem storage_doPcieLinkUp (port width speed : Nat) (common : Bool) (c : Ctx) (d : Dev) :
    (doPcieLinkUp port width speed common c d).storage = d.storage := by
  unfold doPcieLinkUp
  split
  · rfl
  · have hchosen : (if common then (0, d) else d.choose 2).2.storage = d.storage := by cases common <;> rfl
    generalize (if common then (0, d) else d.choose 2) = chosen at hchosen
    obtain ⟨k, e⟩ := chosen
    dsimp only at hchosen ⊢
    split <;> simp [hchosen]

theorem storage_doThermtrip (sensor : Nat) (c : Ctx) (d : Dev) : (doThermtrip sensor c d).storage = d.storage := by
  unfold doThermtrip
  dsimp only
  split <;> simp

theorem storage_doPmbusPoll (slot word : Nat) (c : Ctx) (d : Dev) : (doPmbusPoll slot word c d).storage = d.storage := by
  unfold doPmbusPoll
  dsimp only
  split
  · rfl
  · split <;> simp

theorem storage_doHdapSessionIdle (path number : Nat) (c : Ctx) (d : Dev) : (doHdapSessionIdle path number c d).storage = d.storage := by
  unfold doHdapSessionIdle
  split
  · rfl
  · split <;> simp

theorem storage_doSessionCounterLimit (path number : Nat) (c : Ctx) (d : Dev) : (doSessionCounterLimit path number c d).storage = d.storage := by
  unfold doSessionCounterLimit
  split
  · rfl
  · split <;> simp

theorem storage_doGenerationHoldRelease (kind number : Nat) (c : Ctx) (d : Dev) : (doGenerationHoldRelease kind number c d).storage = d.storage := by
  unfold doGenerationHoldRelease
  split
  · rfl
  · split <;> simp

theorem storage_doCoalescingTimer (port function ring : Nat) (c : Ctx) (d : Dev) : (doCoalescingTimer port function ring c d).storage = d.storage := by
  unfold doCoalescingTimer
  dsimp only
  split <;> simp

theorem storage_doKeepalive (link : Nat) (c : Ctx) (d : Dev) : (doKeepalive link c d).storage = d.storage := by
  unfold doKeepalive
  split <;> simp

theorem storage_doFecUncorrectable (link corrected : Nat) (c : Ctx) (d : Dev) : (doFecUncorrectable link corrected c d).storage = d.storage := by
  unfold doFecUncorrectable
  split <;> simp

theorem storage_doLinkTrainingComplete (link lanes : Nat) (c : Ctx) (d : Dev) : (doLinkTrainingComplete link lanes c d).storage = d.storage := by
  unfold doLinkTrainingComplete
  dsimp only
  split
  · rfl
  · split <;> simp

theorem storage_doGeneratorHealthFailure (c : Ctx) (d : Dev) : (doGeneratorHealthFailure c d).storage = d.storage := by
  simp [doGeneratorHealthFailure]

theorem storage_doThresholdReceive (stack capsule desc : Nat) (c : Ctx) (d : Dev) : (doThresholdReceive stack capsule desc c d).storage = d.storage := by
  unfold doThresholdReceive
  split
  · rfl
  · split <;> simp

/-! ### Flash -/

theorem storage_onfi (d : Dev) (lun : Nat) (l : List Onfi) : (d.onfi lun l).storage = d.storage := by
  unfold Dev.onfi
  exact storage_foldl (fun e x => storage_send e (.onfi lun x)) l d

theorem storage_suspend (d : Dev) (p : FlashOp) (c0 : Bool) : (d.suspend p c0).storage = d.storage := by
  unfold Dev.suspend
  dsimp only
  split <;> simp [storage_onfi]

theorem storage_serveLun (d : Dev) (lun : Nat) : (d.serveLun lun).storage = d.storage := by
  unfold Dev.serveLun
  split
  · rfl
  · dsimp only
    split
    · rfl
    · split
      · simp
      · split <;> simp [storage_suspend]

theorem storage_abortSlice (d : Dev) (which : Nat → Bool) : (d.abortSlice which).storage = d.storage := by
  unfold Dev.abortSlice
  split
  · split
    · unfold Dev.widen
      split <;> simp
    · rfl
  · rfl

theorem storage_startOp (d : Dev) (use : OpFor) (block index : Nat) (c0 : Bool) : (d.startOp use block index c0).storage = d.storage := by
  unfold Dev.startOp
  dsimp only
  split <;> simp [storage_serveLun, storage_abortSlice, storage_onfi]

theorem storage_rootDirty (d : Dev) : d.rootDirty.storage = d.storage := by
  have herase (e : Dev) (k : Nat) : (e.beginErase k).storage = e.storage := by simp [Dev.beginErase, storage_startOp]
  unfold Dev.rootDirty
  split
  · rw [storage_foldl herase, storage_setFlash]
  · rfl

theorem storage_programPage (d : Dev) (key : Nat) (o : OpenBlock) (collect : Bool) : (d.programPage key o collect).storage = d.storage := by
  unfold Dev.programPage Dev.startProgram Dev.setBuffer Dev.withBuffers
  cases collect <;> simp [storage_startOp, storage_rootDirty]

theorem storage_doCoalescingWindow (volume channel : Nat) (c : Ctx) (d : Dev) : (doCoalescingWindow volume channel c d).storage = d.storage := by
  have hstep (e : Dev) (o : Option OpenBlock) (p : OpenBlock → Bool) (key : Nat) (collect : Bool) :
      (match o with | some o => if p o then e.programPage key o collect else e | none => e).storage = e.storage := by
    split
    · split <;> simp [storage_programPage]
    · rfl
  exact (hstep ..).trans (hstep ..)

/-! ### Instructions of a bank engine -/

/-- What an instruction keeps whenever it is issued, its command keeps. -/
theorem storage_issue {bank word : Nat} {f : Ctx → Dev → Trigger → BankRun → Dev} (h : ∀ c d t r, (f c d t r).storage = d.storage) (c : Ctx) (d : Dev) :
    (issue bank word f c d).storage = d.storage := by
  unfold issue
  split
  · rfl
  · split
    · rfl
    · split
      · exact h ..
      · rfl

theorem storage_issueOn (bank word : Nat) (f : Trigger → Engine → Engine) (c : Ctx) (d : Dev) : (issueOn bank word f c d).storage = d.storage := by
  unfold issueOn
  exact storage_issue (fun _ _ _ _ => by rfl) c d

theorem storage_issueBranch (bank word tgt : Nat) (taken : Engine → Bool) (f : Engine → Engine) (c : Ctx) (d : Dev) :
    (issueBranch bank word tgt taken f c d).storage = d.storage := by
  unfold issueBranch
  exact storage_issue (fun _ _ _ _ => by rfl) c d

/-! ### The obligation -/

/-- Settles O9: what each of the commands does, where the device runs, keeps the memories; where it does not, nothing happens. -/
theorem commandsThatStoreNothing : Obligations.CommandsThatStoreNothing := by
  intro i s t hi ht
  unfold storesNothing at hi
  split at hi
  case h_38 => exact absurd hi Bool.false_ne_true
  -- Links, pins, sensors and sessions.
  case h_1 => exact sameMemory_of_devStep (storage_doPcieLinkUp _ _ _ _) ht
  case h_2 => exact sameMemory_of_devStep storage_doOperational ht
  case h_3 => exact sameMemory_of_devStep (f := doCupolaReloadComplete) (fun _ _ => rfl) ht
  case h_4 => exact sameMemory_of_devStep (storage_doThermtrip _) ht
  case h_5 => exact sameMemory_of_devStep (storage_doPmbusPoll _ _) ht
  case h_6 => exact sameMemory_of_devStep (storage_doHdapSessionIdle _ _) ht
  case h_7 => exact sameMemory_of_devStep (storage_doGenerationHoldRelease _ _) ht
  case h_8 => exact sameMemory_of_devStep (storage_doCoalescingTimer _ _ _) ht
  case h_9 => exact sameMemory_of_devStep (storage_doThresholdReceive _ _ _) ht
  case h_10 => exact sameMemory_of_devStep (f := doQuerySlotHold _) (fun _ _ => rfl) ht
  case h_30 => exact sameMemory_of_devStep (storage_doCoalescingWindow _ _) ht
  case h_31 => exact sameMemory_of_devStep (storage_doKeepalive _) ht
  case h_32 => exact sameMemory_of_devStep (storage_doFecUncorrectable _ _) ht
  case h_33 => exact sameMemory_of_devStep (storage_doLinkTrainingComplete _ _) ht
  case h_34 => exact sameMemory_of_devStep storage_doGeneratorHealthFailure ht
  case h_35 => exact sameMemory_of_devStep (storage_doSessionCounterLimit _ _) ht
  case h_36 => exact sameMemory_of_devStep (f := doManagementLinkUp) (fun _ _ => rfl) ht
  case h_37 => exact sameMemory_of_devStep (f := doManagementLinkDown) (fun _ _ => rfl) ht
  -- LOOP, BR and TSKIP.
  case h_12 | h_13 | h_26 => exact sameMemory_of_devStep (storage_issueBranch _ _ _ _ _) ht
  -- RED, CHK, TOPINS, TOPRD and TOPINSV draw free values.
  case h_22 | h_24 | h_27 | h_28 | h_29 => exact sameMemory_of_devStep (storage_issue fun _ _ _ _ => by rfl) ht
  -- Every other instruction changes its engine alone.
  all_goals exact sameMemory_of_devStep (storage_issueOn _ _ _) ht

end Sys2Proof.Machine
end

section
/-! Operators that run on empty inputs, and what any other operator leaves of them (*Zero values*, R219). -/

namespace Sys2Proof.Machine

/-- An operator that an empty input leaves without work writes the empty tensor to each of its outputs, as its conclusion names them. -/
theorem devStep_runOp_empty {s : State} {capsule desc : Nat} {d : Dev} {o : OpCtx} {is : Nat → Bool} (f : Ctx → Dev → OpCtx → OpResult × Dev)
    (h : s.operates capsule desc d o) (his : is o.word = true) (hempty : o.emptyInput = true)
    (hfill : (d.finishOp s.ctx o ((dcOuts o.word).map fun p => (p.2, ⟨[0, 1, 1, 1], []⟩)) .none).fillWait = false) :
    devStep (runOp is false f capsule desc) s =
      .next (s.ranOp capsule desc (d.finishOp s.ctx o ((dcOuts o.word).map fun p => (p.2, ⟨[0, 1, 1, 1], []⟩)) .none)) := by
  rw [devStep_run _ _ h.1, runOp_at s capsule desc d o is false f h his]
  simp only [hempty, Bool.not_false, Bool.and_self, if_true, hfill, Bool.false_eq_true, if_false]
  rfl

/-- BRANCH_IF, on any input. -/
theorem exec_branchIf {s : State} {capsule desc : Nat} {d : Dev} {o : OpCtx} (h : s.operates capsule desc d o) (hop : dcOp o.word = 0x40)
    (hfill : ((opBranch s.ctx d o).2.applyOp s.ctx o (opBranch s.ctx d o).1).fillWait = false) :
    exec (.branchIf capsule desc) s = .next (s.ranOp capsule desc ((opBranch s.ctx d o).2.applyOp s.ctx o (opBranch s.ctx d o).1)) :=
  devStep_runOp s capsule desc d o _ true opBranch h (beq_iff_eq.2 hop) (.inl rfl) hfill

/-- BARRIER, on any input, writes nothing and so waits for no memory. -/
theorem exec_barrier {s : State} {capsule desc : Nat} {d : Dev} {o : OpCtx} (h : s.operates capsule desc d o) (hop : dcOp o.word = 0x42) :
    exec (.barrier capsule desc) s = .next (s.ranOp capsule desc (d.finishOp s.ctx o [] .none)) :=
  devStep_runOp_done s capsule desc d o _ true _ [] .none d h (beq_iff_eq.2 hop) (.inl rfl) rfl (fun _ he => (List.not_mem_nil he).elim)
    (operates_fillWait h)

/-- Settles O24: a branch and a barrier run on whatever they read; any other operator leaves its work where an input is empty. -/
theorem controlAndEmptyOperators : Obligations.ControlAndEmptyOperators := by
  refine ⟨fun s capsule desc d o h => ⟨fun hop hfill => exec_branchIf h hop hfill, fun hop => exec_barrier h hop⟩, ?_⟩
  intro s capsule desc d o row nothing h hrow hsel hempty hfill
  have hwork : row.runsWork capsule desc := (List.mem_append.1 hrow).elim computeRows_runsWork dataRows_runsWork
  exact (hwork s).trans (devStep_runOp_empty row.work h hsel hempty hfill)

end Sys2Proof.Machine
end

section
/-! Loading a plan, starting its runs, unloading it (R231, R236, R247, R251). -/

namespace Sys2Proof.Machine

/-! ### Entries changed in place -/

/-- The entry of an updated key is the updated entry. -/
theorem tabGet_tabUpdate {α : Type} {k : Nat} {v : α} {t : Tab α} (h : tabGet k t = some v) (f : α → α) :
    tabGet k (tabUpdate k f t) = some (f v) := by
  induction t with
  | nil => cases h
  | cons e t ih =>
    obtain ⟨j, u⟩ := e
    by_cases hj : j = k
    · rw [tabGet, if_pos hj, Option.some.injEq] at h
      rw [tabUpdate, if_pos hj, tabGet, if_pos hj, h]
    · rw [tabGet, if_neg hj] at h
      rw [tabUpdate, if_neg hj, tabGet, if_neg hj, ih h]

/-- A changed plan is found under its handle. -/
theorem plan?_modPlan {d : Dev} {h : Nat} {p : Plan} (hp : d.plan? h = some p) (f : Plan → Plan) : (d.modPlan h f).plan? h = some (f p) :=
  tabGet_tabUpdate hp f

theorem plan?_modCapsule (d : Dev) (order : Nat) (f : Capsule → Capsule) (h : Nat) : (d.modCapsule order f).plan? h = d.plan? h := rfl

theorem capsule?_modPlan (d : Dev) (h : Nat) (f : Plan → Plan) (order : Nat) : (d.modPlan h f).capsule? order = d.capsule? order := rfl

/-- A capsule found by its number has that number. -/
theorem capsule?_order {d : Dev} {order : Nat} {cap : Capsule} (h : d.capsule? order = some cap) : cap.order = order := by
  simpa using List.find?_some h

/-- A change of a capsule that keeps its number is found under that number. -/
theorem capsule?_modCapsule {d : Dev} {order : Nat} {cap : Capsule} {f : Capsule → Capsule} (h : d.capsule? order = some cap)
    (hf : ∀ k, (f k).order = k.order) : (d.modCapsule order f).capsule? order = some (f cap) := by
  have hsame : ((fun k => k.order == order) ∘ fun k => if k.order = order then f k else k) = fun k : Capsule => k.order == order := by
    funext k
    by_cases hk : k.order = order <;> simp [hk, hf]
  calc (d.modCapsule order f).capsule? order
    _ = (d.capsule? order).map fun k => if k.order = order then f k else k := List.find?_map.trans (by rw [hsame]; rfl)
    _ = some (f cap) := by simp [h, capsule?_order h]

/-- What meets no memory that is being cleared is done. -/
theorem unlessFilling_done {d : Dev} {f : Dev → Dev} (h : (f (d.setFillWait false)).fillWait = false) (waits : Dev → Dev) :
    d.unlessFilling f waits = f (d.setFillWait false) := by
  simp [Dev.unlessFilling, h]

/-- The same of a capsule's own work. -/
theorem orClearing_done {d : Dev} {f : Dev → Dev} (order : Nat) (h : (f (d.setFillWait false)).fillWait = false) :
    d.orClearing order f = f (d.setFillWait false) :=
  unlessFilling_done h _

/-! ### Load (R231) -/

/-- An image that is read from its place, in a capsule of version 1, is loaded, and the capsule completes with the load's answer. -/
theorem loadPlanNow_loads {c : Ctx} {d e f : Dev} {order : Nat} {cap : Capsule} {bs : List Byte} {r : LoadResult}
    (hcap : d.capsule? order = some cap) (hversion : cap.version ≠ 2) (haligned : cap.field 191 128 % 128 = 0)
    (hread : d.bufRead cap (cap.field 257 256) (cap.field 191 128) (cap.field 255 192) = (0, bs, e))
    (hload : e.loadPlan cap.realm ⟨cap.field 255 192, ofLE bs⟩ = (r, f)) (hok : r.status = stOk) :
    loadPlanNow c order d = f.endPlain c order stOk r.reason r.handle := by
  have himage : e.loadImage c cap ⟨cap.field 255 192, ofLE bs⟩ = f.endPlain c order stOk r.reason r.handle := by
    simp only [Dev.loadImage, hversion, false_and, if_false, hload, hok, if_true, capsule?_order hcap]
  simp only [loadPlanNow, hcap, haligned, bne_self_eq_false, Bool.false_eq_true, if_false, hread, himage]

/-! ### Start of a run (R247–R251) -/

/-- A capsule that passes every check at instantiation begins its run. -/
theorem startInstance_begins {c : Ctx} {e d : Dev} {p : Plan} {cap : Capsule} {raw : List Nat} (hdamaged : p.damaged = false)
    (hgroups : ∀ g ∈ List.range (imGroups p.image), e.groupTiles p g ≠ []) (hargs : e.readArgs cap p.image = (0, raw, d))
    (hbindings : bindingsValid p.image raw = true) (hapart : outputsApart p.image (raw.map argOf) = true)
    (hshapes : d.boundShapesOk p.image cap.realm (raw.map argOf) = true) (hpanels : panelsAligned p.image (raw.map argOf) = true)
    (hinside : d.argOutside p.image cap.realm (raw.map argOf) = none) :
    e.startInstance c cap p = d.beginRun c cap p (raw.map argOf) := by
  have hserved : ((List.range (imGroups p.image)).any fun g => (e.groupTiles p g).isEmpty) = false :=
    List.any_eq_false.2 fun g hg => by simpa using hgroups g hg
  simp [Dev.startInstance, hdamaged, hserved, hargs, hbindings, hapart, hshapes, hpanels, hinside]

/-- With one capsule that may start and room for its run, that capsule starts. -/
theorem doInstanceStart_starts {c : Ctx} {d : Dev} {h : Nat} {p : Plan} {cap : Capsule} (hp : d.plan? h = some p)
    (hheads : d.startHeads c h p = [cap]) (hroom : (d.plans.runs.filter fun r => r.plan == h).length < imInflight p.image) :
    doInstanceStart h c d = (d.choose 1).2.unlessFilling (fun d => d.startInstance c cap p) fun d => d := by
  have hfirst : (d.choose 1).1 = 0 := Nat.mod_one _
  simp only [doInstanceStart, hp, hheads, List.isEmpty_cons, Bool.false_or, decide_eq_true_eq, Nat.not_le.2 hroom, if_false,
    List.length_cons, List.length_nil, Nat.zero_add, hfirst, List.getElem?_cons_zero]

/-! ### Unload (R236, R237) -/

/-- An unload by the plan's realm, or by the device, marks a plan that is not unloading yet. -/
theorem unloadPlan_marks {d : Dev} {realm h : Nat} {p : Plan} (hp : d.plan? h = some p) (hstate : p.state ≠ 2)
    (hrealm : realm = 0 ∨ p.realm = realm) : d.unloadPlan realm h = (stOk, d.modPlan h fun p => { p with state := 2 }) := by
  have hmay : ¬(p.state = 2 ∨ (realm != 0) = true ∧ (p.realm != realm) = true) := by
    rintro (h2 | ⟨h0, hne⟩)
    · exact hstate h2
    · exact hrealm.elim (by simpa using h0) (by simpa using hne)
  simp only [Dev.unloadPlan, hp, hmay, if_false]

/-- The capsule that asks waits among those that the unload completes. -/
theorem workPlanUnload_waits (c : Ctx) {d : Dev} {order : Nat} {cap : Capsule} {p : Plan} (hcap : d.capsule? order = some cap)
    (hp : d.plan? cap.plan = some p) (hstate : p.state ≠ 2) (hrealm : cap.realm = 0 ∨ p.realm = cap.realm) :
    workPlanUnload c d order = ((d.modPlan cap.plan fun p => { p with state := 2 }).modPlan cap.plan fun p =>
      { p with unloadWaiters := p.unloadWaiters ++ [order] }).modCapsule order fun k => { k with stage := .running } := by
  simp only [workPlanUnload, hcap, unloadPlan_marks hp hstate hrealm, bne_self_eq_false, Bool.false_eq_true, if_false]

/-- A plan marked for unload, with no run left, is gone and the capsules that asked complete. -/
theorem doPlanUnloadComplete_frees (c : Ctx) {d : Dev} {h : Nat} {p : Plan} (hp : d.plan? h = some p) (hstate : p.state = 2)
    (hidle : d.planIdle h = true) :
    doPlanUnloadComplete h c d = p.unloadWaiters.foldl (fun d k => d.endPlain c k stOk 0 0) (d.freePlan h) := by
  simp [doPlanUnloadComplete, hp, hstate, hidle]

/-- Settles O31, one clause each for the start of a run, the load, the end of an unload and its asking. -/
theorem plansStartAndEnd : Obligations.PlansStartAndEnd := by
  refine ⟨?_, fun c d e f order cap bs r hcap hversion haligned hread hload hok hfill => ?_,
    fun s h p hrun hp hstate hidle => ?_, fun c d order cap p hcap hp hstate hrealm => ?_⟩
  · intro s h p cap raw d e hrun hp hheads hroom hdamaged hgroups hargs hbindings hapart hshapes hpanels hinside hfill
    have hbegin : e.startInstance s.ctx cap p = d.beginRun s.ctx cap p (raw.map argOf) :=
      startInstance_begins hdamaged hgroups hargs hbindings hapart hshapes hpanels hinside
    have hstart : doInstanceStart h s.ctx s.dev = d.beginRun s.ctx cap p (raw.map argOf) := by
      rw [doInstanceStart_starts hp hheads hroom, unlessFilling_done (hbegin ▸ hfill)]
      exact hbegin
    exact (devStep_run _ s hrun).trans (by rw [hearing, hstart])
  · have hnow : loadPlanNow c order (d.setFillWait false) = f.endPlain c order stOk r.reason r.handle :=
      loadPlanNow_loads hcap hversion haligned hread hload hok
    exact (orClearing_done order (hnow ▸ hfill)).trans hnow
  · exact (devStep_run _ s hrun).trans (by rw [doPlanUnloadComplete_frees s.ctx hp hstate hidle])
  · rw [workPlanUnload_waits c hcap hp hstate hrealm]
    exact ⟨plan?_modPlan (plan?_modPlan hp _) _, capsule?_modCapsule hcap fun _ => rfl⟩

end Sys2Proof.Machine
end

section
/-! A draft tree stored for one sequence can take away another's pending token (R440, R441): memory whose cells are out of order holds bytes that
no read finds until a write takes out the cell in front of them. -/

namespace Sys2Proof.Machine

/-! ### When BUILD finds no root (R440) -/

/-- A sequence without a pending token has no root for its tree. -/
theorem buildAll_head_none {d : Dev} {k : Nat} {c : Column} (h : sqPending (d.seqHead k c.seq) = 0xFFFFFFFF) (drafts : List (List Nat))
    (l : List (Column × List (List Nat))) : (d.buildAll k ((c, drafts) :: l)).1 = none := by
  simp only [Dev.buildAll, h, if_true]

/-- The columns behind a tree are built on the device that holds it. -/
theorem buildAll_tail_none {d : Dev} {k root : Nat} {c : Column} {drafts : List (List Nat)} {l : List (Column × List (List Nat))}
    (hroot : sqPending (d.seqHead k c.seq) = root)
    (h : ((d.storeTree k c.seq (buildTree root drafts).1 (buildTree root drafts).2).buildAll k l).1 = none) :
    (d.buildAll k ((c, drafts) :: l)).1 = none := by
  rw [Dev.buildAll, hroot]
  split
  · rfl
  · dsimp only
    split
    next hrest => rw [hrest] at h; cases h
    next => rfl

/-- Each column with the drafts that the token tensor of a BUILD gives it. -/
def columnDrafts (t : Tensor) (cols : List Column) : List (Column × List (List Nat)) :=
  cols.mapIdx fun b c => (c, ((chunks 512 (t.elems.length + 1) t.elems).map fun b => (chunks 8 65 b).map draftTokens).getD b [])

/-- BUILD from tokens ends its capsule where a column has no root when its turn comes. -/
theorem opTreeBuild_rootless (c : Ctx) {d e : Dev} {o : OpCtx} {cols : List Column} (hopen : d.openTable o 1 none true = (stOk, cols, e))
    (htokens : dcPb o.word 17 = false)
    (h : ((e.inputD o 0).2.buildAll o.poolSlot (columnDrafts (e.inputD o 0).1 cols)).1 = none) :
    (opTreeBuild c d o).1 = .stops stBadArg := by
  rw [columnDrafts] at h
  simp only [opTreeBuild, hopen, htokens, bne_self_eq_false, Bool.false_and, Bool.false_eq_true, if_false]
  split
  next => rfl
  next hbuilt => rw [hbuilt] at h; cases h

/-! ### The device -/

/-- PENDING of sequence 0 (addresses 8 to 11) holds all ones behind a cell of a higher address, which lies in tree node 0 of sequence 1
(address 2048 + 256): memory that is not canonical (`Memory.wf`). -/
def maskedPending : List Host.Cell := [(2304, 1), (8, 0xFF), (9, 0xFF), (10, 0xFF), (11, 0xFF)]

/-- The configuration: region 0 of stack 0 is bank index 0, BANK_LINEAR; pool 0 has two sequences from address 0 on. -/
def twoSequences : Tab DictVal := [(entryKey 0x2420 1, ⟨4, 2 + 2 ^ 13⟩), (entryKey 0x3200 1, ⟨33, 2 * 2 ^ 144⟩)]

/-- Pool 0 serves, and capsule 0 has claimed both its sequences. -/
def bothClaimed : Kv := ⟨[(0, ⟨2, [], 0, 0, 0, 0, 0⟩)], [⟨0, 0, 0, 0, 0, 0, [], none⟩, ⟨0, 1, 0, 0, 0, 0, [], none⟩]⟩

/-- The device, with nothing else than after reset. -/
def maskedDevice : Dev :=
  { Dev.reset with dict := { Dev.reset.dict with cfg := twoSequences }, kv := bothClaimed, mem := maskedPending }

/-! ### The operation -/

/-- A page table column of WRITER with one step row. -/
def writerColumn (seq : Nat) : List Nat := [seq, 1, 1, 0] ++ List.replicate 11 0xFFFFFFFF ++ [0]

/-- A plan whose image gives no descriptor and no tensor record a bit. -/
def barePlan : Plan := ⟨1, 3, 1, ⟨1024, 0⟩, [1], [], [], 0, 0, 0, [0, 0, 0, 0], [], 0, [], [], false, []⟩

/-- A RUN capsule of that plan. -/
def buildingCapsule : Capsule :=
  { order := 0, src := .host 0 0 0 64 true, ringDisables := 0, version := 3, opcode := 1, realm := 1, cls := 1, cameC0 := false, plan := 1, tag := 0,
    deadlineUs := 1000, acceptedAt := 0, raw := 0, stage := .running, mirrored := false, outData := [], blocks := 0, pending := 0, status := stOk,
    composition := 0, epoch := 0, ownRank := 0, members := [], cfg := twoSequences }

/-- Its run: tensor 1 holds the page table, sequence 1 before sequence 0; tensor 0, the drafts, holds nothing. -/
def buildingRun : PlanRun :=
  { capsule := 0, plan := 1, realm := 1, args := [], descs := [(0, .placed)], cuts := [], firedOn := [],
    values := [(1, ⟨[16, 2, 1, 1], writerColumn 1 ++ writerColumn 0⟩)], zeroMaps := [], spend := [0, 0, 0, 0], status := stOk,
    statusDesc := 0x10000, layer := [], short := false, ties := false, flashPerLun := [], counts := [], cleared := [], views := [] }

/-- VERIFY_TREE with MODE 0 on pool 0: its drafts are tensor 0, its page table is tensor 1. -/
def buildingOp : OpCtx := ⟨buildingCapsule, buildingRun, barePlan, 0, 0x50 + 2 ^ 144 + 0x3000 <<< 320⟩

/-- That column, as it is read. -/
def writer (seq : Nat) : Column := ⟨seq, 1, 1, 0, List.replicate 9 (-1), -1, -1, 0⟩

/-- The columns that the operation opens. -/
def buildingColumns : List Column := (maskedDevice.openTable buildingOp 1 none true).2.1

/-- The device on which it then works. -/
def buildingDevice : Dev := (maskedDevice.openTable buildingOp 1 none true).2.2

/-! ### What the model makes of it -/

/-- The page table may be read, and both sequences are claimed. -/
theorem openTable_building : maskedDevice.openTable buildingOp 1 none true = (stOk, buildingColumns, buildingDevice) :=
  Prod.ext (by decide +kernel) rfl

/-- Before a tree is stored each sequence has a pending token, 0. -/
theorem buildingColumns_pending : ∀ k ∈ buildingColumns,
    sqPending ((buildingDevice.inputD buildingOp 0).2.seqHead buildingOp.poolSlot k.seq) ≠ 0xFFFFFFFF := by decide +kernel

/-- The tree of sequence 1, its root alone, takes out the cell that masks PENDING of sequence 0. -/
theorem storeTree_unmasks : sqPending (((buildingDevice.inputD buildingOp 0).2.storeTree 0 (writer 1).seq (buildTree 0 []).1
    (buildTree 0 []).2).seqHead 0 (writer 0).seq) = 0xFFFFFFFF := by decide +kernel

/-- So sequence 0 has no root when its turn comes. -/
theorem opTreeBuild_building (c : Ctx) : (opTreeBuild c maskedDevice buildingOp).1 = .stops stBadArg := by
  refine opTreeBuild_rootless c openTable_building (by decide) ?_
  have hcols : columnDrafts (buildingDevice.inputD buildingOp 0).1 buildingColumns = [(writer 1, []), (writer 0, [])] := by decide +kernel
  have hslot : buildingOp.poolSlot = 0 := by decide +kernel
  have hroot : sqPending ((buildingDevice.inputD buildingOp 0).2.seqHead 0 (writer 1).seq) = 0 := by decide +kernel
  rw [hcols, hslot]
  exact buildAll_tail_none hroot (buildAll_head_none storeTree_unmasks _ _)

/-- Refutes O26: of VERIFY_TREE BUILD it asks that each sequence has a pending token before the first tree is stored, and nothing that it asks keeps
the later ones. Memory need not be canonical (`State.memoryOk`), and then storing sequence 1's tree changes PENDING of sequence 0. -/
theorem not_dataOperatorsComplete : ¬ Obligations.DataOperatorsComplete := by
  unfold Obligations.DataOperatorsComplete
  rintro ⟨-, h⟩
  obtain ⟨-, -, -, hbuild, -⟩ := h ⟨0, .reset⟩ maskedDevice buildingOp
  obtain ⟨writes, k, d, hdone⟩ := hbuild _ _ openTable_building (by decide) buildingColumns_pending
  have hstops := opTreeBuild_building ⟨0, .reset⟩
  rw [hdone] at hstops
  cases hstops

end Sys2Proof.Machine
end

section
/-! What the index slots and the scans at work keep while operands are read and T1 is written (R69, R167, R191, R468). -/

namespace Sys2Proof.Machine

theorem search_foldl {α : Type} {f : Dev → α → Dev} (h : ∀ d a, (f d a).search = d.search) (l : List α) (d : Dev) :
    (l.foldl f d).search = d.search := by
  induction l generalizing d with
  | nil => rfl
  | cons a l ih => exact (ih _).trans (h d a)

/-! ### Banks and T1 -/

@[simp] theorem search_modBank (d : Dev) (n : Nat) (f : Bank → Bank) : (d.modBank n f).search = d.search := rfl

@[simp] theorem search_spendUnits (d : Dev) (stack n : Nat) : (d.spendUnits stack n).search = d.search := by
  unfold Dev.spendUnits
  split <;> rfl

@[simp] theorem search_noteCode (d : Dev) (bank : Nat) (write : Bool) : (d.noteCode bank write).search = d.search := by
  unfold Dev.noteCode
  split <;> rfl

@[simp] theorem search_touchRow (d : Dev) (bank a len : Nat) (write : Bool) : (d.touchRow bank a len write).search = d.search := by
  unfold Dev.touchRow
  dsimp only
  split
  next => simp
  next =>
    split
    next => split <;> simp
    next => simp

@[simp] theorem search_touchBank (d : Dev) (bank a len : Nat) (write : Bool) : (d.touchBank bank a len write).search = d.search :=
  search_foldl (fun _ _ => search_touchRow ..) _ d

@[simp] theorem search_touchT1 (d : Dev) (a len : Nat) (write : Bool) : (d.touchT1 a len write).search = d.search := by
  refine search_foldl (fun e p => ?_) _ d
  split
  next => exact search_touchRow ..
  next => rfl

@[simp] theorem search_t1Store (d : Dev) (a : Nat) (bs : List Byte) : (d.t1Store a bs).search = d.search := by
  rw [t1Store_eq]
  rfl

@[simp] theorem search_t1Write (d : Dev) (a : Nat) (bs : List Byte) : (d.t1Write a bs).search = d.search := by
  simp [Dev.t1Write]

@[simp] theorem search_t1Zero (d : Dev) (a n : Nat) : (d.t1Zero a n).search = d.search :=
  search_t1Write ..

@[simp] theorem search_putBank (d : Dev) (bank a n v : Nat) : (d.putBank bank a n v).search = d.search :=
  search_touchBank ..

/-! ### The T2 cache -/

@[simp] theorem search_setPanel (d : Dev) (p : CachePanel) : (d.setPanel p).search = d.search := rfl

@[simp] theorem search_countCache (d : Dev) (realm : Nat) (f : CacheCounters → CacheCounters) : (d.countCache realm f).search = d.search := rfl

@[simp] theorem search_afp (d : Dev) (type dest : Nat) (fields : List Nat) : (d.afp type dest fields).search = d.search := rfl

@[simp] theorem search_spendCache (d : Dev) (realm a len : Nat) : (d.spendCache realm a len).search = d.search := by
  refine search_foldl (fun e p => ?_) _ d
  split
  next => exact search_spendUnits ..
  next => rfl

@[simp] theorem search_writeBack (d : Dev) (realm sector : Nat) : (d.writeBack realm sector).search = d.search := by
  simp [Dev.writeBack, Dev.sendBack]

theorem search_dropPanel (d : Dev) (p : CachePanel) (writeBack : Bool) : (d.dropPanel p writeBack).search = d.search := by
  unfold Dev.dropPanel
  dsimp only [Dev.setTiers_search]
  split
  next => exact search_foldl (fun _ _ => search_writeBack ..) _ d
  next => rfl

theorem search_makeRoom (d : Dev) (realm tag : Nat) : (d.makeRoom realm tag).search = d.search := by
  unfold Dev.makeRoom
  dsimp only
  split
  next => rfl
  next =>
    split
    next => exact search_dropPanel ..
    next => rfl

@[simp] theorem search_ensurePanel (d : Dev) (realm sector : Nat) : (d.ensurePanel realm sector).2.search = d.search := by
  unfold Dev.ensurePanel
  dsimp only
  split
  next => rfl
  next => exact search_makeRoom ..

theorem search_touchSector (d : Dev) (realm sector : Nat) (fetch : Bool) : (d.touchSector realm sector fetch).search = d.search := by
  unfold Dev.touchSector
  dsimp only
  split
  next => simp
  next => split <;> simp

@[simp] theorem search_correctCache (d : Dev) (realm a n : Nat) : (d.correctCache realm a n).search = d.search := by
  unfold Dev.correctCache
  split <;> rfl

@[simp] theorem search_t2Read (d : Dev) (realm a len : Nat) : (d.t2Read realm a len).2.search = d.search :=
  (search_foldl (fun _ _ => search_touchSector ..) _ _).trans (search_spendCache ..)

/-! ### Operands -/

@[simp] theorem search_rawRead (d : Dev) (realm a len : Nat) : (d.rawRead realm a len).2.search = d.search := by
  unfold Dev.rawRead
  split
  next => exact (search_t2Read ..).trans (search_correctCache ..)
  next =>
    split
    next => exact search_touchT1 ..
    next => rfl

@[simp] theorem search_tensorValue (d : Dev) (o : OpCtx) (t : Nat) : (d.tensorValue o t).2.search = d.search := by
  unfold Dev.tensorValue
  dsimp only
  split
  · rfl
  split
  · rfl
  split
  · exact search_rawRead ..
  split
  · rfl
  split
  · exact search_rawRead ..
  · rfl

@[simp] theorem search_input (d : Dev) (o : OpCtx) (i : Nat) : (d.input o i).2.search = d.search := by
  unfold Dev.input
  split
  next => rfl
  next => exact search_tensorValue ..

@[simp] theorem search_inputD (d : Dev) (o : OpCtx) (i : Nat) : (d.inputD o i).2.search = d.search :=
  search_input ..

@[simp] theorem search_seOf (d : Dev) (o : OpCtx) (t : Nat) (dims : List Nat) : (d.seOf o t dims).2.search = d.search := by
  unfold Dev.seOf
  dsimp only
  split
  next => rfl
  next => rfl
  next => exact search_inputD ..

theorem search_values (d : Dev) (o : OpCtx) (t : Nat) : (d.values o t).2.search = d.search := by
  have hvalue : (d.tensorValue o t).2.search = d.search := search_tensorValue ..
  unfold Dev.values
  split
  next h => rwa [h] at hvalue
  next h =>
    rw [h] at hvalue
    dsimp only
    split
    next => exact (search_seOf ..).trans hvalue
    next => exact hvalue

@[simp] theorem search_inValuesD (d : Dev) (o : OpCtx) (i : Nat) : (d.inValuesD o i).2.search = d.search := by
  unfold Dev.inValuesD Dev.inValues
  dsimp only
  split
  next => rfl
  next => exact search_values ..

@[simp] theorem search_queryOf (d : Dev) (o : OpCtx) (i : Nat) : (d.queryOf o i).2.search = d.search :=
  search_inValuesD ..

@[simp] theorem search_charge (d : Dev) (order unit n : Nat) : (d.charge order unit n).2.search = d.search := by
  unfold Dev.charge
  dsimp only
  split
  next => rfl
  next => split <;> rfl

end Sys2Proof.Machine
end

section
/-! Formatting and zero-filling end (R269, R391, R417, R637). -/

namespace Sys2Proof.Machine

/-! ### Formatting -/

/-- A bank of a stripe formatted leaves every index slot's record. -/
theorem search_formatBank (d : Dev) (x w i m : Nat) : (d.formatBank x w i m).search = d.search := by
  unfold Dev.formatBank
  refine (search_foldl (fun _ _ => ?_) _ _).trans ?_
  · exact search_putBank ..
  · exact search_putBank ..

/-- A change of an index slot in use is read back. -/
theorem indexState_modIndex {d : Dev} {x : Nat} (h : (d.indexState x).state ≠ 0) (f : IndexState → IndexState) :
    (d.modIndex x f).indexState x = f (d.indexState x) := by
  unfold Dev.indexState at h ⊢
  cases hx : tabGet x d.search.indexes with
  | none => simp [tabGetD, hx] at h
  | some k => simp [tabGetD, Dev.modIndex, tabGet_tabUpdate hx, hx]

theorem indexState_congr {d e : Dev} (h : e.search = d.search) (x : Nat) : e.indexState x = d.indexState x := by
  simp only [Dev.indexState, h]

/-- An index formatted is the index with its areas written, and with its state loading. -/
theorem formatIndex_loads (d : Dev) (x : Nat) : ∃ e : Dev, e.search = d.search ∧ d.formatIndex x = e.modIndex x fun k => { k with state := 2 } := by
  refine ⟨_, ?_, rfl⟩
  split <;> split <;> simp [search_foldl fun _ _ => search_formatBank ..]

/-- A formatted index loads (R269, R365). -/
theorem formatIndex_state {d : Dev} {x : Nat} (h : (d.indexState x).state = 1) : ((d.formatIndex x).indexState x).state = 2 := by
  obtain ⟨e, hsearch, he⟩ := formatIndex_loads d x
  rw [he, indexState_modIndex (by rw [indexState_congr hsearch, h]; decide)]

theorem doFormattingComplete_index {d : Dev} {x : Nat} (hx : x < 64) (hstate : (d.indexState x).state = 1)
    (hcleared : d.objectCleared (0x3020 + x) = true) (c : Ctx) : doFormattingComplete (0x1000 + x) c d = d.formatIndex x := by
  have hpool : ¬(0x3000 ≤ 0x1000 + x ∧ 0x1000 + x < 0x3010) := by omega
  have htable : ¬(0x2000 ≤ 0x1000 + x ∧ 0x1000 + x < 0x2040) := by omega
  have hindex : 0x1000 ≤ 0x1000 + x ∧ 0x1000 + x < 0x1040 := by omega
  simp only [doFormattingComplete, hpool, htable, hindex, if_false, if_true, and_self, Nat.add_sub_cancel_left, hstate, hcleared, decide_true, Bool.and_self]

theorem doFormattingComplete_table {d : Dev} {t : Nat} (ht : t < 64) (hstate : (d.tableState t).state = 1)
    (hcleared : d.objectCleared (0x3120 + t) = true) (c : Ctx) : doFormattingComplete (0x2000 + t) c d = d.formatTable c t := by
  have hpool : ¬(0x3000 ≤ 0x2000 + t ∧ 0x2000 + t < 0x3010) := by omega
  have htable : 0x2000 ≤ 0x2000 + t ∧ 0x2000 + t < 0x2040 := by omega
  simp only [doFormattingComplete, hpool, htable, if_false, if_true, and_self, Nat.add_sub_cancel_left, hstate, hcleared, decide_true, Bool.and_self]

theorem doFormattingComplete_pool {d : Dev} {k : Nat} (hk : k < 16) (hstate : (d.poolState k).state = 1)
    (hcleared : d.objectCleared (0x3200 + k) = true) (c : Ctx) : doFormattingComplete (0x3000 + k) c d = d.formatPool k := by
  have hpool : 0x3000 ≤ 0x3000 + k ∧ 0x3000 + k < 0x3010 := by omega
  simp only [doFormattingComplete, hpool, if_true, and_self, Nat.add_sub_cancel_left, hstate, hcleared, decide_true, Bool.and_self]

/-! ### Zero-filling -/

/-- Where no ordinary access waits, the end of clearing takes the resource off the list, and capsules and updates go on. -/
theorem doZeroFillComplete_unlists {d : Dev} {kind n : Nat} (h : (kind, n) ∈ d.scrubs) (hnone : d.tiers.waitingAccesses = []) (c : Ctx) :
    doZeroFillComplete kind n c d = ((d.setScrubs (d.scrubs.filter fun x => x != (kind, n))).setTiers
      { d.tiers with waitingAccesses := [] }).resumeCleared c := by
  have hlisted : d.scrubs.contains (kind, n) = true := List.contains_iff_mem.2 h
  simp only [doZeroFillComplete, hlisted, Bool.not_true, Bool.false_eq_true, if_false, Dev.resumeWaiting, Dev.setScrubs_tiers, hnone, List.foldl_nil]

/-- Settles O51: an object of each kind is formatted, and an index then loads; the resource cleared leaves the list. -/
theorem formattingAndClearingEnd : Obligations.FormattingAndClearingEnd := by
  refine fun s hs => ⟨fun x hx hstate hcleared => ?_, fun t ht hstate hcleared => ?_, fun k hk hstate hcleared => ?_, fun kind n hin hnone => ?_⟩
  · refine ⟨_, (devStep_run _ s hs).trans ?_, rfl, formatIndex_state hstate⟩
    rw [doFormattingComplete_index hx hstate hcleared]
  · exact (devStep_run _ s hs).trans (by rw [doFormattingComplete_table ht hstate hcleared])
  · exact (devStep_run _ s hs).trans (by rw [doFormattingComplete_pool hk hstate hcleared])
  · exact (devStep_run _ s hs).trans (by rw [hearing, doZeroFillComplete_unlists hin hnone])

end Sys2Proof.Machine
end

section
/-! SCANs begin, take records, publish and receive thresholds (R126, R136, R183, R186, R209, R293, R296). -/

namespace Sys2Proof.Machine

/-! ### A SCAN begins (R293) -/

/-- The SCAN of an operation as it begins: its cells and query, nothing triggered or found, and no threshold. -/
def OpCtx.scanOf (o : OpCtx) (cells : List (Nat × Nat × Nat)) (query : List Nat) : ScanRun :=
  { capsule := o.cap.order, desc := o.desc, index := o.indexSlot, cells := cells, next := 0, offers := [], rows := [], threshold := none,
    sentAt := none, inFlight := [], received := [], query := query, found := [], nan := 0, abandoned := 0, met := 0, triggered := 0, skipped := 0 }

/-- SCAN of an index that serves, on a query that it takes and within the budget, is kept behind the other SCANs and waits for its records. -/
theorem opScan_begins (c : Ctx) {d : Dev} {o : OpCtx} (hserves : d.indexServes o.indexSlot = true)
    (hquery : ixMetric (d.index o.indexSlot) ≠ 2 ∨ zeroVector (d.queryOf o 0).1.1 = false)
    (hbudget : let l := (d.queryOf o 0).2.inputD o 1
      (l.2.charge o.cap.order 1 (nth l.1.elems 1 + nth l.1.elems 2 * 2 ^ 32)).1 = true) :
    ∃ e query, opScan c d o = (.waits, e) ∧
      e.search.scans = d.search.scans ++ [o.scanOf (cellsOf ((d.queryOf o 0).2.inputD o 1).1) query] := by
  have hzero : (ixMetric (d.index o.indexSlot) == 2 && zeroVector (d.queryOf o 0).1.1) = false := by
    rcases hquery with h | h <;> simp [h]
  dsimp only at hbudget
  simp only [opScan, hserves, hzero, Bool.not_true, Bool.false_eq_true, if_false]
  split
  next hcharge => rw [hcharge] at hbudget; cases hbudget
  next e hcharge =>
    have hsearch : e.search = d.search := by
      have hkept := search_charge ((d.queryOf o 0).2.inputD o 1).2 o.cap.order 1
        (nth ((d.queryOf o 0).2.inputD o 1).1.elems 1 + nth ((d.queryOf o 0).2.inputD o 1).1.elems 2 * 2 ^ 32)
      rw [hcharge] at hkept
      simpa using hkept
    exact ⟨_, _, rfl, congrArg (fun k => k.scans ++ _) hsearch⟩

/-- The command SCAN: its operation runs, and the SCAN advances to its first triggers. -/
theorem exec_scan {s : State} {capsule desc : Nat} {d e : Dev} {o : OpCtx} (h : s.operates capsule desc d o) (hop : dcOp o.word = 0x31)
    (hscan : opScan s.ctx d o = (.waits, e)) (hfill : e.fillWait = false) :
    exec (.scan capsule desc) s = .next (s.withDev ((s.ranOp capsule desc (e.modRun o.cap.order fun r =>
      { r with descs := tabSet o.desc .operated r.descs })).dev.scanAdvance s.ctx capsule desc)) := by
  have hrun := devStep_runOp_waits s capsule desc d o (fun w => dcOp w == 0x31) true opScan e h (beq_iff_eq.2 hop) (.inl rfl) hscan hfill
  rw [devStep_run _ s h.1] at hrun
  refine (devStep_run (fun c d => (runOp (fun w => dcOp w == 0x31) true opScan capsule desc c d).scanAdvance c capsule desc) s h.1).trans ?_
  exact congrArg (fun u : State => Host.Outcome.next (s.withDev (u.dev.scanAdvance s.ctx capsule desc))) (Host.Outcome.next.inj hrun)

/-! ### Records (R186, R209, R296) -/

/-- Work under a capsule's configuration, where two ways to do it agree on that configuration. -/
theorem under_congr {d : Dev} {order : Nat} {cap : Capsule} (hcap : d.capsule? order = some cap) {f g : Dev → Dev}
    (h : f (d.setDict { d.dict with cfg := cap.cfg }) = g (d.setDict { d.dict with cfg := cap.cfg })) : d.under order f = d.under order g := by
  simp only [Dev.under, hcap, h]

/-- The device with the oldest record of a channel's buffer taken out, which leaves the rest. -/
def Dev.recordTaken (d : Dev) (key : Nat) (rest : List ResultRecord) : Dev :=
  d.setBanks { d.banks with results := if rest.isEmpty then tabDel key d.banks.results else tabSet key rest d.banks.results }

theorem doChannelResultRecord_discards {d : Dev} {stack channel : Nat} {r : ResultRecord} {rest : List ResultRecord}
    (hres : tabGetD (16 * stack + channel) [] d.banks.results = r :: rest) (hgone : d.scanRun? r.capsule r.desc = none) (c : Ctx) :
    doChannelResultRecord stack channel c d = d.recordTaken (16 * stack + channel) rest := by
  have hgone' : (d.recordTaken (16 * stack + channel) rest).scanRun? r.capsule r.desc = none := hgone
  simp only [doChannelResultRecord, hres]
  rw [← Dev.recordTaken, hgone']

/-- A record that arrives as no fault adds its candidates and its counts to its SCAN, which then advances. -/
def ScanRun.takes (r : ResultRecord) (es : List Cand) (x : ScanRun) : ScanRun :=
  { x with found := x.found ++ es, nan := x.nan + r.nan, abandoned := x.abandoned + r.abandoned, met := x.met + r.tombstoned }

theorem doChannelResultRecord_takes {d e : Dev} {stack channel : Nat} {r : ResultRecord} {rest : List ResultRecord} {x : ScanRun} {cap : Capsule}
    {es : List Cand} (c : Ctx) (hres : tabGetD (16 * stack + channel) [] d.banks.results = r :: rest)
    (hscan : d.scanRun? r.capsule r.desc = some x) (hfault : r.fault = false) (hcap : d.capsule? r.capsule = some cap)
    (hroute : d.unroutable (stackRouter r.stack) (tileRouter (d.tileFor r.capsule r.desc)) = none)
    (he : e = (d.recordTaken (16 * stack + channel) rest).setDict { (d.recordTaken (16 * stack + channel) rest).dict with cfg := cap.cfg })
    (hcands : e.recordCands (e.index x.index) ((x.cells.getD (r.tag - 1) (0, 0, 0)).1) (768 * r.stack + r.bank) r.entries = some es) :
    doChannelResultRecord stack channel c d = (d.recordTaken (16 * stack + channel) rest).under r.capsule fun d =>
      (d.modScan r.capsule r.desc (ScanRun.takes r es)).scanAdvance c r.capsule r.desc := by
  have hscan' : (d.recordTaken (16 * stack + channel) rest).scanRun? r.capsule r.desc = some x := hscan
  have hroute' : e.unroutable (stackRouter r.stack) (tileRouter (e.tileFor r.capsule r.desc)) = none := he ▸ hroute
  simp only [doChannelResultRecord, hres]
  rw [← Dev.recordTaken, hscan']
  refine under_congr (d := d.recordTaken (16 * stack + channel) rest) hcap ?_
  simp only [← he]
  rw [hroute', hfault]
  simp only [Bool.false_eq_true, if_false]
  rw [hcands]
  rfl

/-! ### Thresholds published (R126, R136) -/

/-- Scans changed in place, each under its own keys, are found as before. -/
theorem scanRun?_map {f : ScanRun → ScanRun} (hf : ∀ y, (f y).capsule = y.capsule ∧ (f y).desc = y.desc) (d : Dev) (capsule desc : Nat) :
    (d.setSearch { d.search with scans := d.search.scans.map f }).scanRun? capsule desc = (d.scanRun? capsule desc).map f := by
  have hsame : ((fun s : ScanRun => s.capsule == capsule && s.desc == desc) ∘ f) = fun s => s.capsule == capsule && s.desc == desc := by
    funext y
    simp [hf y]
  simp only [Dev.scanRun?, Dev.setSearch_search, List.find?_map, hsame]

/-- Does a SCAN name a SELECT as its partner, and is a score better than the last threshold that it was sent (R126)? -/
def ScanRun.improves (o : OpCtx) (capsule desc t : Nat) (x : ScanRun) : Bool :=
  x.capsule == capsule && dcP (imDesc o.plan.image x.desc) 31 20 == desc &&
    match x.threshold with | none => true | some old => better (dcPb o.word 17) t old

/-- A SCAN sent a threshold: a message to each stack of its index goes behind those sent before. -/
def ScanRun.sent (now t : Nat) (places : List Nat) (x : ScanRun) : ScanRun :=
  { x with threshold := some t, sentAt := some now, inFlight := x.inFlight ++ places.map fun k => (k, t) }

/-- Each SCAN that a published score improves is sent it. -/
def Dev.sendThreshold (d : Dev) (o : OpCtx) (capsule desc now t : Nat) : Dev :=
  d.setSearch { d.search with scans := d.search.scans.map fun x => if x.improves o capsule desc t then x.sent now t (d.scanStacks x) else x }

theorem someTile_draws (d : Dev) (o : OpCtx) : ∃ k, (d.someTile o).2 = d.setFreeCtr k := by
  unfold Dev.someTile
  split
  · exact ⟨_, rfl⟩
  · exact ⟨_, rfl⟩

theorem doThresholdPublish_sends {c : Ctx} {d : Dev} {capsule desc t : Nat} {o : OpCtx} (ho : d.opCtx capsule desc = some o)
    (hop : dcOp o.word = 0x35) (hscore : d.kthScore o = some t)
    (hroute : ∀ k, d.unroutable (tileRouter (d.someTile o).1) (stackRouter k) = none) (hdue : d.thresholdDue c o (d.someTile o).1 = true) :
    doThresholdPublish capsule desc c d = (d.someTile o).2.sendThreshold o capsule desc c.now t := by
  obtain ⟨k, hk⟩ := someTile_draws d o
  have hroutes (l : List Nat) :
      (l.findSome? fun j => (d.setFreeCtr k).unroutable (tileRouter (d.someTile o).1) (stackRouter j)) = none :=
    List.findSome?_eq_none_iff.2 fun j _ => hroute j
  have hdue' : (d.setFreeCtr k).thresholdDue c o (d.someTile o).1 = true := hdue
  simp only [doThresholdPublish, ho, hop, bne_self_eq_false, Bool.false_eq_true, if_false, hscore, hk, hdue', Bool.not_true, hroutes]
  rfl

/-- A SCAN that the score improves holds it as its threshold, and has it on its way to the stacks of its index. -/
theorem scanRun?_sendThreshold {d : Dev} {o : OpCtx} {capsule desc t i : Nat} {x : ScanRun} (hscan : d.scanRun? capsule i = some x)
    (hpartner : dcP (imDesc o.plan.image i) 31 20 = desc) (hbetter : ∀ old, x.threshold = some old → better (dcPb o.word 17) t old = true)
    (now : Nat) : (d.sendThreshold o capsule desc now t).scanRun? capsule i = some (x.sent now t (d.scanStacks x)) := by
  obtain ⟨hcapsule, hdesc⟩ := scanRun?_keys hscan
  have himproves : x.improves o capsule desc t = true := by
    cases hx : x.threshold with
    | none => simp [ScanRun.improves, hcapsule, hdesc, hpartner, hx]
    | some old => simp [ScanRun.improves, hcapsule, hdesc, hpartner, hx, hbetter old hx]
  unfold Dev.sendThreshold
  rw [scanRun?_map (fun y => ?_), hscan, Option.map_some, if_pos himproves]
  split <;> exact ⟨rfl, rfl⟩

/-! ### Thresholds received (R136, R183) -/

/-- Does a trigger run sequences of a SCAN on a stack that follow its threshold (R183, R207)? -/
def Trigger.follows (stack capsule desc : Nat) (g : Trigger) : Bool := g.capsule == capsule && g.desc == desc && g.stack == stack && g.abi != 2

/-- A run with TH as the threshold that its SCAN's stack has received gives it, where one of these triggers runs it. -/
def BankRun.withThreshold (x : ScanRun) (stack : Nat) (mine : List Trigger) (r : BankRun) : BankRun :=
  match mine.find? fun g => g.order == r.trigger with
  | some g => { r with engine := { r.engine with th := x.th stack g.accFp g.lowerBetter g.thSE } }
  | none => r

/-- The run of the only trigger that follows the threshold has it. -/
theorem withThreshold_one {g : Trigger} {r : BankRun} (h : g.order = r.trigger) (x : ScanRun) (stack : Nat) :
    r.withThreshold x stack [g] = { r with engine := { r.engine with th := x.th stack g.accFp g.lowerBetter g.thSE } } := by
  simp [BankRun.withThreshold, h]

/-- A bank with the threshold in TH of its running and its saved sequence. -/
def Bank.withThreshold (x : ScanRun) (stack : Nat) (mine : List Trigger) (b : Bank) : Bank :=
  { b with run := b.run.map (BankRun.withThreshold x stack mine), saved := b.saved.map (BankRun.withThreshold x stack mine) }

/-- A SCAN with the oldest message on its way to a stack taken there. -/
def ScanRun.receives (x : ScanRun) (stack t : Nat) : ScanRun :=
  { x with received := tabSet stack t x.received, inFlight := eraseFirst (fun m => m.1 == stack) x.inFlight }

/-- Every bank's record changed in place, where the reset record is kept. -/
theorem bank_mapBanks {f : Bank → Bank} (hf : f .reset = .reset) (d : Dev) (l : List Trigger) (n : Nat) :
    (d.setBanks { d.banks with banks := d.banks.banks.map fun e => (e.1, f e.2), triggers := l }).bank n = f (d.bank n) := by
  simp only [Dev.bank, Dev.setBanks_banks, tabGetD, tabGet_mapValues n fun _ b => f b]
  cases tabGet n d.banks.banks with
  | none => exact hf.symm
  | some b => rfl

/-- A stack's memory controller has taken its message: the SCAN notes it, and TH of its runs and triggers there follows. -/
def Dev.thresholdTaken (d : Dev) (stack capsule desc : Nat) (x : ScanRun) : Dev :=
  let mine := d.banks.triggers.filter (Trigger.follows stack capsule desc)
  (d.modScan capsule desc fun _ => x).setBanks { d.banks with
    banks := d.banks.banks.map fun e => (e.1, e.2.withThreshold x stack mine)
    triggers := d.banks.triggers.map fun g =>
      if g.capsule = capsule ∧ g.desc = desc ∧ g.stack = stack ∧ g.abi ≠ 2 then { g with th := x.th stack g.accFp g.lowerBetter g.thSE } else g }

theorem doThresholdReceive_takes {d : Dev} {stack capsule desc t : Nat} {x : ScanRun} (c : Ctx) (hscan : d.scanRun? capsule desc = some x)
    (hfirst : x.inFlight.find? (fun m => m.1 == stack) = some (stack, t)) :
    doThresholdReceive stack capsule desc c d = d.thresholdTaken stack capsule desc (x.receives stack t) := by
  simp only [doThresholdReceive, hscan, hfirst]
  rfl

/-- The SCAN is found with the message taken. -/
theorem scanRun?_thresholdTaken {d : Dev} {stack capsule desc : Nat} {x y : ScanRun} (hscan : d.scanRun? capsule desc = some x)
    (hkeys : y.capsule = x.capsule ∧ y.desc = x.desc) : (d.thresholdTaken stack capsule desc y).scanRun? capsule desc = some y := by
  obtain ⟨hcapsule, hdesc⟩ := scanRun?_keys hscan
  exact scanRun?_modScan (f := fun _ => y) hscan fun _ _ => ⟨hkeys.1.trans hcapsule, hkeys.2.trans hdesc⟩

theorem run_thresholdTaken (d : Dev) (stack capsule desc : Nat) (x : ScanRun) (b : Nat) :
    ((d.thresholdTaken stack capsule desc x).bank b).run =
      (d.bank b).run.map (BankRun.withThreshold x stack (d.banks.triggers.filter (Trigger.follows stack capsule desc))) :=
  congrArg Bank.run (bank_mapBanks (f := Bank.withThreshold x stack (d.banks.triggers.filter (Trigger.follows stack capsule desc))) rfl d _ b)

/-! ### The obligation -/

/-- Settles O27, one clause each for the begin of a SCAN, its records, and a threshold published and received. -/
theorem scansRun : Obligations.ScansRun := by
  refine ⟨?_, ?_, ?_, ?_⟩
  · intro s capsule desc d o q l h hop hserves hquery hbudget hfill
    obtain ⟨e, query, hscan, hscans⟩ := opScan_begins s.ctx hserves hquery hbudget
    exact ⟨e, query, hscan, exec_scan h hop hscan (by rwa [hscan] at hfill), hscans⟩
  · intro s stack channel r rest key d hs hres
    refine ⟨fun hgone => ?_, fun x es hscan hfault hcands hcap hroute => ?_⟩
    · exact (devStep_run _ s hs).trans (by rw [doChannelResultRecord_discards hres hgone]; rfl)
    · obtain ⟨cap, hcap⟩ := Option.isSome_iff_exists.1 hcap
      refine (devStep_run _ s hs).trans ?_
      rw [doChannelResultRecord_takes s.ctx hres hscan hfault hcap hroute rfl (hcands cap hcap _ rfl)]
      rfl
  · intro s capsule desc i o t x hs ho hop hscore hscan hpartner hbetter hroute hdue
    obtain ⟨k, hk⟩ := someTile_draws s.dev o
    refine ⟨_, (devStep_run _ s hs).trans (by rw [doThresholdPublish_sends ho hop hscore hroute hdue, hk]), ?_, rfl⟩
    exact scanRun?_sendThreshold (d := s.dev.setFreeCtr k) hscan hpartner hbetter s.time.count
  · intro s stack capsule desc t b x r g x' hs hscan hfirst hrun htriggers horder hcapsule hdesc hstack habi
    refine ⟨s.withDev (s.dev.thresholdTaken stack capsule desc (x.receives stack t)),
      (devStep_run _ s hs).trans (by rw [doThresholdReceive_takes s.ctx hscan hfirst]), rfl, scanRun?_thresholdTaken hscan ⟨rfl, rfl⟩, ?_⟩
    have hfollows : g.follows stack capsule desc = true := by simp [Trigger.follows, hcapsule, hdesc, hstack, habi]
    have hmine : s.dev.banks.triggers.filter (Trigger.follows stack capsule desc) = [g] := by rw [htriggers, List.filter_singleton, hfollows]; rfl
    exact (run_thresholdTaken ..).trans (by rw [hmine, hrun, Option.map_some, withThreshold_one horder]; rfl)

end Sys2Proof.Machine
end

section
/-! Requests between nodes and their answers: EMIT, contributions and their acknowledgements, the response timeout, and requests held for an epoch
(R352, R354, R606–R608, R612, R614, R615). -/

namespace Sys2Proof.Machine

/-! ### Arrival (R8, R607, R608) -/

/-- A request that arrives for the first time is carried out on the device that has noted it. -/
theorem once_hearsOnce {s : State} {h : Afp} (hh : s.hearsOnce h) (f : Dev → Dev) : (s.heard h).once s.ctx h f = f (s.heardOnce h) := by
  obtain ⟨-, -, hnew⟩ := hh
  have hnone : ((s.heard h).fabric.seen.filter fun x => decide (s.ctx.now ≤ x.at_ + (s.heard h).cfg 0x2A50 3 * msTicks)).find?
      (fun x => x.src == h.src && x.requestId == h.requestId) = none := by
    refine List.find?_eq_none.2 fun x hx => ?_
    simpa using hnew x (List.mem_of_mem_filter hx)
  simp only [Dev.once, hnone]
  rfl

/-- A request of a node, in a colour that exists, received for the first time. -/
theorem devStep_receiveOnce {s : State} {h : Afp} (hh : s.hearsOnce h) (refuse f : Ctx → Dev → Dev) :
    devStep (fun c d => d.receive c h false fun d => d.once c h fun d => if h.colour = 3 then refuse c d else f c d) s =
      .next (s.withDev (f s.ctx (s.heardOnce h))) := by
  have ⟨hhears, hcolour, _⟩ := hh
  simp only [if_neg hcolour]
  exact (devStep_receive hhears fun c d => d.once c h (f c)).trans (by rw [once_hearsOnce hh])

/-- A status code that is not reserved is taken as it came. -/
theorem heardStatus_assigned {status : Nat} (h : status < 0x80) (d : Dev) : d.heardStatus status = (status, d) := if_pos h

/-! ### What an arrival leaves as it was

Noting a message changes the links and the requests seen alone. -/

@[simp] theorem asked_heard (s : State) (h x : Afp) (requestId : Nat) : (s.heard h).asked x requestId = s.dev.asked x requestId := rfl
@[simp] theorem capsule?_answered_heard (s : State) (h : Afp) (requestId order : Nat) :
    ((s.heard h).answered requestId).capsule? order = s.dev.capsule? order := rfl
@[simp] theorem compositionSlot_heard (s : State) (h : Afp) (id : Nat) : (s.heard h).compositionSlot id = s.dev.compositionSlot id := rfl
@[simp] theorem queryCapsule_heard (s : State) (h : Afp) (slot number tag : Nat) :
    (s.heard h).queryCapsule slot number tag = s.dev.queryCapsule slot number tag := rfl
@[simp] theorem collective?_heard (s : State) (h : Afp) (slot number tag : Nat) :
    (s.heard h).collective? slot number tag = s.dev.collective? slot number tag := rfl
@[simp] theorem gathering_heard (s : State) (h : Afp) (realm number : Nat) : (s.heard h).gathering realm number = s.dev.gathering realm number := rfl

/-! ### Requests under the installed epoch (R612, R617) -/

section
variable {d : Dev} {h : Afp} {slot : Nat} {k : Composition}

/-- A request under the installed epoch is no request of the epoch before it. -/
theorem countEpoch_installed (hk : d.composition? slot = some k) (rank : Nat) (members : List Nat) :
    d.countEpoch (.served slot k.epoch rank members) = d := by
  simp [Dev.countEpoch, hk]

/-- A request under the installed epoch, to a rank that is not vacant, is served by this node's rank and member table. -/
theorem byEpoch_installed (hslot : d.compositionSlot h.composition = some slot) (hk : d.composition? slot = some k) (hepoch : h.epoch = k.epoch)
    (hnonzero : h.epoch ≠ 0) (hmember : nth k.members h.dstRank ≠ 0) (c : Ctx) (command : Instr) (refuse : Dev → Nat → List Nat → Dev)
    (serve : Dev → Nat → Nat → Nat → List Nat → Dev) :
    d.byEpoch c h command refuse serve = serve d slot k.epoch k.ownRank k.members := by
  have hserved : d.epochCheck c h = .served slot k.epoch k.ownRank k.members := by
    simp only [Dev.epochCheck, hslot, hk, if_neg hnonzero, if_pos hepoch]
  simp [Dev.byEpoch, hserved, countEpoch_installed hk, hmember]

/-- An EMIT of a member, for a plan and slot that exist, is held and acknowledged (R258, R614). -/
theorem serveEmit_holds (hk : d.composition? slot = some k) (hsrc : k.members.contains h.src = true) (hsrc0 : h.src ≠ 0) {plan argument : Nat}
    (hplace : d.emitPlace k.realm plan argument = true) (c : Ctx) (tag us : Nat) (dims elements : List Nat) :
    d.serveEmit c h plan tag argument us dims elements slot k.members =
      (d.holdEmit c slot k.realm plan tag argument us dims elements).ackRequest h stOk [] := by
  unfold Dev.serveEmit
  simp only [hk, hsrc, Option.map_some, Option.getD_some, hplace, beq_eq_false_iff_ne.2 hsrc0, Bool.not_true, Bool.or_self, Bool.false_eq_true,
    if_false]

/-- The first contribution of a collective, from a member, is kept until the COLLECT of this node's capsule takes it (R350, R615). -/
theorem serveContrib_keepsFirst {members : List Nat} (hsrc : members.contains h.src = true) (hsrc0 : h.src ≠ 0) {number tag : Nat}
    (hnone : d.collective? slot number tag = none)
    (hgoes : ∀ x r, d.queryCapsule slot number tag = some x → d.run? x.order = some r → r.status = stOk) (c : Ctx) (ranks ownRank : Nat)
    (shape elements : List Nat) :
    d.serveContrib c h number tag ranks stOk shape elements slot ownRank members =
      d.putCollective { Collective.fresh slot number tag with parts := [(ranks, shape, elements)] } := by
  have hfresh : d.collectiveD slot number tag = .fresh slot number tag := by rw [Dev.collectiveD, hnone, Option.getD_none]
  have hdrains : (((d.queryCapsule slot number tag).bind fun x => d.run? x.order).any fun r => r.status != stOk) = false := by
    refine (Option.any_eq_false _ _).2 fun r hr => ?_
    obtain ⟨x, hx, hrun⟩ := Option.bind_eq_some_iff.1 hr
    simp [hgoes x r hx hrun]
  unfold Dev.serveContrib
  simp only [heardStatus_assigned (show stOk < 0x80 by decide), hfresh, Collective.fresh, hsrc, beq_eq_false_iff_ne.2 hsrc0, hdrains, Bool.not_true,
    Bool.or_self, Bool.false_eq_true, if_false, bne_self_eq_false, coveredBy, List.foldl_nil, Nat.and_zero, List.nil_append]

end

/-- An EMIT that arrives for the first time goes through the epoch check. -/
theorem execAfpEmit_first {s : State} {h : Afp} (hh : s.hearsOnce h) (plan tag slot us : Nat) (dims elements : List Nat) :
    execAfpEmit h plan tag slot us dims elements s =
      .next (s.withDev ((s.heardOnce h).epochEmit s.ctx h plan tag slot us dims elements)) :=
  devStep_receiveOnce hh (fun _ d => d.ackRequest h stBadArg []) fun c d => d.epochEmit c h plan tag slot us dims elements

/-- A contribution that arrives for the first time goes through the epoch check. -/
theorem execContrib_first {s : State} {h : Afp} (hh : s.hearsOnce h) (number tag ranks status format : Nat) (dims elements : List Nat) :
    execContrib h number tag ranks status format dims elements s =
      .next (s.withDev ((s.heardOnce h).epochContrib s.ctx h number tag ranks status format dims elements)) :=
  devStep_receiveOnce hh (fun _ d => d.reply h.src h.requestId 0x34 [number, tag, ranks, stBadArg]) fun c d =>
    d.epochContrib c h number tag ranks status format dims elements

/-! ### Answers (R352, R354, R606, R607) -/

/-- The ACK of an EMIT lets the descriptor that asked complete. -/
theorem execAck_completes {s : State} {h : Afp} {requestId : Nat} {r : OwnRequest} (hh : s.hears h false)
    (hasked : s.dev.asked h requestId = some r) (htype : r.type = 0x32) :
    execAck h requestId stOk s =
      .next (s.withDev (((s.heard h).answered requestId).lateFinish s.ctx r.capsule r.desc fun d _ => (.done [] .none, d))) := by
  refine (devStep_run _ s hh.1).trans ?_
  rw [doAck, receive_hears hh]
  simp only [heardStatus_assigned (show stOk < 0x80 by decide), asked_heard, hasked, htype, bne_self_eq_false, Bool.false_eq_true, if_false, if_true]

/-- The owner's answer without data ends the capsule that asked, with the owner's status and result. -/
theorem execAfpCompletion_ends {s : State} {h : Afp} {record : Nat} {r : OwnRequest} {cap : Capsule} (hh : s.hears h false)
    (hasked : s.dev.asked h h.requestId = some r) (hcap : s.dev.capsule? r.capsule = some cap) (hstatus : record % 256 < 0x80) (data : Nat) :
    execAfpCompletion h record 0 data s =
      .next (s.withDev (((s.heard h).answered h.requestId).endPlain s.ctx cap.order (record % 256) 0 (bits record 127 64))) := by
  refine (devStep_run _ s hh.1).trans ?_
  have hst : (if (record % 256 != stOk) = true then record % 256 else stOk) = record % 256 := by
    split
    · rfl
    next hok => exact (by simpa using hok : record % 256 = stOk).symm
  rw [doAfpCompletion, receive_hears hh]
  simp only [asked_heard, hasked, capsule?_answered_heard, hcap, heardStatus_assigned hstatus, beq_self_eq_true, Bool.or_true, if_true, hst]

/-- A status from above, at a member whose capsule has ended, goes on to the members below (R354). -/
theorem execContribAck_tellsDown {s : State} {h : Afp} {number tag status slot m root : Nat} {x : Collective} {who : Member} (hh : s.hears h false)
    (hstatus : status < 0x80) (hslot : s.dev.compositionSlot h.composition = some slot) (hnone : s.dev.queryCapsule slot number tag = none)
    (hx : s.dev.collective? slot number tag = some x) (hformer : x.former = some (who, m, root)) (hsrc : who.members.contains h.src = true)
    (ranks : Nat) :
    execContribAck h number tag ranks status s = .next (s.withDev ((s.heard h).tellDown who tag ⟨number, m, root, 0⟩ ranks status)) := by
  refine (devStep_run _ s hh.1).trans ?_
  rw [doContribAck, receive_hears hh]
  simp only [heardStatus_assigned hstatus, compositionSlot_heard, hslot, queryCapsule_heard, hnone, collective?_heard, hx, Option.bind_some,
    hformer, hsrc, if_true]

/-- A status from above, at a member whose capsule has not ended, is for its collective (R354). -/
theorem execContribAck_fromAbove {s : State} {h : Afp} {number tag status slot : Nat} {cap : Capsule} {g : Gathering} (hh : s.hears h false)
    (hstatus : status < 0x80) (hslot : s.dev.compositionSlot h.composition = some slot) (hcap : s.dev.queryCapsule slot number tag = some cap)
    (hg : s.dev.gathering cap.realm number = some g) (hsrc : cap.members.contains h.src = true) (ranks : Nat) :
    execContribAck h number tag ranks status s = .next (s.withDev ((s.heard h).fromAbove s.ctx cap g ranks status)) := by
  refine (devStep_run _ s hh.1).trans ?_
  rw [doContribAck, receive_hears hh]
  simp only [heardStatus_assigned hstatus, compositionSlot_heard, hslot, queryCapsule_heard, hcap, gathering_heard, hg, hsrc, if_true]

/-! ### Requests unanswered, and requests held (R607, R612) -/

/-- A request without an answer goes out again before its deadline. -/
theorem doResponseTimeout_resends {c : Ctx} {d : Dev} {requestId : Nat} {r : OwnRequest}
    (hr : d.fabric.requests.find? (fun r => r.requestId == requestId) = some r) (hdue : r.sentAt + d.cfg 0x2A50 2 * usTicks ≤ c.now)
    (hdeadline : c.now < r.deadline) :
    doResponseTimeout requestId c d = (d.setFabric { d.fabric with requests := d.fabric.requests.map fun x =>
      if x.requestId = requestId then { x with sentAt := c.now } else x }).afpAgain r.type r.dest r.fields := by
  simp only [doResponseTimeout, hr, if_neg (Nat.not_lt.2 hdue), if_neg (Nat.not_le.2 hdeadline)]

/-- A request held for longer than the epoch grace is refused. -/
theorem doEpochGraceExpiry_refuses {c : Ctx} {d : Dev} {src requestId : Nat} {r : HeldRequest}
    (hr : d.fabric.held.find? (fun r => r.header.src == src && r.header.requestId == requestId) = some r)
    (hdue : r.since + d.cfg 0x2A50 1 * msTicks ≤ c.now) :
    doEpochGraceExpiry src requestId c d = (d.setFabric { d.fabric with held := d.fabric.held.filter fun x => x != r }).refuseHeld c r stBusy := by
  simp only [doEpochGraceExpiry, hr, if_neg (Nat.not_lt.2 hdue)]

/-! ### The obligation -/

/-- Settles O59, one clause for each message or timer: an answer finds the request that it names, a request is served once and under the installed
epoch. -/
theorem requestsBetweenNodes : Obligations.RequestsBetweenNodes := by
  refine fun s h => ⟨fun requestId r hh hasked htype => execAck_completes hh hasked htype,
    fun record data r cap hh hasked hcap hstatus => execAfpCompletion_ends hh hasked hcap hstatus data, ?_, ?_,
    fun number tag ranks status k x who m root hh hstatus hslot hnone hx hformer hsrc =>
      execContribAck_tellsDown hh hstatus hslot hnone hx hformer hsrc ranks,
    fun number tag ranks status k cap g hh hstatus hslot hcap hg hsrc => execContribAck_fromAbove hh hstatus hslot hcap hg hsrc ranks,
    fun requestId r hs hr hdue hdeadline => ?_, fun src requestId r hs hr hdue => ?_⟩
  · intro plan tag slot us dims elements k c hh hslot hk hepoch hnonzero hsrc hsrc0 hmember hplace
    have hslot' : (s.heardOnce h).compositionSlot h.composition = some k := hslot
    have hk' : (s.heardOnce h).composition? k = some c := hk
    refine ⟨_, rfl, (execAfpEmit_first hh plan tag slot us dims elements).trans ?_⟩
    rw [countEpoch_installed hk', Dev.epochEmit, byEpoch_installed hslot' hk' hepoch hnonzero hmember, serveEmit_holds hk' hsrc hsrc0 hplace]
  · intro number tag ranks format dims elements k c hh hslot hk hepoch hnonzero hsrc hsrc0 hmember hnone hgoes
    have hslot' : (s.heardOnce h).compositionSlot h.composition = some k := hslot
    have hk' : (s.heardOnce h).composition? k = some c := hk
    refine (execContrib_first hh number tag ranks stOk format dims elements).trans ?_
    rw [countEpoch_installed hk', Dev.epochContrib, byEpoch_installed hslot' hk' hepoch hnonzero hmember,
      serveContrib_keepsFirst (d := s.heardOnce h) hsrc hsrc0 hnone hgoes]
  · exact (devStep_run _ s hs).trans (by rw [doResponseTimeout_resends hr hdue hdeadline]; rfl)
  · exact (devStep_run _ s hs).trans (by rw [doEpochGraceExpiry_refuses hr hdue])

end Sys2Proof.Machine
end

section
/-! Retirements and moves of an index slot that has no record are counted nowhere (R378, R382): what the statements on updates and on consolidation
leave out. -/

namespace Sys2Proof.Machine

/-! ### A slot without a record -/

/-- An update under an absent key changes nothing. -/
theorem tabUpdate_absent {α : Type} {k : Nat} {t : Tab α} (h : tabGet k t = none) (f : α → α) : tabUpdate k f t = t := by
  induction t with
  | nil => rfl
  | cons e t ih =>
    obtain ⟨j, u⟩ := e
    by_cases hj : j = k
    · rw [tabGet, if_pos hj] at h
      cases h
    · rw [tabGet, if_neg hj] at h
      rw [tabUpdate, if_neg hj, ih h]

/-- An index slot has no record, so there is nothing to count in. -/
def Dev.recordless (d : Dev) (x : Nat) : Prop := tabGet x d.search.indexes = none

theorem recordless_congr {d e : Dev} {x : Nat} (hd : d.recordless x) (h : e.search = d.search) : e.recordless x := by
  rwa [Dev.recordless, h]

/-- A change to a slot that has no record is lost. -/
theorem search_modIndex_recordless {d : Dev} {x : Nat} (h : d.recordless x) (f : IndexState → IndexState) : (d.modIndex x f).search = d.search := by
  simp only [Dev.modIndex, Dev.setSearch_search, tabUpdate_absent h]

/-- The same where only the index slots are known to be as they were. -/
theorem search_modIndex_kept {d e : Dev} {x : Nat} (hx : d.recordless x) (h : e.search = d.search) (f : IndexState → IndexState) :
    (e.modIndex x f).search = d.search :=
  (search_modIndex_recordless (recordless_congr hx h) f).trans h

/-- A slot without a record reads as one that has counted nothing. -/
theorem indexState_recordless {d : Dev} {x : Nat} (h : d.recordless x) : d.indexState x = { IndexState.fresh with state := 0 } := by
  rw [Dev.indexState, tabGetD, h, Option.getD_none]

/-- A counter of 64 bits that has just counted does not stand at 0. -/
theorem satAdd_one_ne_zero (a : Nat) : satAdd 64 a 1 ≠ 0 := by
  unfold satAdd
  omega

/-! ### What a move keeps of the index slots -/

@[simp] theorem search_putSeg (d : Dev) (bank j v : Nat) : (d.putSeg bank j v).search = d.search := search_putBank ..

@[simp] theorem search_t1Put (d : Dev) (a n v : Nat) : (d.t1Put a n v).search = d.search := search_t1Write ..

@[simp] theorem search_putCell (d : Dev) (w c v : Nat) : (d.putCell w c v).search = d.search := search_t1Put ..

@[simp] theorem search_copyEntry (d : Dev) (w sb j tb tj i k : Nat) : (d.copyEntry w sb j tb tj i k).search = d.search := by
  unfold Dev.copyEntry
  dsimp only
  split <;> simp

@[simp] theorem search_moveReferences (d : Dev) (x w sb j tb tj i k : Nat) : (d.moveReferences x w sb j tb tj i k).search = d.search := by
  unfold Dev.moveReferences
  dsimp only [Dev.setUpdates_search]
  split
  next => exact search_t1Put ..
  next => rfl

@[simp] theorem search_countSegment (d : Dev) (w c bank : Nat) (up : Bool) : (d.countSegment w c bank up).search = d.search := by
  simp [Dev.countSegment]

@[simp] theorem search_choose (d : Dev) (n : Nat) : (d.choose n).2.search = d.search := rfl

@[simp] theorem search_pick (d : Dev) (span : Nat) : (d.pick span).2.search = d.search := rfl

theorem search_takeSlot (d : Dev) (x w c bank : Nat) (primary : Bool) : (d.takeSlot x w c bank primary).2.search = d.search := by
  unfold Dev.takeSlot
  split
  next => rfl
  next =>
    dsimp only
    split <;> rfl

theorem search_rowsFor {d e : Dev} {x w bank row : Nat} (h : d.rowsFor x w bank = some (row, e)) : e.search = d.search := by
  unfold Dev.rowsFor at h
  split at h
  next =>
    cases h
    rfl
  next =>
    dsimp only at h
    split at h
    next =>
      cases h
      exact search_putBank ..
    next => cases h

/-- A handle array taken for a slot without a record leaves it without one. -/
theorem search_takeArray {d e : Dev} {x w a : Nat} (hx : d.recordless x) (h : d.takeArray x w = some (a, e)) : e.search = d.search := by
  unfold Dev.takeArray at h
  dsimp only at h
  split at h
  next =>
    cases h
    exact search_modIndex_recordless hx _
  next =>
    split at h
    next =>
      cases h
      exact search_modIndex_recordless hx _
    next => cases h

/-- So does storage taken for it. -/
theorem search_takeStorage {d e : Dev} {x w c bank : Nat} {primary : Bool} {r : Option (Nat × Nat × Nat)} (hx : d.recordless x)
    (h : d.takeStorage x w c bank primary = (r, e)) : e.search = d.search := by
  have hslot := search_takeSlot d x w c bank primary
  unfold Dev.takeStorage at h
  split at h
  next =>
    cases h
    rfl
  next j d1 htake =>
    rw [htake] at hslot
    split at h
    next =>
      cases h
      rfl
    next row d2 hrows =>
      have hrow : d2.search = d.search := (search_rowsFor hrows).trans hslot
      split at h
      next =>
        cases h
        rfl
      next a d3 harray =>
        cases h
        exact (search_takeArray (recordless_congr hx hrow) harray).trans hrow

/-- A consolidation's move is not counted in a slot that has no record. -/
theorem search_doConsolidationMove {d : Dev} {index : Nat} (hx : d.recordless index) (bank slot : Nat) (c : Ctx) :
    (doConsolidationMove index bank slot c d).search = d.search := by
  unfold doConsolidationMove
  dsimp only
  split
  next => rfl
  next =>
    split
    next => rfl
    next tj row a e htake =>
      have he : e.search = d.search := search_takeStorage (d := (d.choose _).2) hx htake
      split
      all_goals
        simp only [Dev.setUpdates_search, search_pick, search_putCell, search_foldl fun _ _ => search_putBank ..]
        refine search_modIndex_kept hx ?_ _
        simp [search_foldl, he]

/-! ### The states -/

/-- Index 0, KIND 1 of realm 1: one cell of one segment of one entry, DIM 32, in bank 0, with four handle arrays. -/
def oneCellIndex : Nat := 1 + 2 ^ 24 + 32 * 2 ^ 32 + 2 ^ 64 + 2 ^ 216 + 2 ^ 272 + 4 * 2 ^ 512

/-- The configuration: that index consolidates on clock group 0, which is realm 1's; its wait limit is 0. -/
def oneCellConfig : Tab DictVal :=
  [(entryKey 0x2E01 2, ⟨8, 1⟩), (entryKey 0x3020 1, ⟨256, oneCellIndex⟩), (entryKey 0x3060 2, ⟨1, 0⟩), (entryKey 0x3060 3, ⟨4, 0⟩)]

/-- Bank 0 holds the header of slot 0 at 0x400: COUNT and CAP are 1, NEXT is all ones. -/
def oneCellMemory : List Host.Cell := [(0x404, 1), (0x410, 1), (0x414, 0xFF), (0x415, 0xFF), (0x416, 0xFF), (0x417, 0xFF)]

/-- A machine in service with that index in its configuration, no record of it, and given updates at work. -/
def withoutRecord (u : Updates) : State :=
  { State.reset with
    time := { TimeBase.reset with powered := true }
    dev := { Dev.reset with
      boot := { Boot.reset with node := 7 }, dict := { Dev.reset.dict with cfg := oneCellConfig }, mem := oneCellMemory, updates := u } }

theorem withoutRecord_running (u : Updates) : (withoutRecord u).running = true := rfl

theorem withoutRecord_recordless (u : Updates) (x : Nat) : (withoutRecord u).dev.recordless x := rfl

/-- An update of identifier 0 whose old version was tombstoned at count 0. -/
def waitingUpdate : PendingUpdate := ⟨0, 0, 0, [], 0, 0, some 0⟩

/-- Only that update is at work. -/
def waiting : State := withoutRecord { Updates.reset with pending := [waitingUpdate] }

/-- A pass over the cell is at work, which has the segment left to move. -/
def consolidates : State := withoutRecord { Updates.reset with passes := [⟨0, 0, [(0, 0)], 0⟩] }

/-! ### An early retirement -/

/-- The update retires at its wait limit, and no early retirement is counted. -/
theorem waiting_uncounted : ((doRetirementWaitLimit 0 0 waiting.ctx waiting.dev).indexState 0).early = 0 := by decide +kernel

/-- Refutes O49: of RETIREMENT_WAIT_LIMIT it says that the early retirement is counted, and nothing that it asks gives the index slot a record to
count in, as a commit that makes the index active would (`Dev.commitIndex`). -/
theorem not_updatesRetireAndCopiesEnd : ¬ Obligations.UpdatesRetireAndCopiesEnd := by
  unfold Obligations.UpdatesRetireAndCopiesEnd
  rintro ⟨h, -⟩
  obtain ⟨-, hretires⟩ := h waiting 0 0 waitingUpdate (withoutRecord_running _)
  obtain ⟨-, hlimit⟩ := hretires 0 rfl rfl rfl rfl
  obtain ⟨u, hu, -, -, hearly⟩ := hlimit (by decide +kernel)
  cases (devStep_run (doRetirementWaitLimit 0 0) waiting (withoutRecord_running _)).symm.trans hu
  exact satAdd_one_ne_zero _ (hearly.symm.trans waiting_uncounted)

/-! ### A move -/

/-- The banks of a cell's stripe that hold the fewest of its live entries: a move draws one of them (R382). -/
def Dev.leastLive (d : Dev) (w c : Nat) : List Nat :=
  (cellBanks w c).filter fun b => d.liveIn w c b == ((cellBanks w c).map (d.liveIn w c)).foldl min (d.liveIn w c ((cellBanks w c).headD 0))

/-- The segment is due, and its index may consolidate. -/
theorem consolidates_due :
    ixKind (consolidates.dev.index 0) = 1 ∧ ixHasBank (consolidates.dev.index 0) 0 = true ∧ sgCap (consolidates.dev.seg 0 0) ≠ 0 ∧
      sgSealed (consolidates.dev.seg 0 0) = false ∧ consolidates.dev.mayConsolidate 0 = true ∧
      consolidates.dev.segmentDue 0 (consolidates.dev.index 0) 0 0 = true := by decide +kernel

/-- The banks of the segment's cell to draw from. -/
def drawnFrom : List Nat := consolidates.dev.leastLive (consolidates.dev.index 0) (sgCell (consolidates.dev.seg 0 0))

theorem drawnFrom_eq : drawnFrom = [0] := by decide +kernel

/-- So there is nothing to choose. -/
theorem consolidates_draws : consolidates.dev.choose drawnFrom.length = (0, (consolidates.dev.choose 1).2) := by
  rw [drawnFrom_eq]
  exact Prod.ext (Nat.mod_one _) rfl

/-- An answer that gives something is that something, with the device behind it. -/
theorem exists_eq_some_of_isSome {α β : Type} {r : Option α × β} (h : r.1.isSome = true) : ∃ a e, r = (some a, e) := by
  obtain ⟨_ | a, e⟩ := r
  · cases h
  · exact ⟨a, e, rfl⟩

/-- There is storage for the segment's copy, whatever slot is drawn for it. -/
theorem consolidates_hasRoom : ∃ p e, (consolidates.dev.choose 1).2.takeStorage 0 (consolidates.dev.index 0) (sgCell (consolidates.dev.seg 0 0))
    (drawnFrom.getD 0 0) false = (some p, e) := by
  rw [drawnFrom_eq]
  exact exists_eq_some_of_isSome (by decide +kernel)

/-- A move at an index slot without a record is counted nowhere. -/
theorem consolidationMove_uncounted {s u : State} {index bank slot : Nat} (hs : s.running = true) (hx : s.dev.recordless index)
    (hu : exec (.consolidationMove index bank slot) s = .next u) : (u.dev.indexState index).moved = 0 := by
  cases (devStep_run (hearing (doConsolidationMove index bank slot)) s hs).symm.trans hu
  have hkept : (hearing (doConsolidationMove index bank slot) s.ctx s.dev).recordless index :=
    recordless_congr hx (search_doConsolidationMove hx bank slot s.ctx)
  exact congrArg IndexState.moved (indexState_recordless hkept)

/-- Refutes O50: of CONSOLIDATION_MOVE it says that the move is counted, and nothing that it asks gives the index slot a record to count in, as a
commit that makes the index active would (`Dev.commitIndex`). -/
theorem not_consolidationMovesSegments : ¬ Obligations.ConsolidationMovesSegments := by
  unfold Obligations.ConsolidationMovesSegments
  rintro ⟨h, -⟩
  obtain ⟨hkind, hbank, hcap, hsealed, hmay, hdue⟩ := consolidates_due
  obtain ⟨⟨tj, row, a⟩, e, hroom⟩ := consolidates_hasRoom
  obtain ⟨u, hu, -, hmoved⟩ := h consolidates 0 0 0 0 tj row a _ e (withoutRecord_running _) hkind hbank hcap hsealed hmay hdue consolidates_draws hroom
  exact satAdd_one_ne_zero _ (hmoved.symm.trans (consolidationMove_uncounted (withoutRecord_running _) (withoutRecord_recordless _ 0) hu))

end Sys2Proof.Machine
end

section
/-! The lender of T2: its offers, grants and accesses (R466, R467, R474, R478, R479). -/

namespace Sys2Proof.Machine

/-! ### The tiers, which messages and events leave alone

Noting a message, sending one and logging an event change no segment and no lent GiB. -/

@[simp] theorem tiers_afp (d : Dev) (type dest : Nat) (fields : List Nat) : (d.afp type dest fields).tiers = d.tiers := rfl

@[simp] theorem tiers_ackManager (d : Dev) (h : Afp) (status held : Nat) : (d.ackManager h status held).tiers = d.tiers := rfl

@[simp] theorem tiers_heard (s : State) (h : Afp) : (s.heard h).tiers = s.dev.tiers := rfl

@[simp] theorem tiers_event (d : Dev) (c : Ctx) (code severity realm w0 w1 w2 : Nat) :
    (d.event c code severity realm w0 w1 w2).tiers = d.tiers := by
  unfold Dev.event
  dsimp only
  split <;> rfl

@[simp] theorem segment_heard (s : State) (h : Afp) (n : Nat) : (s.heard h).segment n = s.dev.segment n := rfl

@[simp] theorem lentOf_heard (s : State) (h : Afp) (n : Nat) : (s.heard h).lentOf n = s.dev.lentOf n := rfl

@[simp] theorem cfg_heard (s : State) (h : Afp) (idx sub : Nat) : (s.heard h).cfg idx sub = s.dev.cfg idx sub := rfl

theorem segment_congr {d e : Dev} (h : e.tiers.segments = d.tiers.segments) (n : Nat) : e.segment n = d.segment n := by
  rw [Dev.segment, h, Dev.segment]

@[simp] theorem segment_afp (d : Dev) (type dest : Nat) (fields : List Nat) (n : Nat) : (d.afp type dest fields).segment n = d.segment n :=
  segment_congr (congrArg Tiers.segments (tiers_afp ..)) n

@[simp] theorem segment_ackManager (d : Dev) (h : Afp) (status held n : Nat) : (d.ackManager h status held).segment n = d.segment n :=
  segment_afp ..

/-! ### Records after a change -/

@[simp] theorem segment_modSegment_self (d : Dev) (n : Nat) (f : Segment → Segment) : (d.modSegment n f).segment n = f (d.segment n) :=
  tabGetD_tabSet_self ..

@[simp] theorem lent_modSegment (d : Dev) (n : Nat) (f : Segment → Segment) : (d.modSegment n f).tiers.lent = d.tiers.lent := rfl

/-- An update changes the entry under its key, where there is one. -/
theorem tabGet_tabUpdate_map {α : Type} (k : Nat) (f : α → α) (t : Tab α) : tabGet k (tabUpdate k f t) = (tabGet k t).map f := by
  cases h : tabGet k t with
  | none => rw [tabUpdate_absent h, h, Option.map_none]
  | some v => exact tabGet_tabUpdate h f

@[simp] theorem tabGet_modLent_self (d : Dev) (g : Nat) (f : LentGib → LentGib) :
    tabGet g (d.modLent g f).tiers.lent = (tabGet g d.tiers.lent).map f :=
  tabGet_tabUpdate_map ..

/-! ### Offers (R474) -/

/-- The kept GiB that may be offered: neither lent nor offered nor being zero-filled. -/
def Dev.freeGib (d : Dev) : List Nat :=
  d.keptGib.filter fun g => (tabGet g d.tiers.lent).isNone && !d.tiers.offered.contains g && !d.scrubs.contains (1, g)

/-- How many more the lender may offer. -/
def Dev.offerRoom (d : Dev) : Nat := d.lendLimit - d.tiers.lent.length - d.tiers.offered.length

/-- With room and a free GiB, the free ones from the drawn place on are offered, and nothing else changes in the tiers. -/
theorem tiers_doLendOffer {d e : Dev} {k : Nat} (hroom : d.offerRoom ≠ 0) (hfree : d.freeGib ≠ []) (hdraw : d.choose d.freeGib.length = (k, e))
    (c : Ctx) :
    (doLendOffer c d).tiers = { d.tiers with
      offered := d.tiers.offered ++ (d.freeGib.drop k ++ d.freeGib.take k).take d.offerRoom } := by
  have hoffers : ¬(decide (d.offerRoom = 0) || d.freeGib.isEmpty) = true := by simp [hroom, hfree]
  cases hdraw
  exact congrArg Dev.tiers (if_neg hoffers)

/-! ### Grants (R466) -/

/-- A newer grant of an offered GiB to another node lends it, and the segment is mapped. -/
theorem tiers_doGrant_lends {s : State} {h : Afp} {segment gen borrower g : Nat} (hh : s.hears h true) (hgen : (s.dev.segment segment).gen < gen)
    (hborrower : borrower ≠ s.dev.fabric.node) (hoffered : g ∈ s.dev.tiers.offered) (realm : Nat) :
    (doGrant h segment gen borrower realm s.dev.fabric.node g s.ctx s.dev).tiers = { s.dev.tiers with
      lent := tabSet g ⟨borrower, segment, gen, s.dev.tiers.grants, none, none, [], 0, false, [], none⟩ s.dev.tiers.lent
      offered := s.dev.tiers.offered.filter (· != g)
      grants := s.dev.tiers.grants + 1
      borrowers := tabSet segment borrower s.dev.tiers.borrowers
      segments := tabSet segment ⟨1, realm, s.dev.fabric.node, g, gen, false, false, 0⟩ s.dev.tiers.segments } := by
  have hnode : (s.heard h).fabric.node = s.dev.fabric.node := rfl
  rw [doGrant, receive_hears hh]
  simp only [segment_heard, hnode, tiers_heard, if_neg (Nat.not_le.2 hgen), beq_eq_false_iff_ne.2 hborrower, Bool.false_and, Bool.false_eq_true,
    if_false, List.contains_iff_mem.2 hoffered, Bool.not_true, Bool.and_false, decide_true, if_true]
  rfl

/-! ### Accesses (R467, R478, R479) -/

/-- An access under the segment's generation, within the GiB and not held, is served. -/
theorem poolAccess_serves {d : Dev} {h : Afp} {segment g : Nat} {l : LentGib} {a : PoolAccess} (hlent : d.lentOf segment = some (g, l))
    (hadmits : l.admits h.src = true) (hfits : a.offset + a.len ≤ gib) (hcopied : l.copied = false)
    (hpasses : a.data = none ∨ l.holdsWrites = false) (type : Nat) (serve : Dev → Nat → LentGib → Dev) :
    d.poolAccess h segment l.gen a type serve = serve d g l := by
  have hmay : ¬(l.gen != l.gen || !l.admits h.src) = true := by simp [hadmits]
  have hgoes : ¬(l.copied || (a.data.isSome && l.holdsWrites)) = true := by
    rcases hpasses with hread | hholds
    · simp [hcopied, hread]
    · simp [hcopied, hholds]
  simp only [Dev.poolAccess, hlent, if_neg hmay, if_neg (Nat.not_lt.2 hfits), if_neg hgoes]

/-- A command that hears has the effect of its own, with what it leaves waiting at the banks noted. -/
theorem devStep_hearing {f : Ctx → Dev → Dev} {s : State} {d : Dev} (hs : s.running = true) (hf : devStep f s = .next (s.withDev d)) :
    devStep (hearing f) s = .next (s.withDev (d.hear s.ctx none)) := by
  have heffect : f s.ctx s.dev = d := congrArg State.dev (Host.Outcome.next.inj ((devStep_run f s hs).symm.trans hf))
  rw [devStep_run _ s hs, hearing, heffect]

section
variable {s : State} {h : Afp} {segment g offset : Nat} {l : LentGib} (hh : s.hearsOnce h) (hlent : s.dev.lentOf segment = some (g, l))
  (hadmits : l.admits h.src = true) (hcopied : l.copied = false)
include hh hlent hadmits hcopied

/-- A borrower's read is answered with the bytes of the GiB that backs its segment. -/
theorem execAccess_answers {len : Nat} (hfits : offset + len ≤ gib) :
    execAccess h segment l.gen offset len s = .next (s.withDev ((s.heardOnce h).reply h.src h.requestId 0x52
      (stOk :: ((s.dev.t1Read (gibAddr g + offset) len).map BitVec.toNat)))) := by
  have hread : (s.heardOnce h).t1Read (gibAddr g + offset) len = s.dev.t1Read (gibAddr g + offset) len :=
    t1Read_congr (d := s.dev) (e := s.heardOnce h) rfl rfl _ _
  refine (devStep_receiveOnce hh _ _).trans ?_
  rw [poolAccess_serves (d := s.heardOnce h) hlent hadmits hfits hcopied (.inl rfl), hread]

/-- A borrower's write, with no copy under way, stores its bytes in that GiB and is acknowledged. -/
theorem execPoolWrite_stores {bytes : List Byte} (hfits : offset + bytes.length ≤ gib) (hholds : l.holdsWrites = false) (hnext : l.next = none) :
    execPoolWrite h segment l.gen offset bytes s =
      .next (s.withDev ((((s.heardOnce h).t1Write (gibAddr g + offset) bytes).reply h.src h.requestId 0x53 [stOk]).hear s.ctx none)) := by
  have ⟨hhears, _⟩ := hh
  refine devStep_hearing hhears.1 ((devStep_receiveOnce hh _ _).trans ?_)
  rw [poolAccess_serves (d := s.heardOnce h) hlent hadmits hfits hcopied (.inr hholds), hnext]
  rfl

end

/-- Settles O54, one clause for each of the lender's commands. That the GiB to be offered are drawn is log entry 69's choice. -/
theorem lendersServe : Obligations.LendersServe := by
  refine ⟨fun s k e hs hn hfree hdraw => ?_, fun s h segment gen borrower realm home g hh hgen hborrower hhome hoffered => ?_,
    fun s h segment gen offset len g l hh hlent hgen hadmits hfits hcopied => ?_⟩
  · have htiers := tiers_doLendOffer hn hfree hdraw s.ctx
    exact ⟨_, devStep_run _ s hs, congrArg Tiers.offered htiers, (congrArg Tiers.lent htiers :)⟩
  · subst hhome
    have htiers := tiers_doGrant_lends hh hgen hborrower hoffered realm
    refine ⟨_, devStep_run _ s hh.1, ?_, ?_, ?_⟩
    · rw [State.withDev, htiers, tabGet_tabSet_self]
    · simp [State.withDev, htiers]
    · rw [Dev.segment, State.withDev, htiers, tabGetD_tabSet_self]
  · subst hgen
    refine ⟨execAccess_answers hh hlent hadmits hcopied hfits, fun bytes hlen hholds hnext => ?_⟩
    subst hlen
    exact execPoolWrite_stores hh hlent hadmits hcopied hfits hholds hnext

end Sys2Proof.Machine
end

section
/-! The segments of the pool move and end: reclaim, migration, switch, unmapping and loss (R477–R482). -/

namespace Sys2Proof.Machine

/-! ### Reclaim (R477) -/

/-- A write-back changes no segment's record. -/
theorem segment_writeBack (d : Dev) (realm sector n : Nat) : (d.writeBack realm sector).segment n = d.segment n :=
  segment_congr (by simp [Dev.writeBack, Dev.sendBack, Dev.countCache]) n

/-- Nor do several. -/
theorem segment_writeBacks (l : List Nat) (d : Dev) (realm n : Nat) :
    (l.foldl (fun d sector => d.writeBack realm sector) d).segment n = d.segment n :=
  List.foldlRecOn (motive := fun e => e.segment n = d.segment n) l _ rfl
    fun e he sector _ => (segment_writeBack e realm sector n).trans he

/-- That a segment is clean is told to its lender, and changes nothing else of its record. -/
theorem segment_tellClean (d : Dev) (n : Nat) : ∃ b, (d.tellClean n).segment n = { d.segment n with told := b } := by
  unfold Dev.tellClean
  dsimp only
  split
  next =>
    rw [segment_afp]
    exact ⟨true, segment_modSegment_self d n fun sg => { sg with told := true }⟩
  next => exact ⟨(d.segment n).told, rfl⟩

/-- A reclaimed segment drains until its grace time ends. -/
theorem segment_doPoolReclaim {s : State} {h : Afp} {segment : Nat} (hh : s.hears h false) (hmine : (s.dev.segment segment).mine = true)
    (hstate : (s.dev.segment segment).state = 1) (hhome : (s.dev.segment segment).homeNode = h.src) (graceMs : Nat) :
    ∃ b, (doPoolReclaim h segment (s.dev.segment segment).gen graceMs s.ctx s.dev).segment segment =
      { s.dev.segment segment with state := 2, told := b, until_ := s.time.count + graceMs * msTicks } := by
  have hreclaims : (!(s.dev.segment segment).mine || (s.dev.segment segment).state != 1 ||
      (s.dev.segment segment).gen != (s.dev.segment segment).gen || (s.dev.segment segment).homeNode != h.src) = false := by
    simp [hmine, hstate, hhome]
  rw [doPoolReclaim, receive_hears hh]
  simp only [segment_heard, hreclaims, Bool.false_eq_true, if_false]
  obtain ⟨b, hb⟩ := segment_tellClean _ segment
  refine ⟨b, hb.trans ?_⟩
  rw [segment_writeBacks, segment_modSegment_self]
  rfl

/-! ### Migration (R478) -/

/-- Within the grace time a successor is named: the copy to it begins, and the segment migrates. -/
theorem doSuccessor_begins {s : State} {h : Afp} {segment g t : Nat} {l : LentGib} (hh : s.hears h true)
    (hlent : s.dev.lentOf segment = some (g, l)) (hreclaimed : l.reclaimed = some t) (hnext : l.next = none)
    (hgrace : s.time.count < t + s.dev.cfg 0x2B80 3 * msTicks) (node g0 : Nat) :
    let d := doSuccessor h segment l.gen node g0 s.ctx s.dev
    (d.segment segment).state = 3 ∧ tabGet g d.tiers.lent =
      (tabGet g s.dev.tiers.lent).map fun l => { l with next := some (node, g0), marked := [], recopies := 0, copied := false } := by
  have hdue : ¬t + s.dev.cfg 0x2B80 3 * msTicks ≤ s.ctx.now := Nat.not_le.2 hgrace
  rw [doSuccessor, receive_hears hh]
  simp only [lentOf_heard, hlent, hreclaimed, cfg_heard, hnext, bne_self_eq_false, Option.isSome_none, hdue, decide_false, Bool.or_self,
    Bool.false_eq_true, if_false]
  refine ⟨?_, ?_⟩
  · rw [segment_ackManager, segment_afp, segment_modSegment_self]
  · rw [tiers_ackManager, tiers_afp, lent_modSegment, tabGet_modLent_self, tiers_heard]

/-- A copy that ends with no sector marked awaits the switch. -/
theorem doMigrationCopyComplete_awaitsSwitch {d : Dev} {g : Nat} {l : LentGib} {successor : Nat × Nat} (hlent : tabGet g d.tiers.lent = some l)
    (hnext : l.next = some successor) (hcopied : l.copied = false) (hmarked : l.marked = []) (c : Ctx) :
    doMigrationCopyComplete g c d = (d.modLent g fun l => { l with copied := true }).afp 0x56 0xFFFF [l.segment, l.gen] := by
  simp only [doMigrationCopyComplete, hlent, hnext, hcopied, hmarked, List.isEmpty_nil, Bool.false_eq_true, if_false, if_true]

/-! ### The switch, the unmapping and the loss (R478, R480, R482) -/

section
variable {s : State} {h : Afp} {segment gen : Nat} (hh : s.hears h true) (hlent : s.dev.lentOf segment = none)
  (hmine : (s.dev.segment segment).mine = false)
include hh hlent hmine

/-- The switch of a segment neither lent nor borrowed here gives it its new home and generation. -/
theorem segment_doSwitch (hgen : (s.dev.segment segment).gen < gen) (node g : Nat) :
    (doSwitch h segment gen node g s.ctx s.dev).segment segment =
      { s.dev.segment segment with state := 1, homeNode := node, homeGib := g, gen := gen, told := false, until_ := 0 } := by
  have hforeign : (!(s.dev.segment segment).mine) = true := by simp [hmine]
  rw [doSwitch, receive_hears hh]
  simp only [segment_heard, lentOf_heard, hlent, if_neg (Nat.not_le.2 hgen), hforeign, if_true, segment_ackManager, segment_modSegment_self]

/-- The unmapping of such a segment leaves only its generation. -/
theorem segment_doUnmap (hgen : (s.dev.segment segment).gen ≤ gen) (hstate : (s.dev.segment segment).state ≠ 0) :
    (doUnmap h segment gen s.ctx s.dev).segment segment = ⟨0, 0, 0, 0, gen, false, false, 0⟩ := by
  rw [doUnmap, receive_hears hh]
  simp only [segment_heard, lentOf_heard, hlent, hmine, Nat.not_lt.2 hgen, hstate, decide_false, Bool.or_self, Bool.false_eq_true, if_false,
    Nat.max_eq_left hgen, segment_ackManager, segment_modSegment_self]

end

/-- Once the grace time is over, a segment of this node that drains is lost. -/
theorem doGraceTimeExpiry_loses {c : Ctx} {d : Dev} {n : Nat} (hlent : d.lentOf n = none) (hmine : (d.segment n).mine = true)
    (hstate : (d.segment n).state = 2) (hover : (d.segment n).until_ ≤ c.now) : doGraceTimeExpiry n c d = d.loseSegment c n := by
  simp [doGraceTimeExpiry, hlent, hmine, hstate, hover]

/-- A segment of this node that is lost is in state 4. -/
theorem segment_loseSegment_state {d : Dev} {n : Nat} (hmine : (d.segment n).mine = true) (hstate : (d.segment n).state = 2) (c : Ctx) :
    ((d.loseSegment c n).segment n).state = 4 := by
  have hlive : ¬((d.segment n).state = 0 || (d.segment n).state = 4) = true := by simp [hstate]
  have hown : ¬(!(d.segment n).mine) = true := by simp [hmine]
  rw [Dev.loseSegment, if_neg hlive, if_neg hown]
  dsimp only
  rw [segment_congr (congrArg Tiers.segments (tiers_event ..)), segment_modSegment_self]

/-- Settles O55, one clause for each command. That what waited goes on at the unmapping and at the loss is log entry 133. -/
theorem segmentsMoveAndEnd : Obligations.SegmentsMoveAndEnd := by
  refine ⟨fun s h segment gen graceMs hh hmine hstate hgen hhome => ?_,
    fun s h segment gen node g0 g t l hh hlent hreclaimed hgen hnext hgrace => ?_,
    fun s g node g1 l hs hlent hnext hcopied hmarked => ?_,
    fun s h segment gen node g hh hgen hlent hmine => ⟨_, devStep_run _ s hh.1, segment_doSwitch hh hlent hmine hgen node g⟩,
    fun s h segment gen hh hgen hstate hlent hmine => ⟨_, devStep_run _ s hh.1, segment_doUnmap hh hlent hmine hgen hstate⟩,
    fun s segment hs hlent hmine hstate hover => ⟨?_, segment_loseSegment_state hmine hstate s.ctx⟩⟩
  · subst hgen
    obtain ⟨b, hb⟩ := segment_doPoolReclaim hh hmine hstate hhome graceMs
    exact ⟨_, devStep_run _ s hh.1, congrArg Segment.state hb, congrArg Segment.until_ hb⟩
  · subst hgen
    exact ⟨_, devStep_run _ s hh.1, doSuccessor_begins hh hlent hreclaimed hnext hgrace node g0⟩
  · have hready := doMigrationCopyComplete_awaitsSwitch hlent hnext hcopied hmarked s.ctx
    refine ⟨_, devStep_run _ s hs, ?_, ?_⟩
    · rw [State.withDev, hready, tiers_afp, tabGet_modLent_self, hlent, Option.map_some]
    · rw [State.withDev, hready]
      rfl
  · exact (devStep_run _ s hs).trans (by rw [hearing, thenResume, doGraceTimeExpiry_loses hlent hmine hstate hover])

end Sys2Proof.Machine
end

section
/-! Flash operations that end, page buffers programmed once their window has run, and copies that take over (R494, R513, R514, R516, R526, R527, R530). -/

namespace Sys2Proof.Machine

/-! ### What a LUN's work leaves as it was (R488, R494)

Commands issued, operations put on a LUN and reads begun or suspended end no program, and reach neither the map nor the open blocks nor NOR. -/

/-- A program of slots into a block is under way, or waits on its LUN. -/
def Dev.programs (d : Dev) (k : Nat) (l : List (FlashSlot × Option Nat)) : Prop := ∃ p ∈ d.flash.ops, p.block = k ∧ p.programmed = some l

/-- A device after another with the same map, open blocks of writes and NOR, and with every program of the other's still on its LUN. -/
structure Dev.WorksOn (d e : Dev) : Prop where
  map : e.flash.map = d.flash.map
  opens : e.flash.opens = d.flash.opens
  nor : e.nor = d.nor
  programs : ∀ k l, d.programs k l → e.programs k l

namespace Dev.WorksOn

theorem refl (d : Dev) : d.WorksOn d := ⟨rfl, rfl, rfl, fun _ _ h => h⟩

theorem trans {d e f : Dev} (h : d.WorksOn e) (g : e.WorksOn f) : d.WorksOn f :=
  ⟨g.map.trans h.map, g.opens.trans h.opens, g.nor.trans h.nor, fun k l p => g.programs k l (h.programs k l p)⟩

theorem foldl {α : Type} {f : Dev → α → Dev} (h : ∀ (d : Dev) (a : α), d.WorksOn (f d a)) (l : List α) (d : Dev) : d.WorksOn (l.foldl f d) :=
  List.foldlRecOn (motive := d.WorksOn) l f (refl d) fun e he a _ => he.trans (h e a)

end Dev.WorksOn

theorem worksOn_onfi (d : Dev) (lun : Nat) (l : List Onfi) : d.WorksOn (d.onfi lun l) :=
  .foldl (f := fun d x => d.send (.onfi lun x)) (fun _ _ => ⟨rfl, rfl, rfl, fun _ _ h => h⟩) l d

theorem worksOn_modBlock (d : Dev) (k : Nat) (f : FlashBlock → FlashBlock) : d.WorksOn (d.modBlock k f) := ⟨rfl, rfl, rfl, fun _ _ h => h⟩

theorem worksOn_beginRead (d : Dev) (o : FlashOp) : d.WorksOn (d.beginRead o) :=
  have hserving : d.WorksOn (d.setFlash { d.flash with serving := tabSet (blockLun o.block) o.number d.flash.serving }) :=
    ⟨rfl, rfl, rfl, fun _ _ h => h⟩
  hserving.trans (worksOn_onfi ..)

/-- The operation that a read suspends stays, with its block and its slots. -/
theorem worksOn_suspend (d : Dev) (p : FlashOp) (c0 : Bool) : d.WorksOn (d.suspend p c0) := by
  unfold Dev.suspend
  split
  · exact worksOn_onfi ..
  · refine (worksOn_onfi d (blockLun p.block) [.suspend]).trans ⟨rfl, rfl, rfl, fun k l ⟨q, hq, hblock, hslots⟩ => ?_⟩
    refine ⟨_, List.mem_map_of_mem hq, ?_⟩
    split <;> exact ⟨hblock, hslots⟩

theorem worksOn_serveLun (d : Dev) (lun : Nat) : d.WorksOn (d.serveLun lun) := by
  unfold Dev.serveLun
  split
  · exact .refl d
  · dsimp only
    split
    · exact .refl d
    · split
      · exact worksOn_beginRead ..
      · split
        · exact .refl d
        · exact (worksOn_suspend ..).trans (worksOn_beginRead ..)

/-- An operation other than a C0 read joins those on its LUN. -/
theorem worksOn_startOp (d : Dev) (use : OpFor) (block index : Nat) : d.WorksOn (d.startOp use block index false) := by
  refine .trans ?_ (worksOn_serveLun _ (blockLun block))
  refine .trans ?_ (worksOn_onfi _ (blockLun block) _)
  exact ⟨rfl, rfl, rfl, fun k l ⟨q, hq, hprogram⟩ => ⟨q, List.mem_append_left _ hq, hprogram⟩⟩

/-- A program put on its LUN is there. -/
theorem programs_startOp (d : Dev) (l : List (FlashSlot × Option Nat)) (block index : Nat) : (d.startOp (.program l) block index false).programs block l := by
  refine (worksOn_serveLun _ (blockLun block)).programs _ _ ((worksOn_onfi _ (blockLun block) _).programs _ _ ?_)
  exact ⟨_, List.mem_append_right _ List.mem_cons_self, rfl, rfl⟩

theorem worksOn_beginErase (d : Dev) (k : Nat) : d.WorksOn (d.beginErase k) := (worksOn_modBlock ..).trans (worksOn_startOp ..)

theorem worksOn_rootDirty (d : Dev) : d.WorksOn d.rootDirty := by
  unfold Dev.rootDirty
  split
  · have hclean : d.WorksOn (d.setFlash { d.flash with rootClean := false }) := ⟨rfl, rfl, rfl, fun _ _ h => h⟩
    exact hclean.trans (.foldl worksOn_beginErase ..)
  · exact .refl d

theorem worksOn_startErase (d : Dev) (k : Nat) : d.WorksOn (d.startErase k) := (worksOn_rootDirty d).trans (worksOn_beginErase ..)

theorem worksOn_startProgram (d : Dev) (block : Nat) (l : List (FlashSlot × Option Nat)) : d.WorksOn (d.startProgram block l) :=
  (worksOn_rootDirty d).trans (worksOn_startOp ..)

/-! ### COALESCING_WINDOW (R513, R514) -/

/-- The page buffer of a collection's open block, programmed, leaves those of writes alone. -/
theorem worksOn_programPage_collect (d : Dev) (key : Nat) (o : OpenBlock) : d.WorksOn (d.programPage key o true) :=
  have hbuffer : d.WorksOn (d.setBuffer true key { o with buffer := [] }) := ⟨rfl, rfl, rfl, fun _ _ h => h⟩
  hbuffer.trans (worksOn_startProgram ..)

/-- A page of a volume's writes that is programmed leaves its page buffer empty. -/
theorem opens_programPage (d : Dev) (key : Nat) (o : OpenBlock) :
    tabGet key (d.programPage key o false).flash.opens = some { o with buffer := [] } := by
  rw [Dev.programPage, (worksOn_startProgram ..).opens]
  exact tabGet_tabSet_self ..

/-- The page is programmed whole: the buffer's slots, then filler. -/
theorem programs_programPage (d : Dev) (key : Nat) (o : OpenBlock) :
    (d.programPage key o false).programs o.block (o.buffer ++
      List.replicate (pageSlots (d.profile (lunGroup (blockLun o.block))) - o.buffer.length)
        (fillerSlot (d.fblock o.block).volume (d.volume (d.fblock o.block).volume).realm, none)) :=
  programs_startOp ..

/-- Once the window has run for a page buffer of writes it is programmed; collection's, programmed after it, leaves it so. -/
theorem worksOn_doCoalescingWindow {c : Ctx} {d : Dev} {v ch : Nat} {o : OpenBlock} (hopen : tabGet (64 * v + ch) d.flash.opens = some o)
    (hrun : d.windowRun c o = true) : (d.programPage (64 * v + ch) o false).WorksOn (doCoalescingWindow v ch c d) := by
  simp only [doCoalescingWindow, hopen, hrun, if_true]
  split
  · split
    · exact worksOn_programPage_collect ..
    · exact .refl _
  · exact .refl _

/-! ### Operations and their channels (R694) -/

/-- An operation found by its number has that number. -/
theorem flashOp?_number {d : Dev} {n : Nat} {o : FlashOp} (h : d.flashOp? n = some o) : o.number = n := by
  simpa using List.find?_some h

/-- A change of an operation that keeps its number is found under that number. -/
theorem flashOp?_of_map {d e : Dev} {n : Nat} {o : FlashOp} {f : FlashOp → FlashOp} (h : d.flashOp? n = some o) (hf : ∀ p, (f p).number = p.number)
    (hops : e.flash.ops = d.flash.ops.map fun p => if p.number = n then f p else p) : e.flashOp? n = some (f o) := by
  have hsame : ((fun p => p.number == n) ∘ fun p => if p.number = n then f p else p) = fun p : FlashOp => p.number == n := by
    funext p
    by_cases hp : p.number = n <;> simp [hp, hf]
  calc e.flashOp? n
    _ = (d.flashOp? n).map fun p => if p.number = n then f p else p := by rw [Dev.flashOp?, hops, List.find?_map, hsame]; rfl
    _ = some (f o) := by simp [h, flashOp?_number h]

/-- The end of an operation on a channel that is not under test. -/
theorem devStep_untested {s : State} {n : Nat} (hs : s.running = true) (h : s.dev.opTested n = false) (f : Ctx → Dev → Dev) :
    devStep (fun c d => if d.opTested n then d else f c d) s = .next (s.withDev (f s.ctx s.dev)) := by
  rw [devStep_run _ s hs, h]
  rfl

/-- On a channel under test no operation ends. -/
theorem devStep_tested {s : State} {n : Nat} (hs : s.running = true) (h : s.dev.opTested n = true) (f : Ctx → Dev → Dev) :
    devStep (fun c d => if d.opTested n then d else f c d) s = .next s := by
  rw [devStep_run _ s hs, h]
  rfl

/-- Ends with the same effect on a state's device are the same, under test or not. -/
theorem devStep_untested_congr {f g : Ctx → Dev → Dev} {s : State} (h : f s.ctx s.dev = g s.ctx s.dev) (n : Nat) :
    devStep (fun c d => if d.opTested n then d else f c d) s = devStep (fun c d => if d.opTested n then d else g c d) s := by
  simp only [devStep, h]

/-! ### FLASH_READ_COMPLETE (R494, R530) -/

section
variable {c : Ctx} {d : Dev} {n : Nat} {o : FlashOp} (ho : d.flashOp? n = some o)
include ho

section
variable {x : FlashSlot} (hserved : d.served (blockLun o.block) = some o) (hslot : (d.fblock o.block).slots[o.index]? = some x) (corrected : Nat)
include hserved hslot

/-- A read that its LUN serves and that decodes ends on the LUN and is handed on. -/
theorem doFlashReadComplete_decodes :
    doFlashReadComplete n true corrected c d =
      ((((d.dropOp n).sample c (lunGroup (blockLun o.block)) 1 corrected 0 0).lunResult c (blockLun o.block) true).readGiven c o x).health c
        (lunGroup (blockLun o.block)) := by
  have hserves : d.serveLun (blockLun o.block) = d := if_pos (by simp [hserved])
  simp [doFlashReadComplete, ho, hserves, hserved, flashOp?_number ho, hslot]

/-- One that does not decode, with a retry level left, is issued at the next level. -/
theorem doFlashReadComplete_retries (hlevel : o.retries < mpRetries (d.profile (lunGroup (blockLun o.block)))) :
    doFlashReadComplete n false corrected c d =
      (d.setFlash { d.flash with
        retries := satAdd 64 d.flash.retries 1
        ops := d.flash.ops.map fun p => if p.number = n then { p with retries := p.retries + 1 } else p }).onfi (blockLun o.block)
          [.read o.block o.index (o.retries + 1)] := by
  have hserves : d.serveLun (blockLun o.block) = d := if_pos (by simp [hserved])
  simp [doFlashReadComplete, ho, hserves, hserved, flashOp?_number ho, hslot, hlevel]

end

/-! ### PROGRAM_STATUS and ERASE_COMPLETE (R494, R516, R527) -/

section
variable (hserved : d.served (blockLun o.block) = none) (hbusy : d.busyOp (blockLun o.block) = some o)
include hserved hbusy

/-- The program under way on a LUN that serves no read ends. -/
theorem doProgramStatus_ends (hprogram : o.programmed.isSome = true) (passed : Bool) :
    doProgramStatus n passed c d = d.programEnds c o passed := by
  have hnone : o.programmed.isNone = false := by simpa [← Option.not_isSome] using hprogram
  simp [doProgramStatus, ho, hnone, hbusy, hserved, flashOp?_number ho]

/-- The erase under way on a LUN that serves no read, and that passes, frees its block. -/
theorem doEraseComplete_frees (huse : o.use = .erase) :
    doEraseComplete n true c d =
      (((((d.dropOp n).sample c (lunGroup (blockLun o.block)) 0 0 1 0).blockErased o.block).lunResult c (blockLun o.block) true).blockFreed c
        (lunGroup (blockLun o.block))).health c (lunGroup (blockLun o.block)) := by
  simp [doEraseComplete, ho, huse, hbusy, hserved, flashOp?_number ho]

end

/-- A program that a read has suspended does not end. -/
theorem doProgramStatus_suspended (hserved : (d.served (blockLun o.block)).isSome = true) (passed : Bool) : doProgramStatus n passed c d = d := by
  simp [doProgramStatus, ho, hserved]

/-- Nor does an erase. -/
theorem doEraseComplete_suspended (hserved : (d.served (blockLun o.block)).isSome = true) (passed : Bool) : doEraseComplete n passed c d = d := by
  simp [doEraseComplete, ho, hserved]

end

/-- A page program that passes. -/
theorem programEnds_page {o : FlashOp} {l : List (FlashSlot × Option Nat)} (huse : o.use = .program l) (c : Ctx) (d : Dev) :
    d.programEnds c o true =
      ((((d.sample c (lunGroup (blockLun o.block)) 0 0 1 0).dropOp o.number).lunResult c (blockLun o.block) true).pageProgrammed c o.block l).health c
        (lunGroup (blockLun o.block)) := by
  simp [Dev.programEnds, huse]

/-- A summary's program that passes. -/
theorem programEnds_summary {o : FlashOp} {t : BlockSummary} (huse : o.use = .summary t) (c : Ctx) (d : Dev) :
    d.programEnds c o true =
      ((((d.sample c (lunGroup (blockLun o.block)) 0 0 1 0).dropOp o.number).lunResult c (blockLun o.block) true).modBlock o.block
        fun b => { b with state := .closed, summary := some t }).health c (lunGroup (blockLun o.block)) := by
  simp [Dev.programEnds, huse]

/-- An erased block is as new but for its erase count. -/
theorem fblock_blockErased (d : Dev) (k : Nat) : (d.blockErased k).fblock k = { FlashBlock.fresh with erases := (d.fblock k).erases + 1 } := by
  simp [Dev.fblock, Dev.blockErased, Dev.modBlock]

/-! ### COPY_VERIFY and SOURCE_ERASE (R526, R527) -/

/-- A copy whose slots are all programmed and that reads back takes over in the map, and is marked as verified. -/
theorem doCopyVerify_takesOver {d : Dev} {n : Nat} {x : FlashCopy} (hx : d.flash.copies.find? (fun y => y.number == n) = some x) (hleft : x.left = [])
    (hprogrammed : d.copyProgrammed x = true) (hnew : x.verified = false) (c : Ctx) :
    doCopyVerify n true c d = (d.switchMap x).setFlash { (d.switchMap x).flash with
      copies := d.flash.copies.map fun y => if y.number = n then { y with verified := true } else y } := by
  simp [doCopyVerify, hx, hleft, hprogrammed, hnew]

/-- Once no operation is left at its source, a verified copy goes and the erase of the source begins. -/
theorem doSourceErase_erases {d : Dev} {n : Nat} {x : FlashCopy} (hx : d.flash.copies.find? (fun y => y.number == n) = some x)
    (hverified : x.verified = true) (hkept : x.retire = false) (hidle : ∀ o ∈ d.flash.ops, o.block ≠ x.source) (c : Ctx) :
    doSourceErase n c d =
      (d.setFlash { d.flash with copies := d.flash.copies.filter fun y => y.number != n }).startErase x.source := by
  have hnone : d.flash.ops.any (fun o => o.block == x.source) = false := by simpa using hidle
  simp [doSourceErase, hx, hverified, hkept, hnone]

/-- Settles O52, one clause for each command and each kind of operation. That nothing ends while suspended or under test is log entry 8. -/
theorem flashOperationsEnd : Obligations.FlashOperationsEnd := by
  refine fun s hs => ⟨fun v ch o hopen hbuffer hwindow => ?_, fun n o ho htest => ⟨?_, ?_, ?_, ?_, fun hserved passed => ⟨?_, ?_⟩⟩, fblock_blockErased,
    fun n htest passed corrected => ⟨devStep_tested hs htest _, devStep_tested hs htest _, devStep_tested hs htest _, devStep_tested hs htest _⟩,
    fun n x hx hleft hprogrammed hnew => ?_, fun n x hx hverified hkept hidle => ?_⟩
  · have hrun : s.dev.windowRun s.ctx o = true := by simp [Dev.windowRun, State.ctx, hbuffer, hwindow]
    have hworks := worksOn_doCoalescingWindow hopen hrun
    refine ⟨_, devStep_run _ s hs, ?_, hworks.programs _ _ (programs_programPage ..)⟩
    exact (congrArg (tabGet (64 * v + ch)) hworks.opens).trans (opens_programPage ..)
  · intro corrected k v lba desc x _ hserved hslot
    refine ⟨(devStep_untested hs htest _).trans (by rw [doFlashReadComplete_decodes ho hserved hslot]), fun hlevel => ?_⟩
    refine ⟨_, (devStep_untested hs htest _).trans (by rw [doFlashReadComplete_retries ho hserved hslot corrected hlevel]), rfl, ?_, rfl⟩
    exact flashOp?_of_map (f := fun p => { p with retries := p.retries + 1 }) ho (fun _ => rfl) rfl
  · intro l huse hbusy hserved
    refine (devStep_untested hs htest _).trans ?_
    rw [doProgramStatus_ends ho hserved hbusy (by simp [FlashOp.programmed, huse]), programEnds_page huse, flashOp?_number ho]
  · intro t huse hbusy hserved
    refine (devStep_untested hs htest _).trans ?_
    rw [doProgramStatus_ends ho hserved hbusy (by simp [FlashOp.programmed, huse]), programEnds_summary huse, flashOp?_number ho]
  · intro huse hbusy hserved
    exact (devStep_untested hs htest _).trans (by rw [doEraseComplete_frees ho hserved hbusy huse])
  · exact (devStep_untested hs htest _).trans (by rw [doProgramStatus_suspended ho hserved]; rfl)
  · exact (devStep_untested hs htest _).trans (by rw [doEraseComplete_suspended ho hserved]; rfl)
  · refine ⟨_, (devStep_run _ s hs).trans (by rw [doCopyVerify_takesOver hx hleft hprogrammed hnew]), fun y hy hn => ?_, rfl⟩
    obtain ⟨z, -, rfl⟩ := List.mem_map.1 hy
    by_cases hz : z.number = n
    · simp [hz]
    · exact absurd hn (by simp [hz])
  · exact (devStep_run _ s hs).trans (by rw [doSourceErase_erases hx hverified hkept hidle])

end Sys2Proof.Machine
end

section
/-! Volumes whose keys are destroyed, flash operations that time out, and write-backs of the T2 cache (R471, R473, R499, R534). -/

namespace Sys2Proof.Machine

/-! ### VOLUME_KEY_DESTROY (R499) -/

/-- A volume that is being removed goes once no capsule of its realm accepted by its commit is live. -/
theorem doVolumeKeyDestroy_destroys {d : Dev} {v : Nat} (hstate : (d.volume v).state = 3)
    (hgone : ∀ k ∈ d.capsules.live, ¬(k.realm = (d.volume v).realm ∧ k.acceptedAt ≤ (d.volume v).removedAt)) (c : Ctx) :
    doVolumeKeyDestroy v c d = d.destroyVolume c v := by
  have hnone : d.capsules.live.any (fun k => k.realm == (d.volume v).realm && decide (k.acceptedAt ≤ (d.volume v).removedAt)) = false := by
    simpa using hgone
  simp [doVolumeKeyDestroy, hstate, hnone]

/-- Where no volume takes its place, its key and its map entries are gone, which the erases of its blocks leave so. -/
theorem destroyVolume_key_map {d : Dev} {v : Nat} (hnext : (d.volume v).next = none) (c : Ctx) :
    (d.destroyVolume c v).nor.volumeKeys = tabDel v d.nor.volumeKeys ∧
      (d.destroyVolume c v).flash.map = d.flash.map.filter fun e => e.1 / 2 ^ 48 != v := by
  have herase (e : Dev) (k : Nat) : e.WorksOn (if e.lunState (blockLun k) = 0 then e.startErase k else e) := by
    split
    · exact worksOn_startErase ..
    · exact .refl e
  unfold Dev.destroyVolume
  simp only [hnext]
  exact ⟨congrArg Nor.volumeKeys (Dev.WorksOn.foldl herase ..).nor, (Dev.WorksOn.foldl herase ..).map⟩

/-! ### FLASH_OPERATION_TIMEOUT (R534) -/

section
variable {n : Nat} {o : FlashOp} {d : Dev} (ho : d.flashOp? n = some o)
include ho

theorem doFlashOperationTimeout_erase (huse : o.use = .erase) (c : Ctx) : doFlashOperationTimeout n c d = doEraseComplete n false c d := by
  simp only [doFlashOperationTimeout, ho, huse]

theorem doFlashOperationTimeout_program {l : List (FlashSlot × Option Nat)} (huse : o.use = .program l) (c : Ctx) :
    doFlashOperationTimeout n c d = doProgramStatus n false c d := by
  simp only [doFlashOperationTimeout, ho, huse]

theorem doFlashOperationTimeout_summary {t : BlockSummary} (huse : o.use = .summary t) (c : Ctx) :
    doFlashOperationTimeout n c d = doProgramStatus n false c d := by
  simp only [doFlashOperationTimeout, ho, huse]

end

/-! ### Write-backs (R471, R473) -/

/-- A sector that is dirty for the write-back age, with none of its present bytes on their way, is written back. -/
theorem doWriteBackAge_writesBack {c : Ctx} {d : Dev} {realm sector : Nat} {p : CachePanel} (hpanel : d.panel realm (panelTag sector) = some p)
    (hdirty : bit p.dirty (sector % 16) = true) (hstill : d.onItsWay sector = false)
    (hage : p.dirtySince + d.cfg 0x2461 2 * msTicks ≤ c.now) : doWriteBackAge realm sector c d = d.writeBack realm sector := by
  simp [doWriteBackAge, hpanel, hdirty, hstill, hage]

/-- What is written back lies at the home, byte for byte. -/
theorem home_writeBack (d : Dev) (realm sector : Nat) :
    (d.writeBack realm sector).tiers.home = copySector d.tiers.cache d.tiers.home sector := by
  simp only [Dev.writeBack, Dev.sendBack, Dev.countCache, tiers_afp, Dev.setTiers_tiers]

/-- And its write-back awaits the home's acknowledgement. -/
theorem writeBack_mem_writeBacks (d : Dev) (realm sector : Nat) :
    ⟨sector, realm, false, false, none⟩ ∈ (d.writeBack realm sector).tiers.writeBacks := by
  simp [Dev.writeBack, Dev.sendBack, Dev.countCache]

/-- The memory of the device stays. -/
theorem mem_writeBack (d : Dev) (realm sector : Nat) : (d.writeBack realm sector).mem = d.mem := by
  simp [Dev.writeBack, Dev.sendBack, Dev.countCache, afp_mem]

/-- The home's acknowledgement of a write-back ends it. -/
theorem doWriteBackAck_done {s : State} {h : Afp} {sector : Nat} {b : WriteBack} (hh : s.hears h false) (hok : h.status = stOk)
    (hb : s.dev.tiers.writeBacks.find? (fun x => x.sector == sector) = some b) :
    doWriteBackAck h sector s.ctx s.dev = (s.heard h).writeBackDone b := by
  have hserved : stOk ≠ stEpochMoved := by decide
  rw [doWriteBackAck, receive_hears hh]
  simp only [tiers_heard, hb, hok, if_neg hserved, if_true]

/-- Settles O53. That the home's bytes change as the write-back is sent is log entry 11. -/
theorem flashAndWriteBack : Obligations.FlashAndWriteBack := by
  refine ⟨fun s hs => ⟨fun v hstate hgone => ⟨?_, fun hnext => destroyVolume_key_map hnext s.ctx⟩, fun n o ho huse => ?_, fun n o l ho huse => ?_,
    fun n o t ho huse => ?_, fun n => exec_answers _ s⟩, fun s realm sector p hs hpanel hdirty hstill hage => ?_,
    fun s h sector b hh hok hb => ?_⟩
  · exact (devStep_run _ s hs).trans (by rw [doVolumeKeyDestroy_destroys hstate hgone])
  · exact devStep_untested_congr (doFlashOperationTimeout_erase ho huse s.ctx) n
  · exact devStep_untested_congr (doFlashOperationTimeout_program ho huse s.ctx) n
  · exact devStep_untested_congr (doFlashOperationTimeout_summary ho huse s.ctx) n
  · refine ⟨s.withDev (s.dev.writeBack realm sector), ?_, home_writeBack .., writeBack_mem_writeBacks .., mem_writeBack ..⟩
    exact (devStep_run _ s hs).trans (by rw [doWriteBackAge_writesBack (c := s.ctx) hpanel hdirty hstill hage])
  · exact (devStep_run _ s hh.1).trans (by rw [doWriteBackAck_done hh hok hb])

end Sys2Proof.Machine
end

section
/-! The fuses: each command that burns one does so by the rule of the entry it writes (R650, R660, R661); and what every step does to the
queue. -/

namespace Sys2Proof.Machine

/-! ### The queue -/

/-- A command leaves the queue alone. -/
theorem exec_pending {i : Instr} {s t : State} (h : exec i s = .next t) : t.pending = s.pending := by
  rcases h ▸ exec_reaches i s with ⟨_, k⟩ | ⟨-, _, _, k⟩ | ⟨_, _, -, k⟩ <;> (cases k; rfl)

theorem step_pending {s t : State} (h : step s = .next t) : t.pending = s.pending.tail := by
  rcases step_cases h with ⟨hp, rfl⟩ | ⟨i, rest, hp, hx⟩
  · simp [State.tick, hp]
  · simp [exec_pending hx, hp]

theorem step_answers (s : State) : s.stepsOn := by
  unfold State.stepsOn step
  split
  · exact ⟨_, rfl⟩
  · exact exec_answers _ _

/-- Settles O1: with a command in front, a step is its meaning by definition. -/
theorem stepRunsTheFrontCommand : Obligations.StepRunsTheFrontCommand := fun _ _ _ => rfl

/-- Settles O4: every command answers, and reaches the device, the fuses and the time base alone. -/
theorem everyStepTakesOneCommand : Obligations.EveryStepTakesOneCommand :=
  ⟨step_answers, fun _ _ _ => exec_pending, fun _ _ => step_pending⟩

/-! ### A device that does not run -/

theorem fuseStep_stopped (f : Ctx → Dev → Fuses × Dev) {s : State} (h : s.running = false) : fuseStep f s = .next s := by
  simp [fuseStep, h]

/-- Settles O5: every command but the pins' asks whether the device runs before it does anything (log entry 8). -/
theorem stoppedDeviceTakesOnlyPins : Obligations.StoppedDeviceTakesOnlyPins := by
  intro i s h hpin
  have hrun : ¬s.running = true := by simp [h]
  cases i with
  | pwrgoodRise | pwrgoodFall | sysRstNAssert | sysRstNRelease | perstNAssert | perstNRelease => cases hpin
  | identity | timeResp => exact if_neg hrun
  | transitionRequest | commitSecurityVersion | revokeRootKey | write | writeSeg | planImage | imagePackage => exact fuseStep_stopped _ h
  | _ => dsimp only [exec]; exact devStep_stopped _ s h

/-! ### How an entry burns fuses (R650, R660, R661) -/

/-- What the three entries of the fuses can make of them: an unlisted change is none of these. -/
inductive Fuses.Burns : Nat × Nat → Fuses → Fuses → Prop
  | stay {e f} : Burns e f f
  | cycle {f target uds} : (f.lifeCycle, target) ∈ [(0, 1), (1, 2), (1, 3), (2, 4), (3, 4), (0, 5), (1, 5), (2, 5), (3, 5), (4, 5)] →
      (f.udsBurned = true → uds = true) → Burns (0x5C00, 2) f { f with lifeCycle := target, udsBurned := uds }
  | version {f n v} : nth f.counters n ≤ v → Burns (0x5C01, 3) f { f with counters := f.counters.set n v }
  | revoked {f k} : Burns (0x5C01, 4) f { f with revoked := f.revoked ||| 2 ^ k }

/-- A counter raised lowers none. -/
theorem nth_set_le {l : List Nat} {n v : Nat} (h : nth l n ≤ v) (m : Nat) : nth l m ≤ nth (l.set n v) m := by
  simp only [nth, List.getD_eq_getElem?_getD, List.getElem?_set] at *
  split
  · rename_i hm
    subst hm
    split
    · exact h
    · rename_i hlen; simp [List.getElem?_eq_none (Nat.not_lt.1 hlen)]
  · exact Nat.le_refl _

theorem Fuses.follow_self (f : Fuses) : f.follow f := ⟨id, rfl, fun _ => id, fun _ => Nat.le_refl _, .inl rfl⟩

theorem Fuses.Burns.follow {e : Nat × Nat} {f g : Fuses} (h : f.Burns e g) : f.follow g := by
  cases h with
  | stay => exact f.follow_self
  | cycle hlisted huds => exact ⟨huds, rfl, fun _ => id, fun _ => Nat.le_refl _, .inr hlisted⟩
  | version hv => exact ⟨id, rfl, fun _ => id, nth_set_le hv, .inl rfl⟩
  | revoked => exact ⟨id, rfl, fun j hj => by simp only [bit, Nat.testBit_or] at *; simp [hj], fun _ => Nat.le_refl _, .inl rfl⟩

/-- Only entry 0x5C01.03 moves a counter. -/
theorem Fuses.Burns.counters {e : Nat × Nat} {f g : Fuses} (h : f.Burns e g) (hc : g.counters ≠ f.counters) : e = (0x5C01, 3) := by
  cases h with
  | version => rfl
  | stay | cycle | revoked => exact absurd rfl hc

/-- Fuses that follow legal ones are legal: a listed transition ends in a code of the table. -/
theorem Fuses.follow.legal {f g : Fuses} (h : f.follow g) (hf : f.legal) : g.legal := by
  obtain ⟨-, -, -, -, hsame | hlisted⟩ := h
  · unfold Fuses.legal at *; omega
  · simp only [List.mem_cons, Prod.mk.injEq, List.not_mem_nil, or_false] at hlisted
    unfold Fuses.legal; omega

/-! ### The entries' own rules -/

/-- A transition of the model's table is one that R650 lists. -/
theorem transitionListed_listed {c : Ctx} {d : Dev} {target : Nat} (h : d.transitionListed c target = true) :
    (c.fuses.lifeCycle, target) ∈ [(0, 1), (1, 2), (1, 3), (2, 4), (3, 4), (0, 5), (1, 5), (2, 5), (3, 5), (4, 5)] := by
  unfold Dev.transitionListed at h
  split at h
  case h_6 =>
    have hn : c.fuses.lifeCycle < 5 := by simpa using h
    generalize c.fuses.lifeCycle = n at hn
    interval_cases n <;> decide
  case h_7 => cases h
  all_goals simp_all

theorem actTransition_burns (c : Ctx) (d : Dev) (q s target) : c.fuses.Burns (0x5C00, 2) (d.actTransition c q s target).1 := by
  unfold Dev.actTransition
  split
  · exact .stay
  · rename_i hok
    split
    · exact .stay
    · simp only [Bool.or_eq_true, Bool.not_eq_true', not_or, Bool.not_eq_false] at hok
      exact .cycle (transitionListed_listed hok.1.2) fun hu => by simp [hu]

theorem actSecurityVersion_burns (c : Ctx) (d : Dev) (q value) : c.fuses.Burns (0x5C01, 3) (d.actSecurityVersion c q value).1 := by
  unfold Dev.actSecurityVersion
  dsimp only
  split
  · exact .stay
  · split
    · exact .stay
    · rename_i hnew hok
      exact .version (by omega)

theorem actRevoke_burns (c : Ctx) (d : Dev) (q k) : c.fuses.Burns (0x5C01, 4) (d.actRevoke c q k).1 := by
  unfold Dev.actRevoke
  split
  · exact .revoked
  · exact .stay

theorem actEntry_burns (c : Ctx) (d : Dev) (q s idx sub v) : c.fuses.Burns (idx, sub) (d.actEntry c q s idx sub v).1 := by
  unfold Dev.actEntry
  split
  · rename_i h; obtain ⟨rfl, rfl⟩ := h; exact actTransition_burns ..
  · split
    · rename_i h; obtain ⟨rfl, rfl⟩ := h; exact actSecurityVersion_burns ..
    · split
      · rename_i h; obtain ⟨rfl, rfl⟩ := h; exact actRevoke_burns ..
      · split <;> exact .stay

theorem putEntry_burns (c : Ctx) (d : Dev) (q s op shown r idx sub v) :
    c.fuses.Burns (idx, sub) (d.putEntry c q s op shown r idx sub v).1 := by
  unfold Dev.putEntry
  split
  · exact actEntry_burns ..
  · exact .stay
  · exact .stay

/-! ### From the entry to the command -/

/-- What holds of every result of a request holds of the request. -/
theorem requestIn_all {α : Type} {P : α → Prop} {ret : Dev → α} {f : Dev → Session → α} (hret : ∀ d, P (ret d)) (hf : ∀ d s, P (f d s))
    (c d q op i j b) : P (Dev.requestIn ret c d q op i j b f) := by
  have h := (requestIn_nat P ret c d q op i j b f).trans ((congrArg₂ (fun r g => Dev.requestIn r c d q op i j b g)
    (funext fun d => eq_true (hret d)) (funext fun d => funext fun s => eq_true (hf d s))).trans (requestIn_const True c d q op i j b))
  exact of_eq_true h

/-- What holds of a refused write and of every effect holds of a checked write. -/
theorem checkedWrite_all {α : Type} {P : α → Prop} {ret : Dev → α} {f : EntryRow → Dev → α} (hret : ∀ d, P (ret d)) (hf : ∀ r d, P (f r d))
    (c d q s op shown idx sub v) : P (Dev.checkedWrite ret c d q s op shown idx sub v f) := by
  unfold Dev.checkedWrite
  dsimp only
  split
  · exact hret _
  · iterate 3
      split
      · exact hret _
    exact hf ..

theorem actionIn_all {α : Type} {P : α → Prop} {ret : Dev → α} {f : Dev → Session → α} (hret : ∀ d, P (ret d)) (hf : ∀ d s, P (f d s))
    (c d q idx sub value) : P (Dev.actionIn ret c d q idx sub value f) :=
  requestIn_all hret (fun _ s => checkedWrite_all hret (fun _ d => hf d s) ..) ..

theorem doTransitionRequest_burns (q target) (c : Ctx) (d) : c.fuses.Burns (0x5C00, 2) (doTransitionRequest q target c d).1 :=
  actionIn_all (P := fun p : Fuses × Dev => c.fuses.Burns (0x5C00, 2) p.1) (fun _ => .stay) (fun _ _ => actTransition_burns ..) ..

theorem doCommitSecurityVersion_burns (q value) (c : Ctx) (d) : c.fuses.Burns (0x5C01, 3) (doCommitSecurityVersion q value c d).1 :=
  actionIn_all (P := fun p : Fuses × Dev => c.fuses.Burns (0x5C01, 3) p.1) (fun _ => .stay) (fun _ _ => actSecurityVersion_burns ..) ..

theorem doRevokeRootKey_burns (q k) (c : Ctx) (d) : c.fuses.Burns (0x5C01, 4) (doRevokeRootKey q k c d).1 :=
  actionIn_all (P := fun p : Fuses × Dev => c.fuses.Burns (0x5C01, 4) p.1) (fun _ => .stay) (fun _ _ => actRevoke_burns ..) ..

theorem doWrite_burns (q idx sub len value) (c : Ctx) (d) : c.fuses.Burns (nativeOf idx sub, sub) (doWrite q idx sub len value c d).1 := by
  refine requestIn_all (P := fun p : Fuses × Dev => c.fuses.Burns (nativeOf idx sub, sub) p.1) (fun _ => .stay) (fun d s => ?_) ..
  refine checkedWrite_all (P := fun p : Fuses × Dev => c.fuses.Burns (nativeOf idx sub, sub) p.1) (fun _ => .stay) (fun r d => ?_) ..
  split
  · exact .stay
  · split
    · exact putEntry_burns ..
    · exact .stay

theorem doSegment_burns (q idx sub seg len value) (c : Ctx) (d) : c.fuses.Burns (nativeOf idx sub, sub) (doSegment q idx sub seg len value c d).1 := by
  refine requestIn_all (P := fun p : Fuses × Dev => c.fuses.Burns (nativeOf idx sub, sub) p.1) (fun _ => .stay) (fun d s => ?_) ..
  dsimp only
  -- every row of *Access results* keeps the fuses but the last, which writes the entry
  iterate 4
    split
    · exact .stay
  generalize Dev.modSession _ q.path q.number _ = gathered
  iterate 3
    split
    · exact .stay
  split
  · exact putEntry_burns ..
  · exact .stay

/-- The native entry through which a command may burn fuses. -/
def burntEntry : Instr → Option (Nat × Nat)
  | .transitionRequest .. => some (0x5C00, 2)
  | .commitSecurityVersion .. => some (0x5C01, 3)
  | .revokeRootKey .. => some (0x5C01, 4)
  | .write _ idx sub _ _ | .writeSeg _ idx sub _ _ _ => some (nativeOf idx sub, sub)
  | _ => none

theorem fuseStep_burns {f : Ctx → Dev → Fuses × Dev} {e : Nat × Nat} (hf : ∀ (c : Ctx) d, c.fuses.Burns e (f c d).1) {s t : State}
    (h : fuseStep f s = .next t) : s.fuses.Burns e t.fuses := by
  rcases fuseStep_any f s with k | k <;> (rw [k] at h; cases h)
  · exact .stay
  · exact hf s.ctx s.dev

/-- A command keeps the fuses, or burns them by the rule of the entry it writes. -/
theorem exec_burns {i : Instr} {s t : State} (h : exec i s = .next t) :
    t.fuses = s.fuses ∨ ∃ e, burntEntry i = some e ∧ s.fuses.Burns e t.fuses := by
  rcases exec_fuses h with hsame | hi
  · exact .inl hsame
  · right
    cases i with
    | transitionRequest => exact ⟨_, rfl, fuseStep_burns (doTransitionRequest_burns _ _) h⟩
    | commitSecurityVersion => exact ⟨_, rfl, fuseStep_burns (doCommitSecurityVersion_burns _ _) h⟩
    | revokeRootKey => exact ⟨_, rfl, fuseStep_burns (doRevokeRootKey_burns _ _) h⟩
    | write => exact ⟨_, rfl, fuseStep_burns (doWrite_burns _ _ _ _ _) h⟩
    | writeSeg => exact ⟨_, rfl, fuseStep_burns (doSegment_burns _ _ _ _ _ _) h⟩
    | _ => cases hi

theorem step_fuses_follow {s t : State} (h : step s = .next t) : s.fuses.follow t.fuses := by
  rcases step_cases h with ⟨-, rfl⟩ | ⟨i, rest, -, hx⟩
  · exact s.fuses.follow_self
  · rcases exec_burns hx with hsame | ⟨_, -, hb⟩
    · rw [hsame]; exact Fuses.follow_self _
    · exact hb.follow

/-- Settles O7: a step keeps the fuses or burns them by the rule of one entry, and each of these rules only burns. -/
theorem fusesOnlyBurn : Obligations.FusesOnlyBurn := fun _ _ => step_fuses_follow

/-- Settles O6: fuses that follow legal ones are legal. -/
theorem fusesStayLegal : Obligations.FusesStayLegal := fun _ _ hl h => (step_fuses_follow h).legal hl

/-! ### The commands of the fuses, taken up (R650, R660, R661) -/

/-- The entries of the fuses have no second name (R82). -/
theorem nativeOf_fuses {idx sub : Nat} (h : nativeOf idx sub = 0x5C01) : idx = 0x5C01 := by
  unfold nativeOf at h
  split at h
  · omega
  · exact h

/-- A command that moves a counter names its entry. -/
theorem burntEntry_counters {i : Instr} (h : burntEntry i = some (0x5C01, 3)) :
    (∃ q v, i = .commitSecurityVersion q v) ∨ (∃ q n l v, i = .write q 0x5C01 n l v) ∨ (∃ q n g l v, i = .writeSeg q 0x5C01 n g l v) := by
  unfold burntEntry at h
  split at h
  case h_1 => simp at h
  case h_2 => exact .inl ⟨_, _, rfl⟩
  case h_3 => simp at h
  case h_4 =>
    obtain ⟨hidx, -⟩ := Prod.mk.inj (Option.some.inj h)
    cases nativeOf_fuses hidx
    exact .inr (.inl ⟨_, _, _, _, rfl⟩)
  case h_5 =>
    obtain ⟨hidx, -⟩ := Prod.mk.inj (Option.some.inj h)
    cases nativeOf_fuses hidx
    exact .inr (.inr ⟨_, _, _, _, _, rfl⟩)
  case h_6 => cases h

theorem bothHave_iff (c : Ctx) (d : Dev) (n v : Nat) : d.bothHave c n v = true ↔
    ∀ i, i = 0 ∨ i = 1 → d.componentOk c (d.image i) n = true ∧ v ≤ sbSvn ((d.image i).sig n) := by
  simp [Dev.bothHave]

section
variable {c : Ctx} {d : Dev} {value : Nat}

/-- A counter that is there already stays (R660). -/
theorem actSecurityVersion_reached (hn : bits value 15 8 < 8) (hv : bits value 7 0 ≤ nth c.fuses.counters (bits value 15 8)) (q : Req) :
    d.actSecurityVersion c q value = (c.fuses, d.answer q 0x5C01 3 stOk) := if_pos ⟨hn, hv⟩

/-- A counter burns up to a version that both images hold (R660). -/
theorem actSecurityVersion_raises (hv : nth c.fuses.counters (bits value 15 8) < bits value 7 0) (hn : bits value 15 8 < 6)
    (hb : d.bothHave c (bits value 15 8) (bits value 7 0) = true) (q : Req) : d.actSecurityVersion c q value =
      ({ c.fuses with counters := c.fuses.counters.set (bits value 15 8) (bits value 7 0) }, d.answer q 0x5C01 3 stOk) := by
  have hnew : ¬(bits value 15 8 < 8 ∧ bits value 7 0 ≤ nth c.fuses.counters (bits value 15 8)) := by omega
  simp [Dev.actSecurityVersion, hnew, hb, hn]

/-- A version that an image does not hold is refused (R660). -/
theorem actSecurityVersion_refuses (hv : nth c.fuses.counters (bits value 15 8) < bits value 7 0)
    (hb : d.bothHave c (bits value 15 8) (bits value 7 0) = false) (q : Req) :
    d.actSecurityVersion c q value = (c.fuses, d.answer q 0x5C01 3 stConfigReject) := by
  have hnew : ¬(bits value 15 8 < 8 ∧ bits value 7 0 ≤ nth c.fuses.counters (bits value 15 8)) := by omega
  simp [Dev.actSecurityVersion, hnew, hb]

end

/-- Slot k may be revoked unless it signed a component of an image or is the last unrevoked production slot (R661). -/
theorem mayRevoke_iff {c : Ctx} {d : Dev} {k : Nat} (hk : k < 8) : d.mayRevoke c k = true ↔
    (¬∃ i n, (i = 0 ∨ i = 1) ∧ n < 6 ∧ (d.image i).len ≠ 0 ∧ sbSlot ((d.image i).sig n) = k) ∧
    ¬(k < 4 ∧ bit c.fuses.revoked k = false ∧ ∀ j < 4, j ≠ k → c.fuses.rootStatus j ≠ 1) := by
  simp only [Dev.mayRevoke, hk, decide_true, List.any_cons, List.any_nil, Bool.or_false, Bool.true_and, Bool.and_eq_true, Bool.not_eq_true',
    ← Bool.not_eq_true, Bool.or_eq_true, List.any_eq_true, List.mem_range, decide_eq_true_eq, bne_iff_ne, beq_iff_eq]
  refine and_congr (not_congr ⟨?_, ?_⟩) (not_congr ?_)
  · rintro (⟨hl, n, hn, hs⟩ | ⟨hl, n, hn, hs⟩)
    · exact ⟨0, n, .inl rfl, hn, hl, hs⟩
    · exact ⟨1, n, .inr rfl, hn, hl, hs⟩
  · rintro ⟨i, n, rfl | rfl, hn, hl, hs⟩
    · exact .inl ⟨hl, n, hn, hs⟩
    · exact .inr ⟨hl, n, hn, hs⟩
  · simp only [and_assoc, not_exists, not_and, ne_eq]

section
variable {s : State} {q : Req} {d : Dev} {x : Session}

theorem exec_commitSecurityVersion {value : Nat} (h : s.takesUp q 0x5C01 3 value d x) :
    exec (.commitSecurityVersion q value) s = .next (s.withFuses (d.actSecurityVersion s.ctx q value)) :=
  fuseStep_action _ _ _ _ _ _ _ (fun c d _ => d.actSecurityVersion c q value) h

theorem exec_revokeRootKey {k : Nat} (h : s.takesUp q 0x5C01 4 k d x) :
    exec (.revokeRootKey q k) s = .next (s.withFuses (d.actRevoke s.ctx q k)) :=
  fuseStep_action _ _ _ _ _ _ _ (fun c d _ => d.actRevoke c q k) h

theorem exec_transitionRequest {target : Nat} (h : s.takesUp q 0x5C00 2 target d x) :
    exec (.transitionRequest q target) s = .next (s.withFuses (d.actTransition s.ctx q x target)) :=
  fuseStep_action _ _ _ _ _ _ _ (fun c d x => d.actTransition c q x target) h

end

/-- Settles O42: each command burns by its entry's rule. The From state of a transition and the slots that count as valid are log entry 52's. -/
theorem fuseCommandsBurn : Obligations.FuseCommandsBurn := by
  refine ⟨fun i s t h hc => ?_, fun s q d x => ⟨fun value => ?_, fun k h hk => ?_, fun target h => ?_⟩⟩
  · rcases exec_burns h with hsame | ⟨e, hi, hb⟩
    · exact absurd (congrArg Fuses.counters hsame) hc
    · exact burntEntry_counters (hi.trans (congrArg some (hb.counters hc)))
  · intro c v h hn both
    have hboth : d.bothHave s.ctx c v = true ↔ both := bothHave_iff ..
    have hn : bits value 15 8 < 6 := hn
    have hcommit := exec_commitSecurityVersion h
    refine ⟨fun hold => ?_, fun hnew hb => ?_, fun hnew hb => ?_⟩ <;> rw [hcommit]
    · rw [actSecurityVersion_reached (by omega) hold]; rfl
    · rw [actSecurityVersion_raises hnew (by omega) (hboth.2 hb)]; rfl
    · rw [actSecurityVersion_refuses hnew (by rw [← Bool.not_eq_true, hboth]; exact hb)]; rfl
  · intro signed last
    have hmay : d.mayRevoke s.ctx k = true ↔ ¬signed ∧ ¬last := mayRevoke_iff hk
    refine ⟨fun hs hl => ?_, fun hno => ?_⟩ <;> rw [exec_revokeRootKey h, Dev.actRevoke]
    · rw [if_pos (hmay.2 ⟨hs, hl⟩)]; rfl
    · rw [if_neg (by rw [hmay]; exact fun ⟨hs, hl⟩ => hno.elim hs hl)]; rfl
  · intro allowed
    have hok : (x.realm != 0 || !d.transitionListed s.ctx target || d.pins.lcStrap != 1) = true ↔ ¬allowed := by
      simp only [allowed, Bool.or_eq_true, bne_iff_ne, Bool.not_eq_true', not_and_or, Bool.not_eq_true, or_assoc, ne_eq]
    refine ⟨fun ha hgen => ?_, fun hno => ?_⟩ <;> rw [exec_transitionRequest h, Dev.actTransition]
    · rw [if_neg (by rw [hok]; exact not_not.2 ha), if_neg (by rcases hgen with h | h <;> simp [h])]; rfl
    · rw [if_pos (hok.2 hno)]; rfl

end Sys2Proof.Machine
end

section
/-! Capsules of host functions at the ingress: accepted and queued for admission, or refused (R542, R571–R574, R579, R583). -/

namespace Sys2Proof.Machine

/-! ### The rows of host capsules -/

/-- A row of a host capsule takes the capsule; three of the rows also note what the capsule leaves waiting. -/
theorem exec_hostCapsule {op : Nat} {i : Instr} {src : CapsuleSource} {raw : BitVec 512}
    (h : (op, i) ∈ [(0x01, Instr.run src raw), (0x02, .planLoad src raw), (0x03, .planUnload src raw), (0x10, .update src raw),
      (0x11, .volume src raw), (0x12, .kvService src raw)]) {s : State} (hrun : s.running = true) {d : Dev}
    (hd : takeCapsule op i src raw.toNat s.ctx s.dev = d) :
    exec i s = .next (s.withDev (if op = 0x02 ∨ op = 0x11 ∨ op = 0x12 then d.hear s.ctx none else d)) := by
  subst hd
  simp only [List.mem_cons, Prod.mk.injEq, List.not_mem_nil, or_false] at h
  rcases h with ⟨rfl, rfl⟩ | ⟨rfl, rfl⟩ | ⟨rfl, rfl⟩ | ⟨rfl, rfl⟩ | ⟨rfl, rfl⟩ | ⟨rfl, rfl⟩ <;> exact devStep_run _ s hrun

/-- A capsule as the ingress takes it, of no composition. -/
def Dev.hostCapsule (d : Dev) (c : Ctx) (p n a raw : Nat) : Capsule × Dev :=
  d.newCapsule c (.host p n a 64 true) raw ((d.fn p n).ring ((d.fn p n).aperture a).ring).disables (bits raw 26 24) 0 0 0 []

/-- The device that has taken a capsule: the aperture has one more outstanding, and the port counts it (R574). -/
def Dev.countAccepted (d : Dev) (p n a : Nat) : Dev :=
  (d.modFn p n fun f => { f with
    wasQuiesced := false, apertures := tabMod a .reset (fun x => { x with outstanding := x.outstanding + 1 }) f.apertures }).modPort p
      fun h => { h with accepted := satAdd 64 h.accepted 1 }

/-- The checks at the ingress read nothing that taking the capsule changes. -/
theorem ingressCheck_countAccepted (d : Dev) (c : Ctx) (p n a raw raw' colour : Nat) (quiesced bound active : Bool) :
    ((d.hostCapsule c p n a raw).2.countAccepted p n a).ingressCheck raw' colour quiesced bound active =
      d.ingressCheck raw' colour quiesced bound active := rfl

/-- A capsule that comes whole to an enabled aperture with room is taken (R573, R575). -/
theorem takeCapsule_host {d : Dev} {op p n a raw : Nat} (hop : bits raw 7 0 = op) (hthere : d.fnThere p n = true) (ha : a < aperturesOf n)
    (hfn : n = 0 ∨ (d.fn p n).enabled = true) (hen : ((d.fn p n).aperture a).enable = true)
    (hroom : ((d.fn p n).aperture a).outstanding < 2 ^ ((d.fn p n).aperture a).depthLog2) (cmd : Instr) (c : Ctx) :
    takeCapsule op cmd (.host p n a 64 true) raw c d = d.acceptHost c (.host p n a 64 true) p n a raw := by
  have htouch : d.touchFn p n = d := if_pos hfn
  simp [takeCapsule, hop, Dev.takeHost, hthere, Nat.not_le.2 ha, htouch, hen, Nat.not_le.2 hroom]

/-- A capsule taken that fails a check is refused with the first that it fails (R579). -/
theorem acceptHost_refuses {d : Dev} {p n a raw st reason : Nat} (hcomp : d.compositionOfRealm (bits raw 23 16) = none)
    (hcheck : d.hostIngress p n raw = some (st, reason)) (c : Ctx) :
    d.acceptHost c (.host p n a 64 true) p n a raw = ((d.hostCapsule c p n a raw).2.countAccepted p n a).refuseCapsule c
      (d.hostCapsule c p n a raw).1 (if n = 0 then 0 else (d.fn p n).realm) st reason := by
  unfold Dev.acceptHost
  simp only [hcomp]
  split
  · rename_i hfirst
    obtain ⟨rfl, rfl⟩ := Prod.mk.inj (Option.some.inj (hcheck.symm.trans hfirst))
    rfl
  · rename_i hnone
    exact nomatch hcheck.symm.trans hnone

/-- A host capsule that is accepted: the capsule, and the device that has taken it. -/
theorem accepts_taken {s : State} {op p n a : Nat} {raw : BitVec 512} {cap : Capsule} {d : Dev} (h : s.accepts op p n a raw cap d) :
    cap = (s.dev.hostCapsule s.ctx p n a raw.toNat).1 ∧ d = (s.dev.hostCapsule s.ctx p n a raw.toNat).2.countAccepted p n a := by
  obtain ⟨-, -, -, -, -, -, -, -, -, -, _, he, rfl⟩ := h
  obtain ⟨rfl, rfl⟩ := Prod.mk.inj he.symm
  exact ⟨rfl, rfl⟩

/-! ### The record of a refused capsule (R583) -/

/-- A failing check names a status below 256 and a reason below 2^16. -/
theorem ingressCheck_range {d : Dev} {raw colour st reason : Nat} {quiesced bound active : Bool}
    (h : d.ingressCheck raw colour quiesced bound active = some (st, reason)) : st < 2 ^ 8 ∧ reason < 2 ^ 16 := by
  unfold Dev.ingressCheck at h
  dsimp only at h
  iterate 7
    split at h
    · obtain ⟨rfl, rfl⟩ := Prod.mk.inj (Option.some.inj h); decide
  cases h

theorem bits_lt (w hi lo : Nat) : bits w hi lo < 2 ^ (hi + 1 - lo) := Nat.mod_lt _ (by positivity)

/-- The fields of a record: its status lowest, its reason in [63:48]. -/
theorem completionRecord_fields {cap : Capsule} {st reason result p n a z : Nat} {al : Bool} (hst : st < 2 ^ 8) (hreason : reason < 2 ^ 16)
    (hsrc : cap.src = .host p n a z al) (ha : a < 2 ^ 8) (htag : cap.tag < 2 ^ 16) (hop : cap.opcode < 2 ^ 8) (c : Ctx) :
    bits (completionRecord c cap st false false reason result) 7 0 = st ∧
    bits (completionRecord c cap st false false reason result) 63 48 = reason := by
  simp only [completionRecord, hsrc, bits, Nat.shiftRight_eq_div_pow, Bool.false_and, Bool.false_eq_true, if_false]
  omega

/-! ### O29 -/

theorem aperturesOf_le (n : Nat) : aperturesOf n ≤ 32 := by
  unfold aperturesOf; split <;> decide

/-- A change of a port that keeps its functions keeps each function. -/
theorem fn_modPort {d : Dev} {p : Nat} {f : HostPort → HostPort} (hp : p < d.ports.length) (hf : ∀ h, (f h).functions = h.functions) (n : Nat) :
    (d.modPort p f).fn p n = d.fn p n := by
  rw [Dev.fn, port_modPort d p f hp, hf]; rfl

theorem countAccepted_aperture {d : Dev} {p : Nat} (hp : p < d.ports.length) (n a : Nat) :
    (((d.countAccepted p n a).fn p n).aperture a).outstanding = ((d.fn p n).aperture a).outstanding + 1 := by
  unfold Dev.countAccepted
  rw [fn_modPort (f := fun h => { h with accepted := satAdd 64 h.accepted 1 }) ((ports_modFn_length d p n _).symm ▸ hp) (fun _ => rfl),
    fn_modFn d p n _ hp]
  simp [Function.aperture]

theorem countAccepted_port {d : Dev} {p : Nat} (hp : p < d.ports.length) (n a : Nat) :
    ((d.countAccepted p n a).port p).accepted = satAdd 64 (d.port p).accepted 1 := by
  unfold Dev.countAccepted Dev.modFn
  rw [port_modPort _ p _ (by simpa [Dev.modPort, listMod_length] using hp), port_modPort d p _ hp]

/-- Settles O29: a capsule that is taken has the next number; one that fails a check completes with that check's status and reason. -/
theorem capsulesAtTheIngress : Obligations.CapsulesAtTheIngress := by
  refine ⟨fun s op p n a raw cap d h => ?_, fun s op p n a st reason raw i => ?_⟩
  · obtain ⟨rfl, rfl⟩ := accepts_taken h
    obtain ⟨-, -, hthere, -⟩ := h
    have hp : p < (s.dev.hostCapsule s.ctx p n a raw.toNat).2.ports.length := port_there _ p n hthere
    exact ⟨rfl, rfl, rfl, rfl, rfl, rfl, countAccepted_aperture hp n a, countAccepted_port hp n a⟩
  · intro src f x hi hrun hop hthere ha hfn hen hroom hcomp hcheck
    obtain ⟨hst, hreason⟩ := ingressCheck_range hcheck
    refine ⟨_, _, _, rfl, rfl, exec_hostCapsule hi hrun ?_, ?_⟩
    · exact (takeCapsule_host hop hthere ha hfn hen hroom i s.ctx).trans (acceptHost_refuses hcomp hcheck s.ctx)
    · exact completionRecord_fields hst hreason rfl (Nat.lt_of_lt_of_le ha ((aperturesOf_le n).trans (by decide))) (bits_lt ..) (bits_lt ..) _

/-! ### Entering the class (R542) -/

/-- A capsule of no composition, with a deadline, in a class that is not capped to nothing and of a plan that takes it, waits for admission. -/
theorem enterClass_queues {c : Ctx} {d : Dev} {cap : Capsule} (hcap : cap.cls = 0 ∨ d.classCap cap.realm cap.cls ≠ 0) (hcomp : cap.composition = 0)
    (hshadow : d.fabric.shadow.role ≠ 2) (hdead : cap.deadlineUs ≠ 0) (hrun : cap.opcode = 0x01 → d.runCheck cap = stOk) :
    d.enterClass c cap = d.queueCapsule c cap := by
  have hdrop : ¬(cap.cls ≠ 0 ∧ d.classCap cap.realm cap.cls = 0) := by tauto
  have hreopen : d.reopenCollectives cap = d := by simp [Dev.reopenCollectives, hcomp]
  have hmirror : d.mirror c cap = d := by simp [Dev.mirror, hshadow]
  have hst : (if cap.opcode = 1 then d.runCheck cap else stOk) = stOk := by
    split
    · exact hrun ‹_›
    · rfl
  have hearly : d.endedEarly cap = none := by simp [Dev.endedEarly, hcomp]
  simp [Dev.enterClass, hdrop, hreopen, hmirror, hdead, hst, hearly]

/-- Metering changes the traffic's records alone. -/
theorem police_fabric (c : Ctx) (d : Dev) (realm cls size colour : Nat) : (d.police c realm cls size colour).2.fabric = d.fabric := by
  unfold Dev.police Dev.meter
  dsimp only
  split
  · rfl
  · split <;> rfl

/-- What metering and its class leave of the fabric. -/
theorem meters_fabric {s : State} {cap : Capsule} {d e : Dev} {k : Nat} (hm : s.meters cap d k e) : e.fabric = d.fabric := by
  obtain ⟨e', hp, rfl, -, -⟩ := hm
  refine Eq.trans (b := e'.fabric) rfl ?_
  rw [show e' = _ from (congrArg Prod.snd hp).symm]
  split
  · rfl
  · exact police_fabric ..

/-! ### What queueing changes -/

/-- The capsules that wait at a point, each with its class. -/
def QueuePoint.waiting (p : QueuePoint) : List (Nat × Nat) := p.items.map fun i => (i.capsule, i.cls)

/-- An item that arrives waits last. -/
theorem waiting_arrive (p : QueuePoint) (realm cls size w wRealm arrival capsule : Nat) :
    (p.arrive realm cls size w wRealm arrival capsule).waiting = p.waiting ++ [(capsule, cls)] := by
  simp [QueuePoint.waiting, QueuePoint.arrive]

/-- A change of the traffic's records that keeps arrivals and who waits for a realm's admission. -/
def Dev.keepsWaiting (d : Dev) (realm : Nat) (e : Dev) : Prop :=
  ∃ t, e = d.setTraffic t ∧ t.arrivals = d.traffic.arrivals ∧
    (tabGetD realm .reset t.admission).waiting = (tabGetD realm .reset d.traffic.admission).waiting

theorem keepsWaiting_self (d : Dev) (realm : Nat) : d.keepsWaiting realm d := ⟨d.traffic, rfl, rfl, rfl⟩

/-- A flow that is entered in the Carillon keeps who waits. -/
theorem awaitFlow_keepsWaiting (c : Ctx) (d : Dev) (flow realm : Nat) : d.keepsWaiting realm (d.awaitFlow c flow) := by
  unfold Dev.awaitFlow
  split
  · exact keepsWaiting_self d realm
  · unfold Dev.enterFlow
    dsimp only
    split
    · exact keepsWaiting_self d realm
    · split
      · exact ⟨_, rfl, rfl, rfl⟩
      · split <;> exact ⟨_, rfl, rfl, rfl⟩

/-- The C0 capsules counted as held back keep their places. -/
theorem noteWaits_keepsWaiting (c : Ctx) (d : Dev) (realm : Nat) : d.keepsWaiting realm (d.noteWaits c realm) := by
  unfold Dev.noteWaits
  dsimp only
  split
  · exact keepsWaiting_self d realm
  · refine ⟨_, rfl, rfl, ?_⟩
    simp only [tabGetD_tabSet_self, QueuePoint.waiting, List.map_map]
    refine List.map_congr_left fun i _ => ?_
    simp only [Function.comp]
    split <;> rfl

/-- A capsule queued changes the traffic's records alone: it arrives, and waits last at its realm's point. -/
theorem queueCapsule_waits (c : Ctx) (d : Dev) (cap : Capsule) :
    d.queueCapsule c cap = { d with traffic := (d.queueCapsule c cap).traffic } ∧
    (d.queueCapsule c cap).traffic.arrivals = d.traffic.arrivals + 1 ∧
    (tabGetD cap.realm .reset (d.queueCapsule c cap).traffic.admission).waiting =
      (tabGetD cap.realm .reset d.traffic.admission).waiting ++ [(cap.order, cap.cls)] := by
  obtain ⟨t, hawait, harrivals, hwaiting⟩ := awaitFlow_keepsWaiting c d (classFlow cap.realm cap.cls) cap.realm
  unfold Dev.queueCapsule
  rw [hawait]
  dsimp only
  generalize hq : Dev.setTraffic (d.setTraffic t) _ = q
  obtain ⟨u, hnote, harrivals', hwaiting'⟩ := noteWaits_keepsWaiting c q cap.realm
  rw [hnote]
  subst hq
  refine ⟨rfl, harrivals'.trans (congrArg (· + 1) harrivals), hwaiting'.trans ?_⟩
  rw [Dev.setTraffic_traffic, tabGetD_tabSet_self, waiting_arrive]
  exact congrArg (· ++ _) hwaiting

/-- Settles O30: the capsule passes ingress, metering and its class, and queues, whatever its opcode (log entry 26). -/
theorem acceptedCapsulesGoOn : Obligations.AcceptedCapsulesGoOn := by
  intro s op p n a k i raw cap d e src hi hacc hmet hrun
  obtain ⟨hcap, hd⟩ := accepts_taken hacc
  obtain ⟨hgo, hop, -, -, -, -, -, -, -, hshadow, -⟩ := id hacc
  obtain ⟨-, -, -, hdead, hclass⟩ := id hmet
  have hfabric : e.fabric.shadow.role ≠ 2 := by rw [meters_fabric hmet, hd]; exact hshadow
  have hopcode : cap.opcode = op := by rw [hcap]; exact hop
  have hcomp : cap.composition = 0 := by rw [hcap]; rfl
  refine ⟨exec_hostCapsule hi hgo ?_, ?_⟩
  · rw [takeCapsule_accepts s op p n a _ cap d i hacc, meterCapsule_meters s op p n a _ cap d k e hacc hmet]
    exact enterClass_queues hclass hcomp hfabric hdead fun h => hrun (hopcode ▸ h)
  · obtain ⟨hframe, harrivals, hlast⟩ := queueCapsule_waits s.ctx e { cap with cls := k }
    exact ⟨hframe, harrivals, _, hlast, rfl⟩

end Sys2Proof.Machine
end

section
/-! Admission, deadlines, coalescing, egress and the Carillon (R541, R552–R556, R580, R587). -/

namespace Sys2Proof.Machine

/-! ### Admission (R541, R552, R553) -/

section
variable {c : Ctx} {d : Dev} {realm : Nat} {q : QueuePoint} {i : QueueItem} {cap : Capsule}

/-- The realm's point serves its next ready item, and the work of its capsule begins. -/
theorem doAdmission_serves :
    let p := { q with items := q.items.filter fun i => (d.capsule? i.capsule).isSome }
    let d' := d.awaitItems c p.items
    let e := d'.setTraffic { d'.traffic with admission := tabSet realm (p.serve i d'.classWeight) d'.traffic.admission }
    tabGet realm d.traffic.admission = some q → p.next d'.itemReady d'.classWeight = some i → e.capsule? i.capsule = some cap →
    (cap.cls = 0 ∨ e.classCap realm cap.cls ≠ 0) →
    doAdmission realm c d =
      workOf cap.opcode c ((e.shapeAdmission c cap).awaitItems c (p.items.filter fun k => k.capsule != cap.order)) cap.order := by
  intro p d' e hq hnext hcap hclass
  have hadmits : ¬(cap.cls ≠ 0 ∧ e.classCap realm cap.cls = 0) := fun ⟨h0, hc⟩ => hclass.elim h0 fun h => h hc
  unfold doAdmission
  simp only [hq]
  simp only [p, d'] at hnext
  simp only [hnext]
  simp only [e, d', p] at hcap hadmits ⊢
  simp only [hcap, if_neg hadmits]

end

/-- Settles O32: admission's own equation; and the work of each opcode is its row's. -/
theorem admissionServesTheNext : Obligations.AdmissionServesTheNext := by
  intro s realm q i cap p d e hrun hq hnext hcap hclass _
  refine ⟨(devStep_run _ s hrun).trans ?_, fun c d k => ⟨rfl, rfl, rfl, rfl, rfl, rfl⟩⟩
  rw [hearing, doAdmission_serves hq hnext hcap hclass]

/-! ### Deadlines (R352, R580) -/

section
variable {c : Ctx} {d : Dev} {k : Nat} {cap : Capsule}

/-- A capsule whose deadline has passed expires. -/
theorem doDeadlineExpiry_due (hcap : d.capsule? k = some cap) (hdue : cap.deadlineAt ≤ c.now) :
    doDeadlineExpiry k c d = (d.expireCapsule c cap).expireMirror c k := by
  simp only [doDeadlineExpiry, hcap, if_neg (Nat.not_lt.2 hdue)]

/-- What a capsule that expires has running ends with ST_DEADLINE; a root's missing contributions are counted while it has no status. -/
theorem expireCapsule_run {r : PlanRun} {p : Plan} (hr : d.run? cap.order = some r) (hp : d.plan? r.plan = some p) : d.expireCapsule c cap =
    (if r.status = stOk then d.missCollectives cap (some r) p.image else d).endRun c cap.order stDeadline 0x10000 := by
  unfold Dev.expireCapsule
  simp only [hr]
  by_cases hst : r.status = stOk
  · simp only [hst, if_true, hp]
  · simp only [hst, if_false]

/-- A capsule with nothing running ends with ST_DEADLINE, an update by what its records have come to. -/
theorem expireCapsule_plain (hr : d.run? cap.order = none) : d.expireCapsule c cap =
    if cap.opcode = 0x10 then d.expireJob c cap.order else (d.missAt cap).endCapsule c cap.order stDeadline := by
  simp only [Dev.expireCapsule, hr]

/-- Only a RUN waits for contributions. -/
theorem missAt_other (hop : cap.opcode ≠ 0x01) : d.missAt cap = d := by
  simp only [Dev.missAt, if_neg hop]

end

theorem exec_deadlineExpiry {s : State} (hrun : s.running = true) {k : Nat} {d : Dev} (hd : doDeadlineExpiry k s.ctx s.dev = d) :
    exec (.deadlineExpiry k) s = .next (s.withDev (d.hear s.ctx none)) := by
  subst hd
  exact devStep_run _ s hrun

/-! ### The coalescing timer (R587) -/

/-- A ring whose time has passed sends its message. -/
theorem doCoalescingTimer_due {c : Ctx} {d : Dev} {p n q : Nat} (hen : ((d.fn p n).ring q).enable = true)
    (hun : ((d.fn p n).ring q).unsignalled ≠ 0) (hdue : ((d.fn p n).ring q).firstAt + ((d.fn p n).ring q).coalTime * usTicks ≤ c.now) :
    doCoalescingTimer p n q c d = (d.modFn p n fun f => { f with
      rings := tabSet q { (d.fn p n).ring q with unsignalled := 0 } f.rings }).send (.msix p n ((d.fn p n).ring q).vector) := by
  simp [doCoalescingTimer, hen, hun, Nat.not_lt.2 hdue, Dev.interrupt]

/-! ### The item served next (R553) -/

theorem mem_insertFront {α : Type} {before : α → α → Bool} {a x : α} {l : List α} (h : x ∈ sortBy.insertFront before a l) : x = a ∨ x ∈ l := by
  induction l with
  | nil => simpa [sortBy.insertFront] using h
  | cons b l ih =>
    simp only [sortBy.insertFront] at h
    split at h
    · rcases List.mem_cons.1 h with rfl | h
      · simp
      · rcases ih h with rfl | h <;> simp [*]
    · simpa using h

theorem mem_of_mem_sortBy {α : Type} {before : α → α → Bool} {x : α} {l : List α} (h : x ∈ sortBy before l) : x ∈ l := by
  induction l with
  | nil => exact h
  | cons a l ih =>
    rcases mem_insertFront h with rfl | h
    · exact List.mem_cons_self
    · exact List.mem_cons_of_mem _ (ih h)

theorem mem_of_firstBy {before : QueueItem → QueueItem → Bool} {l : List QueueItem} {i : QueueItem} (h : firstBy before l = some i) : i ∈ l :=
  mem_of_mem_sortBy (List.mem_of_mem_head? h)

/-- What a point serves next is one of its items. -/
theorem mem_of_next {p : QueuePoint} {ready : QueueItem → Bool} {weight : Nat → Nat → Nat} {i : QueueItem} (h : p.next ready weight = some i) :
    i ∈ p.items := by
  unfold QueuePoint.next at h
  dsimp only at h
  split at h
  · cases h; exact (List.mem_filter.1 (List.mem_of_find?_eq_some ‹_›)).1
  · split at h
    · exact (List.mem_filter.1 (List.mem_filter.1 (mem_of_firstBy h)).1).1
    · exact (List.mem_filter.1 (mem_of_firstBy h)).1

/-! ### Egress (R552) -/

/-- Where no C0 item waits, the next item of an open point leaves, and no flow is shaped. -/
theorem doPortEgress_sends {d : Dev} {point : Nat} {i : QueueItem}
    (hopen : (if point < 2 then d.portUp point else point < 6 || (d.link (point - 6)).carries) = true)
    (hcls : ∀ x ∈ (d.egressPoint point).items, x.cls ≠ 0)
    (hnext : (d.egressPoint point).next (fun i => i.cls != 0 || !d.shaped (egressFlow i.realm point)) (d.egressWeight point) = some i) (c : Ctx) :
    doPortEgress point c d = (d.setTraffic { d.traffic with
      egress := tabSet point ((d.egressPoint point).serve i (d.egressWeight point)) d.traffic.egress }).send (.egress point i.realm i.cls i.size) := by
  have hnone : (d.egressPoint point).items.filter (fun i => i.cls == 0) = [] := by simpa using hcls
  have hi : i.cls ≠ 0 := hcls i (mem_of_next hnext)
  unfold doPortEgress
  simp only [hopen, Bool.not_true, Bool.false_eq_true, if_false, hnone, List.foldl_nil, hnext, Dev.shapeEgress, hi, ne_eq, not_false_eq_true,
    true_or, if_true]

/-! ### The Carillon (R555, R556) -/

/-- Entering a flow changes the traffic's records alone. -/
theorem enterFlow_traffic (c : Ctx) (d : Dev) (flow : Nat) (e : Rat) : ∃ t, d.enterFlow c flow e = d.setTraffic t := by
  unfold Dev.enterFlow
  dsimp only
  split
  · exact ⟨d.traffic, rfl⟩
  · split
    · exact ⟨_, rfl⟩
    · split <;> exact ⟨_, rfl⟩

theorem enterFlows_traffic (c : Ctx) (l : List CarillonEntry) (d : Dev) :
    ∃ t, l.foldl (fun d e => d.enterFlow c e.flow e.e) d = d.setTraffic t := by
  induction l generalizing d with
  | nil => exact ⟨d.traffic, rfl⟩
  | cons x l ih =>
    obtain ⟨t, ht⟩ := enterFlow_traffic c d x.flow x.e
    obtain ⟨u, hu⟩ := ih (d.setTraffic t)
    exact ⟨u, by rw [List.foldl_cons, ht, hu]; rfl⟩

theorem coarseDue_traffic (c : Ctx) (d : Dev) : ∃ t, d.coarseDue c = d.setTraffic t := enterFlows_traffic c _ _

/-- The fine level at the slot of now: what is due has left it, or is carried over to a later slot. -/
theorem fineDue_fine {c : Ctx} {d : Dev} {e : CarillonEntry} (h : e ∈ (d.fineDue c).traffic.fine) : c.now * 10 / fineNs < e.slot := by
  simp only [Dev.fineDue, Dev.setTraffic_traffic, List.mem_append, List.mem_map, List.mem_filter, decide_eq_true_eq] at h
  rcases h with ⟨_, _, rfl⟩ | ⟨_, h⟩
  · exact Nat.lt_succ_self _
  · exact h

/-- Settles O33, one clause for each timer. That a ring's message goes out as if its vector were unmasked is log entry 119. -/
theorem timersCarillonAndEgress : Obligations.TimersCarillonAndEgress := by
  refine ⟨⟨fun s k cap r p hrun hcap hdue hr hp => ?_, fun s k cap hrun hcap hdue hr => ⟨?_, missAt_other⟩,
    fun s p n q => ?_, fun s point i => ?_⟩, fun s hrun hslot => ?_⟩
  · exact exec_deadlineExpiry hrun (by rw [doDeadlineExpiry_due hcap hdue, expireCapsule_run hr hp])
  · exact exec_deadlineExpiry hrun (by rw [doDeadlineExpiry_due hcap hdue, expireCapsule_plain hr])
  · intro r hrun hp hen hun hdue
    refine ⟨_, devStep_run _ s hrun, ?_⟩
    rw [doCoalescingTimer_due hen hun hdue]
    refine ⟨rfl, ?_, rfl⟩
    refine (congrArg (fun f : Function => f.ring q) (fn_modFn s.dev p n _ hp)).trans ?_
    simp [Function.ring, r]
  · intro p hrun hopen hcls hnext
    refine ⟨_, devStep_run _ s hrun, ?_⟩
    rw [doPortEgress_sends hopen hcls hnext]
    exact ⟨rfl, rfl, tabGet_tabSet_self ..⟩
  · have hdue : doCarillonSlot s.ctx s.dev = (s.dev.coarseDue s.ctx).fineDue s.ctx := if_pos hslot
    obtain ⟨t, ht⟩ := coarseDue_traffic s.ctx s.dev
    refine ⟨_, devStep_run _ s hrun, ?_⟩
    rw [hdue]
    refine ⟨?_, rfl, fun e => fineDue_fine⟩
    rw [ht]; rfl

end Sys2Proof.Machine
end

section
/-! What the event log leaves alone; host links and the resets of functions (R563, R568, R591, R592, R710, R713); the registers of a
function, and the management link (R571, R572, R588, R594). -/

namespace Sys2Proof.Machine

/-! ### The event log -/

/-- An event changes the log, NOR's copy of it, and what a critical one asserts. -/
theorem event_frame (d : Dev) (c : Ctx) (code severity realm w0 w1 w2 : Nat) : ∃ log seq events sensors alert,
    d.event c code severity realm w0 w1 w2 =
      { d with log := log, nor := { d.nor with eventSeq := seq, events := events }, sensors := sensors, pins := { d.pins with alert := alert } } := by
  unfold Dev.event
  dsimp only
  split
  · exact ⟨_, _, _, _, _, rfl⟩
  · exact ⟨_, _, _, d.sensors, d.pins.alert, rfl⟩

section
variable (d : Dev) (c : Ctx) (code severity realm w0 w1 w2 : Nat)

@[simp] theorem ports_event : (d.event c code severity realm w0 w1 w2).ports = d.ports := by
  obtain ⟨_, _, _, _, _, h⟩ := event_frame d c code severity realm w0 w1 w2
  rw [h]

@[simp] theorem port_event (p : Nat) : (d.event c code severity realm w0 w1 w2).port p = d.port p := by
  simp only [Dev.port, ports_event]

@[simp] theorem perstN_event : (d.event c code severity realm w0 w1 w2).pins.perstN = d.pins.perstN := by
  obtain ⟨_, _, _, _, _, h⟩ := event_frame d c code severity realm w0 w1 w2
  rw [h]

end

/-! ### Functions reset while none of the port's capsules is in flight (R568, R591) -/

/-- None of a port's capsules is in flight. -/
def Dev.quietPort (d : Dev) (p : Nat) : Prop := ∀ k ∈ d.capsules.live, ∀ n a z al, k.src ≠ .host p n a z al

/-- Without capsules to cancel, the reset of a function closes its session and resets its registers. -/
theorem resetFunction_quiet {d : Dev} {p : Nat} (h : d.quietPort p) (c : Ctx) (n : Nat) (enabled : Bool) : ∃ dict tiers,
    d.resetFunction c p n enabled = Dev.modFn { d with dict := dict, tiers := tiers } p n fun _ =>
      { Function.reset with enabled := enabled, realm := if enabled then d.cfg (0x1120 + p) n else 0 } := by
  unfold Dev.resetFunction
  dsimp only
  generalize hlist : List.filter _ d.capsules.live = mine
  have hmine : mine = [] := by
    subst hlist
    refine List.filter_eq_nil_iff.2 fun k hk => ?_
    split
    · rename_i q m a z al heq
      have hq : q ≠ p := fun hq => h k hk m a z al (hq ▸ heq)
      simp [hq]
    · simp
  rw [hmine]
  exact ⟨_, _, rfl⟩

/-- Functions of a port are as after reset, and nothing else of the device has changed but sessions. -/
structure Dev.Cleared (p : Nat) (l : List Nat) (d e : Dev) : Prop where
  frame : e = { d with dict := e.dict, tiers := e.tiers, ports := e.ports }
  length : e.ports.length = d.ports.length
  port : e.port p = { d.port p with functions := (e.port p).functions }
  fn : ∀ n, e.fn p n = if n ∈ l then Function.reset else d.fn p n

theorem fn_modFn_other {d : Dev} {p n m : Nat} (hp : p < d.ports.length) (h : m ≠ n) (f : Function → Function) :
    (d.modFn p n f).fn p m = d.fn p m := by
  unfold Dev.modFn Dev.fn
  rw [port_modPort _ _ _ hp]
  exact tabGetD_tabMod_other h ..

theorem port_modFn {d : Dev} {p : Nat} (hp : p < d.ports.length) (n : Nat) (f : Function → Function) :
    (d.modFn p n f).port p = { d.port p with functions := ((d.modFn p n f).port p).functions } := by
  unfold Dev.modFn
  rw [port_modPort _ _ _ hp]

/-- The reset of one function that is not to stay enabled. -/
theorem cleared_resetFunction {d : Dev} {p : Nat} (h : d.quietPort p) (hp : p < d.ports.length) (c : Ctx) (n : Nat) :
    Dev.Cleared p [n] d (d.resetFunction c p n false) := by
  obtain ⟨dict, tiers, he⟩ := resetFunction_quiet h c n false
  rw [he]
  have hp' : p < ({ d with dict := dict, tiers := tiers } : Dev).ports.length := hp
  refine ⟨rfl, ports_modFn_length .., port_modFn hp' n _, fun m => ?_⟩
  by_cases hm : m = n
  · subst hm
    rw [fn_modFn _ p m _ hp', if_pos List.mem_cons_self]
    rfl
  · rw [fn_modFn_other hp' hm, if_neg (by simpa using hm)]
    rfl

theorem Dev.Cleared.trans {p : Nat} {l m : List Nat} {d e f : Dev} (h : Dev.Cleared p l d e) (k : Dev.Cleared p m e f) :
    Dev.Cleared p (l ++ m) d f := by
  refine ⟨by rw [k.frame, h.frame], k.length.trans h.length, by rw [k.port, h.port], fun n => ?_⟩
  rw [k.fn, h.fn]
  simp only [List.mem_append]
  split <;> split <;> simp_all

theorem Dev.Cleared.quiet {p : Nat} {l : List Nat} {d e : Dev} (h : Dev.Cleared p l d e) (hq : d.quietPort p) : e.quietPort p := by
  unfold Dev.quietPort
  rw [h.frame]
  exact hq

/-- Functions reset one after the other. -/
theorem cleared_resetFunctions (c : Ctx) {p : Nat} (l : List Nat) {d : Dev} (h : d.quietPort p) (hp : p < d.ports.length) :
    Dev.Cleared p l d (l.foldl (fun d n => d.resetFunction c p n false) d) := by
  induction l generalizing d with
  | nil => exact ⟨rfl, rfl, rfl, fun n => by simp⟩
  | cons n l ih =>
    have hn := cleared_resetFunction h hp c n
    exact hn.trans (ih (hn.quiet h) (hn.length.symm ▸ hp))

theorem cleared_disableVfs {d : Dev} {p : Nat} (h : d.quietPort p) (hp : p < d.ports.length) (c : Ctx) :
    Dev.Cleared p vfs d (d.disableVfs c p) := cleared_resetFunctions c vfs h hp

/-- With the VFs, the PF. -/
theorem cleared_allFunctions {d : Dev} {p : Nat} (h : d.quietPort p) (hp : p < d.ports.length) (c : Ctx) :
    Dev.Cleared p (vfs ++ [0]) d ((d.disableVfs c p).resetFunction c p 0 false) := by
  have hvfs := cleared_disableVfs h hp c
  exact hvfs.trans (cleared_resetFunction (hvfs.quiet h) (hvfs.length.symm ▸ hp) c 0)

theorem mem_vfs {n : Nat} : n ∈ vfs ↔ 0 < n ∧ n < 64 := by
  simp only [vfs, List.mem_map, List.mem_range]
  exact ⟨fun ⟨m, hm, hn⟩ => by omega, fun ⟨h0, hn⟩ => ⟨n - 1, by omega, by omega⟩⟩

/-! ### Links (R563, R592, R710, R713) -/

/-- A link taken down leaves its port's functions as after reset. -/
theorem linkDown_quiet {d : Dev} {p : Nat} (h : d.quietPort p) (hp : p < d.ports.length) (c : Ctx) :
    (d.linkDown c p).ports.length = d.ports.length ∧ (d.linkDown c p).pins = d.pins ∧
    (d.linkDown c p).port p = { d.port p with link := 0, width := 0, speed := 0, functions := ((d.linkDown c p).port p).functions } := by
  have hall := cleared_allFunctions h hp c
  unfold Dev.linkDown
  dsimp only
  generalize (d.disableVfs c p).resetFunction c p 0 false = e at hall
  rw [port_modPort e p _ (hall.length.symm ▸ hp), hall.port]
  exact ⟨(listMod_length ..).trans hall.length, (congrArg Dev.pins hall.frame :), rfl⟩

/-- A link that is down stays so. -/
theorem loseLink_down {d : Dev} {p : Nat} (h : (d.port p).link = 0) (c : Ctx) : d.loseLink c p = d := if_pos h

/-- A link that is lost after a completed quiesce, or in training, is down. -/
theorem loseLink_orderly {d : Dev} {p : Nat} (h : (d.port p).link ≠ 0) (ho : d.portUp p = false ∨ d.portQuiesced p = true) (c : Ctx) :
    d.loseLink c p = d.linkDown c p := by
  rcases ho with ho | ho <;> simp [Dev.loseLink, h, ho]

/-- A link that is lost without a quiesce is down, its posted writes discarded, the removal counted and logged (R592). -/
theorem loseLink_surprise {d : Dev} {p : Nat} (h : (d.port p).link ≠ 0) (hup : d.portUp p = true) (hq : d.portQuiesced p = false) (c : Ctx) :
    d.loseLink c p = ((((d.linkDown c p).dropPosted p).modPort p fun h => { h with removals := satAdd 64 h.removals 1 }).event c 0x0701 2 0 p 0 0) := by
  simp [Dev.loseLink, h, hup, hq]

theorem portUp_link {d : Dev} {p : Nat} (h : d.portUp p = true) : (d.port p).link ≠ 0 := by
  intro h0
  simp [Dev.portUp, h0] at h

theorem portUp_there {d : Dev} {p : Nat} (h : d.portUp p = true) : p < d.ports.length := by
  by_contra hp
  exact portUp_link h (by rw [Dev.port, List.getD_eq_default _ _ (Nat.not_lt.1 hp)]; rfl)

@[simp] theorem ports_dropPosted (d : Dev) (p : Nat) : (d.dropPosted p).ports = d.ports := rfl
@[simp] theorem port_dropPosted (d : Dev) (p q : Nat) : (d.dropPosted p).port q = d.port q := rfl
@[simp] theorem pins_dropPosted (d : Dev) (p : Nat) : (d.dropPosted p).pins = d.pins := rfl
@[simp] theorem pins_modPort (d : Dev) (p : Nat) (f : HostPort → HostPort) : (d.modPort p f).pins = d.pins := rfl

/-- A lost link is down, and its removal counted where it was up and not quiesced. -/
theorem loseLink_quiet {d : Dev} {p : Nat} (h : d.quietPort p) (hp : p < d.ports.length) (hl : (d.port p).link ≠ 0) (c : Ctx) :
    (d.loseLink c p).pins.perstN = d.pins.perstN ∧ ∃ functions, (d.loseLink c p).port p = { d.port p with
      link := 0, width := 0, speed := 0, functions := functions
      removals := if d.portUp p && !d.portQuiesced p then satAdd 64 (d.port p).removals 1 else (d.port p).removals } := by
  obtain ⟨hlen, hpins, hport⟩ := linkDown_quiet h hp c
  by_cases hs : d.portUp p = true ∧ d.portQuiesced p = false
  · obtain ⟨hup, hq⟩ := hs
    rw [loseLink_surprise hl hup hq, perstN_event, pins_modPort, pins_dropPosted, hpins, port_event, port_modPort _ _ _ (by simpa [hlen] using hp),
      port_dropPosted, hport]
    exact ⟨rfl, _, by simp only [hup, hq, Bool.not_false, Bool.and_self, if_true]; rfl⟩
  · have ho : d.portUp p = false ∨ d.portQuiesced p = true := by
      cases hup : d.portUp p <;> cases hq : d.portQuiesced p <;> simp_all
    rw [loseLink_orderly hl ho, hpins, hport]
    refine ⟨rfl, ((d.linkDown c p).port p).functions, ?_⟩
    rcases ho with ho | ho <;> simp [ho]

/-- Whatever state it was in, the link that is lost is down. -/
theorem loseLink_link {d : Dev} {p : Nat} (h : d.quietPort p) (hp : p < d.ports.length) (c : Ctx) :
    (d.loseLink c p).pins.perstN = d.pins.perstN ∧ ((d.loseLink c p).port p).link = 0 := by
  by_cases hl : (d.port p).link = 0
  · rw [loseLink_down hl]
    exact ⟨rfl, hl⟩
  · obtain ⟨hpins, _, hport⟩ := loseLink_quiet h hp hl c
    exact ⟨hpins, by rw [hport]⟩

/-! ### The pins of a port, and its training -/

theorem exec_perstNAssert (p lowNs : Nat) (s : State) :
    exec (.perstNAssert p lowNs) s = .next (s.withDev (doPerstNAssert p lowNs s.running s.ctx s.dev)) := rfl

theorem exec_perstNRelease (p : Nat) (s : State) : exec (.perstNRelease p) s = .next (s.withDev (doPerstNRelease p s.running s.dev)) := rfl

/-- A pulse below 200 ns is filtered. -/
theorem doPerstNAssert_filtered {lowNs : Nat} (h : lowNs < 200) (p running c) (d : Dev) : doPerstNAssert p lowNs running c d = d := by
  have ha : d.pulseActs lowNs = (false, d) := if_pos h
  simp [doPerstNAssert, ha]

/-- A pulse of 1 µs or more asserts the pin and takes a link down (R563, R710). -/
theorem doPerstNAssert_acts {lowNs : Nat} (h : 1000 ≤ lowNs) (p : Nat) (running : Bool) (c : Ctx) (d : Dev) :
    let e := d.setPins { d.pins with perstN := d.pins.perstN.set p false }
    doPerstNAssert p lowNs running c d = if running then e.loseLink c p else e := by
  have ha : d.pulseActs lowNs = (true, d) := by
    unfold Dev.pulseActs
    rw [if_neg (by omega), if_pos h]
  simp only [doPerstNAssert, ha, Bool.not_true, Bool.false_eq_true, if_false, putAt]

/-- A released port that is down trains (R713). -/
theorem doPerstNRelease_trains {d : Dev} {p : Nat} (hpin : p < d.pins.perstN.length) (hlink : (d.port p).link = 0) :
    doPerstNRelease p true d =
      (d.setPins { d.pins with perstN := d.pins.perstN.set p true }).modPort p fun h => { h with link := 1 } := by
  have hreleased : (d.setPins { d.pins with perstN := d.pins.perstN.set p true }).perstReleased p = true := by
    simp [Dev.perstReleased, List.getD_eq_getElem?_getD, hpin]
  have hdown : ((d.setPins { d.pins with perstN := d.pins.perstN.set p true }).port p).link = 0 := hlink
  simp [doPerstNRelease, Dev.trainPort, putAt, hreleased, hdown]

/-- A port with a common clock that fits comes up (R564, R565, R589). -/
theorem doPcieLinkUp_trained {d : Dev} {p width speed : Nat} (hr : d.perstReleased p = true) (hup : d.portUp p = false)
    (hfits : d.linkFits width speed = true) (c : Ctx) : doPcieLinkUp p width speed true c d =
      (d.modPort p fun h => { h with link := if d.isMinimal then 3 else 2, width := width, speed := speed }).send (.readiness p) := by
  simp [doPcieLinkUp, hr, hup, hfits]

/-- Settles O34, one clause for each row. That the readiness message goes out unmasked is log entry 119. -/
theorem hostLinks : Obligations.HostLinks := by
  intro s p quiet
  refine ⟨fun lowNs h => ?_, fun lowNs h hp hpin => ?_, fun hrun hp hpin hlink => ?_, fun width speed hrun hp hr hup hfits => ?_,
    fun hrun hup => ?_⟩
  · rw [exec_perstNAssert, doPerstNAssert_filtered h]
    rfl
  · intro d
    rw [exec_perstNAssert, doPerstNAssert_acts h]
    have hlow : (d.pins.perstN).getD p false = false := by simp [d, List.getD_eq_getElem?_getD, hpin]
    refine ⟨_, rfl, rfl, fun hq => ?_⟩
    cases hrun : s.running with
    | false => exact ⟨hlow, fun h => nomatch h⟩
    | true =>
      obtain ⟨hpins, hlink⟩ := loseLink_link (d := d) hq hp s.ctx
      refine ⟨?_, fun _ => hlink⟩
      show (d.loseLink s.ctx p).pins.perstN.getD p false = false
      rw [hpins, hlow]
  · rw [exec_perstNRelease, hrun, doPerstNRelease_trains hpin hlink]
    refine ⟨_, rfl, ?_, port_modPort (s.dev.setPins _) p _ hp, rfl⟩
    simp [State.withDev, Dev.perstReleased, List.getD_eq_getElem?_getD, hpin]
  · refine ⟨_, devStep_run _ s hrun, ?_⟩
    rw [doPcieLinkUp_trained hr hup hfits]
    exact ⟨rfl, port_modPort s.dev p _ hp⟩
  · refine ⟨_, devStep_run (fun c d => d.loseLink c p) s hrun, rfl, fun hq => ?_⟩
    obtain ⟨-, _, hport⟩ := loseLink_quiet hq (portUp_there hup) (portUp_link hup) s.ctx
    have hport' : (s.withDev (s.dev.loseLink s.ctx p)).dev.port p = _ := hport
    rw [hport']
    exact ⟨rfl, rfl, fun hnot => by simp [hup, hnot]⟩

end Sys2Proof.Machine
end

section
/-! The resets of functions, their registers, and the management link (R568, R571, R572, R588, R591, R594). -/

namespace Sys2Proof.Machine

/-! ### Resets (R568, R591) -/

section
variable {d : Dev} {p n : Nat} (c : Ctx)

/-- A VF's reset. -/
theorem doFunctionLevelReset_vf (hthere : d.fnThere p n = true) (hn : n ≠ 0) : doFunctionLevelReset p n c d =
    (d.resetFunction c p n (d.fn p n).enabled).modPort p fun h => { h with resets := satAdd 64 h.resets 1 } := by
  simp [doFunctionLevelReset, hthere, hn]

/-- The PF's reset, which disables the VFs (log entry 86). -/
theorem doFunctionLevelReset_pf (hthere : d.fnThere p 0 = true) : doFunctionLevelReset p 0 c d =
    ((d.disableVfs c p).resetFunction c p 0 false).modPort p fun h => { h with resets := satAdd 64 h.resets 1 } := by
  simp [doFunctionLevelReset, hthere]

/-- A count of the port keeps its functions. -/
theorem fn_countReset {d : Dev} (hp : p < d.ports.length) (n : Nat) :
    (d.modPort p fun h => { h with resets := satAdd 64 h.resets 1 }).fn p n = d.fn p n :=
  fn_modPort (f := fun h => { h with resets := satAdd 64 h.resets 1 }) hp (fun _ => rfl) n

end

/-- A function reset alone, counted: its registers are as after reset, its binding is the committed one if it stays enabled. -/
theorem resetFunction_counted {d : Dev} {p : Nat} (h : d.quietPort p) (hp : p < d.ports.length) (c : Ctx) (n : Nat) (enabled : Bool) :
    let e := (d.resetFunction c p n enabled).modPort p fun h => { h with resets := satAdd 64 h.resets 1 }
    e.fn p n = { Function.reset with enabled := enabled, realm := if enabled then d.cfg (0x1120 + p) n else 0 } ∧
    (e.port p).resets = satAdd 64 (d.port p).resets 1 ∧ e.mem = d.mem ∧ e.out = d.out := by
  obtain ⟨dict, tiers, he⟩ := resetFunction_quiet h c n enabled
  have hlen : p < (d.resetFunction c p n enabled).ports.length := by
    rw [he, ports_modFn_length]
    exact hp
  refine ⟨?_, ?_, (congrArg Dev.mem he :), (congrArg Dev.out he :)⟩
  · rw [fn_countReset hlen, he]
    exact fn_modFn _ p n _ hp
  · rw [port_modPort _ p _ hlen, he, port_modFn (d := { d with dict := dict, tiers := tiers }) hp n]
    rfl

/-! ### Registers (R571, R572, R588) -/

/-- A function that is in use needs no binding. -/
theorem touchFn_inUse {d : Dev} {p n : Nat} (h : n = 0 ∨ (d.fn p n).enabled = true) : d.touchFn p n = d := if_pos h

section
variable {d : Dev} {p n : Nat} (hthere : d.fnThere p n = true) (huse : n = 0 ∨ (d.fn p n).enabled = true) (c : Ctx)
include hthere huse

/-- A write of QUIESCE, and whether the function has become quiescent. -/
theorem doQuiesce_writes (v : Nat) : doQuiesce p n v c d = (d.modFn p n fun f => { f with quiesce := bit v 0 }).checkQuiesced p n := by
  simp [doQuiesce, hthere, touchFn_inUse huse]

theorem doRingConfiguration_writes {q : Nat} (hq : q < aperturesOf n) (register v : Nat) : doRingConfiguration p n q register v c d =
    d.modFn p n fun f => { f with
      rings := tabSet q (if register = 0 then (f.ring q).writeBase v else (f.ring q).writeConfig v) f.rings } := by
  simp [doRingConfiguration, hthere, touchFn_inUse huse, Nat.not_le.2 hq]

theorem doApertureConfiguration_writes {a : Nat} (ha : a < aperturesOf n) (v : Nat) : doApertureConfiguration p n a v c d =
    d.modFn p n fun f => f.writeAperture (aperturesOf n) a v := by
  simp [doApertureConfiguration, hthere, touchFn_inUse huse, Nat.not_le.2 ha]

end

/-- Whether a function becomes quiescent, once it asks for it (R588). -/
theorem checkQuiesced_keeps {d : Dev} {p n : Nat} {q : Bool} (hq : ((d.fn p n).quiesce && (d.fn p n).outstanding == 0) = q)
    (h : q = false ∨ (d.fn p n).wasQuiesced = true) : d.checkQuiesced p n = d.modFn p n fun f => { f with wasQuiesced := q } := by
  unfold Dev.checkQuiesced
  dsimp only
  rw [hq]
  rcases h with h | h <;> simp [h]

/-- A function that becomes quiescent says so by its error vector. -/
theorem checkQuiesced_signals {d : Dev} {p n : Nat} (hq : ((d.fn p n).quiesce && (d.fn p n).outstanding == 0) = true)
    (h : (d.fn p n).wasQuiesced = false) : d.checkQuiesced p n = (d.modFn p n fun f => { f with wasQuiesced := true }).send (.msix p n 31) := by
  unfold Dev.checkQuiesced
  dsimp only
  rw [hq]
  simp [h, Dev.errorVector, Dev.interrupt]

/-- A function changed twice. -/
theorem fn_modFn_modFn {d : Dev} {p : Nat} (hp : p < d.ports.length) (n : Nat) (f g : Function → Function) :
    ((d.modFn p n f).modFn p n g).fn p n = g (f (d.fn p n)) := by
  rw [fn_modFn _ p n g ((ports_modFn_length d p n f).symm ▸ hp), fn_modFn d p n f hp]

/-- Settles O35: each row has its equation; a reset is told where none of the port's capsules is in flight. That the PF's reset disables the
VFs is log entry 86, the unmasked error vector log entry 119, the writes of a ring's registers log entry 85. -/
theorem functionsOfThePorts : Obligations.FunctionsOfThePorts := by
  refine ⟨fun s p hrun => ⟨fun n hn hthere => ?_, fun hthere => ?_, fun hup => ?_⟩, fun s p n => ?_⟩
  · have hp := port_there _ p n hthere
    refine ⟨_, devStep_run _ s hrun, by rw [doFunctionLevelReset_vf s.ctx hthere hn], fun hq => ?_⟩
    rw [doFunctionLevelReset_vf s.ctx hthere hn]
    exact resetFunction_counted (d := s.dev) hq hp s.ctx n _
  · have hp := port_there _ p 0 hthere
    refine ⟨_, devStep_run _ s hrun, by rw [doFunctionLevelReset_pf s.ctx hthere], fun hq n hn => ?_⟩
    rw [doFunctionLevelReset_pf s.ctx hthere]
    have hall := cleared_allFunctions (d := s.dev) hq hp s.ctx
    refine (fn_countReset (hall.length.symm ▸ hp) n).trans ((hall.fn n).trans (if_pos ?_))
    rw [List.mem_append, mem_vfs, List.mem_singleton]
    omega
  · refine ⟨_, devStep_run (fun c d => if d.portUp p then d.disableVfs c p else d) s hrun, by rw [if_pos hup], fun hq => ?_⟩
    rw [if_pos hup]
    have hvfs := cleared_disableVfs (d := s.dev) hq (portUp_there hup) s.ctx
    exact ⟨(hvfs.fn 0).trans (if_neg (by simp [mem_vfs])), fun n h0 hn => (hvfs.fn n).trans (if_pos (mem_vfs.2 ⟨h0, hn⟩))⟩
  · intro f hrun
    refine ⟨fun hthere huse => ?_, devStep_run _ s hrun, devStep_run _ s hrun⟩
    have hp := port_there _ p n hthere
    have hquiesce (v : Nat) : (s.dev.modFn p n fun f => { f with quiesce := bit v 0 }).fn p n = { f with quiesce := bit v 0 } := fn_modFn _ p n _ hp
    refine ⟨fun v hv => ?_, fun v hv h0 hw => ?_, fun q v hq => ?_, fun q v hq => ?_, fun a v ha => ?_⟩
    · refine ⟨_, devStep_run _ s hrun, ?_⟩
      rw [doQuiesce_writes hthere huse, checkQuiesced_keeps (q := bit v 0 && f.outstanding == 0) (by rw [hquiesce]; rfl) ?_]
      · exact ⟨rfl, fn_modFn_modFn hp n _ _⟩
      · rw [hquiesce]
        rcases hv with hv | hv | hv
        · simp [hv]
        · simp [hv]
        · exact .inr hv
    · refine ⟨_, devStep_run _ s hrun, ?_⟩
      rw [doQuiesce_writes hthere huse, checkQuiesced_signals (by rw [hquiesce]; simp [hv]; exact h0) (by rw [hquiesce]; exact hw)]
      refine ⟨rfl, (fn_modFn_modFn hp n _ _).trans ?_⟩
      simp [f, hv]
    · refine ⟨_, devStep_run _ s hrun, ?_⟩
      rw [doRingConfiguration_writes hthere huse s.ctx hq]
      exact ⟨rfl, fn_modFn s.dev p n _ hp⟩
    · refine ⟨_, devStep_run _ s hrun, ?_⟩
      rw [doRingConfiguration_writes hthere huse s.ctx hq]
      exact ⟨rfl, fn_modFn s.dev p n _ hp⟩
    · refine ⟨_, devStep_run _ s hrun, ?_⟩
      rw [doApertureConfiguration_writes hthere huse s.ctx ha]
      exact ⟨rfl, fn_modFn s.dev p n _ hp⟩

end Sys2Proof.Machine
end

section
/-! Fabric links: what a link that is up or training does with its events (R595–R603, R658). -/

namespace Sys2Proof.Machine

/-- A command of the device, by what it makes of the device. -/
theorem devStep_of_eq {f : Ctx → Dev → Dev} {s : State} {d : Dev} (hrun : s.running = true) (hf : f s.ctx s.dev = d) :
    devStep f s = .next (s.withDev d) :=
  hf ▸ devStep_run f s hrun

/-- A used link that trained at its full width says HELLO. -/
theorem doLinkTrainingComplete_trained {d : Dev} {l lanes : Nat} (c : Ctx) (hup : d.fabricUp = true) (hl : l < 32)
    (hused : d.linkUsed l = true) (hdown : (d.link l).carries = false) (hwidth : lanes = d.linkWidth l) :
    doLinkTrainingComplete l lanes c d = (d.modLink l fun k => { k with state := 1, lanes := lanes }).send
      (.afp 0x01 0 [l, 0x31, d.lowestAfp l, if d.needsCipher l then 1 else 0, 1]) := by
  simp only [doLinkTrainingComplete, hup, hused, hdown, Nat.not_le.2 hl, hwidth, decide_true, decide_false, Bool.not_true, Bool.or_self,
    Bool.true_or, Bool.false_eq_true, if_true, if_false]

section
variable {d : Dev} {l highest lowest v : Nat} (hup : d.fabricUp = true) (hstate : (d.link l).state = 1) (hlanes : (d.link l).lanes ≠ 0)
  (hcommon : commonAfp highest lowest (d.lowestAfp l) = some v)
include hup hstate hlanes hcommon

/-- HELLO on a link that has trained and shares a version with the other end: without encryption it runs. -/
theorem doHello_plain (offered : Bool) (auth : Option LinkAuth) (c : Ctx) (hplain : d.needsCipher l = false) :
    doHello l highest lowest false offered auth c d = d.linkRuns c l v 0 false := by
  simp [doHello, hup, hstate, hlanes, hcommon, hplain]

/-- HELLO with authentication, on such a link whose port requires encryption, of a version that has it. -/
theorem doHello_authenticated (required : Bool) (a : LinkAuth) (c : Ctx) (hcipher : d.needsCipher l = true) (hversion : 0x30 ≤ v) :
    doHello l highest lowest required true (some a) c d = d.authenticateLink c l v (linkTranscript highest lowest a) a := by
  have hnew : ¬v < 0x30 := Nat.not_lt.2 hversion
  simp [doHello, hup, hstate, hlanes, hcommon, hcipher, hnew]
end

/-- An encrypted link takes a fresh key, and counts its messages from 0. -/
theorem doLinkKeyRenewal_fresh {d e : Dev} {l key : Nat} (c : Ctx) (hcarries : (d.link l).carries = true) (hencrypted : (d.link l).encrypted = true)
    (hworks : d.generatorFailed = false) (hfresh : d.fresh 64 = (key, e)) :
    doLinkKeyRenewal l c d = e.modLink l fun k => { k with key := key, messages := 0, keyedAt := c.now } := by
  simp [doLinkKeyRenewal, hcarries, hencrypted, hworks, hfresh]

/-- Settles O56, row by row. That KEEPALIVE empties the buffer of what was sent is log entry 30, that FEC_UNCORRECTABLE counts one resend is
log entry 61; the HELLO with authentication is R658. -/
theorem fabricLinks : Obligations.FabricLinks := by
  unfold Obligations.FabricLinks
  intro s l k hrun
  refine ⟨?training, ?hello, ?authenticated, fun hcarries => ⟨?close, ?keepalive, ?loss, ?fec, ?renewal⟩⟩
  case training =>
    intro lanes hup hl hused hdown hwidth
    exact devStep_of_eq hrun (doLinkTrainingComplete_trained _ hup hl hused hdown hwidth)
  case hello =>
    intro highest lowest v offered auth hup hstate hlanes hcommon hplain
    exact devStep_of_eq hrun (doHello_plain hup hstate hlanes hcommon offered auth _ hplain)
  case authenticated =>
    intro highest lowest v required a hup hstate hlanes hcommon hcipher hversion
    exact devStep_of_eq hrun (doHello_authenticated hup hstate hlanes hcommon required a _ hcipher hversion)
  case close =>
    exact fun cause => devStep_of_eq hrun (if_pos (by rw [show (s.dev.link l).carries = true from hcarries]; rfl))
  case keepalive => exact devStep_of_eq hrun (if_pos hcarries)
  case loss =>
    exact ⟨_, rfl, devStep_of_eq hrun (if_neg (by rw [show (s.dev.link l).carries = true from hcarries]; simp))⟩
  case fec =>
    exact fun n => devStep_of_eq hrun (if_neg (by rw [show (s.dev.link l).carries = true from hcarries]; simp))
  case renewal =>
    exact fun key d hencrypted hworks hfresh => devStep_of_eq hrun (doLinkKeyRenewal_fresh _ hcarries hencrypted hworks hfresh)

end Sys2Proof.Machine
end

section
/-! Compositions and shadows: COMPOSE, MEMBER_LOST, SHADOW_START, MIRROR and SHADOW_RESULT of messages that are heard (R611, R617, R618, R625, R626). -/

namespace Sys2Proof.Machine

@[simp] theorem composition?_heard (s : State) (h : Afp) (k : Nat) : (s.heard h).composition? k = s.dev.composition? k := rfl
@[simp] theorem node_heard (s : State) (h : Afp) : (s.heard h).fabric.node = s.dev.fabric.node := rfl
@[simp] theorem shadow_heard (s : State) (h : Afp) : (s.heard h).fabric.shadow = s.dev.fabric.shadow := rfl

/-- A link that is changed, read again. -/
theorem link_modLink_self {d : Dev} {l : Nat} (f : Link → Link) (hl : l < d.fabric.links.length) : (d.modLink l f).link l = f (d.link l) :=
  listMod_getD l f d.fabric.links .reset hl

/-- The arrival of a message leaves its link's version. -/
theorem version_heard {s : State} {h : Afp} (hl : h.link < s.dev.fabric.links.length) :
    ((s.heard h).link h.link).version = (s.dev.link h.link).version := by
  rw [State.heard, link_modLink_self _ hl]

/-- What a message that is heard does, by what its effect makes of the device that has noted it. -/
theorem devStep_heard {s : State} {h : Afp} {m : Bool} {f : Ctx → Dev → Dev} {g : Dev → Dev} {d : Dev} (hh : s.hears h m)
    (hf : f s.ctx s.dev = s.dev.receive s.ctx h m g) (hg : g (s.heard h) = d) : devStep f s = .next (s.withDev d) :=
  devStep_of_eq hh.1 (hf.trans ((receive_hears hh g).trans hg))

/-! ### COMPOSE and MEMBER_LOST -/

section
variable {s : State} {h : Afp} {id k epoch : Nat} {c : Composition} (hh : s.hears h true) (hslot : s.dev.compositionSlot id = some k)
  (hc : s.dev.composition? k = some c)
include hh hslot hc

/-- COMPOSE of an installed composition, by its epoch and its members. -/
theorem exec_compose (realm : Nat) (members owners : List Nat) :
    exec (.compose h id realm epoch members owners) s = .next (s.withDev (
      if epoch ≤ c.epoch then (s.heard h).ackManager h stOk c.epoch
      else if members.isEmpty then ((s.heard h).uninstall s.ctx k c epoch).ackManager h stOk epoch
      else ((s.heard h).install s.ctx k id realm epoch members owners).ackManager h stOk epoch)) := by
  refine devStep_heard hh rfl ?_
  simp only [compositionSlot_heard, hslot, composition?_heard, hc]

/-- MEMBER_LOST of a newer epoch. -/
theorem exec_memberLost (rank node : Nat) (hnew : c.epoch < epoch) :
    exec (.memberLost h id epoch rank node) s = .next (s.withDev (((((((((s.heard h).installVacant s.ctx k epoch rank node c).instancesLost
      s.ctx k node).poolNodeLost s.ctx node).unitsLost s.ctx k node).releaseHeld s.ctx id epoch).ackManager h stOk epoch).resumeWaiting
        s.ctx).hear s.ctx none)) := by
  refine devStep_hearing hh.1 (devStep_heard hh rfl ?_)
  simp only [compositionSlot_heard, hslot, composition?_heard, hc, if_neg (Nat.not_le.2 hnew)]

/-! ### Shadowing -/

/-- SHADOW_START at the working member of the rank. -/
theorem exec_shadowStart_working (shadow : Nat) {rank working : Nat} (hworking : working = s.dev.fabric.node) (hrank : c.ownRank = rank) :
    exec (.shadowStart h id rank working shadow) s = .next (s.withDev (((s.heard h).setFabric { (s.heard h).fabric with
      shadow := { Shadow.reset with role := 2, partner := shadow, composition := k, rank := rank } }).ackManager h stOk 0)) := by
  refine devStep_heard hh rfl ?_
  simp only [compositionSlot_heard, hslot, composition?_heard, hc, Option.map_some, Option.getD_some, node_heard]
  rw [if_pos ⟨hworking, hrank⟩]

/-- SHADOW_START at the shadow, which has no rank of its own. -/
theorem exec_shadowStart_shadow (rank : Nat) {working shadow : Nat} (hrank : c.ownRank = 0xFFFF) (hshadow : shadow = s.dev.fabric.node)
    (hworking : working ≠ s.dev.fabric.node) :
    exec (.shadowStart h id rank working shadow) s = .next (s.withDev (((s.heard h).setFabric { (s.heard h).fabric with
      shadow := { Shadow.reset with role := 1, partner := working, composition := k, rank := rank } }).ackManager h stOk 0)) := by
  refine devStep_heard hh rfl ?_
  simp only [compositionSlot_heard, hslot, composition?_heard, hc, Option.map_some, Option.getD_some, node_heard]
  rw [if_neg fun hboth => hworking hboth.1, if_pos ⟨hshadow, hrank⟩]
end

section
variable {s : State} {h : Afp} (hversion : 0x30 ≤ (s.dev.link h.link).version) (hpartner : s.dev.fabric.shadow.partner = h.src)
  (hl : h.link < s.dev.fabric.links.length)
include hversion hpartner hl

/-- A mirrored capsule that is heard for the first time is taken. -/
theorem exec_mirror (raw : BitVec 512) (len data : Nat) (hh : s.hearsOnce h) (hrole : s.dev.fabric.shadow.role = 1) :
    exec (.mirror h raw len data) s = .next (s.withDev ((s.heardOnce h).takeMirror s.ctx h raw.toNat len data)) := by
  have hshadow : ((s.heard h).fabric.shadow.role != 1 || (s.heard h).fabric.shadow.partner != h.src) = false := by simp [hrole, hpartner]
  refine devStep_heard hh.1 rfl ?_
  rw [version_heard hl, if_neg (Nat.not_lt.2 hversion), hshadow, if_neg Bool.false_ne_true]
  exact once_hearsOnce hh _

/-- The working member keeps the shadow's result with the request that it is of. -/
theorem exec_shadowResult (record : Nat) (lists : List Candidates) (hh : s.hears h false) (hrole : s.dev.fabric.shadow.role = 2) :
    exec (.shadowResult h record lists) s = .next (s.withDev ((((s.heard h).expireMirror s.ctx h.requestId).modAwaited h.requestId fun w =>
      { w with result := some (record % 256, lists) }).settleMirror h.requestId)) := by
  have hworking : ((s.heard h).fabric.shadow.role != 2 || (s.heard h).fabric.shadow.partner != h.src) = false := by simp [hrole, hpartner]
  refine devStep_heard hh rfl ?_
  rw [version_heard hl, if_neg (Nat.not_lt.2 hversion), hworking]
  rfl
end

/-- Settles O58. A COMPOSE without members removes the composition by log entry 45. -/
theorem compositionsAndShadows : Obligations.CompositionsAndShadows := by
  unfold Obligations.CompositionsAndShadows
  refine ⟨fun s h hh => ⟨?newer, ?older, ?removed, ?lost, ?working, ?shadow⟩, fun s h hversion hpartner hl => ⟨?mirror, ?result⟩⟩
  case newer =>
    intro id realm epoch members owners k c hslot hc hnew hmembers
    rw [exec_compose hh hslot hc, if_neg (Nat.not_le.2 hnew), if_neg (by simpa using hmembers)]
  case older =>
    intro id realm epoch members owners k c hslot hc hold
    rw [exec_compose hh hslot hc, if_pos hold]
  case removed =>
    intro id realm epoch owners k c hslot hc hnew
    rw [exec_compose hh hslot hc, if_neg (Nat.not_le.2 hnew)]
    rfl
  case lost => exact fun id epoch rank node k c hslot hc hnew => exec_memberLost hh hslot hc rank node hnew
  case working => exact fun id rank working shadow k c hslot hc hworking hrank => exec_shadowStart_working hh hslot hc shadow hworking hrank
  case shadow =>
    exact fun id rank working shadow k c hslot hc hrank hshadow hworking => exec_shadowStart_shadow hh hslot hc rank hrank hshadow hworking
  case mirror => exact fun raw len data hh hrole => exec_mirror hversion hpartner hl raw len data hh hrole
  case result => exact fun record lists hh hrole => exec_shadowResult hversion hpartner hl record lists hh hrole

end Sys2Proof.Machine
end

section
/-! The ownership of a unit moves: the manager's messages, the peer's, and the audit (R619–R624). -/

namespace Sys2Proof.Machine

/-! ### A unit's record -/

@[simp] theorem ownUnit_setUnit_self (d : Dev) (slot unit : Nat) (u : OwnUnit) : (d.setUnit slot unit u).ownUnit slot unit = u := by
  simp [Dev.ownUnit, Dev.setUnit]

@[simp] theorem ownUnit_afp (d : Dev) (type dest : Nat) (fields : List Nat) (slot unit : Nat) :
    (d.afp type dest fields).ownUnit slot unit = d.ownUnit slot unit := rfl

@[simp] theorem ownUnit_ackManager (d : Dev) (h : Afp) (status held slot unit : Nat) :
    (d.ackManager h status held).ownUnit slot unit = d.ownUnit slot unit := rfl

@[simp] theorem ownUnit_heard (s : State) (h : Afp) (slot unit : Nat) : (s.heard h).ownUnit slot unit = s.dev.ownUnit slot unit := rfl

@[simp] theorem ownUnit_setAudits (d : Dev) (n slot unit : Nat) :
    (d.setFabric { d.fabric with audits := n }).ownUnit slot unit = d.ownUnit slot unit := rfl

/-! ### Messages about a unit -/

/-- A unit of a peer that this node moves with it. -/
theorem unitOfPeer_some {d : Dev} {h : Afp} {unit slot : Nat} (hunit : unit < 4096) (hslot : d.compositionSlot h.composition = some slot)
    (hpeer : (d.ownUnit slot unit).peer = h.src) : d.unitOfPeer h unit = some (slot, d.ownUnit slot unit) := by
  simp only [Dev.unitOfPeer, if_pos hunit, hslot, if_pos hpeer]

section
variable {s : State} {h : Afp} {unit slot : Nat} (hunit : unit < 4096) (hslot : s.dev.compositionSlot h.composition = some slot)
include hunit hslot

/-- A message of the manager about a unit of an installed composition. -/
theorem devStep_unitMessage {f : Ctx → Dev → Dev} {g : Dev → Nat → OwnUnit → Dev} {d : Dev} (hh : s.hears h true)
    (hf : f s.ctx s.dev = s.dev.unitMessage s.ctx h unit g) (hg : g (s.heard h) slot (s.dev.ownUnit slot unit) = d) :
    devStep f s = .next (s.withDev d) := by
  refine devStep_heard hh hf ?_
  simp only [if_pos hunit, compositionSlot_heard, hslot]
  exact hg

/-- OWN_PREPARE at a node without the unit prepares it to receive. -/
theorem exec_ownPrepare_receiver (peer : Nat) (hh : s.hears h true) (hstate : (s.dev.ownUnit slot unit).state = .none) :
    exec (.ownPrepare h unit ((s.dev.ownUnit slot unit).generation + 1) peer 1) s = .next (s.withDev (((s.heard h).setUnit slot unit
      ⟨.prepared, (s.dev.ownUnit slot unit).generation, peer, s.time.count, [], []⟩).ackManager h stOk (s.dev.ownUnit slot unit).generation)) := by
  refine devStep_unitMessage hunit hslot hh rfl ?_
  rw [if_neg (by simp [hstate]), if_pos rfl, if_neg (by simp [hstate])]
  rfl

/-- OWN_PREPARE at the owner has it send the unit's entries. -/
theorem exec_ownPrepare_owner (peer : Nat) (hh : s.hears h true) (hstate : (s.dev.ownUnit slot unit).state = .owner) :
    exec (.ownPrepare h unit ((s.dev.ownUnit slot unit).generation + 1) peer 0) s = .next (s.withDev
      ((((s.heard h).setUnit slot unit ⟨.sending, (s.dev.ownUnit slot unit).generation, peer, s.time.count, [], []⟩).sendEntries slot unit peer
        (match s.dev.composition? slot with | some k => (s.dev.unitKeys k.realm unit).map fun e => e.2.1 | none => [])).ackManager h stOk
          (s.dev.ownUnit slot unit).generation)) := by
  refine devStep_unitMessage hunit hslot hh rfl ?_
  exact (if_neg (by simp [hstate])).trans ((if_neg (by decide)).trans (if_neg (by simp [hstate])))

/-- OWN_STATE of the peer brings entries to a receiver. -/
theorem exec_ownState_receiver (entries : List OwnEntry) (hh : s.hears h false) (hnone : s.dev.unitSending h unit = none)
    (hpeer : (s.dev.ownUnit slot unit).peer = h.src) (hstate : (s.dev.ownUnit slot unit).state = .prepared) :
    exec (.ownState h unit entries) s = .next (s.withDev ((s.heard h).setUnit slot unit
      { s.dev.ownUnit slot unit with received := joinEntries (s.dev.ownUnit slot unit).received entries })) := by
  refine devStep_heard hh (by simp only [doOwnState, hnone]; rfl) ?_
  have hmoves := unitOfPeer_some (d := s.heard h) hunit hslot hpeer
  simp only [hmoves, ownUnit_heard, if_pos hstate]

/-- OWN_READY of the peer completes the receiver's copy, and the manager hears of it. -/
theorem exec_ownReady_receiver (hh : s.hears h false) (hnone : s.dev.unitSending h unit = none)
    (hpeer : (s.dev.ownUnit slot unit).peer = h.src) (hstate : (s.dev.ownUnit slot unit).state = .prepared) :
    exec (.ownReady h unit ((s.dev.ownUnit slot unit).generation + 1)) s = .next (s.withDev (((s.heard h).setUnit slot unit
      { s.dev.ownUnit slot unit with state := .complete, since := s.time.count }).afp 0x62 0xFFFF
        [h.composition, unit, (s.dev.ownUnit slot unit).generation + 1])) := by
  refine devStep_heard hh (by simp only [doOwnReady, hnone]; rfl) ?_
  have hmoves := unitOfPeer_some (d := s.heard h) hunit hslot hpeer
  simp [hmoves, hstate, State.ctx]

/-- OWN_COMMIT has a node with the complete copy take the unit. -/
theorem exec_ownCommit_complete (hh : s.hears h true) (hstate : (s.dev.ownUnit slot unit).state = .complete) :
    exec (.ownCommit h unit ((s.dev.ownUnit slot unit).generation + 1)) s = .next (s.withDev (((s.heard h).takeUnit s.ctx slot unit).ackManager h stOk
      (((s.heard h).takeUnit s.ctx slot unit).ownUnit slot unit).generation)) := by
  refine devStep_unitMessage hunit hslot hh rfl ?_
  simp [hstate]

/-- OWN_ABORT has a receiver discard its copy. -/
theorem exec_ownAbort_receiver (hh : s.hears h true) (hstate : (s.dev.ownUnit slot unit).state = .prepared) :
    exec (.ownAbort h unit ((s.dev.ownUnit slot unit).generation + 1)) s = .next (s.withDev (((s.heard h).revertUnit s.ctx slot unit).ackManager h stOk
      (((s.heard h).revertUnit s.ctx slot unit).ownUnit slot unit).generation)) := by
  refine devStep_unitMessage hunit hslot hh rfl ?_
  simp [hstate]

/-- OWN_QUERY of the peer: the unit is resolved, and the peer hears its state. -/
theorem exec_ownQuery (state complete : Nat) (hh : s.hears h false) (hpeer : (s.dev.ownUnit slot unit).peer = h.src) :
    exec (.ownQuery h unit state complete) s = .next (s.withDev (((s.heard h).resolveAndReport s.ctx slot unit state complete).reportUnit
      h.src slot unit)) := by
  refine devStep_heard hh rfl ?_
  have hpeer' : ((s.heard h).ownUnit slot unit).peer = h.src := hpeer
  simp only [if_pos hunit, compositionSlot_heard, hslot, if_pos hpeer']

/-- OWN_REPORT of the peer: the unit is resolved. -/
theorem exec_ownReport (state complete : Nat) (hh : s.hears h false) (hpeer : (s.dev.ownUnit slot unit).peer = h.src)
    (hstate : (s.dev.ownUnit slot unit).state ≠ .complete) :
    exec (.ownReport h unit state complete) s = .next (s.withDev ((s.heard h).resolveAndReport s.ctx slot unit state complete)) := by
  refine devStep_heard hh rfl ?_
  have hmoves := unitOfPeer_some (d := s.heard h) hunit hslot hpeer
  simp only [hmoves, ownUnit_heard, if_neg hstate]

/-- The audit of a unit that has stayed between two owners for the audit time asks the peer, and is counted. -/
theorem exec_ownershipAudit_due (hrun : s.running = true)
    (hbetween : (s.dev.ownUnit slot unit).state = .surrendered ∨ (s.dev.ownUnit slot unit).state = .prepared ∨
      (s.dev.ownUnit slot unit).state = .complete) (hdue : (s.dev.ownUnit slot unit).since + s.dev.cfg 0x2A50 4 * msTicks ≤ s.time.count) :
    exec (.ownershipAudit h.composition unit) s = .next (s.withDev
      (((s.dev.setUnit slot unit { s.dev.ownUnit slot unit with since := s.time.count }).setFabric {
        (s.dev.setUnit slot unit { s.dev.ownUnit slot unit with since := s.time.count }).fabric with
          audits := satAdd 64 s.dev.fabric.audits 1 }).afp 0x64 (s.dev.ownUnit slot unit).peer
            [h.composition, unit, (s.dev.ownUnit slot unit).state.code, (s.dev.ownUnit slot unit).completeAt])) := by
  have hdone : ((s.dev.ownUnit slot unit).state != .surrendered && (s.dev.ownUnit slot unit).state != .prepared &&
      (s.dev.ownUnit slot unit).state != .complete || decide (s.time.count < (s.dev.ownUnit slot unit).since + s.dev.cfg 0x2A50 4 * msTicks)) =
        false := by
    rw [decide_eq_false (Nat.not_lt.2 hdue)]
    rcases hbetween with h | h | h <;> rw [h] <;> rfl
  refine devStep_of_eq hrun ?_
  simp only [doOwnershipAudit, if_pos hunit, hslot]
  exact if_neg (ne_true_of_eq_false hdone)
end

/-- A receiver that gives its copy up is as it was before. -/
theorem revertUnit_prepared {d : Dev} {slot unit : Nat} (c : Ctx) (hstate : (d.ownUnit slot unit).state = .prepared) :
    d.revertUnit c slot unit = d.setUnit slot unit ⟨.none, (d.ownUnit slot unit).generation, 0, c.now, [], []⟩ := by
  simp [Dev.revertUnit, hstate]

/-- Settles O60, message by message: those of the owner itself are log entry 40, the codes of the states that the reports carry log entry 47. -/
theorem ownershipMoves : Obligations.OwnershipMoves := by
  unfold Obligations.OwnershipMoves
  intro s h unit slot o hunit hslot
  refine ⟨?receiver, ?owner, ?entries, ?ready, ?commit, ?abort, ?query, ?report, ?audit⟩
  case receiver =>
    exact fun peer hh hstate => ⟨_, exec_ownPrepare_receiver hunit hslot peer hh hstate, (ownUnit_ackManager ..).trans (ownUnit_setUnit_self ..)⟩
  case owner => exact fun peer hh hstate => exec_ownPrepare_owner hunit hslot peer hh hstate
  case entries => exact fun entries hh hnone hpeer hstate => exec_ownState_receiver hunit hslot entries hh hnone hpeer hstate
  case ready =>
    exact fun hh hnone hpeer hstate => ⟨_, exec_ownReady_receiver hunit hslot hh hnone hpeer hstate, (ownUnit_afp ..).trans (ownUnit_setUnit_self ..)⟩
  case commit => exact fun hh hstate => ⟨_, rfl, exec_ownCommit_complete hunit hslot hh hstate⟩
  case abort =>
    intro hh hstate
    refine ⟨_, exec_ownAbort_receiver hunit hslot hh hstate, ?_⟩
    rw [revertUnit_prepared (d := s.heard h) s.ctx hstate]
    exact (ownUnit_ackManager ..).trans (ownUnit_setUnit_self ..)
  case query => exact fun state complete hh hpeer => exec_ownQuery hunit hslot state complete hh hpeer
  case report => exact fun state complete hh hpeer hstate => exec_ownReport hunit hslot state complete hh hpeer hstate
  case audit =>
    refine fun hrun hbetween hdue => ⟨_, exec_ownershipAudit_due hunit hslot hrun hbetween hdue, rfl, ?_, ?_, afp_mem ..⟩
    · exact congrArg Fabric.audits (afp_fabric ..)
    · exact (ownUnit_afp ..).trans ((ownUnit_setAudits ..).trans (ownUnit_setUnit_self ..))

end Sys2Proof.Machine
end

section
/-! The control actions of sessions, and SPDM: attestation, session proofs, alerts, images, restarts, full programs (R14, R653, R654, R656, R681,
R689, R692, R699). -/

namespace Sys2Proof.Machine

/-- What an action that a session takes up does, by what its effect makes of the device. -/
theorem devStep_actionTaken {s : State} {q : Req} {idx sub value : Nat} {d e : Dev} {x : Session} {f : Ctx → Dev → Dev} {g : Dev → Session → Dev}
    (htaken : s.takesUp q idx sub value d x) (hf : f s.ctx s.dev = s.dev.action s.ctx q idx sub value g) (hg : g d x = e) :
    devStep f s = .next (s.withDev e) :=
  devStep_of_eq htaken.1 (hf.trans ((actionIn_some id _ _ _ _ _ _ _ _ _ htaken.2).trans hg))

/-! ### What the actions do -/

theorem actAttestationNonce_signs {d : Dev} (hworks : d.generatorFailed = false) (c : Ctx) (q : Req) (x : Session) (nonce : Nat) :
    d.actAttestationNonce c q x nonce =
      (d.modSession q.path q.number fun t => { t with report := d.attestation c x.realm nonce }).answer q 0x5C10 1 stOk := by
  simp [Dev.actAttestationNonce, hworks]

/-- A proof that holds, on the management link, puts its session under protection. -/
theorem actSessionProof_holds {d : Dev} {q : Req} {x : Session} {sig : Nat} (hpending : x.proofPending = true) (hholds : d.proofHolds x sig = true)
    (hpath : q.path = 0) (c : Ctx) :
    d.actSessionProof c q x sig =
      (d.modSession q.path q.number fun t => { t with proofPending := false, isProtected := true }).answer q 0x5C20 1 stOk := by
  have hmgmt : q.path ≠ 2 := by omega
  simp [Dev.actSessionProof, hpending, hholds, hmgmt]

/-- A verified or confirmed image becomes the trial image, where none is on trial. -/
theorem actActivate_verified {d : Dev} (hstate : (d.image (1 - d.nor.boot.active)).state = 1 ∨ (d.image (1 - d.nor.boot.active)).state = 4)
    (htrial : d.nor.boot.trial = false) (q : Req) :
    d.actActivate q 1 = ((d.writeBoot fun b => { b with active := 1 - d.nor.boot.active, trial := true, tried := false }).modImage
      (1 - d.nor.boot.active) fun i => { i with state := 3 }).answer q 0x5F02 0 stOk := by
  have hverified : ((d.image (1 - d.nor.boot.active)).state != 1 && (d.image (1 - d.nor.boot.active)).state != 4) = false := by
    rcases hstate with h | h <;> rw [h] <;> rfl
  unfold Dev.actActivate
  simp [hverified, htrial]

theorem confirmTrial_trial {d : Dev} (htrial : d.nor.boot.trial = true) (c : Ctx) :
    d.confirmTrial c = (((d.writeBoot fun b => { b with trial := false }).modImage d.nor.boot.active fun i => { i with state := 4 }).event c
      0x0B04 0 0 d.nor.boot.active 0 0) :=
  if_neg (by simp [htrial])

theorem actRestart_taken {value : Nat} (hvalue : value = 1 ∨ value = 2) (c : Ctx) (d : Dev) (q : Req) : d.actRestart c q value = d.restart c q value := by
  have hnonzero : value ≠ 0 := by omega
  have hknown : ¬2 < value := by omega
  simp only [Dev.actRestart, if_neg hnonzero, if_neg hknown]

/-- No slice runs, so none is aborted. -/
theorem abortSlice_none {d : Dev} (hnone : d.oculus.slice = none) (which : Nat → Bool) : d.abortSlice which = d := by
  simp only [Dev.abortSlice, hnone]

/-- A full program of this life cycle begins where none runs. -/
theorem actProgram_begins {d : Dev} {value : Nat} (hallowed : programsAllowed d.keep.lifeCycle = true)
    (hblocks : programBlocks (bits value 7 0) (bits value 15 8) ≠ []) (hidle : d.oculus.program % 256 ≠ 1) (hnone : d.oculus.slice = none)
    (c : Ctx) (q : Req) (x : Session) :
    d.actProgram c q x value = ((d.setOculus { d.oculus with
      program := 1 + 256 * bits value 7 0, programBlocks := programBlocks (bits value 7 0) (bits value 15 8)
      results := setResults d.oculus.results (programBlocks (bits value 7 0) (bits value 15 8)) 4 }).programUnits
        (programBlocks (bits value 7 0) (bits value 15 8)) true).answer q 0x5820 0 stOk := by
  have hnonempty : (programBlocks (bits value 7 0) (bits value 15 8)).isEmpty = false := by simpa using hblocks
  simp [Dev.actProgram, hallowed, hnonempty, hidle, abortSlice_none hnone]

/-! ### SPDM -/

section
variable {d : Dev} {port : Nat} (hthere : d.fnThere port 0 = true) (hloaded : d.boot.reloading = false) (hnode : d.boot.node ≠ 0x81)
include hthere hloaded hnode

/-- A request on a port whose PF answers. -/
theorem doSpdmRequest_answered (code param version : Nat) (ed448 sha3 : Bool) (nonce : Nat) (c : Ctx) :
    doSpdmRequest port code param version ed448 sha3 nonce c d =
      if code = 0x84 then d.send (.spdm 0x04 [0x12])
      else if version != 0x12 then (d.spdmError 0x41).event c 0x0C01 1 0 1 version 0
      else d.spdmAnswer c code param ed448 sha3 nonce := by
  simp [doSpdmRequest, hthere, hloaded, hnode]

/-- A request of version 1.2 other than GET_VERSION. -/
theorem doSpdmRequest_current {code : Nat} (hcode : code ≠ 0x84) (param : Nat) (ed448 sha3 : Bool) (nonce : Nat) (c : Ctx) :
    doSpdmRequest port code param 0x12 ed448 sha3 nonce c d = d.spdmAnswer c code param ed448 sha3 nonce := by
  rw [doSpdmRequest_answered hthere hloaded hnode, if_neg hcode]
  rfl
end

/-- Settles O43, action by action and code by code. Activating an image in state 4 is log entry 54, SPDM's codes and bytes are log entry 33, and
that one full program runs at a time is log entry 36. -/
theorem controlActionsAct : Obligations.ControlActionsAct := by
  unfold Obligations.ControlActionsAct
  refine ⟨fun s q d x => ⟨?nonce, ?proof, ?alert, ?activate, ?confirm, ?restart, ?program⟩,
    fun s port param version nonce ed448 sha3 hrun hthere hloaded hnode => ⟨?version, ?older, ?capabilities, ?algorithms, ?digests⟩⟩
  case nonce =>
    exact fun nonce htaken hworks => devStep_actionTaken htaken rfl (actAttestationNonce_signs hworks _ q x nonce)
  case proof =>
    exact fun sig htaken hpending hholds hpath => devStep_actionTaken htaken rfl (actSessionProof_holds hpending hholds hpath _)
  case alert => exact fun htaken => devStep_actionTaken htaken rfl rfl
  case activate =>
    exact fun htaken hstate htrial => devStep_actionTaken htaken rfl (actActivate_verified hstate htrial q)
  case confirm =>
    exact fun htaken htrial => devStep_actionTaken htaken rfl (congrArg (Dev.answer · q 0x5F04 0 stOk) (confirmTrial_trial htrial s.ctx))
  case restart =>
    exact fun value hvalue htaken => devStep_actionTaken htaken rfl (actRestart_taken hvalue _ d q)
  case program =>
    exact fun value htaken hallowed hblocks hidle hnone => devStep_actionTaken htaken rfl (actProgram_begins hallowed hblocks hidle hnone _ q x)
  case version => exact devStep_of_eq hrun (doSpdmRequest_answered hthere hloaded hnode ..)
  case older =>
    intro code hcode hversion
    refine devStep_of_eq hrun ((doSpdmRequest_answered hthere hloaded hnode ..).trans ?_)
    rw [if_neg hcode, if_pos (by simpa using hversion)]
  case capabilities => exact devStep_of_eq hrun (doSpdmRequest_current hthere hloaded hnode (by decide) ..)
  case algorithms =>
    refine devStep_of_eq hrun ((doSpdmRequest_current hthere hloaded hnode (by decide) ..).trans ?_)
    simp [Dev.spdmAnswer, b2n]
  case digests => exact devStep_of_eq hrun (doSpdmRequest_current hthere hloaded hnode (by decide) ..)

end Sys2Proof.Machine
end

section
/-! What capsules, banks and objects at work leave as it is: the record of the node's start, and what the sensors read. A host link that is lost
leaves the first (R592, R672), a step granted to a bank the second (R679). -/

namespace Sys2Proof.Machine

/-! ### The event log -/

/-- What an event leaves: every part that its frame does not name. -/
theorem event_leaves {α : Type} {part : Dev → α} (hpart : ∀ (d : Dev) log seq events sensors alert,
    part { d with log := log, nor := { d.nor with eventSeq := seq, events := events }, sensors := sensors, pins := { d.pins with alert := alert } } = part d)
    (d : Dev) (c : Ctx) (code severity realm w0 w1 w2 : Nat) : part (d.event c code severity realm w0 w1 w2) = part d := by
  obtain ⟨_, _, _, _, _, h⟩ := event_frame d c code severity realm w0 w1 w2
  rw [h, hpart]

section
variable (d : Dev) (c : Ctx) (code severity realm w0 w1 w2 : Nat)

@[simp] theorem boot_event : (d.event c code severity realm w0 w1 w2).boot = d.boot := event_leaves (fun _ _ _ _ _ _ => rfl) ..
@[simp] theorem norBoot_event : (d.event c code severity realm w0 w1 w2).nor.boot = d.nor.boot :=
  event_leaves (part := fun d => d.nor.boot) (fun _ _ _ _ _ _ => rfl) ..
@[simp] theorem kept_event : (d.event c code severity realm w0 w1 w2).nor.kept = d.nor.kept :=
  event_leaves (part := fun d => d.nor.kept) (fun _ _ _ _ _ _ => rfl) ..
@[simp] theorem dict_event : (d.event c code severity realm w0 w1 w2).dict = d.dict := event_leaves (fun _ _ _ _ _ _ => rfl) ..
@[simp] theorem keep_event : (d.event c code severity realm w0 w1 w2).keep = d.keep := event_leaves (fun _ _ _ _ _ _ => rfl) ..
@[simp] theorem mem_event : (d.event c code severity realm w0 w1 w2).mem = d.mem := event_leaves (fun _ _ _ _ _ _ => rfl) ..
@[simp] theorem flash_event : (d.event c code severity realm w0 w1 w2).flash = d.flash := event_leaves (fun _ _ _ _ _ _ => rfl) ..
@[simp] theorem banks_event : (d.event c code severity realm w0 w1 w2).banks = d.banks := event_leaves (fun _ _ _ _ _ _ => rfl) ..
@[simp] theorem power_event : (d.event c code severity realm w0 w1 w2).power = d.power := event_leaves (fun _ _ _ _ _ _ => rfl) ..
@[simp] theorem oculus_event : (d.event c code severity realm w0 w1 w2).oculus = d.oculus := event_leaves (fun _ _ _ _ _ _ => rfl) ..
@[simp] theorem capsules_event : (d.event c code severity realm w0 w1 w2).capsules = d.capsules := event_leaves (fun _ _ _ _ _ _ => rfl) ..
end

/-- What every step of a fold leaves, the fold leaves. -/
theorem foldl_leaves {α β : Type} {part : Dev → α} {f : Dev → β → Dev} (h : ∀ d b, part (f d b) = part d) (l : List β) (d : Dev) :
    part (l.foldl f d) = part d := by
  induction l generalizing d with
  | nil => rfl
  | cons b l ih => exact (ih _).trans (h d b)

/-! ### The parts that are left -/

/-- The record of the node's start, and the sensors but for what an event marks as not acknowledged. (What follows is proved `by rfl` where it is
definitional: `simp` then uses it as a rewrite for the hypothesis of `apart_foldl` too.) -/
def Dev.apart (d : Dev) : Boot × Sensors := (d.boot, { d.sensors with unacked := false })

@[simp] theorem apart_foldl {β : Type} {f : Dev → β → Dev} (h : ∀ d b, (f d b).apart = d.apart) (l : List β) (d : Dev) :
    (l.foldl f d).apart = d.apart :=
  foldl_leaves (part := Dev.apart) h l d

@[simp] theorem apart_ite {p : Prop} [Decidable p] (a b : Dev) : (if p then a else b).apart = if p then a.apart else b.apart := apply_ite ..

section
variable (d : Dev)

@[simp] theorem apart_setPins (x) : (d.setPins x).apart = d.apart := rfl
@[simp] theorem apart_setNor (x) : (d.setNor x).apart = d.apart := rfl
@[simp] theorem apart_setLog (x) : (d.setLog x).apart = d.apart := rfl
@[simp] theorem apart_setDict (x) : (d.setDict x).apart = d.apart := rfl
@[simp] theorem apart_setViolations (x) : (d.setViolations x).apart = d.apart := rfl
@[simp] theorem apart_setRefused (x) : (d.setRefused x).apart = d.apart := rfl
@[simp] theorem apart_setPorts (x) : (d.setPorts x).apart = d.apart := rfl
@[simp] theorem apart_setCapsules (x) : (d.setCapsules x).apart = d.apart := rfl
@[simp] theorem apart_setTraffic (x) : (d.setTraffic x).apart = d.apart := rfl
@[simp] theorem apart_setFabric (x) : (d.setFabric x).apart = d.apart := rfl
@[simp] theorem apart_setTiles (x) : (d.setTiles x).apart = d.apart := rfl
@[simp] theorem apart_setPlans (x) : (d.setPlans x).apart = d.apart := rfl
@[simp] theorem apart_setBanks (x) : (d.setBanks x).apart = d.apart := rfl
@[simp] theorem apart_setSearch (x) : (d.setSearch x).apart = d.apart := rfl
@[simp] theorem apart_setUpdates (x) : (d.setUpdates x).apart = d.apart := rfl
@[simp] theorem apart_setKv (x) : (d.setKv x).apart = d.apart := rfl
@[simp] theorem apart_setTiers (x) : (d.setTiers x).apart = d.apart := rfl
@[simp] theorem apart_setFlash (x) : (d.setFlash x).apart = d.apart := rfl
@[simp] theorem apart_setMem (x) : (d.setMem x).apart = d.apart := rfl
@[simp] theorem apart_setHostMem (x) : (d.setHostMem x).apart = d.apart := rfl
@[simp] theorem apart_setOut (x) : (d.setOut x).apart = d.apart := rfl
@[simp] theorem apart_setFillWait (x) : (d.setFillWait x).apart = d.apart := rfl
@[simp] theorem apart_setFreeCtr (x) : (d.setFreeCtr x).apart = d.apart := rfl

@[simp] theorem apart_event (c : Ctx) (code severity realm w0 w1 w2 : Nat) : (d.event c code severity realm w0 w1 w2).apart = d.apart := by
  unfold Dev.event
  dsimp only
  split <;> rfl

/-! ### Choices and messages -/

@[simp] theorem apart_choose (n : Nat) : (d.choose n).2.apart = d.apart := by rfl
@[simp] theorem apart_pick (span : Nat) : (d.pick span).2.apart = d.apart := rfl
@[simp] theorem apart_send (m : OutMsg) : (d.send m).apart = d.apart := by rfl
@[simp] theorem apart_modLink (l : Nat) (f : Link → Link) : (d.modLink l f).apart = d.apart := by rfl
@[simp] theorem apart_keepSent (l type dest : Nat) (fields : List Nat) : (d.keepSent l type dest fields).apart = d.apart := by rfl
@[simp] theorem apart_afpOver (l type dest : Nat) (fields : List Nat) : (d.afpOver l type dest fields).apart = d.apart := by rfl
@[simp] theorem apart_afp (type dest : Nat) (fields : List Nat) : (d.afp type dest fields).apart = d.apart := by rfl

@[simp] theorem apart_violate (c : Ctx) (realm source sourceId opcode kind tag address plan desc : Nat) :
    (d.violate c realm source sourceId opcode kind tag address plan desc).apart = d.apart := by simp [Dev.violate]

/-! ### The T2 cache -/

@[simp] theorem apart_setPanel (p : CachePanel) : (d.setPanel p).apart = d.apart := rfl
@[simp] theorem apart_countCache (realm : Nat) (f : CacheCounters → CacheCounters) : (d.countCache realm f).apart = d.apart := by rfl
@[simp] theorem apart_sendBack (realm sector : Nat) (through : Bool) : (d.sendBack realm sector through).apart = d.apart := by simp [Dev.sendBack]
@[simp] theorem apart_writeBack (realm sector : Nat) : (d.writeBack realm sector).apart = d.apart := by simp [Dev.writeBack]
@[simp] theorem apart_putPanel (p : CachePanel) : (d.putPanel p).apart = d.apart := by rfl
@[simp] theorem apart_dropPanel (p : CachePanel) (writeBack : Bool) : (d.dropPanel p writeBack).apart = d.apart := by simp [Dev.dropPanel]

@[simp] theorem apart_makeRoom (realm tag : Nat) : (d.makeRoom realm tag).apart = d.apart := by
  unfold Dev.makeRoom
  dsimp only
  repeat' split
  all_goals simp

@[simp] theorem apart_ensurePanel (realm sector : Nat) : (d.ensurePanel realm sector).2.apart = d.apart := by
  unfold Dev.ensurePanel
  dsimp only
  split <;> simp

@[simp] theorem apart_touchSector (realm sector : Nat) (fetch : Bool) : (d.touchSector realm sector fetch).apart = d.apart := by
  simp [Dev.touchSector]

@[simp] theorem apart_trimDirty (realm limit : Nat) (l : List CachePanel) : (d.trimDirty realm limit l).apart = d.apart := by
  induction l generalizing d with
  | nil => rfl
  | cons p ps ih =>
    unfold Dev.trimDirty
    split
    · rfl
    · rw [ih]
      exact apart_foldl (fun _ _ => apart_writeBack ..) _ d

@[simp] theorem apart_markDirty (c : Ctx) (realm sector : Nat) : (d.markDirty c realm sector).apart = d.apart := by
  unfold Dev.markDirty
  split <;> simp

@[simp] theorem apart_trimToLimit (realm : Nat) : (d.trimToLimit realm).apart = d.apart := by simp [Dev.trimToLimit]
@[simp] theorem apart_repin (l : List (Nat × Nat)) (f : Nat → Nat) : (d.repin l f).apart = d.apart := by rfl

/-! ### Banks and memory -/

@[simp] theorem apart_modBank (n : Nat) (f : Bank → Bank) : (d.modBank n f).apart = d.apart := by rfl
@[simp] theorem apart_modStack (s : Nat) (f : Stack → Stack) : (d.modStack s f).apart = d.apart := by rfl
@[simp] theorem apart_spendUnits (s n : Nat) : (d.spendUnits s n).apart = d.apart := by simp [Dev.spendUnits]
@[simp] theorem apart_noteCode (bank : Nat) (write : Bool) : (d.noteCode bank write).apart = d.apart := by simp [Dev.noteCode]

@[simp] theorem apart_touchRow (bank a len : Nat) (write : Bool) : (d.touchRow bank a len write).apart = d.apart := by
  unfold Dev.touchRow
  dsimp only
  repeat' split
  all_goals simp

@[simp] theorem apart_touchBank (bank a len : Nat) (write : Bool) : (d.touchBank bank a len write).apart = d.apart := by simp [Dev.touchBank]

@[simp] theorem apart_touchT1 (a len : Nat) (write : Bool) : (d.touchT1 a len write).apart = d.apart := by
  refine apart_foldl (fun e p => ?_) _ d
  split <;> simp

@[simp] theorem apart_hear (c : Ctx) (owner : Option (Nat × Nat)) : (d.hear c owner).apart = d.apart := by rfl

@[simp] theorem apart_spendCache (realm a len : Nat) : (d.spendCache realm a len).apart = d.apart := by
  refine apart_foldl (fun e p => ?_) _ d
  split <;> simp

@[simp] theorem apart_correctCache (realm a n : Nat) : (d.correctCache realm a n).apart = d.apart := by
  unfold Dev.correctCache
  split <;> simp

@[simp] theorem apart_t2Read (realm a len : Nat) : (d.t2Read realm a len).2.apart = d.apart := by simp [Dev.t2Read]
@[simp] theorem apart_t2Write (c : Ctx) (realm a : Nat) (bs : List Byte) : (d.t2Write c realm a bs).apart = d.apart := by simp [Dev.t2Write]

@[simp] theorem apart_t1Store (a : Nat) (l : List Byte) : (d.t1Store a l).apart = d.apart := by
  rw [t1Store_eq]
  rfl

@[simp] theorem apart_t1Write (a : Nat) (bs : List Byte) : (d.t1Write a bs).apart = d.apart := by simp [Dev.t1Write]

@[simp] theorem apart_rawRead (realm a len : Nat) : (d.rawRead realm a len).2.apart = d.apart := by
  unfold Dev.rawRead
  dsimp only
  repeat' split
  all_goals simp

@[simp] theorem apart_rawWrite (c : Ctx) (realm a : Nat) (bs : List Byte) : (d.rawWrite c realm a bs).apart = d.apart := by simp [Dev.rawWrite]
@[simp] theorem apart_noteRefusal (st a kind : Nat) : (d.noteRefusal st a kind).apart = d.apart := by simp [Dev.noteRefusal]

@[simp] theorem apart_heldUp (realm a len : Nat) : (d.heldUp realm a len).2.apart = d.apart := by
  unfold Dev.heldUp
  dsimp only
  repeat' split
  all_goals simp

@[simp] theorem apart_noteFill (st realm a len : Nat) : (d.noteFill st realm a len).apart = d.apart := by simp [Dev.noteFill]
@[simp] theorem apart_checkRead (realm a len : Nat) : (d.checkRead realm a len).2.apart = d.apart := by simp [Dev.checkRead]

@[simp] theorem apart_readAt (realm a len : Nat) : (d.readAt realm a len).2.2.apart = d.apart := by
  unfold Dev.readAt
  dsimp only
  split <;> simp

@[simp] theorem apart_checkWrite (realm a len : Nat) : (d.checkWrite realm a len).2.apart = d.apart := by simp [Dev.checkWrite]

@[simp] theorem apart_writeAt (c : Ctx) (realm a : Nat) (bs : List Byte) : (d.writeAt c realm a bs).2.apart = d.apart := by
  unfold Dev.writeAt
  dsimp only
  split <;> simp

/-! ### Runs and pools of keys and values -/

@[simp] theorem apart_modRun (capsule : Nat) (f : PlanRun → PlanRun) : (d.modRun capsule f).apart = d.apart := by rfl
@[simp] theorem apart_modPlan (h : Nat) (f : Plan → Plan) : (d.modPlan h f).apart = d.apart := by rfl
@[simp] theorem apart_modCapsule (order : Nat) (f : Capsule → Capsule) : (d.modCapsule order f).apart = d.apart := by rfl
@[simp] theorem apart_t1Put (a n v : Nat) : (d.t1Put a n v).apart = d.apart := by simp [Dev.t1Put]
@[simp] theorem apart_putSeqHead (k q v : Nat) : (d.putSeqHead k q v).apart = d.apart := by simp [Dev.putSeqHead]
@[simp] theorem apart_putSeqPage (k q i p : Nat) : (d.putSeqPage k q i p).apart = d.apart := by simp [Dev.putSeqPage]
@[simp] theorem apart_putPage (k g v : Nat) : (d.putPage k g v).apart = d.apart := by simp [Dev.putPage]
@[simp] theorem apart_fillPage (k p n : Nat) : (d.fillPage k p n).apart = d.apart := by simp [Dev.fillPage]

@[simp] theorem apart_publish (k : Claim) : (d.publish k).apart = d.apart := by
  unfold Dev.publish
  refine (apart_putSeqHead ..).trans (apart_foldl (fun e p => ?_) _ d)
  split
  · rfl
  · exact apart_fillPage ..

@[simp] theorem apart_unclaim (c : Claim) : (d.unclaim c).apart = d.apart := by simp [Dev.unclaim]
@[simp] theorem apart_endClaims (capsule : Nat) (ok : Bool) : (d.endClaims capsule ok).apart = d.apart := by simp [Dev.endClaims]

/-! ### Flash -/

@[simp] theorem apart_onfi (lun : Nat) (l : List Onfi) : (d.onfi lun l).apart = d.apart := by simp [Dev.onfi]
@[simp] theorem apart_beginRead (o : FlashOp) : (d.beginRead o).apart = d.apart := by rfl
@[simp] theorem apart_suspend (p : FlashOp) (c0 : Bool) : (d.suspend p c0).apart = d.apart := by simp [Dev.suspend]

@[simp] theorem apart_serveLun (lun : Nat) : (d.serveLun lun).apart = d.apart := by
  unfold Dev.serveLun
  dsimp only
  repeat' split
  all_goals simp

@[simp] theorem apart_lunGoesOn (lun : Nat) : (d.lunGoesOn lun).apart = d.apart := by simp [Dev.lunGoesOn]

/-! ### Egress, members and shadows -/

@[simp] theorem apart_enqueue (point realm cls size : Nat) : (d.enqueue point realm cls size).apart = d.apart := by rfl
@[simp] theorem apart_hostWrite (port function a : Nat) (bs : List Byte) : (d.hostWrite port function a bs).apart = d.apart := by rfl

@[simp] theorem apart_postHost (port function realm cls a : Nat) (bs : List Byte) :
    (d.postHost port function realm cls a bs).apart = d.apart := by rfl

@[simp] theorem apart_toRank (cap : Member) (type rank : Nat) (fields : List Nat) : (d.toRank cap type rank fields).apart = d.apart := by
  simp [Dev.toRank]

@[simp] theorem apart_endWindow : d.endWindow.apart = d.apart := by simp [Dev.endWindow]
@[simp] theorem apart_judgeMirror (order : Nat) (agrees : Bool) : (d.judgeMirror order agrees).apart = d.apart := by simp [Dev.judgeMirror]
@[simp] theorem apart_modAwaited (order : Nat) (f : AwaitedMirror → AwaitedMirror) : (d.modAwaited order f).apart = d.apart := by rfl

@[simp] theorem apart_settleMirror (order : Nat) : (d.settleMirror order).apart = d.apart := by
  unfold Dev.settleMirror
  split <;> simp

/-! ### Host ports and completions -/

@[simp] theorem apart_modPort (p : Nat) (f : HostPort → HostPort) : (d.modPort p f).apart = d.apart := by rfl
@[simp] theorem apart_modFn (p n : Nat) (f : Function → Function) : (d.modFn p n f).apart = d.apart := by rfl
@[simp] theorem apart_interrupt (p n v : Nat) : (d.interrupt p n v).apart = d.apart := by rfl
@[simp] theorem apart_errorVector (p n : Nat) : (d.errorVector p n).apart = d.apart := by rfl
@[simp] theorem apart_checkQuiesced (p n : Nat) : (d.checkQuiesced p n).apart = d.apart := by simp [Dev.checkQuiesced]

@[simp] theorem apart_ringWrite (c : Ctx) (p n q record : Nat) (c0 : Bool) : (d.ringWrite c p n q record c0).apart = d.apart := by
  simp [Dev.ringWrite]

@[simp] theorem apart_hostRecord (c : Ctx) (p n a disables record : Nat) (c0 : Bool) :
    (d.hostRecord c p n a disables record c0).apart = d.apart := by simp [Dev.hostRecord]

@[simp] theorem apart_deliver (c : Ctx) (cap : Capsule) (record : Nat) (lists : List Candidates) :
    (d.deliver c cap record lists).apart = d.apart := by
  unfold Dev.deliver
  split <;> simp

/-! ### Tiles and panels -/

@[simp] theorem apart_modTile (n : Nat) (f : Tile → Tile) : (d.modTile n f).apart = d.apart := by rfl
@[simp] theorem apart_fillSlot (tile slot : Nat) (s : Slot) : (d.fillSlot tile slot s).apart = d.apart := by rfl
@[simp] theorem apart_slotState (order desc : Nat) (st : SlotState) : (d.slotState order desc st).apart = d.apart := by rfl

@[simp] theorem apart_place (order desc tile part : Nat) : (d.place order desc tile part).apart = d.apart := by
  unfold Dev.place
  dsimp only
  repeat' split
  all_goals simp

@[simp] theorem apart_placeHeld : d.placeHeld.apart = d.apart := by simp [Dev.placeHeld]
@[simp] theorem apart_startMove (tile : Nat) (m : PanelMove) : (d.startMove tile m).apart = d.apart := by rfl
@[simp] theorem apart_endMoves (which : Nat → PanelMove → Bool) : (d.endMoves which).apart = d.apart := by simp [Dev.endMoves]
@[simp] theorem apart_pullMoves : d.pullMoves.apart = d.apart := by simp [Dev.pullMoves]

@[simp] theorem apart_wantLayer (order g b : Nat) : (d.wantLayer order g b).apart = d.apart := by
  unfold Dev.wantLayer
  dsimp only
  repeat' split
  all_goals simp

@[simp] theorem apart_wantLayers (plan : Nat) : (d.wantLayers plan).apart = d.apart := by
  unfold Dev.wantLayers
  split
  · rfl
  · exact apart_foldl (fun e k => apart_foldl (fun e g => apart_foldl (fun e b => apart_wantLayer e k g b) _ e) _ e) _ d

/-! ### Triggers -/

@[simp] theorem apart_modTrigger (k : Nat) (f : Trigger → Trigger) : (d.modTrigger k f).apart = d.apart := by rfl

@[simp] theorem apart_holdSlots (keys : List Nat) : (d.holdSlots keys).apart = d.apart := by
  refine apart_foldl (fun e key => ?_) keys d
  split <;> simp

@[simp] theorem apart_releaseTrigger (k : Nat) : (d.releaseTrigger k).apart = d.apart := by
  unfold Dev.releaseTrigger
  split <;> simp

@[simp] theorem apart_leaveBank (k bank : Nat) : (d.leaveBank k bank).apart = d.apart := by simp [Dev.leaveBank]
@[simp] theorem apart_addCounts (order plan desc : Nat) (k : Counts) : (d.addCounts order plan desc k).apart = d.apart := by rfl

@[simp] theorem apart_countRun (r : BankRun) : (d.countRun r).apart = d.apart := by
  unfold Dev.countRun
  split <;> simp

@[simp] theorem apart_cancelTriggers (order : Nat) : (d.cancelTriggers order).apart = d.apart := by simp [Dev.cancelTriggers]

/-! ### Capsules that end -/

@[simp] theorem apart_putCollective (k : Collective) : (d.putCollective k).apart = d.apart := by rfl

@[simp] theorem apart_endCollectives (cap : Capsule) (status : Nat) : (d.endCollectives cap status).apart = d.apart := by
  unfold Dev.endCollectives
  split <;> simp

@[simp] theorem apart_dropCollectives (cap : Capsule) : (d.dropCollectives cap).apart = d.apart := by
  unfold Dev.dropCollectives
  split <;> simp

@[simp] theorem apart_dropWork (order : Nat) : (d.dropWork order).apart = d.apart := by simp [Dev.dropWork]

@[simp] theorem apart_spoilMoves (c : Ctx) (order : Nat) : (d.spoilMoves c order).apart = d.apart := by
  refine apart_foldl (fun e m => ?_) _ d
  split
  · rfl
  split
  · rfl
  · simp

@[simp] theorem apart_cancelSlots (order : Nat) : (d.cancelSlots order).apart = d.apart := by simp [Dev.cancelSlots]
@[simp] theorem apart_countCompletion (plan status : Nat) : (d.countCompletion plan status).apart = d.apart := by rfl
@[simp] theorem apart_finishRun (c : Ctx) (cap : Capsule) (run : PlanRun) : (d.finishRun c cap run).apart = d.apart := by simp [Dev.finishRun]

@[simp] theorem apart_tryFinish (c : Ctx) (order : Nat) : (d.tryFinish c order).apart = d.apart := by
  unfold Dev.tryFinish
  split <;> simp

@[simp] theorem apart_violateOp (c : Ctx) (r : PlanRun) (desc : Nat) : (d.violateOp c r desc).apart = d.apart := by
  unfold Dev.violateOp
  split <;> simp

@[simp] theorem apart_stopRun (c : Ctx) (order status desc : Nat) : (d.stopRun c order status desc).apart = d.apart := by
  unfold Dev.stopRun
  split <;> simp

@[simp] theorem apart_endRun (c : Ctx) (order status desc : Nat) : (d.endRun c order status desc).apart = d.apart := by
  unfold Dev.endRun
  split <;> simp

@[simp] theorem apart_finishPlain (c : Ctx) (order status reason result : Nat) :
    (d.finishPlain c order status reason result).apart = d.apart := by
  unfold Dev.finishPlain
  split <;> simp

@[simp] theorem apart_endPlain (c : Ctx) (order status reason result : Nat) : (d.endPlain c order status reason result).apart = d.apart := by
  unfold Dev.endPlain
  split <;> simp

/-- What an effect leaves, it leaves under a capsule's configuration. -/
theorem apart_under {f : Dev → Dev} (hf : ∀ e, (f e).apart = e.apart) (order : Nat) : (d.under order f).apart = d.apart := by
  unfold Dev.under
  split
  · exact hf d
  · exact hf (d.setDict _)

/-! ### Outputs of operations -/

@[simp] theorem apart_putOutput (c : Ctx) (o : OpCtx) (t : Nat) (v : Tensor) : (d.putOutput c o t v).2.apart = d.apart := by
  unfold Dev.putOutput
  dsimp only
  split <;> simp

@[simp] theorem apart_putOutputs (c : Ctx) (o : OpCtx) (l : List (Nat × Tensor)) : (d.putOutputs c o l).2.apart = d.apart := by
  induction l generalizing d with
  | nil => rfl
  | cons e l ih =>
    unfold Dev.putOutputs
    dsimp only
    split
    · exact (ih _).trans (apart_putOutput ..)
    · exact apart_putOutput ..

@[simp] theorem apart_finishOp (c : Ctx) (o : OpCtx) (writes : List (Nat × Tensor)) (k : Counts) : (d.finishOp c o writes k).apart = d.apart := by
  simp [Dev.finishOp]

@[simp] theorem apart_applyOp (c : Ctx) (o : OpCtx) (l : OpResult) : (d.applyOp c o l).apart = d.apart := by
  unfold Dev.applyOp
  split <;> simp

theorem apart_lateFinish {f : Dev → OpCtx → OpResult × Dev} (hf : ∀ e o, (f e o).2.apart = e.apart) (c : Ctx) (order desc : Nat) :
    (d.lateFinish c order desc f).apart = d.apart := by
  unfold Dev.lateFinish
  split
  · rw [apart_hear]
    refine apart_under d (fun e => ?_) order
    dsimp only
    split
    · exact hf ..
    · exact (apart_applyOp ..).trans (hf ..)
  · rfl

/-! ### Tables -/

@[simp] theorem apart_modTable (t : Nat) (f : TableState → TableState) : (d.modTable t f).apart = d.apart := by rfl
@[simp] theorem apart_putFwd (w i v : Nat) : (d.putFwd w i v).apart = d.apart := by simp [Dev.putFwd]

@[simp] theorem apart_readRecord (realm a rs ss : Nat) : (d.readRecord realm a rs ss).2.2.apart = d.apart := by
  unfold Dev.readRecord
  dsimp only
  repeat' split
  all_goals simp

@[simp] theorem apart_replaceRecord (c : Ctx) (realm a ss : Nat) (row : Option (List Byte)) :
    (d.replaceRecord c realm a ss row).2.apart = d.apart := by
  unfold Dev.replaceRecord
  dsimp only
  repeat' split
  all_goals simp

@[simp] theorem apart_markRow (w r : Nat) : (d.markRow w r).apart = d.apart := by
  unfold Dev.markRow
  split <;> simp

@[simp] theorem apart_modCopy (t r : Nat) (f : RowCopy → RowCopy) : (d.modCopy t r f).apart = d.apart := by rfl
@[simp] theorem apart_keepLocal (t r i e : Nat) : (d.keepLocal t r i e).apart = d.apart := by simp [Dev.keepLocal]

@[simp] theorem apart_endCopy (c : Ctx) (t r : Nat) : (d.endCopy c t r).apart = d.apart := by
  unfold Dev.endCopy
  dsimp only
  split <;> simp

@[simp] theorem apart_settleCopy (c : Ctx) (t r : Nat) : (d.settleCopy c t r).apart = d.apart := by simp [Dev.settleCopy]

@[simp] theorem apart_replaceRow (c : Ctx) (t r : Nat) (row : Option (List Byte)) : (d.replaceRow c t r row).2.apart = d.apart := by
  unfold Dev.replaceRow
  dsimp only
  repeat' split
  all_goals simp

/-! ### Indexes and walks -/

@[simp] theorem apart_putBank (bank a n v : Nat) : (d.putBank bank a n v).apart = d.apart := by simp [Dev.putBank]
@[simp] theorem apart_modIndex (x : Nat) (f : IndexState → IndexState) : (d.modIndex x f).apart = d.apart := by rfl
@[simp] theorem apart_putCell (w c v : Nat) : (d.putCell w c v).apart = d.apart := by simp [Dev.putCell]
@[simp] theorem apart_putSeg (bank j v : Nat) : (d.putSeg bank j v).apart = d.apart := by simp [Dev.putSeg]
@[simp] theorem apart_putLocator (w id s v : Nat) : (d.putLocator w id s v).apart = d.apart := by simp [Dev.putLocator]

/-- A walk that charges for its cells. -/
theorem apart_walkRun {charge : Nat → Dev → Bool × Dev} (hcharge : ∀ n e, (charge n e).2.apart = e.apart) (lower : Bool) (cap : Nat)
    (score : Nat → Nat) (nb : Nat → List Nat) (fuel : Nat) (s : Walk) : (Walk.run lower cap score nb charge fuel s d).2.apart = d.apart := by
  induction fuel generalizing s d with
  | zero => rfl
  | succ fuel ih =>
    unfold Walk.run
    split
    · rfl
    · dsimp only
      split
      next h => exact (congrArg (fun r => r.2.apart) h).symm.trans (hcharge ..)
      next h => exact (ih ..).trans ((congrArg (fun r => r.2.apart) h).symm.trans (hcharge ..))

theorem apart_walkCells {charge : Nat → Dev → Bool × Dev} (hcharge : ∀ n e, (charge n e).2.apart = e.apart) (w cap : Nat) (score : Nat → Nat) :
    (d.walkCells w cap score charge).2.apart = d.apart := by
  unfold Dev.walkCells
  dsimp only
  split
  next h => exact (congrArg (fun r => r.2.apart) h).symm.trans (hcharge ..)
  next h => exact (apart_walkRun _ hcharge ..).trans ((congrArg (fun r => r.2.apart) h).symm.trans (hcharge ..))

/-! ### Scans -/

@[simp] theorem apart_modScan (capsule desc : Nat) (f : ScanRun → ScanRun) : (d.modScan capsule desc f).apart = d.apart := by rfl

@[simp] theorem apart_scanEnd (c : Ctx) (s : ScanRun) : (d.scanEnd c s).apart = d.apart := by
  unfold Dev.scanEnd
  dsimp only
  rw [apart_lateFinish]
  · rfl
  · intro e o
    split <;> rfl

@[simp] theorem apart_scanAdvance (c : Ctx) (capsule desc : Nat) : (d.scanAdvance c capsule desc).apart = d.apart := by
  refine apart_under d (fun e => ?_) capsule
  split
  · rfl
  · simp

/-! ### Buffers -/

@[simp] theorem apart_logAdvisory (p n : Nat) : (d.logAdvisory p n).apart = d.apart := by rfl

@[simp] theorem apart_bufRead (cap : Capsule) (loc addr len : Nat) : (d.bufRead cap loc addr len).2.2.apart = d.apart := by
  unfold Dev.bufRead
  split
  · exact apart_readAt ..
  · split
    · split
      · exact apart_logAdvisory ..
      · rfl
    · rfl

@[simp] theorem apart_bufWrite (c : Ctx) (cap : Capsule) (loc addr : Nat) (bs : List Byte) : (d.bufWrite c cap loc addr bs).2.apart = d.apart := by
  unfold Dev.bufWrite
  split
  · exact apart_writeAt ..
  · split
    · exact apart_postHost ..
    · exact apart_modCapsule ..

/-! ### Inserts and deletes -/

theorem apart_rowsFor {d e : Dev} {x w bank r : Nat} (h : d.rowsFor x w bank = some (r, e)) : e.apart = d.apart := by
  unfold Dev.rowsFor at h
  split at h
  · cases h
    rfl
  · dsimp only at h
    split at h
    · cases h
      exact apart_putBank ..
    · cases h

theorem apart_takeArray {d e : Dev} {x w a : Nat} (h : d.takeArray x w = some (a, e)) : e.apart = d.apart := by
  unfold Dev.takeArray at h
  dsimp only at h
  split at h
  · cases h
    rfl
  · split at h
    · cases h
      rfl
    · cases h

@[simp] theorem apart_takeSlot (x w c bank : Nat) (primary : Bool) : (d.takeSlot x w c bank primary).2.apart = d.apart := by
  unfold Dev.takeSlot
  dsimp only
  repeat' split
  all_goals simp

@[simp] theorem apart_takeStorage (x w c bank : Nat) (primary : Bool) : (d.takeStorage x w c bank primary).2.apart = d.apart := by
  have hslot := apart_takeSlot d x w c bank primary
  unfold Dev.takeStorage
  split
  · rfl
  next h =>
    rw [h] at hslot
    split
    · rfl
    next hrows =>
      split
      · rfl
      next harray => exact (apart_takeArray harray).trans ((apart_rowsFor hrows).trans hslot)

@[simp] theorem apart_countSegment (w c bank : Nat) (up : Bool) : (d.countSegment w c bank up).apart = d.apart := by simp [Dev.countSegment]

@[simp] theorem apart_openSegment (x w c bank : Nat) : (d.openSegment x w c bank).2.apart = d.apart := by
  have hstorage := apart_takeStorage d x w c bank true
  unfold Dev.openSegment
  split
  next h =>
    rw [h] at hstorage
    exact hstorage
  next h =>
    rw [h] at hstorage
    dsimp only
    rw [apart_countSegment]
    split <;> simpa using hstorage

@[simp] theorem apart_roomIn (x w c bank : Nat) : (d.roomIn x w c bank).2.apart = d.apart := by
  unfold Dev.roomIn
  split
  · split
    · rfl
    · exact apart_openSegment ..
  · exact apart_openSegment ..

@[simp] theorem apart_memberFor (x w c : Nat) (l : List Nat) : (d.memberFor x w c l).2.apart = d.apart := by
  induction l with
  | nil => rfl
  | cons m l ih =>
    unfold Dev.memberFor
    dsimp only
    split
    next h => exact (congrArg (fun r => r.2.apart) h).symm.trans (apart_roomIn ..)
    · exact ih

@[simp] theorem apart_setTombstone (w : Nat) (p : Nat × Nat × Nat) : (d.setTombstone w p).apart = d.apart := by
  simp [Dev.setTombstone]

@[simp] theorem apart_chooseCell (w : Nat) (q : List Nat) : (d.chooseCell w q).2.apart = d.apart := by
  unfold Dev.chooseCell
  dsimp only
  split
  next h => exact (congrArg (fun r => r.2.apart) h).symm.trans (apart_walkCells _ (fun _ _ => rfl) ..)
  next h => exact (congrArg (fun r => r.2.apart) h).symm.trans (apart_walkCells _ (fun _ _ => rfl) ..)

@[simp] theorem apart_writeEntry (x w c bank j r handle : Nat) (xs : List Num) (radius : Nat) :
    (d.writeEntry x w c bank j r handle xs radius).apart = d.apart := by simp [Dev.writeEntry]

@[simp] theorem apart_insertRecord (c : Ctx) (cap : Capsule) (x w r : Nat) : (d.insertRecord c cap x w r).2.apart = d.apart := by
  have hread := apart_bufRead d cap (urLoc r) (urData r) (ixOB w)
  have hmember : ∀ {e f : Dev} {cell : Nat} {l : List Nat} {m : Option (Nat × Nat)}, e.memberFor x w cell l = (m, f) → e.apart = d.apart →
      f.apart = d.apart := fun h he => (congrArg (fun p => p.2.apart) h).symm.trans ((apart_memberFor ..).trans he)
  unfold Dev.insertRecord
  dsimp only
  split
  · rfl
  split
  · exact hread
  split
  · split <;> simp
  -- the cell is one chosen, or the record's own
  split
  all_goals
    split
    · simp
    split
    next h => exact hmember h (by simp)
    next h => simpa using hmember h (by simp)

@[simp] theorem apart_deleteRecord (c : Ctx) (x w r : Nat) : (d.deleteRecord c x w r).2.apart = d.apart := by
  unfold Dev.deleteRecord
  dsimp only
  split
  · rfl
  split
  · rfl
  · simp

@[simp] theorem apart_rowDeleteRecord (c : Ctx) (realm r : Nat) : (d.rowDeleteRecord c realm r).2.apart = d.apart := by
  unfold Dev.rowDeleteRecord
  split
  · rfl
  split
  · rfl
  split
  · rfl
  · exact apart_replaceRow ..

@[simp] theorem apart_applyRecord (c : Ctx) (cap : Capsule) (r : Nat) : (d.applyRecord c cap r).2.apart = d.apart := by
  unfold Dev.applyRecord
  dsimp only
  repeat' split
  all_goals simp

/-! ### Update jobs -/

@[simp] theorem apart_putStatus (c : Ctx) (order i st : Nat) : (d.putStatus c order i st).apart = d.apart := by
  unfold Dev.putStatus
  split <;> simp

@[simp] theorem apart_noteApplied (c : Ctx) (order i st : Nat) : (d.noteApplied c order i st).apart = d.apart := by rfl

@[simp] theorem apart_settleRecords (c : Ctx) (order : Nat) : (d.settleRecords c order).apart = d.apart := by
  unfold Dev.settleRecords
  split <;> simp

@[simp] theorem apart_runRecords (c : Ctx) (order : Nat) (l held : List (Nat × Nat)) : (d.runRecords c order l held).apart = d.apart := by
  induction l generalizing d held with
  | nil => rfl
  | cons r l ih =>
    unfold Dev.runRecords
    split
    · exact ih ..
    split
    · rfl
    next cap _ =>
      have happlied := apart_applyRecord (d.setFillWait false) c cap r.2
      split
      next h =>
        rw [h] at happlied
        split
        · exact ih ..
        · exact (ih ..).trans ((apart_noteApplied ..).trans happlied)
      next h =>
        rw [h] at happlied
        exact (ih ..).trans happlied

@[simp] theorem apart_finishJob (c : Ctx) (order : Nat) : (d.finishJob c order).apart = d.apart := by
  unfold Dev.finishJob
  split <;> simp

@[simp] theorem apart_runJob (c : Ctx) (order : Nat) : (d.runJob c order).apart = d.apart := by
  unfold Dev.runJob
  split <;> simp

@[simp] theorem apart_runJobs (c : Ctx) : (d.runJobs c).apart = d.apart := by simp [Dev.runJobs]

/-! ### Sequences of banks -/

@[simp] theorem apart_serveAccess (bank : Nat) (a : OrdAccess) : (d.serveAccess bank a).apart = d.apart := by
  unfold Dev.serveAccess
  split <;> simp

@[simp] theorem apart_restamp (c : Ctx) (bank : Nat) : (d.restamp c bank).apart = d.apart := by simp [Dev.restamp]
@[simp] theorem apart_serveBank (c : Ctx) (bank : Nat) : (d.serveBank c bank).apart = d.apart := by simp [Dev.serveBank]
@[simp] theorem apart_modBankRun (bank : Nat) (f : BankRun → BankRun) : (d.modBankRun bank f).apart = d.apart := by rfl

@[simp] theorem apart_closeStep (c : Ctx) (bank : Nat) : (d.closeStep c bank).apart = d.apart := by
  unfold Dev.closeStep
  split <;> simp

@[simp] theorem apart_pushRecord (bank : Nat) (r : ResultRecord) : (d.pushRecord bank r).apart = d.apart := by rfl

@[simp] theorem apart_tryBar (trigger bank : Nat) : (d.tryBar trigger bank).apart = d.apart := by
  unfold Dev.tryBar
  split <;> simp

@[simp] theorem apart_triggerOver (c : Ctx) (t : Trigger) : (d.triggerOver c t).apart = d.apart := by simp [Dev.triggerOver]

@[simp] theorem apart_vacate (c : Ctx) (bank : Nat) : (d.vacate c bank).apart = d.apart := by
  unfold Dev.vacate
  dsimp only
  split <;> simp

@[simp] theorem apart_endSequence (c : Ctx) (bank : Nat) : (d.endSequence c bank).apart = d.apart := by
  unfold Dev.endSequence
  dsimp only
  repeat' split
  all_goals simp

@[simp] theorem apart_violateBank (c : Ctx) (t : Trigger) (bank addr : Nat) : (d.violateBank c t bank addr).apart = d.apart := by
  simp [Dev.violateBank]

@[simp] theorem apart_endFailed (c : Ctx) (bank : Nat) (t : Trigger) : (d.endFailed c bank t).apart = d.apart := by simp [Dev.endFailed]

@[simp] theorem apart_faultSequence (c : Ctx) (bank addr : Nat) (cause : FaultCause) : (d.faultSequence c bank addr cause).apart = d.apart := by
  unfold Dev.faultSequence
  dsimp only
  repeat' split
  all_goals simp

@[simp] theorem apart_column (c : Ctx) (bank a ecc : Nat) : (d.column c bank a ecc).2.apart = d.apart := by
  unfold Dev.column
  dsimp only
  repeat' split
  all_goals simp

@[simp] theorem apart_afterColumns (c : Ctx) (bank : Nat) : (d.afterColumns c bank).apart = d.apart := by
  unfold Dev.afterColumns
  split <;> simp

@[simp] theorem apart_fillStream (c : Ctx) (bank : Nat) (found : Nat → Nat) (fuel : Nat) : (d.fillStream c bank found fuel).apart = d.apart := by
  induction fuel generalizing d with
  | zero => rfl
  | succ fuel ih =>
    unfold Dev.fillStream
    split
    · rfl
    split
    · rfl
    split
    next h => exact (congrArg (fun r => r.2.apart) h).symm.trans (apart_column ..)
    next h =>
      refine (ih _).trans ((apart_modBankRun ..).trans ?_)
      exact (congrArg (fun r => r.2.apart) h).symm.trans (apart_column ..)

@[simp] theorem apart_streamOn (c : Ctx) (bank : Nat) (first : Option Nat) : (d.streamOn c bank first).apart = d.apart := by
  unfold Dev.streamOn
  split
  · rfl
  · split
    · rfl
    · exact (apart_afterColumns ..).trans ((apart_fillStream ..).trans rfl)

/-! ### Steps -/

@[simp] theorem apart_startOn (c : Ctx) (t : Trigger) (bank : Nat) : (d.startOn c t bank).apart = d.apart := by rfl

@[simp] theorem apart_startNext (c : Ctx) (bank : Nat) : (d.startNext c bank).apart = d.apart := by
  unfold Dev.startNext
  split <;> simp

@[simp] theorem apart_stepStream (c : Ctx) (bank : Nat) : (d.stepStream c bank).apart = d.apart := by simp [Dev.stepStream]

@[simp] theorem apart_takeStep (c : Ctx) (bank : Nat) : (d.takeStep c bank).apart = d.apart := by
  unfold Dev.takeStep
  dsimp only
  split <;> simp

@[simp] theorem apart_payStep (c : Ctx) (bank : Nat) : (d.payStep c bank).apart = d.apart := by simp [Dev.payStep]

@[simp] theorem apart_stopSequence (c : Ctx) (bank : Nat) : (d.stopSequence c bank).apart = d.apart := by
  unfold Dev.stopSequence
  split
  · rfl
  · split
    · exact apart_endFailed ..
    · exact apart_endSequence ..

@[simp] theorem apart_grantWaiting (c : Ctx) (stack : Nat) (which : Nat → Bool) : (d.grantWaiting c stack which).apart = d.apart := by
  simp [Dev.grantWaiting]

/-! ### Functions and links that are lost -/

@[simp] theorem apart_abortCapsule (c : Ctx) (cap : Capsule) : (d.abortCapsule c cap).apart = d.apart := by
  unfold Dev.abortCapsule
  dsimp only
  split <;> simp

@[simp] theorem apart_dropSession (path number : Nat) : (d.dropSession path number).apart = d.apart := rfl

@[simp] theorem apart_resetFunction (c : Ctx) (p n : Nat) (enabled : Bool) : (d.resetFunction c p n enabled).apart = d.apart := by
  simp [Dev.resetFunction]

@[simp] theorem apart_disableVfs (c : Ctx) (p : Nat) : (d.disableVfs c p).apart = d.apart :=
  apart_foldl (fun e n => apart_resetFunction e c p n false) vfs d

@[simp] theorem apart_linkDown (c : Ctx) (p : Nat) : (d.linkDown c p).apart = d.apart := by
  simp [Dev.linkDown]

@[simp] theorem apart_dropPosted (p : Nat) : (d.dropPosted p).apart = d.apart := rfl

@[simp] theorem apart_loseLink (c : Ctx) (p : Nat) : (d.loseLink c p).apart = d.apart := by
  simp [Dev.loseLink]

theorem boot_loseLinks (c : Ctx) : (d.loseLinks c).boot = d.boot :=
  congrArg Prod.fst ((apart_loseLink ..).trans (apart_loseLink ..))
end

end Sys2Proof.Machine
end

section
/-! Starts that fail, the watchdog, and the generator (R648, R666, R672). -/

namespace Sys2Proof.Machine

/-! ### What a start begins with (R672) -/

/-- What a start begins with: its cause, its instant, the failure before it, and what of the start before it could outlive the reset. -/
def Dev.startOf (d : Dev) : Nat × Nat × Nat × List Host.Cell × List Capsule × List Session :=
  (d.boot.cause, d.boot.began, d.boot.lastFailed, d.mem, d.capsules.live, d.dict.sessions)

section
variable (d : Dev)

@[simp] theorem startOf_event (c : Ctx) (code severity realm w0 w1 w2 : Nat) : (d.event c code severity realm w0 w1 w2).startOf = d.startOf :=
  event_leaves (part := Dev.startOf) (fun _ _ _ _ _ _ => rfl) ..

@[simp] theorem startOf_writeBoot (f : BootRecord → BootRecord) : (d.writeBoot f).startOf = d.startOf := rfl

@[simp] theorem startOf_modImage (n : Nat) (f : FwImage → FwImage) : (d.modImage n f).startOf = d.startOf := rfl

@[simp] theorem startOf_setRunning (im : FwImage) : (d.setBoot { d.boot with running := im }).startOf = d.startOf := rfl

@[simp] theorem startOf_setNode (n : Nat) : (d.setBoot { d.boot with node := n }).startOf = d.startOf := rfl

@[simp] theorem startOf_stepEnds (c : Ctx) (n : Nat) : (d.stepEnds c n).startOf = d.startOf := rfl

theorem startOf_trialStart (c : Ctx) : (d.trialStart c).startOf = d.startOf := by
  unfold Dev.trialStart
  dsimp only
  split
  · rfl
  · split <;> simp

theorem startOf_chooseImage (c : Ctx) : (d.chooseImage c).2.startOf = d.startOf := by
  unfold Dev.chooseImage
  dsimp only
  split
  · rfl
  split
  · simp
  split
  · simp
  · split <;> simp

@[simp] theorem startOf_enterMinimal (c : Ctx) (cause : Nat) : (d.enterMinimal c cause).startOf = d.startOf := startOf_event ..

theorem startOf_bootCheck (c : Ctx) (none? : Option Nat) : (d.bootCheck c none?).startOf = d.startOf := by
  have hcounted : ∀ (b : Bool) (f : BootRecord → BootRecord), (if b = true then d else d.writeBoot f).startOf = d.startOf :=
    fun b f => (apply_ite Dev.startOf ..).trans (by rw [startOf_writeBoot, ite_self])
  unfold Dev.bootCheck
  dsimp only
  split
  · rw [startOf_enterMinimal]
    exact hcounted _ _
  · rw [startOf_stepEnds, startOf_stepEnds, startOf_setNode]
    exact hcounted _ _

theorem startOf_trainPort (p : Nat) : (d.trainPort p).startOf = d.startOf := by
  unfold Dev.trainPort
  split <;> rfl

theorem boot_trainPort (p : Nat) : (d.trainPort p).boot = d.boot := by
  unfold Dev.trainPort
  split <;> rfl

/-- The boot record read at step 1 leads to step 3, to MINIMAL mode or to ROM recovery. -/
theorem node_bootCheck (c : Ctx) (none? : Option Nat) :
    (d.bootCheck c none?).boot.node = 3 ∨ (d.bootCheck c none?).boot.node = 0x80 ∨ (d.bootCheck c none?).boot.node = 0x81 := by
  unfold Dev.bootCheck
  dsimp only
  split
  · simp only [Dev.enterMinimal, boot_event, Dev.setBoot_boot]
    split
    · exact .inr (.inr rfl)
    · exact .inr (.inl rfl)
  · exact .inl rfl

/-- A start outside SCRAPPED begins afresh, and comes to step 3, to MINIMAL mode or to ROM recovery. -/
theorem beginStart_afresh {c : Ctx} (halive : c.fuses.lifeCycle ≠ 5) (cause : Nat) :
    (d.beginStart c cause).startOf = (cause, c.now, d.boot.lastFailed, [], [], []) ∧
      ((d.beginStart c cause).boot.node = 3 ∨ (d.beginStart c cause).boot.node = 0x80 ∨ (d.beginStart c cause).boot.node = 0x81) := by
  unfold Dev.beginStart
  simp only [if_neg halive]
  refine ⟨?_, ?_⟩
  · rw [startOf_trainPort, startOf_trainPort, startOf_bootCheck, startOf_chooseImage, startOf_trialStart, startOf_event]
    rfl
  · rw [boot_trainPort, boot_trainPort]
    exact node_bootCheck ..

theorem boot_flushEvents : d.flushEvents.boot = d.boot := rfl

theorem boot_startCounted (b : Bool) (f : BootRecord → BootRecord) : (if b = true then d else d.writeBoot f).boot = d.boot := by
  split <;> rfl

/-- A failed start begins a new one of cause 4, and keeps the step and the case. -/
theorem failStart_afresh {c : Ctx} (halive : c.fuses.lifeCycle ≠ 5) (case : Nat) :
    (d.failStart c case).startOf = (4, c.now, min d.boot.node 7 + 256 * case, [], [], []) ∧
      ((d.failStart c case).boot.node = 3 ∨ (d.failStart c case).boot.node = 0x80 ∨ (d.failStart c case).boot.node = 0x81) := by
  unfold Dev.failStart
  obtain ⟨hstart, hnode⟩ := beginStart_afresh _ halive 4
  refine ⟨hstart.trans ?_, hnode⟩
  rw [boot_flushEvents, boot_loseLinks, boot_startCounted, boot_event]
  rfl
end

/-! ### The watchdog (R666) -/

@[simp] theorem boot_closeSession (d : Dev) (path number : Nat) : (d.closeSession path number).boot = d.boot := rfl

@[simp] theorem mem_closeSession (d : Dev) (path number : Nat) : (d.closeSession path number).mem = d.mem := rfl

theorem sessions_closeSession (d : Dev) (path number : Nat) :
    (d.closeSession path number).dict.sessions = d.dict.sessions.filter fun s => !(s.path == path && s.number == number) := rfl

/-- The sessions that are left once those of a list have been closed. -/
theorem sessions_closeSessions (l : List Session) (d : Dev) :
    (l.foldl (fun d s => d.closeSession s.path s.number) d).dict.sessions =
      d.dict.sessions.filter fun t => l.all fun s => !(t.path == s.path && t.number == s.number) := by
  induction l generalizing d with
  | nil => simp
  | cons s l ih => simp only [List.foldl_cons, ih, sessions_closeSession, List.filter_filter, List.all_cons, Bool.and_comm]

/-- The device once a watchdog expiry has been noted and logged. -/
def Dev.expired (d : Dev) (c : Ctx) : Dev :=
  let recent := d.boot.expiries.filter fun t => decide (c.now < t + 600 * secondTicks)
  (d.setBoot { d.boot with expiries := c.now :: recent, reloading := true }).event c 0x0105 2 0 (recent.length + 1) 0 0

section
variable (d : Dev) (c : Ctx)

theorem boot_expired : (d.expired c).boot = { d.boot with
    expiries := c.now :: d.boot.expiries.filter fun t => decide (c.now < t + 600 * secondTicks), reloading := true } := boot_event ..

@[simp] theorem mem_expired : (d.expired c).mem = d.mem := mem_event ..

@[simp] theorem dict_expired : (d.expired c).dict = d.dict := dict_event ..
end

/-- The device with every session but the mailboxes' closed. -/
def Dev.closeOthers (d : Dev) : Dev := (d.dict.sessions.filter fun s => s.path != 1).foldl (fun d s => d.closeSession s.path s.number) d

@[simp] theorem boot_closeOthers (d : Dev) : d.closeOthers.boot = d.boot := by
  unfold Dev.closeOthers
  refine foldl_leaves (part := Dev.boot) (fun e x => ?_) _ d
  exact boot_closeSession ..

@[simp] theorem mem_closeOthers (d : Dev) : d.closeOthers.mem = d.mem := by
  unfold Dev.closeOthers
  refine foldl_leaves (part := Dev.mem) (fun e x => ?_) _ d
  exact mem_closeSession ..

/-- All but mailbox sessions closed. -/
theorem sessions_closeOthers (d : Dev) : d.closeOthers.dict.sessions = d.dict.sessions.filter fun s => s.path == 1 := by
  rw [Dev.closeOthers, sessions_closeSessions]
  refine List.filter_congr fun t ht => ?_
  rw [Bool.eq_iff_iff, List.all_eq_true]
  refine ⟨fun hall => ?_, fun hmailbox s hs => ?_⟩
  · by_contra hother
    simpa using hall t (List.mem_filter.2 ⟨ht, by simpa using hother⟩)
  · have hpath : s.path ≠ 1 := by simpa using (List.mem_filter.1 hs).2
    have hdiffers : t.path ≠ s.path := by
      rw [beq_iff_eq.1 hmailbox]
      exact hpath.symm
    simp [hdiffers]

/-- What a watchdog expiry does outside ROM recovery. -/
theorem doWatchdogExpiry_counts {d : Dev} (hnode : d.boot.node ≠ 0x81) (c : Ctx) :
    doWatchdogExpiry c d =
      if 2 ≤ (d.boot.expiries.filter fun t => decide (c.now < t + 600 * secondTicks)).length then (d.expired c).failStart c 6
      else (d.expired c).closeOthers := by
  unfold doWatchdogExpiry
  rw [if_neg hnode]
  simp only [List.length_cons, Nat.reduceLeDiff]
  rfl

/-! ### The generator (R648) -/

/-- A critical event asserts ALERT_N, and NOR has it in front. -/
theorem event_critical (d : Dev) (c : Ctx) (code realm w0 w1 w2 : Nat) :
    (d.event c code 3 realm w0 w1 w2).pins.alert = true ∧
      ((d.event c code 3 realm w0 w1 w2).nor.events.head?.map fun e => (e.code, e.severity, e.time)) = some (code, 3, c.now) := by
  refine ⟨rfl, ?_⟩
  simp [Dev.event, norEvents]

/-- When a case of a failed start comes to pass. -/
theorem failureFits_iff (c : Ctx) (d : Dev) (case : Nat) :
    d.failureFits c case = true ↔ d.isMinimal = false ∧ (((case = 1 ∨ case = 3) ∧ d.boot.node = 3) ∨ (case = 2 ∧ d.boot.node = 4) ∨ case = 4 ∨
      (case = 5 ∧ d.boot.node < 7 ∧ ¬(d.flash.mapState = 1 ∧ d.flash.mapSource = 2) ∧ d.boot.began + 600 * secondTicks ≤ c.now)) := by
  unfold Dev.failureFits
  rw [Bool.and_eq_true, Bool.not_eq_true']
  refine and_congr_right fun _ => ?_
  split
  case h_6 => simp_all
  all_goals simp [and_assoc, imp_iff_not_or]

/-- Settles O46. That a case acts only in the step it names, and elsewhere changes nothing, is log entries 56 and 8; a memory that is empty after a
start reads by log entry 95. -/
theorem failuresAreHandled : Obligations.FailuresAreHandled := by
  unfold Obligations.FailuresAreHandled
  intro restarts
  have hrestarts : ∀ (s : State) (case : Nat), restarts s (s.withDev (s.dev.failStart s.ctx case)) case := by
    refine fun s case => ⟨rfl, fun halive => ?_⟩
    obtain ⟨hstart, hnode⟩ := failStart_afresh s.dev (c := s.ctx) halive case
    simp only [Dev.startOf, Prod.mk.injEq] at hstart
    obtain ⟨hcause, hbegan, hfailed, hmem, hlive, hsessions⟩ := hstart
    exact ⟨hcause, hbegan, hfailed, hnode, hmem, hlive, hsessions⟩
  refine ⟨?failed, ?watchdog, ?reload, ?generator⟩
  case failed =>
    intro s case b fits hrun
    have hfits : fits ↔ s.dev.failureFits s.ctx case = true := (failureFits_iff s.ctx s.dev case).symm
    refine ⟨fun h => ⟨_, devStep_of_eq hrun (if_pos (hfits.1 h)), hrestarts s case⟩, fun h => ?_⟩
    exact devStep_of_eq hrun (if_neg fun hcase => h (hfits.2 hcase))
  case watchdog =>
    intro s recent hrun
    refine ⟨fun hnode hfew => ?_, fun hnode hmany => ?_, fun hnode => devStep_of_eq hrun (if_pos hnode)⟩
    · have hreloads : doWatchdogExpiry s.ctx s.dev = (s.dev.expired s.ctx).closeOthers :=
        (doWatchdogExpiry_counts hnode _).trans (if_neg (Nat.not_le.2 hfew))
      refine ⟨_, devStep_of_eq hrun hreloads, ?_, ?_, ?_⟩
      · exact (boot_closeOthers _).trans (boot_expired ..)
      · exact (sessions_closeOthers _).trans (by rw [dict_expired])
      · exact (mem_closeOthers _).trans (mem_expired ..)
    · have hfails : doWatchdogExpiry s.ctx s.dev = (s.dev.expired s.ctx).failStart s.ctx 6 :=
        (doWatchdogExpiry_counts hnode _).trans (if_pos hmany)
      exact ⟨_, s.withDev (s.dev.expired s.ctx), devStep_of_eq hrun hfails, hrestarts (s.withDev (s.dev.expired s.ctx)) 6, rfl, rfl,
        boot_expired ..⟩
  case reload => exact fun s hrun => devStep_of_eq hrun rfl
  case generator =>
    intro s hrun
    obtain ⟨halert, hlogged⟩ := event_critical (s.dev.setKeep { s.dev.keep with health := 1, faults := satAdd 64 s.dev.keep.faults 1 }) s.ctx 0x0802 0 0 0 0
    exact ⟨_, devStep_of_eq hrun rfl, keep_event .., halert, hlogged, mem_event ..⟩

end Sys2Proof.Machine
end

section
/-! The start's steps 3 to 7 and the success of a start (R520, R521, R667, R668, R670, R671, R674, R693). -/

namespace Sys2Proof.Machine

/-- A command that leaves the device as it is leaves the state as it is. -/
theorem devStep_unchanged {f : Ctx → Dev → Dev} {s : State} (hf : f s.ctx s.dev = s.dev) : devStep f s = .next s := by
  cases hrun : s.running with
  | false => exact devStep_stopped f s hrun
  | true => exact devStep_of_eq hrun hf

/-! ### Step 3: the boot self-test -/

/-- A boot self-test that fails nothing the start needs ends step 3. -/
theorem doBootSelfTest_ends {d : Dev} {failed : List Nat} (hnode : d.boot.node = 3) (hclocks : failed.any (inRange 712 719) = false)
    (hsensors : sensorsLost failed = false) (marginal mesh tiles : List Nat) (c : Ctx) :
    doBootSelfTest failed marginal false mesh tiles c d =
      let e := ((d.setOculus { d.oculus with results := bootResults failed marginal, failedAtStart := failed, next := 0 }).bootEvents
        c failed marginal).leaveOut c failed mesh tiles
      (e.setBoot { e.boot with node := 4 }).stepEnds c 3 := by
  simp [doBootSelfTest, hnode, hclocks, hsensors]

/-! ### Step 4: the waves of training -/

/-- One stack trained in a wave. -/
def Dev.trainStack (c : Ctx) (failed : List Nat) (d : Dev) (n : Nat) : Dev :=
  if failed.contains n || !d.stackTrains n then (d.modStack n fun k => { k with state := 1 }).event c 0x0301 2 0 n 0 0
  else d.modStack n fun k => { k with state := 0 }

section
variable (c : Ctx) (failed : List Nat) (d : Dev) (n : Nat)

theorem boot_trainStack : (d.trainStack c failed n).boot = d.boot := by
  unfold Dev.trainStack
  split
  · exact boot_event ..
  · rfl

theorem oculus_trainStack : (d.trainStack c failed n).oculus = d.oculus := by
  unfold Dev.trainStack
  split
  · exact oculus_event ..
  · rfl

theorem stackTrains_trainStack (m : Nat) : (d.trainStack c failed n).stackTrains m = d.stackTrains m := by
  simp only [Dev.stackTrains, oculus_trainStack]

@[simp] theorem stack_event (code severity realm w0 w1 w2 m : Nat) : (d.event c code severity realm w0 w1 w2).stack m = d.stack m := by
  simp only [Dev.stack, banks_event]

theorem stack_trainStack_self (hn : n < d.banks.units.length) :
    ((d.trainStack c failed n).stack n).state = if failed.contains n || !d.stackTrains n then 1 else 0 := by
  unfold Dev.trainStack
  split
  · rw [stack_event, stack_modStack_self hn]
  · rw [stack_modStack_self hn]

theorem stack_trainStack_other {m : Nat} (hm : m ≠ n) : (d.trainStack c failed n).stack m = d.stack m := by
  unfold Dev.trainStack
  split
  · rw [stack_event, stack_modStack_other hm]
  · rw [stack_modStack_other hm]

theorem units_trainStack : (d.trainStack c failed n).banks.units.length = d.banks.units.length := by
  unfold Dev.trainStack
  split
  · rw [banks_event]
    exact listMod_length ..
  · exact listMod_length ..
end

section
variable (c : Ctx) (failed : List Nat)

theorem stack_trainStacks_other {n : Nat} (l : List Nat) (d : Dev) (hn : n ∉ l) : (l.foldl (Dev.trainStack c failed) d).stack n = d.stack n := by
  induction l generalizing d with
  | nil => rfl
  | cons m l ih =>
    exact (ih _ (List.not_mem_of_not_mem_cons hn)).trans (stack_trainStack_other c failed d m (List.ne_of_not_mem_cons hn))

/-- Every stack of a list that is trained is in service, or left out where it failed. -/
theorem stack_trainStacks_mem {n : Nat} (l : List Nat) (d : Dev) (hn : n < d.banks.units.length) (hmem : n ∈ l) :
    ((l.foldl (Dev.trainStack c failed) d).stack n).state = if failed.contains n || !d.stackTrains n then 1 else 0 := by
  induction l generalizing d with
  | nil => cases hmem
  | cons m l ih =>
    by_cases hl : n ∈ l
    · rw [List.foldl_cons, ih _ (by rwa [units_trainStack]) hl, stackTrains_trainStack]
    · obtain rfl : n = m := (List.mem_cons.1 hmem).resolve_right hl
      rw [List.foldl_cons, stack_trainStacks_other c failed l _ hl, stack_trainStack_self c failed d n hn]
end

/-- A wave whose turn it is: its stacks train, it is noted, and the last one ends the step. -/
theorem doStackTrainingWave_turn {d : Dev} (hnode : d.boot.node = 4) (failed : List Nat) (c : Ctx) :
    doStackTrainingWave d.boot.waves.length failed c d =
      let t := (waveStacks d.boot.waves.length).foldl (Dev.trainStack c failed) d
      let e := t.setBoot { t.boot with waves := t.boot.waves ++ [d.boot.waves.length] }
      if d.boot.waves.length = 3 then e.wavesEnd c else e := by
  unfold doStackTrainingWave
  rw [if_neg (by simp [hnode])]
  rfl

theorem boot_trainStacks (c : Ctx) (failed l : List Nat) (d : Dev) : (l.foldl (Dev.trainStack c failed) d).boot = d.boot :=
  foldl_leaves (part := Dev.boot) (boot_trainStack c failed) l d

/-- Where each quarter die has a stack in service, step 5 begins. -/
theorem node_wavesEnd {d : Dev} (hstacks : ∀ q < 4, ∃ i < 8, (d.stack (8 * q + i)).state = 0) (c : Ctx) : (d.wavesEnd c).boot.node = 5 := by
  have hserved : ((List.range 4).any fun q => (List.range 8).all fun i => (d.stack (8 * q + i)).state != 0) = false := by
    simpa [List.any_eq_false, List.all_eq_true] using hstacks
  unfold Dev.wavesEnd
  rw [hserved]
  rfl

theorem waveStacks_lt : ∀ w < 4, ∀ n ∈ waveStacks w, n < 32 := by decide

/-! ### Step 5: the enumeration and the load of the map -/

@[simp] theorem flash_onfi (d : Dev) (lun : Nat) (l : List Onfi) : (d.onfi lun l).flash = d.flash :=
  foldl_leaves (part := Dev.flash) (fun _ _ => by rfl) l d

theorem flash_formatAll (d : Dev) : d.formatAll.flash = d.flash := by
  unfold Dev.formatAll
  dsimp only
  refine (foldl_leaves (part := Dev.flash) (fun e k => ?_) _ _).trans ((foldl_leaves (part := Dev.flash) (fun e k => ?_) _ _).trans
    (foldl_leaves (part := Dev.flash) (fun e k => ?_) _ _)) <;> rfl

/-- The enumeration of a node that has not loaded its map (R489, R490). -/
theorem flash_doFlashEnumeration {d : Dev} (hnode : d.boot.node = 5) (hmap : d.flash.mapState = 0) (luns : List LunAnswer) (c : Ctx) :
    (doFlashEnumeration luns c d).flash = { d.flash with
      luns := ((List.range 2048).filter d.lunExpected).map fun n => (n, d.enumerated luns n)
      mapState := 1, mapSource := 0, progress := 0, loadFrom := c.now } := by
  have hissued : ∀ l : List Nat, (l.foldl (fun e n => e.onfi n (d.enumerationOf luns n)) d).flash = d.flash :=
    fun l => foldl_leaves (part := Dev.flash) (fun e n => flash_onfi e n _) l d
  unfold doFlashEnumeration
  rw [if_neg (by simp [hnode, hmap])]
  dsimp only
  rw [flash_formatAll, hissued]
  exact foldl_leaves (part := Dev.flash) (fun e x => flash_event e ..) _ _

/-! ### Step 5: the load of the map (R520) -/

/-- Open blocks noted again are the open blocks alone. -/
theorem flash_reopenBlocks (d : Dev) : ∃ opens collect, d.reopenBlocks.flash = { d.flash with opens := opens, collect := collect } := by
  unfold Dev.reopenBlocks
  refine List.foldlRecOn (motive := fun e : Dev => ∃ opens collect, e.flash = { d.flash with opens := opens, collect := collect }) _ _ ⟨_, _, rfl⟩
    fun e he x _ => ?_
  obtain ⟨opens, collect, he⟩ := he
  unfold Dev.setBuffer Dev.withBuffers
  split <;> exact ⟨_, _, by rw [Dev.setFlash_flash, he]⟩

/-- Volumes without spare become read-only, and nothing else changes. -/
theorem flash_checkSpare (d : Dev) (c : Ctx) : ∃ volumes, (d.checkSpare c).flash = { d.flash with volumes := volumes } := by
  refine List.foldlRecOn (motive := fun e : Dev => ∃ volumes, e.flash = { d.flash with volumes := volumes }) _ _ ⟨_, rfl⟩ fun e he m _ => ?_
  split
  · exact he
  · obtain ⟨volumes, he⟩ := he
    refine ⟨(e.moveVolumes m 1 2).flash.volumes,
      (foldl_leaves (part := Dev.flash) (fun e g => flash_event e ..) _ (e.moveVolumes m 1 2)).trans ?_⟩
    rw [Dev.moveVolumes, Dev.setFlash_flash, he]

theorem boot_reopenBlocks (d : Dev) : d.reopenBlocks.boot = d.boot := by
  unfold Dev.reopenBlocks
  refine foldl_leaves (part := Dev.boot) (fun e x => ?_) _ d
  unfold Dev.setBuffer Dev.withBuffers
  split <;> rfl

theorem boot_checkSpare (d : Dev) (c : Ctx) : (d.checkSpare c).boot = d.boot := by
  refine foldl_leaves (part := Dev.boot) (fun e m => ?_) _ d
  split
  · rfl
  · exact foldl_leaves (part := Dev.boot) (fun e g => boot_event e ..) _ (e.moveVolumes m 1 2)

/-- The device as the load of its map ends step 5, where the start has come to it (R670). -/
def Dev.stepSix (c : Ctx) (d : Dev) : Dev :=
  if d.boot.node = 5 then ((d.setBoot { d.boot with node := 6 }).stepEnds c 5).trainLinks (List.range 8) else d

theorem boot_trainLinks (d : Dev) (ports : List Nat) : (d.trainLinks ports).boot = d.boot :=
  foldl_leaves (part := Dev.boot) (fun _ _ => by rfl) _ d

theorem node_stepSix {d : Dev} (hnode : d.boot.node = 5) (c : Ctx) : (d.stepSix c).boot.node = 6 := by
  rw [Dev.stepSix, if_pos hnode, boot_trainLinks]
  rfl

section
variable {d : Dev} (hstate : d.flash.mapState = 1) (hsource : d.flash.mapSource = 0) (c : Ctx)
include hstate hsource

/-- MAP_LOAD before a scan. -/
theorem doMapLoad_begins (reads : Bool) :
    doMapLoad reads c d =
      if d.flash.volumes.isEmpty then (d.stepSix c).setFlash (d.flash.ready c.now)
      else if d.flash.rootClean && reads then
        (((d.stepSix c).setFlash ({ d.flash with
          map := d.flash.checkpoint, seq := d.flash.rootSeq + 1, mapSource := 1 }.ready c.now)).reopenBlocks).checkSpare c
      else (d.stepSix c).setFlash { d.flash with mapSource := 2, progress := 0 } := by
  unfold doMapLoad
  rw [if_neg (by simp [hstate, hsource])]
  rfl
end

/-- What a checkpoint that is loaded leaves of the flash layer. -/
theorem flash_loadCheckpoint (d : Dev) (f : Flash) (c : Ctx) : ∃ opens collect volumes,
    ((d.setFlash f).reopenBlocks.checkSpare c).flash = { f with opens := opens, collect := collect, volumes := volumes } := by
  obtain ⟨opens, collect, hopen⟩ := flash_reopenBlocks (d.setFlash f)
  obtain ⟨volumes, hspare⟩ := flash_checkSpare (d.setFlash f).reopenBlocks c
  exact ⟨opens, collect, volumes, by rw [hspare, hopen, Dev.setFlash_flash]⟩

/-! ### The rebuilt map (R521) -/

/-- What a rebuild sets. -/
def Dev.rebuilt (d : Dev) : Tab MapEntry × Nat × Nat × List FlashCopy := (d.flash.map, d.flash.mapState, d.flash.progress, d.flash.copies)

theorem rebuilt_onfi (d : Dev) (lun : Nat) (l : List Onfi) : (d.onfi lun l).rebuilt = d.rebuilt := by
  simp only [Dev.rebuilt, flash_onfi]

theorem rebuilt_beginRead (d : Dev) (o : FlashOp) : (d.beginRead o).rebuilt = d.rebuilt := rebuilt_onfi ..

theorem rebuilt_suspend (d : Dev) (p : FlashOp) (c0 : Bool) : (d.suspend p c0).rebuilt = d.rebuilt := by
  unfold Dev.suspend
  dsimp only
  split <;> exact rebuilt_onfi ..

theorem rebuilt_serveLun (d : Dev) (lun : Nat) : (d.serveLun lun).rebuilt = d.rebuilt := by
  unfold Dev.serveLun
  split
  · rfl
  dsimp only
  split
  · rfl
  split
  · exact rebuilt_beginRead ..
  split
  · rfl
  · exact (rebuilt_beginRead ..).trans (rebuilt_suspend ..)

theorem rebuilt_beginErase (d : Dev) (k : Nat) : (d.beginErase k).rebuilt = d.rebuilt :=
  (rebuilt_serveLun ..).trans (rebuilt_onfi ..)

theorem rebuilt_startErase (d : Dev) (k : Nat) : (d.startErase k).rebuilt = d.rebuilt := by
  refine (rebuilt_beginErase ..).trans ?_
  unfold Dev.rootDirty
  split
  · exact foldl_leaves (part := Dev.rebuilt) rebuilt_beginErase _ (d.setFlash { d.flash with rootClean := false })
  · rfl

theorem rebuilt_checkSpare (d : Dev) (c : Ctx) : (d.checkSpare c).rebuilt = d.rebuilt := by
  obtain ⟨_, h⟩ := flash_checkSpare d c
  simp only [Dev.rebuilt, h]

/-- The map that a scan has rebuilt, where every summary that it read decoded. -/
theorem rebuilt_doMapRebuildComplete {d : Dev} (hstate : d.flash.mapState = 1) (hsource : d.flash.mapSource = 2)
    (hread : ∀ e ∈ d.scannedBlocks, e.2.summaryReads d.nor.boot.starts e.1 = true) (c : Ctx) :
    (doMapRebuildComplete c d).rebuilt = (d.scanMap.map (fun e => (e.1, e.2.2)), 2, 100, d.flash.copies) := by
  have hwhole : (d.scannedBlocks.filter fun e => !e.2.summaryReads d.nor.boot.starts e.1) = [] :=
    List.filter_eq_nil_iff.2 fun e he => by simp [hread e he]
  unfold doMapRebuildComplete
  rw [if_neg (by simp [hstate, hsource]), hwhole]
  exact (rebuilt_checkSpare _ c).trans (foldl_leaves (part := Dev.rebuilt) rebuilt_startErase _ _)

/-! ### Step 7 and the success of the start (R670, R674) -/

theorem readyChanges_keeps {α : Type} {part : Dev → α} (hpart : ∀ (d : Dev) m, part (d.send m) = part d) (d : Dev) : part d.readyChanges = part d :=
  foldl_leaves (fun e _ => foldl_leaves (fun e _ => hpart e _) _ e) _ d

/-- A start that has succeeded ends the count of failed ones; without auto confirm that is all. -/
theorem doStartSuccess_succeeds {d : Dev} {c : Ctx} (hnode : d.boot.node = 7) (hnew : d.boot.succeeded = false)
    (hdue : d.boot.operationalAt + 60 * secondTicks ≤ c.now) (hmanual : (tabValue d.nor.kept 0x5F05 0).num ≠ 1) :
    doStartSuccess c d = (d.setBoot { d.boot with succeeded := true }).writeBoot fun b => { b with failedStarts := 0 } := by
  unfold doStartSuccess
  rw [if_neg (by simp [hnode, hnew, hdue])]
  exact if_neg hmanual

theorem node_doOperational {d : Dev} (hnode : d.boot.node = 6) (hmap : d.flash.mapState = 2) (c : Ctx) :
    (doOperational c d).boot.node = 7 ∧ (doOperational c d).boot.operationalAt = c.now ∧ (doOperational c d).mem = d.mem := by
  unfold doOperational
  rw [if_neg (by simp [hnode, hmap])]
  dsimp only
  rw [readyChanges_keeps (part := Dev.boot) (fun _ _ => rfl), readyChanges_keeps (part := Dev.mem) (fun _ _ => rfl), boot_event, mem_event]
  exact ⟨rfl, rfl, rfl⟩

/-- Settles O45, step by step. Out of its step a row changes nothing by log entry 8; a start's steps 1 and 2 belong to the rows that begin it (log
entry 56). -/
theorem startStepsFollow : Obligations.StartStepsFollow := by
  unfold Obligations.StartStepsFollow
  refine ⟨?selfTest, ?wave, ?lastWave, ?enumeration, ?load, ?rebuild, ?operational, ?success, ?outside⟩
  case selfTest =>
    intro s failed marginal mesh tiles hrun hnode hclocks hsensors e
    exact devStep_of_eq hrun (doBootSelfTest_ends hnode hclocks hsensors marginal mesh tiles s.ctx)
  case wave =>
    intro s failed wave hrun hnode hwave hunits
    refine ⟨_, devStep_of_eq hrun ((doStackTrainingWave_turn hnode failed s.ctx).trans (if_neg (Nat.ne_of_lt hwave))), ?_, ?_, ?_, ?_⟩
    · exact congrArg (fun b : Boot => b.waves ++ [wave]) (boot_trainStacks s.ctx failed _ s.dev)
    · exact (congrArg Boot.node (boot_trainStacks s.ctx failed _ s.dev)).trans hnode
    · intro n hn
      exact stack_trainStacks_mem s.ctx failed _ s.dev (hunits ▸ waveStacks_lt wave (by omega) n hn) hn
    · exact fun n hn => stack_trainStacks_other s.ctx failed _ s.dev hn
  case lastWave =>
    intro s failed hrun hnode hwave
    have hends := doStackTrainingWave_turn hnode failed s.ctx
    simp only [hwave, if_true] at hends
    refine ⟨_, ?_, devStep_of_eq hrun hends, fun hstacks => node_wavesEnd hstacks s.ctx⟩
    exact congrArg (fun b : Boot => b.waves ++ [3]) (boot_trainStacks s.ctx failed _ s.dev)
  case enumeration =>
    exact fun s luns hrun hnode hmap => ⟨_, devStep_of_eq hrun rfl, flash_doFlashEnumeration hnode hmap luns s.ctx⟩
  case load =>
    intro s hrun hstate hsource took
    refine ⟨fun hvolumes hclean => ?_, fun hvolumes reads => ?_, fun hvolumes => ?_⟩
    · refine ⟨_, devStep_of_eq hrun ((doMapLoad_begins hstate hsource s.ctx true).trans
        ((if_neg (by simpa using hvolumes)).trans (if_pos (by simp [hclean])))), ?_⟩
      obtain ⟨opens, collect, volumes, hflash⟩ := flash_loadCheckpoint (s.dev.stepSix s.ctx) ({ s.dev.flash with
        map := s.dev.flash.checkpoint, seq := s.dev.flash.rootSeq + 1, mapSource := 1 }.ready s.ctx.now) s.ctx
      simp only [State.withDev]
      rw [hflash]
      refine ⟨rfl, rfl, rfl, rfl, rfl, rfl, rfl, fun hnode => ?_⟩
      rw [boot_checkSpare, boot_reopenBlocks]
      exact node_stepSix hnode s.ctx
    · refine ⟨_, devStep_of_eq hrun ((doMapLoad_begins hstate hsource s.ctx reads).trans (if_pos (by simp [hvolumes]))), rfl, fun hnode => ?_⟩
      exact node_stepSix hnode s.ctx
    · refine ⟨_, devStep_of_eq hrun ((doMapLoad_begins hstate hsource s.ctx false).trans
        ((if_neg (by simpa using hvolumes)).trans (if_neg (by simp)))), rfl, fun hnode => ?_⟩
      exact node_stepSix hnode s.ctx
  case rebuild =>
    intro s hrun hstate hsource hread
    have hrebuilt := rebuilt_doMapRebuildComplete hstate hsource hread s.ctx
    simp only [Dev.rebuilt, Prod.mk.injEq] at hrebuilt
    obtain ⟨hmap, hserves, hprogress, hcopies⟩ := hrebuilt
    exact ⟨_, devStep_of_eq hrun rfl, hserves, hmap, hprogress, hcopies⟩
  case operational => exact fun s hrun hnode hmap => ⟨_, devStep_of_eq hrun rfl, node_doOperational hnode hmap s.ctx⟩
  case success =>
    exact fun s hrun hnode hnew hdue hmanual => ⟨_, devStep_of_eq hrun (doStartSuccess_succeeds hnode hnew hdue hmanual), rfl, rfl⟩
  case outside =>
    refine fun s => ⟨fun hnode failed marginal bandGap mesh tiles => ?_, fun wave failed hturn => ?_, fun luns hturn => ?_, fun reads hturn => ?_,
      fun hturn => ?_, fun hturn => ?_, fun hturn => ?_⟩ <;> refine devStep_unchanged (if_pos ?_)
    · simpa using hnode
    · simpa using hturn
    · simpa using hturn
    · simpa using hturn
    · simpa using hturn
    · simpa using hturn
    · simp only [Bool.or_eq_true, bne_iff_ne, decide_eq_true_eq, or_assoc]
      exact hturn

end Sys2Proof.Machine
end

section
/-! Oculus: slices, their ends, and the ends of full programs (R694–R699). -/

namespace Sys2Proof.Machine

theorem oculus_narrow (d : Dev) (b : Nat) : (d.narrow b).oculus = d.oculus := by
  unfold Dev.narrow
  split <;> rfl

theorem oculus_widen (d : Dev) (b : Nat) : (d.widen b).oculus = d.oculus := by
  unfold Dev.widen
  split <;> rfl

theorem oculus_trainLinks (d : Dev) (ports : List Nat) : (d.trainLinks ports).oculus = d.oculus :=
  foldl_leaves (part := Dev.oculus) (fun _ _ => by rfl) _ d

/-- The units of a program that is over come back without a change of Oculus itself. -/
theorem oculus_programUnits_back (d : Dev) (blocks : List Nat) : (d.programUnits blocks false).oculus = d.oculus := by
  unfold Dev.programUnits
  split
  · rfl
  split
  · exact oculus_trainLinks ..
  split <;> rfl

/-- A slice that is due goes to the next eligible block: inside the limits it runs, outside them it is put off (R696). -/
theorem doOculusSlice_due {d : Dev} {b skipped : Nat} (hnode : d.boot.node = 7) (hon : d.cfg 0x5800 2 = 1) (hnone : d.oculus.slice = none)
    (hidle : d.oculus.program % 256 ≠ 1) (hnext : d.nextEligible d.oculus.next 806 = (b, skipped)) (inLimits : Bool) (c : Ctx) :
    doOculusSlice inLimits c d =
      if inLimits then (d.setOculus { d.oculus with
        next := b, passedOver := satAdd 64 d.oculus.passedOver skipped, slice := some b, run := satAdd 64 d.oculus.run 1 }).narrow b
      else d.setOculus { d.oculus with
        next := b, passedOver := satAdd 64 d.oculus.passedOver skipped, deferred := satAdd 64 d.oculus.deferred 1 } := by
  simp [doOculusSlice, hnode, hon, hnone, hidle, hnext]

/-- A slice that passes ends with its block's result, and the next block's turn comes. -/
theorem doOculusSliceEnd_passed {d : Dev} {b : Nat} (hslice : d.oculus.slice = some b) (c : Ctx) :
    doOculusSliceEnd 0 c d = (d.setOculus { d.oculus with
      slice := none, aborts := 0, failedOnce := none, next := nextBlock b, results := d.oculus.results.set b 1 }).widen b := by
  simp [doOculusSliceEnd, hslice]

/-- A full program that runs ends with the result of every block it named (R699). -/
theorem doProgramComplete_ends {d : Dev} (hruns : d.oculus.program % 256 = 1) (passed : Bool) (c : Ctx) :
    doProgramComplete passed c d = (d.setOculus { d.oculus with
      program := (if passed then 2 else 3) + d.oculus.program / 256 * 256, programBlocks := []
      results := setResults d.oculus.results d.oculus.programBlocks (if passed then 1 else 3) }).programUnits d.oculus.programBlocks false :=
  if_neg (by simp [hruns])

/-- Settles O48. That a full program's end gives one result to all of its blocks is log entry 36. -/
theorem oculusTests : Obligations.OculusTests := by
  unfold Obligations.OculusTests
  refine fun s hrun => ⟨fun hnode hon hnone hidle b skipped hnext => ⟨?_, ?_⟩, fun b hslice => ?_, fun passed hruns => ?_⟩
  · exact ⟨_, devStep_of_eq hrun ((doOculusSlice_due hnode hon hnone hidle hnext true s.ctx).trans (if_pos rfl)), oculus_narrow ..⟩
  · exact devStep_of_eq hrun ((doOculusSlice_due hnode hon hnone hidle hnext false s.ctx).trans (if_neg Bool.false_ne_true))
  · exact ⟨_, devStep_of_eq hrun (doOculusSliceEnd_passed hslice s.ctx), oculus_widen ..⟩
  · exact ⟨_, devStep_of_eq hrun (doProgramComplete_ends hruns passed s.ctx), oculus_programUnits_back ..⟩

end Sys2Proof.Machine
end

section
/-! Supervision: the samples of the sensors, the thermal trip, regulators, the log's flush, and frequency changes (R150–R153, R679–R682, R686, R703,
R704). -/

namespace Sys2Proof.Machine

/-! ### What a sample's readings are after the round that follows it (R679) -/

/-- What the sensors read: junctions, stacks, the samples of the last millisecond, the power and its peak. -/
def Sensors.readings (s : Sensors) : List Nat × List Nat × List (Nat × Nat) × Nat × Nat := (s.quarter, s.stack, s.samples, s.power, s.peakPower)

/-- What the sensors of a device read. -/
def Dev.readings (d : Dev) : List Nat × List Nat × List (Nat × Nat) × Nat × Nat := d.sensors.readings

section
variable (d : Dev)

@[simp] theorem readings_ite {p : Prop} [Decidable p] (a b : Dev) : (if p then a else b).readings = if p then a.readings else b.readings :=
  apply_ite ..

/-- What leaves the sensors as they are but for their acknowledgement leaves what they read. -/
theorem readings_of_apart {e : Dev} (h : e.apart = d.apart) : e.readings = d.readings := congrArg (fun a => a.2.readings) h

@[simp] theorem readings_event (c : Ctx) (code severity realm w0 w1 w2 : Nat) : (d.event c code severity realm w0 w1 w2).readings = d.readings :=
  readings_of_apart d (apart_event ..)

@[simp] theorem readings_grantWaiting (c : Ctx) (stack : Nat) (which : Nat → Bool) : (d.grantWaiting c stack which).readings = d.readings :=
  readings_of_apart d (apart_grantWaiting ..)

@[simp] theorem readings_thermalHold (stack hottest : Nat) : (d.thermalHold stack hottest).readings = d.readings := by rfl
@[simp] theorem readings_flushEvents : d.flushEvents.readings = d.readings := by rfl
@[simp] theorem readings_setPower (x : Power) : (d.setPower x).readings = d.readings := by rfl
@[simp] theorem readings_setOculus (x : Oculus) : (d.setOculus x).readings = d.readings := by rfl
@[simp] theorem readings_setPins (x : Pins) : (d.setPins x).readings = d.readings := by rfl
@[simp] theorem readings_modLink (l : Nat) (f : Link → Link) : (d.modLink l f).readings = d.readings := by rfl
@[simp] theorem readings_crossed (l : List Nat) : (d.setSensors { d.sensors with crossed := l }).readings = d.readings := by rfl
@[simp] theorem readings_junction110 (l : List Nat) : (d.setSensors { d.sensors with junction110 := l }).readings = d.readings := by rfl

@[simp] theorem readings_checkLimit (c : Ctx) (e level reading : Nat) : (d.checkLimit c e level reading).readings = d.readings := by
  simp [Dev.checkLimit]

@[simp] theorem readings_checkJunction (c : Ctx) (e : Nat) : (d.checkJunction c e).readings = d.readings := by
  simp [Dev.checkJunction]

@[simp] theorem readings_checkAlert : d.checkAlert.readings = d.readings := by
  simp [Dev.checkAlert]

@[simp] theorem readings_abortSlice (which : Nat → Bool) : (d.abortSlice which).readings = d.readings := by
  unfold Dev.abortSlice Dev.widen
  split <;> simp

@[simp] theorem readings_noteHeld (c : Ctx) (reason g : Nat) : (d.noteHeld c reason g).readings = d.readings := by
  simp [Dev.noteHeld]

@[simp] theorem readings_throttle (c : Ctx) (reason g : Nat) : (d.throttle c reason g).readings = d.readings := by
  simp [Dev.throttle, Dev.lowerGroup, Dev.setFrequency]

theorem readings_foldl {β : Type} {f : Dev → β → Dev} (h : ∀ d b, (f d b).readings = d.readings) (l : List β) :
    (l.foldl f d).readings = d.readings :=
  foldl_leaves (part := Dev.readings) h l d

theorem readings_throttleAll (c : Ctx) : (d.throttleAll c).readings = d.readings := by
  unfold Dev.throttleAll
  dsimp only
  split
  · exact (readings_foldl _ (fun e g => readings_throttle e c 1 g) _).trans (readings_foldl _ (fun e g => readings_throttle e c 0 g) _)
  · exact readings_foldl _ (fun e g => readings_throttle e c 0 g) _

/-- The round that follows a sample leaves what the sample read. -/
theorem readings_doSensorSample (r : SensorReadings) (c : Ctx) : (doSensorSample r c d).readings = (d.takeReadings c r).readings := by
  unfold doSensorSample
  dsimp only
  rw [readings_checkAlert, readings_throttleAll, readings_foldl _ (fun e n => ?thermal), readings_foldl _ (fun e n => ?junctions),
    readings_foldl _ (fun e n => ?limits)]
  case thermal => simp
  case junctions => exact readings_checkJunction ..
  case limits => exact (readings_checkLimit ..).trans (readings_checkLimit ..)
end

/-- A device that reads what a sample gave: each reading by itself, the power as the mean, and a peak that takes it in. -/
theorem sensors_of_readings {d e : Dev} {c : Ctx} {r : SensorReadings} (h : e.readings = (d.takeReadings c r).readings) :
    e.sensors.quarter = d.sensorReadings 0 32 d.sensors.quarter r.quarter ∧
    e.sensors.stack = d.sensorReadings 32 32 d.sensors.stack r.stack ∧
    (let l := d.sensors.recent c.now (railPower ((List.range 12).map (nth r.railMv)) ((List.range 12).map (nth r.railMa)))
     e.sensors.samples = l ∧ e.sensors.power = sumOf (l.map (·.2)) / (1000000 * l.length)) ∧
    e.sensors.peakPower = max d.sensors.peakPower e.sensors.power := by
  simp only [Dev.readings, Sensors.readings, Prod.mk.injEq] at h
  obtain ⟨hquarter, hstack, hsamples, hpower, hpeak⟩ := h
  refine ⟨hquarter, hstack, ⟨hsamples, hpower⟩, ?_⟩
  rw [hpeak, hpower]
  rfl

/-! ### The thermal trip and the flush of the log -/

theorem thermtrip_doThermtrip (sensor : Nat) (c : Ctx) (d : Dev) : (doThermtrip sensor c d).pins.thermtrip = true := rfl

/-- A package that THERMTRIP_N stops does not run (R682). -/
theorem running_thermtrip {s : State} (h : s.dev.pins.thermtrip = true) : s.running = false := by
  simp [State.running, h]

@[simp] theorem sensors_regulator_event (d : Dev) (c : Ctx) (code severity realm w0 w1 w2 : Nat) :
    (d.event c code severity realm w0 w1 w2).sensors.regulator = d.sensors.regulator :=
  congrArg (fun a => a.2.regulator) (apart_event ..)

/-- A configured regulator's status is kept (R703). -/
theorem regulator_doPmbusPoll {d : Dev} {slot : Nat} (hused : d.regulatorAddress slot ≠ 0) (hslot : slot < 16) (w : Nat) (c : Ctx) :
    (doPmbusPoll slot w c d).sensors.regulator = d.sensors.regulator.set slot (w % 65536) := by
  unfold doPmbusPoll
  dsimp only
  rw [if_neg (by simp [hused, hslot])]
  split
  · rw [sensors_regulator_event]
    rfl
  · rfl

/-! ### Frequencies (R150–R153) -/

/-- The frequencies of the clock groups, and when each changed. -/
def Dev.clocks (d : Dev) : List Nat × List Nat := (d.power.mhz, d.power.changedAt)

section
variable (d : Dev)

theorem clocks_event (c : Ctx) (code severity realm w0 w1 w2 : Nat) : (d.event c code severity realm w0 w1 w2).clocks = d.clocks := by
  simp only [Dev.clocks, power_event]

theorem clocks_abortSlice (which : Nat → Bool) : (d.abortSlice which).clocks = d.clocks := by
  unfold Dev.abortSlice Dev.widen
  split
  · split
    · split <;> rfl
    · rfl
  · rfl

theorem clocks_setFrequency (c : Ctx) (g mhz : Nat) : (d.setFrequency c g mhz).clocks = (d.power.mhz.set g mhz, d.power.changedAt.set g c.now) :=
  clocks_abortSlice ..

theorem clocks_noteHeld (c : Ctx) (reason g : Nat) : (d.noteHeld c reason g).clocks = d.clocks := by
  unfold Dev.noteHeld
  split
  · rfl
  · exact clocks_event ..

theorem clocks_lowerGroup (c : Ctx) (reason g mhz : Nat) :
    (d.lowerGroup c reason g mhz).clocks = (d.power.mhz.set g mhz, d.power.changedAt.set g c.now) :=
  (clocks_noteHeld ..).trans (clocks_setFrequency ..)

theorem clocks_relaxVoltage (c : Ctx) (q : Nat) (acked : Bool) : (d.relaxVoltage c q acked).clocks = d.clocks := by
  unfold Dev.relaxVoltage Dev.setVoltage
  dsimp only
  split
  · split
    · rfl
    · exact clocks_event ..
  · rfl
end

section
variable {d : Dev} {c : Ctx} {group mhz : Nat} (hgroup : group < 36) (hrange : inRange 600 1150 mhz = true) (hstep : mhz % 25 = 0)
  (hcap : mhz ≤ d.cfg 0x2010 (group + 1)) (hchange : d.mayChange c group = true)
include hgroup hrange hstep hcap hchange

/-- A legal change to another frequency. -/
theorem doFrequencyChange_legal (hother : mhz ≠ nth d.power.mhz group) (acked : Bool) :
    doFrequencyChange group mhz acked c d =
      if mhz < nth d.power.mhz group then
        (if d.power.heldTemp.contains (groupQuarter group) then d.lowerGroup c 0 group mhz
          else if d.power.heldPower then d.lowerGroup c 1 group mhz
          else d.setFrequency c group mhz).relaxVoltage c (groupQuarter group) acked
      else if d.mayRaise group mhz then d.raiseGroup c group mhz acked
      else d := by
  unfold doFrequencyChange
  dsimp only
  rw [if_neg (by simp [hgroup, hrange, hstep, hcap, hchange, hother])]

/-- A legal step down is made. -/
theorem clocks_stepDown (hdown : mhz < nth d.power.mhz group) (acked : Bool) :
    (doFrequencyChange group mhz acked c d).clocks = (d.power.mhz.set group mhz, d.power.changedAt.set group c.now) := by
  rw [doFrequencyChange_legal hgroup hrange hstep hcap hchange (Nat.ne_of_lt hdown), if_pos hdown, clocks_relaxVoltage]
  split
  · exact clocks_lowerGroup ..
  split
  · exact clocks_lowerGroup ..
  · exact clocks_setFrequency ..

/-- A legal step up is made where the voltage is there for it. -/
theorem clocks_stepUp (hup : nth d.power.mhz group < mhz) (hraise : d.mayRaise group mhz = true)
    (hvoltage : if d.railControlled (groupQuarter group) then curveMv (groupQuarter group) mhz ≤ nth d.power.ackedMv (groupQuarter group) ∧
        nth d.power.ackedAt (groupQuarter group) + 50 * usTicks ≤ c.now
      else mhz ≤ 1050) (acked : Bool) :
    (doFrequencyChange group mhz acked c d).clocks = (d.power.mhz.set group mhz, d.power.changedAt.set group c.now) := by
  rw [doFrequencyChange_legal hgroup hrange hstep hcap hchange (Nat.ne_of_gt hup), if_neg (Nat.lt_asymm hup), if_pos hraise]
  unfold Dev.raiseGroup
  dsimp only
  cases hrail : d.railControlled (groupQuarter group) with
  | false =>
    have hlimit : mhz ≤ 1050 := by simpa [hrail] using hvoltage
    simp only [Bool.not_false, if_true, if_pos hlimit]
    exact clocks_setFrequency ..
  | true =>
    obtain ⟨hcurve, hsettled⟩ : curveMv (groupQuarter group) mhz ≤ nth d.power.ackedMv (groupQuarter group) ∧
        nth d.power.ackedAt (groupQuarter group) + 50 * usTicks ≤ c.now := by simpa [hrail] using hvoltage
    simp only [Bool.not_true, Bool.false_eq_true, if_false, if_neg (Nat.not_lt.2 hcurve), if_pos hsettled]
    exact clocks_setFrequency ..
end

theorem nth_set_self {l : List Nat} {i : Nat} (hi : i < l.length) (v : Nat) : nth (l.set i v) i = v := by
  simp [nth, hi]

theorem nth_set_other {l : List Nat} {i j : Nat} (hj : j ≠ i) (v : Nat) : nth (l.set i v) j = nth l j := by
  simp [nth, List.getElem?_set_ne hj.symm]

/-- Settles O47. That the board's power is the mean over the samples of the last 1 ms is log entry 105; the acknowledgement and the 50 µs of settling
are R704. -/
theorem supervisionActs : Obligations.SupervisionActs := by
  unfold Obligations.SupervisionActs
  refine ⟨fun s hrun => ⟨fun r => ?sample, fun sensor => ?trip, fun slot w hused hslot => ?poll, ?flush⟩, ?frequency⟩
  case sample =>
    have hnext : exec (.sensorSample r) s = .next (s.withDev (doSensorSample r s.ctx s.dev)) := devStep_of_eq hrun rfl
    have hread := readings_doSensorSample s.dev r s.ctx
    generalize doSensorSample r s.ctx s.dev = e at hnext hread
    exact ⟨_, hnext, sensors_of_readings hread⟩
  case trip =>
    exact ⟨_, devStep_of_eq hrun rfl, thermtrip_doThermtrip .., running_thermtrip (thermtrip_doThermtrip ..)⟩
  case poll => exact ⟨_, devStep_of_eq hrun rfl, regulator_doPmbusPoll hused hslot w s.ctx⟩
  case flush =>
    refine ⟨_, devStep_run (fun _ d => d.flushEvents) s hrun, fun e he => ?_, ?_⟩
    · obtain ⟨x, -, rfl⟩ := List.mem_map.1 he
      rfl
    · exact (List.map_map ..).trans rfl
  case frequency =>
    intro s group mhz acked now hrun hgroup hlength hrange hstep hcap hchange hvoltage
    have hclocks : (doFrequencyChange group mhz acked s.ctx s.dev).clocks =
        (s.dev.power.mhz.set group mhz, s.dev.power.changedAt.set group s.time.count) := by
      rcases hvoltage with hdown | ⟨hup, hraise, hsettled⟩
      · exact clocks_stepDown hgroup hrange hstep hcap hchange hdown acked
      · exact clocks_stepUp hgroup hrange hstep hcap hchange hup hraise hsettled acked
    simp only [Dev.clocks, Prod.mk.injEq] at hclocks
    obtain ⟨hmhz, hchanged⟩ := hclocks
    refine ⟨_, devStep_of_eq hrun rfl, ?_, fun g hg => ?_, hchanged⟩
    · exact (congrArg (nth · group) hmhz).trans (nth_set_self (hlength ▸ hgroup) mhz)
    · exact (congrArg (nth · g) hmhz).trans (nth_set_other hg mhz)

end Sys2Proof.Machine
end
